-- ==== Sys2Proof/Word.lean ====
section
/-!
DEFINITION. Sys2Proof/Word.lean: bytes, register fields and sparse tables, with nothing of any one block in them.
-/
namespace Sys2Proof

/-- A byte. -/
abbrev Byte := BitVec 8

/-- Access types of register fields (R7, Table 00.5). `fx` is a read-only field whose value is latched at power-on
from a strap or a fuse, so that SOFT_RESET leaves it (R9, R480). -/
inductive Access where
  | ro | rw | rwl | w1c | w1s | wo | fx
deriving DecidableEq, Repr

/-- One register field (R4): the window offset of its word, its lowest bit and width, its value after power-on in a
spoke and in a Root (R9), and its access type. -/
structure Fld where
  addr : Nat
  lo : Nat
  w : Nat
  rst : Nat
  rstRoot : Nat
  acc : Access
deriving DecidableEq, Repr

/-- The field's place as one number: the window's bit address. -/
def Fld.key (f : Fld) : Nat := f.addr * 8 + f.lo

/-- A table by number: pairs with rising keys. -/
abbrev Tbl (α : Type) := List (Nat × α)

/-- The entry at key k. -/
def Tbl.find? {α : Type} : Tbl α → Nat → Option α
  | [], _ => none
  | (j, a) :: t, k => if j = k then some a else Tbl.find? t k

/-- The table with the entry at k removed. -/
def Tbl.del {α : Type} : Tbl α → Nat → Tbl α
  | [], _ => []
  | (j, a) :: t, k => if j = k then Tbl.del t k else (j, a) :: Tbl.del t k

/-- The table with the entry at k set to a; keys stay in rising order. -/
def Tbl.put {α : Type} : Tbl α → Nat → α → Tbl α
  | [], k, a => [(k, a)]
  | (j, b) :: t, k, a =>
    if k < j then (k, a) :: (j, b) :: t
    else if j = k then (k, a) :: t
    else (j, b) :: Tbl.put t k a

/-- The keys rise strictly. -/
def Tbl.sorted {α : Type} : Tbl α → Bool
  | [] => true
  | (j, _) :: t => t.all (fun p => j < p.1) && Tbl.sorted t

/-- A number table whose unlisted entries read as d, holding no entry equal to d. -/
def Tbl.getD {α : Type} (t : Tbl α) (k : Nat) (d : α) : α := (t.find? k).getD d

/-- Write v at k in a table whose unlisted entries read as d. -/
def Tbl.setD {α : Type} [DecidableEq α] (t : Tbl α) (k : Nat) (d v : α) : Tbl α :=
  if v = d then t.del k else t.put k v

/-- The vector with element i replaced. -/
def upd {α : Type} {n : Nat} (v : Vector α n) (i : Fin n) (a : α) : Vector α n := v.set i.val a i.isLt

/-- Bits lo .. lo + w - 1 of x. -/
def bits (x lo w : Nat) : Nat := x / 2 ^ lo % 2 ^ w

/-- Bit i of x. -/
def bit (x i : Nat) : Bool := x.testBit i

/-- 1 for true, 0 for false. -/
def b2n (b : Bool) : Nat := if b then 1 else 0

/-- x with bit i set. -/
def setBit (x i : Nat) : Nat := x ||| (1 <<< i)

/-- x with bit i clear. -/
def clrBit (x i : Nat) : Nat := if x.testBit i then x - 2 ^ i else x

/-- A w-bit two's complement number. -/
def toInt (w x : Nat) : Int := if x < 2 ^ (w - 1) then (x : Int) else (x : Int) - (2 ^ w : Nat)

/-- The w-bit two's complement code of an integer. -/
def ofInt (w : Nat) (z : Int) : Nat := (z % ((2 ^ w : Nat) : Int)).toNat

/-- How many of the low n bits of x are 1. -/
def popCount (n x : Nat) : Nat := (List.range n).countP fun i => x.testBit i

/-- Little-endian number of a list of bytes. -/
def leNat : List Byte → Nat
  | [] => 0
  | b :: t => b.toNat + 256 * leNat t

/-- The n bytes of x, least significant first. -/
def leBytes : Nat → Nat → List Byte
  | 0, _ => []
  | n + 1, x => BitVec.ofNat 8 x :: leBytes n (x / 256)

/-- Byte i of a byte list, 0 beyond its end. -/
def byteAt (l : List Byte) (i : Nat) : Nat := (l.getD i 0).toNat

/-- n bytes from place i, zero beyond the end. -/
def byteSlice (l : List Byte) (i n : Nat) : List Byte := (List.range n).map fun k => l.getD (i + k) 0

/-- ⌈a / b⌉ for b > 0. -/
def ceilDiv (a b : Nat) : Nat := (a + b - 1) / b

/-- x + n, held at the largest w-bit value. -/
def satAdd (w x n : Nat) : Nat := min (x + n) (2 ^ w - 1)

end Sys2Proof
end

