-- ==== Sys2Proof/Syntax.lean ====
section
/-!
DEFINITION. Sys2Proof/Syntax.lean: the commands of spec/opcode_table.json, one constructor per row, and the shapes of what
comes from outside with them. The table gives no row bits or operand fields: a constructor's operands are what its event
carries from outside the hub.
-/
namespace Sys2Proof

/-- A Welt port W0–W3, its contract port CTP0–CTP3 and its channel (R11). -/
abbrev Port := Fin 4
/-- A logical lane of a port. -/
abbrev Lane := Fin 4
/-- A flow engine FE00–FE15. -/
abbrev Engine := Fin 16
/-- A slot wheel (Table 06.1). -/
abbrev WheelNo := Fin 8
/-- A flow context index. -/
abbrev CtxNo := Fin 2048
/-- A display head. -/
abbrev Head := Fin 2
/-- A bus of the bridges (Table 11.1). -/
abbrev BusNo := Fin 16
/-- An Eyelet channel E0–E5. -/
abbrev Chan := Fin 6

/-- A header slot (Table 05.1) without its HCHK: FLOW, CLASS, LEN, the five FLAGS, MX, SEQ, TTAG and META (20 bytes). -/
structure Hdr where
  flow : Nat
  cls : Nat
  len : Nat
  first : Bool
  last : Bool
  poison : Bool
  sealed : Bool
  held : Bool
  mx : Nat
  seq : Nat
  ttag : Nat
  info : List Byte
deriving DecidableEq, Repr

/-- A control packet (Tables 05.13, 05.14): operation MX, the META fields, OPDATA bytes 14–19, the data slots' bytes, whether it is
poisoned: by its POISON flag (R137), or as its link decided it (R109); and the header slot it arrived with, which a hub that passes it
on keeps but for HOPS (R162). -/
structure CtlPkt where
  op : Nat
  dst : Nat
  src : Nat
  tag : Nat
  offset : Nat
  bytes : Nat
  status : Nat
  hops : Nat
  viaId : Nat
  viaPort : Nat
  via : Bool
  opdata : List Byte
  data : List Byte
  poison : Bool := false
  hdr : Option Hdr := none
deriving DecidableEq, Repr

/-- A packet: its header slot and the bytes of its data slots. -/
structure Pkt where
  hdr : Hdr
  data : List Byte
deriving DecidableEq, Repr

/-- Chain time: ticks and sub-tick phase. -/
structure Stamp where
  ticks : Nat
  phase : Nat
deriving DecidableEq, Repr

/-- Who stands behind a write or a read: the local host, a remote hub by control operation on a port, the two Awl
masters (R230, R430, R508). -/
inductive Src where
  | host
  | hub (id : Nat) (port : Nat)
  | awlSecure
  | awlNormal
deriving DecidableEq, Repr

/-- A STEP_NOTICE (Table 05.15): identifier, apply tick, signed step in sub-ticks, FREE_AFTER. -/
structure StepNote where
  id : Nat
  apply : Nat
  d : Int
  freeAfter : Bool
deriving DecidableEq, Repr

/-- A CAP message (Table 04.6), field by field. -/
structure Cap where
  majorMax : Nat
  majorMin : Nat
  minor : Nat
  upFacing : Bool
  rooted : Bool
  encWanted : Bool
  encMandatory : Bool
  cls : Nat
  classKnown : Bool
  rxMask : Nat
  hubId : Nat
  depth : Nat
  features : Nat
  ident : List Byte
  initCred : List Nat
  part : Nat
deriving DecidableEq, Repr

/-- A seal slot (Table 04.4) as received, before its CRC. -/
structure Seal where
  fseq : Nat
  ackSeq : Nat
  nak : Bool
  rplId : Nat
  lock : Bool
  fillNext : Bool
  pwarn : Bool
  enc : Bool
  widthNext : Bool
  resumeBack : Nat
  rxMask : Nat
  lstate : Nat
  resumeSlot : Nat
  lstateAt : Nat
  cred : List Nat
  clearLpn : Nat
  poison : List Nat
  empty : Bool
  txcLo : Nat
deriving DecidableEq, Repr

/-- An alignment block (Table 03.3), the eight payload bytes after descrambling. -/
abbrev AlignBlock := List Byte

/-- A 1.x frame (Table 04.10): the leading 4-byte word, the body, the CRC-32 received, and whether it ended in K30.7. -/
structure Frame1x where
  word : Nat
  body : List Byte
  crc : Nat
  badEnd : Bool
deriving DecidableEq, Repr

/-- A native 66-bit block (R58): its sync header, first bit lowest, and its payload. -/
structure Block where
  header : Nat
  payload : Nat
deriving DecidableEq, Repr

/-- Why an admitted link goes down (Table 04.8). -/
abbrev DownReason := Nat

/-- A PCI Express TLP as the adapter sees it: what class of ordering it has, what its routing names, its header (12 or 16
bytes), ECRC, EP bit and payload. -/
structure Tlp where
  posted : Bool
  completion : Bool
  /-- Type 1 configuration request: bus and device -/
  cfg : Option (Nat × Nat)
  /-- address of a memory or I/O request -/
  addr : Option Nat
  /-- bus of the Requester ID of a completion, or of a message routed by ID -/
  bus : Option Nat
  /-- PME_Turn_Off, sent to every bound end port -/
  pmeTurnOff : Bool
  /-- an INTx message; a TLP with a prefix (Table 09.1) -/
  intx : Bool
  hasPrefix : Bool
  header : List Byte
  ecrc : Option (List Byte)
  ep : Bool
  payload : List Byte
  /-- the adapter's receive buffer finds it bad before its header leaves (R212, R262) -/
  bufBad : Bool := false
deriving DecidableEq, Repr

/-- An option of Table 09.1 that a function of the Root advertises, MSI-X (R253) and MSI (R257) among them. -/
inductive PcieOption where
  | payload512
  | aer
  | aspmL1
  | atomicRouting
  | acs
  | surpriseHotPlug
  | flr
  | msix
  | msi
deriving DecidableEq, Repr

/-- A contract message without objects as it arrives on port (R344): its header word of Table 12.3. -/
structure CtpHead where
  port : Port
  header : Nat
deriving DecidableEq, Repr

/-- What host software has written into a port's configuration space: bus range and memory windows (R256). -/
structure PortCfg where
  secBus : Nat
  subBus : Nat
  memBase : Nat
  memLimit : Nat
  prefBase : Nat
  prefLimit : Nat
  /-- its MSI capability, when enabled: message address and data (R257) -/
  msi : Option (Nat × Nat) := none
deriving DecidableEq, Repr

/-- A bus of the Root's hierarchy (R252, R254): the host's, the upstream port's internal bus, the secondary bus of VDP v, the internal
bus of its group upstream port. -/
inductive HostBus where
  | host
  | internal
  | secondary (v : Nat)
  | group (v : Nat)
deriving DecidableEq, Repr

/-- What the host sends down the Root's link: a TLP to be routed, a configuration write decoded to the port's ranges, a
write of an MSI-X table entry (address, data, mask bit), the MSI-X enable and function mask, a write of the whole of BAR0 or BAR2 of the
management function, a read of one, a write of its Memory Space Enable. -/
inductive HostTlp where
  | route (t : Tlp)
  | portConfig (v : Nat) (g : Option Nat) (c : PortCfg)
  | msixEntry (v : Nat) (addr data : Nat) (mask : Bool)
  | msixCtrl (enable fmask : Bool)
  | bar0 (base : Nat)
  | bar2 (base : Nat)
  | barRead (k : Nat)
  | memEnable (on : Bool)
  | identify (b : HostBus) (device : Nat)
deriving DecidableEq, Repr


/-- What the always-on reset's release samples (R1, R12, R27, R488, R492): the ROLE strap reads Root, REFSEL, whether a REFIN
clock is present, whether both regulators acknowledge. -/
structure Straps where
  root : Bool
  refsel : Nat
  refin : Bool
  avsAck : Bool
deriving DecidableEq, Repr

/-- A wake (R403, R406, R407): its source of Table 14.10, the port of a CFG wake; AON cycles counted since entry, the measured
lineage ticks per AON cycle in units of 1/65536, the ticks of the exit steps; sources that fire during the exit, as bits. -/
structure Wake where
  src : Nat
  cfg : Nat
  cycles : Nat
  ratio : Nat
  ticks : Nat
  also : Nat
deriving DecidableEq, Repr

/-- How a mailbox command meets the Awl: the host rings the doorbell with it and a tag, and the Awl takes it up at once when
nothing is ahead of it; or the Awl works on the command at the head of its queue, which is this one. -/
inductive MbxWay where
  | ring (tag : Nat)
  | run
deriving DecidableEq, Repr

/-- The command set. -/
inductive Instr where
  /-- VSTBY_POWER_UP (R493). -/
  | vstbyPowerUp (x : Straps) (pg : Bool)
  /-- RAIL_PG_TIMEOUT (R494). -/
  | railPgTimeout (x : Straps) (pg : Bool)
  /-- VSTBY_LOSS (R495). -/
  | vstbyLoss
  /-- RAIL_PG_LOSS (R495). -/
  | railPgLoss
  /-- ROOT_LINK_UP_REPORT (R18). -/
  | rootLinkUpReport (ident : Nat) (old : Bool)
  /-- ASSIGN_ID_RX (R19). -/
  | assignIdRx (p : CtlPkt)
  /-- HUB_JOINED (R18). -/
  | hubJoined (id : Nat)
  /-- ROOT_LINK_DOWN_REPORT (R20). -/
  | rootLinkDownReport
  /-- ROOT_HOLD_EXPIRY (R20). -/
  | rootHoldExpiry (id : Nat)
  /-- SPOKE_HOLD_EXPIRY (R20). -/
  | spokeHoldExpiry
  /-- CHAIN_ROUTE_WRITE (R508). -/
  | chainRouteWrite (src : Src) (j : Nat) (v : Nat)
  /-- CONTROL_PACKET_RX (R162). -/
  | controlPacketRx (n : Port) (q : CtlPkt) (ring : Bool)
  /-- REFIN_PRESENT (R28). -/
  | refinPresent
  /-- REFIN_LOSS (R29). -/
  | refinLoss
  /-- SPOKE_REFIN_LOSS (R505). -/
  | spokeRefinLoss
  /-- LINEAGE_SLEW_DONE (R29). -/
  | lineageSlewDone
  /-- SSC_EN_WRITE (R30). -/
  | sscEnWrite (v : Bool)
  /-- SSC_APPLY (R30). -/
  | sscApply
  /-- HOLDOVER_ENTRY (R33). -/
  | holdoverEntry (above : Bool)
  /-- FORCE_HOLD_WRITE (R33). -/
  | forceHoldWrite (v : Bool)
  /-- RATIO_VALID_SET (R34). -/
  | ratioValidSet (ppm : Int)
  /-- LINEAGE_PLL_LOCK (R507). -/
  | lineagePllLock (spread : Bool)
  /-- LINEAGE_LOCKED (R38). -/
  | lineageLocked (n : Port)
  /-- DELAY_REQ_TIMER (R43). -/
  | delayReqTimer
  /-- DELAY_REQ_RX (R43). -/
  | delayReqRx (n : Port) (exch : Nat)
  /-- DELAY_RESP_RX (R43). -/
  | delayRespRx (exch : Nat) (t4 : Stamp) (t1 : Stamp) (parentFree : Bool)
  /-- STEP_NOTICE_RX (R164). -/
  | stepNoticeRx (n : StepNote)
  /-- CHAIN_TIME_STEP_APPLY (R46). -/
  | chainTimeStepApply
  /-- FREEZE_END (R46). -/
  | freezeEnd
  /-- CTM_CAPTURE (R53). -/
  | ctmCapture (tag : Nat)
  /-- CTM_HOP_REPORT (R53). -/
  | ctmHopReport (tag : Nat) (port : Nat)
  /-- TRAINING_START (R64). -/
  | trainingStart (n : Port)
  /-- ALIGN_BLOCK_RX (R65). -/
  | alignBlockRx (n : Port) (k : Lane) (b : AlignBlock) (skew : Nat)
  /-- TX_OVERRIDE_APPLY (R67). -/
  | txOverrideApply (n : Port) (k : Lane)
  /-- SEND_RX_READY (R69). -/
  | sendRxReady (n : Port) (ctle : List Nat)
  /-- PARTIAL_READY_TIMER (R69). -/
  | partialReadyTimer (n : Port) (mask : Nat) (ctle : List Nat)
  /-- SEND_GO (R69). -/
  | sendGo (n : Port)
  /-- TRAIN_TIMEOUT (R70). -/
  | trainTimeout (n : Port)
  /-- BLOCK_LOCK_ACQUIRED (R71). -/
  | blockLockAcquired (n : Port) (k : Lane)
  /-- BLOCK_LOCK_LOST (R71). -/
  | blockLockLost (n : Port) (k : Lane) (bad : Nat)
  /-- COMPAT_ENTRY (R73). -/
  | compatEntry (n : Port)
  /-- COMPAT_LANE_LOCK (R74). -/
  | compatLaneLock (n : Port) (k : Lane)
  /-- COMPAT_LOCK_LOSS (R74). -/
  | compatLockLoss (n : Port) (k : Lane)
  /-- SKIP_SET_SEND (R75). -/
  | skipSetSend (n : Port)
  /-- HUSH_ENTRY (R77). -/
  | hushEntry (n : Port)
  /-- HUSH_EXIT (R77). -/
  | hushExit (n : Port)
  /-- WAKE_BLOCKS_RX (R77). -/
  | wakeBlocksRx (n : Port) (good : Nat)
  /-- SLEEP_ENTRY (R78). -/
  | sleepEntry (n : Port) (dfe : List Nat)
  /-- TACK_SEND (R79). -/
  | tackSend (n : Port)
  /-- TACK_DETECTED (R79). -/
  | tackDetected (n : Port)
  /-- SLEEP_EXIT_LANES_READY (R81). -/
  | sleepExitLanesReady (n : Port) (mask : Nat)
  /-- SLEEP_EXIT_FALLBACK (R81). -/
  | sleepExitFallback (n : Port)
  /-- TEST_WRITE (R82). -/
  | testWrite (n : Port) (v : Bool)
  /-- RETRAIN (R117). -/
  | retrain (n : Port)
  /-- PRBS_CHECKER_ENABLE (R84). -/
  | prbsCheckerEnable (n : Port) (k : Lane) (sync : Bool)
  /-- EYE_SCAN_GO (R85). -/
  | eyeScanGo (n : Port)
  /-- EYE_SCAN_DONE (R85). -/
  | eyeScanDone (n : Port) (mismatch : Nat)
  /-- FLIGHT_SEND (R98). -/
  | flightSend (n : Port)
  /-- HEADER_SLOT_RX (R90). -/
  | headerSlotRx (n : Port) (b : List Byte) (lead : Bool)
  /-- LINK_MESSAGE_RX (R91). -/
  | linkMessageRx (n : Port) (b : List Byte)
  /-- SEAL_RX (R93). -/
  | sealRx (n : Port) (slots : List (List Byte)) (b : List Byte) (skews : List Nat)
  /-- NAK_RX (R97). -/
  | nakRx (n : Port) (ack : Nat) (rpl : Nat) (mask : Nat)
  /-- NAK_TIMEOUT (R101). -/
  | nakTimeout (n : Port)
  /-- PACKET_POISONED (R107). -/
  | packetPoisoned (a : Nat) (lpn : Nat)
  /-- CAP_RX (R113). -/
  | capRx (n : Port) (c : Cap) (far : Port)
  /-- CAP_DONE_RX (R115). -/
  | capDoneRx (n : Port) (v : Nat)
  /-- LINK_DOWN (R117). -/
  | linkDown (n : Port) (reason : DownReason)
  /-- SESSION_EXPIRY (R126). -/
  | sessionExpiry (n : Port)
  /-- LANE_READMIT (R120). -/
  | laneReadmit (n : Port) (k : Lane)
  /-- HUSH_REQUEST (R121). -/
  | hushRequest (n : Port)
  /-- HUSH_REQ_RX (R121). -/
  | hushReqRx (n : Port) (at_ : Nat)
  /-- HUSH_ACK_RX (R121). -/
  | hushAckRx (n : Port) (at_ : Nat)
  /-- HUSH_EXIT_TIMER (R122). -/
  | hushExitTimer (n : Port)
  /-- HUSH_EXIT_PACKET (R122). -/
  | hushExitPacket (n : Port)
  /-- SLEEP_REQUEST_WRITE (R123). -/
  | sleepRequestWrite (n : Port)
  /-- SLEEP_REQ_RX (R123). -/
  | sleepReqRx (n : Port) (at_ : Nat)
  /-- KX_SHARE_RX (R128). -/
  | kxShareRx (n : Port) (share : List Byte)
  /-- KX_AUTH_RX (R129). -/
  | kxAuthRx (n : Port) (pub : List Byte) (sig : List Byte) (policyOk : Bool)
  /-- KEYS_INSTALLED (R130). -/
  | keysInstalled (n : Port)
  /-- KX_DONE_RX (R131). -/
  | kxDoneRx (n : Port)
  /-- COMPAT_FRAME_RX (R133). -/
  | compatFrameRx (n : Port) (f : Frame1x)
  /-- COMPAT_ACK_TIMER (R134). -/
  | compatAckTimer (n : Port)
  /-- CONTEXT_WRITE (R143). -/
  | contextWrite (i : CtxNo) (o : Nat) (v : Nat)
  /-- ACTIVATE (R144). -/
  | activate (i : CtxNo)
  /-- DRAIN (R147). -/
  | drain (i : CtxNo)
  /-- DRAIN_COMPLETE (R147). -/
  | drainComplete (i : CtxNo)
  /-- DRAIN_TIMEOUT (R147). -/
  | drainTimeout (i : CtxNo)
  /-- TEAR_DOWN (R147). -/
  | tearDown (i : CtxNo)
  /-- MOVE (R152). -/
  | move (i : CtxNo) (e : Engine)
  /-- FLOW_PACKET_ARRIVAL (R141). -/
  | flowPacketArrival (a : Nat) (i : CtxNo) (p : Pkt) (lpn : Nat)
  /-- PACKET_ADMISSION (R151). -/
  | packetAdmission (i : CtxNo)
  /-- EGRESS_PACKET_START (R154). -/
  | egressPacketStart (n : Port)
  /-- MULTICAST_BRANCH_DROP (R157). -/
  | multicastBranchDrop (i : CtxNo) (a : Nat)
  /-- HELD_APPLY_TIME (R138). -/
  | heldApplyTime
  /-- RLB_PACKET_RX (R159). -/
  | rlbPacketRx (i : CtxNo)
  /-- RLB_ACK_TIMER (R159). -/
  | rlbAckTimer (i : CtxNo)
  /-- RLB_FLOW_CONTROL_RX (R160). -/
  | rlbFlowControlRx (i : CtxNo) (ack : Nat) (nak : Bool)
  /-- RLB_RETRANSMIT_TIMEOUT (R160). -/
  | rlbRetransmitTimeout (i : CtxNo)
  /-- PARTITION_APPLY (R166). -/
  | partitionApply
  /-- FENCE (R214). -/
  | fence (e : Engine) (lost : List (Nat × Nat)) (n : Nat)
  /-- ENGINE_FAILURE_DETECT (R213). -/
  | engineFailureDetect (e : Engine) (ram : Bool) (lost : List (Nat × Nat)) (n : Nat)
  /-- ENGINE_WATCHDOG (R213). -/
  | engineWatchdog (e : Engine) (lost : List (Nat × Nat)) (n : Nat)
  /-- REHOME_COMPLETE (R215). -/
  | rehomeComplete (e : Engine)
  /-- EPOCH_BOUNDARY (R177). -/
  | epochBoundary
  /-- WHEEL_PACKET_BOUNDARY (R175). -/
  | wheelPacketBoundary (w : WheelNo) (adv : Nat)
  /-- COMMIT_NEXT (R182). -/
  | commitNext (wheels : Nat) (tag : Nat)
  /-- COMMIT_AT (R182). -/
  | commitAt (wheels : Nat) (tag : Nat)
  /-- COMMIT_ABORT (R185). -/
  | commitAbort (tag : Nat)
  /-- COMMIT_STAGING (R184). -/
  | commitStaging
  /-- COMMIT_APPLY (R183). -/
  | commitApply
  /-- QUOTA_DRAINED (R190). -/
  | quotaDrained (i : CtxNo)
  /-- MAP_COPY (R185). -/
  | mapCopy (wheels : Nat)
  /-- SHADOW_MAP_WRITE (R185). -/
  | shadowMapWrite (w : WheelNo) (o : Nat) (v : Nat)
  /-- REEXPANSION_DONE (R192). -/
  | reexpansionDone (w : WheelNo)
  /-- HEADER_PARITY_FAIL (R197). -/
  | headerParityFail (a : Nat) (cls : Nat) (lpn : Nat) (n : Nat)
  /-- DATA_PARITY_FAIL (R195). -/
  | dataParityFail (a : Nat) (i : Nat) (seq : Nat) (egress : Bool)
  /-- CELL_BUFFER_UNCORR (R198). -/
  | cellBufferUncorr (i : Nat) (seq : Nat)
  /-- CONTEXT_UNCORR (R199). -/
  | contextUncorr (i : CtxNo)
  /-- TABLE_UNCORR (R199). -/
  | tableUncorr (table : Nat) (addr : Nat)
  /-- REPLAY_UNCORR (R200). -/
  | replayUncorr (n : Port)
  /-- AWL_UNCORR (R201). -/
  | awlUncorr
  /-- SCRUB_PASS (R196). -/
  | scrubPass (cb : Nat) (tbl : Nat)
  /-- ADAPTER_PACKET_DECIDED (R110). -/
  | adapterPacketDecided (a : Nat)
  /-- REG_WRITE (R226). -/
  | regWrite (src : Src) (a : Nat) (be : Nat) (v : Nat)
  /-- PAGE_LOCK (R231). -/
  | pageLock (src : Src) (p : Nat) (v : Nat)
  /-- SOFT_RESET (R9). -/
  | softReset (src : Src) (p : Nat)
  /-- EVT_EN_WRITE (R240). -/
  | evtEnWrite (src : Src) (p : Nat) (v : Nat)
  /-- EVT_CLR (R240). -/
  | evtClr (src : Src) (p : Nat) (v : Nat)
  /-- EVT_SET (R230). -/
  | evtSet (src : Src) (p : Nat) (v : Nat)
  /-- EVC_SOFT (R240). -/
  | evcSoft (src : Src) (v : Nat)
  /-- CONTROL_READ (R504). -/
  | controlRead (n : Port) (q : CtlPkt)
  /-- CONTROL_WRITE (R504). -/
  | controlWrite (n : Port) (q : CtlPkt)
  /-- CONTROL_RESPONSE_RX (R238). -/
  | controlResponseRx (q : CtlPkt)
  /-- CONTROL_RETRY (R238). -/
  | controlRetry (tag : Nat)
  /-- REPLAY_CACHE_EXPIRY (R239). -/
  | replayCacheExpiry (src : Nat) (tag : Nat)
  /-- POWER_DIE_WRITE_DONE (R229). -/
  | powerDieWriteDone
  /-- POP_WINDOW_READ (R235). -/
  | popWindowRead (p : Nat)
  /-- VECTOR_DELIVERY (R241). -/
  | vectorDelivery (v : Fin 32)
  /-- EVENT_PACKET_RX (R244). -/
  | eventPacketRx (q : CtlPkt) (ring : Bool)
  /-- ECHO (R246). -/
  | echo (way : MbxWay)
  /-- CHIP_INFO (R246). -/
  | chipInfo (way : MbxWay)
  /-- CHAIN_MAP (R506). -/
  | chainMap (way : MbxWay)
  /-- REMOTE_READ (R246). -/
  | remoteRead (way : MbxWay)
  /-- REMOTE_WRITE (R246). -/
  | remoteWrite (way : MbxWay)
  /-- REMOTE_READ_DMA (R246). -/
  | remoteReadDma (way : MbxWay)
  /-- REMOTE_MBX (R246). -/
  | remoteMbx (way : MbxWay)
  /-- PATH_OPEN (R250). -/
  | pathOpen (way : MbxWay) (pick : List Nat) (pid : Nat) (lead : Nat)
  /-- PATH_CLOSE (R250). -/
  | pathClose (way : MbxWay)
  /-- MAILBOX_OP_RX (R247). -/
  | mailboxOpRx (n : Port) (q : CtlPkt)
  /-- MBX_DONE (R249). -/
  | mbxDone
  /-- MBX_TIMEOUT (R248). -/
  | mbxTimeout
  /-- PCIE_UPSTREAM_RESET (R260). -/
  | pcieUpstreamReset (kind : Nat) (far : List (Nat × Nat × Nat))
  /-- FLR (R260). -/
  | flr
  /-- DOWNSTREAM_TLP (R256). -/
  | downstreamTlp (t : HostTlp)
  /-- UPSTREAM_TLP (R259). -/
  | upstreamTlp (t : Tlp) (stale : Bool)
  /-- ROOT_PORT_TLP_RX (R261). -/
  | rootPortTlpRx (n : Fin 2) (t : Tlp)
  /-- END_PORT_LINK_CONTROL (R258). -/
  | endPortLinkControl (e : Nat) (rp : Fin 2) (old : Nat) (reset : Bool) (dis : Bool)
  /-- ROOT_PORT_LINK_CHANGE (R258). -/
  | rootPortLinkChange (v : Nat) (g : Option Nat) (up : Bool) (speed : Nat) (width : Nat) (present : Bool)
  /-- HOT_RESET (R258). -/
  | hotReset (n : Fin 2)
  /-- ETH_MODE_WRITE (R265). -/
  | ethModeWrite (n : Fin 2) (v : Nat)
  /-- ETH_FRAME_RX (R267). -/
  | ethFrameRx (n : Fin 2) (f : List Byte)
  /-- PAUSE_EXPIRY (R271). -/
  | pauseExpiry (n : Fin 2)
  /-- PAUSE_SEND (R271). -/
  | pauseSend (n : Fin 2)
  /-- ETH_FRAME_TX (R270). -/
  | ethFrameTx (n : Fin 2)
  /-- PTP_MAP_GO (R274). -/
  | ptpMapGo
  /-- PTP_MAP_APPLY (R274). -/
  | ptpMapApply
  /-- BANK_INIT_DONE (R278). -/
  | bankInitDone (b : Fin 2)
  /-- RECT_WRITE (R286). -/
  | rectWrite (h : Head) (i : CtxNo) (p : Pkt)
  /-- RECT_COPY (R286). -/
  | rectCopy (h : Head) (i : CtxNo) (p : Pkt)
  /-- RECT_FILL (R285). -/
  | rectFill (h : Head) (i : CtxNo) (p : Pkt)
  /-- PALETTE_LOAD (R285). -/
  | paletteLoad (h : Head) (i : CtxNo) (p : Pkt)
  /-- FLIP (R288). -/
  | flip (h : Head) (i : CtxNo) (p : Pkt)
  /-- DISPLAY_OP_DONE (R287). -/
  | displayOpDone (h : Head)
  /-- FLIP_DUE (R288). -/
  | flipDue (h : Head)
  /-- VERTICAL_BLANK (R292). -/
  | verticalBlank (h : Head)
  /-- GENLOCK_WRITE (R294). -/
  | genlockWrite (h : Head) (v : Bool)
  /-- DP_TRAIN (R297). -/
  | dpTrain (h : Head)
  /-- DP_TRAIN_DONE (R297). -/
  | dpTrainDone (h : Head) (ok : Bool)
  /-- HPD_CHANGE (R298). -/
  | hpdChange (h : Head) (level : Bool) (pulse : Bool)
  /-- HPD_LOSS (R298). -/
  | hpdLoss (h : Head)
  /-- AUX_GO (R299). -/
  | auxGo (h : Head)
  /-- AUX_DONE (R299). -/
  | auxDone (h : Head) (reply : Nat) (d : List Byte)
  /-- LINE_REQ (R301). -/
  | lineReq (i : Option CtxNo) (p : Pkt) (host : Option (List Byte)) (perr : List Nat)
  /-- LINE_DATA (R303). -/
  | lineData (h : Head) (i : Option CtxNo) (p : Pkt) (bad : Bool)
  /-- LINE_FETCH_REQUEST (R303). -/
  | lineFetchRequest (h : Head)
  /-- ACTIVE_LINE_START (R305). -/
  | activeLineStart (h : Head) (perrA : List Nat) (perrB : List Nat) (pix : List (Nat × Nat))
  /-- CAN_FRAME_RX (R315). -/
  | canFrameRx (n : Fin 4) (id : Nat) (d : List Byte) (rtr : Bool) (esi : Bool) (crc : Nat) (t : Nat) (rec : Nat)
  /-- RATE_TOKEN_REFILL (R312). -/
  | rateTokenRefill (e : Fin 4096)
  /-- I2C_TARGET_WRITE (R318). -/
  | i2cTargetWrite (n : Fin 2) (id : Nat) (d : List Byte) (t : Nat)
  /-- I2C_TARGET_READ (R318). -/
  | i2cTargetRead (n : Fin 2) (k : Nat)
  /-- UART_MESSAGE_END (R322). -/
  | uartMessageEnd (n : Fin 4) (cs : List Nat) (t : Nat)
  /-- GPIO_EDGE (R323). -/
  | gpioEdge (g : Fin 6) (lines : Nat) (levels : Nat) (t : Nat)
  /-- XFER_GO (R329). -/
  | xferGo (tag : Nat)
  /-- XFER_TIMEOUT (R329). -/
  | xferTimeout
  /-- BRIDGE_EGRESS_QUEUE (R313). -/
  | bridgeEgressQueue
  /-- BRIDGE_WRITE (R308). -/
  | bridgeWrite (b : BusNo) (r : Nat) (tec : Nat)
  /-- BRIDGE_READ (R308). -/
  | bridgeRead (b : BusNo) (r : Nat) (d : List Byte)
  /-- BRIDGE_RESP (R308). -/
  | bridgeResp
  /-- BRIDGE_EDGE (R323). -/
  | bridgeEdge
  /-- BRIDGE_SET (R323). -/
  | bridgeSet
  /-- SEM_ACQ (R324). -/
  | semAcq
  /-- SEM_REL (R324). -/
  | semRel
  /-- WRAPPED_EGRESS (R328). -/
  | wrappedEgress (b : BusNo) (good : Bool)
  /-- CAN_TX_TIMEOUT (R316). -/
  | canTxTimeout (n : Fin 4)
  /-- CAN_BUS_OFF_RECOVERY (R315). -/
  | canBusOffRecovery (n : Fin 4)
  /-- I2C_STRETCH_TIMEOUT (R318). -/
  | i2cStretchTimeout (n : Fin 2)
  /-- READ_AHEAD_DISCARD (R321). -/
  | readAheadDiscard (i : CtxNo) (cause : Nat)
  /-- READ_AHEAD_AGE (R320). -/
  | readAheadAge (i : CtxNo)
  /-- GPIO_SCHED_PUSH (R323). -/
  | gpioSchedPush (v : Nat)
  /-- SCHED_OUTPUT_DUE (R323). -/
  | schedOutputDue
  /-- SEM_TIMEOUT (R325). -/
  | semTimeout (k : Fin 32)
  /-- SEM_BREAK (R325). -/
  | semBreak (k : Fin 32)
  /-- YIELD_CONFLICT (R327). -/
  | yieldConflict (i : CtxNo) (hub : Nat) (depth : Nat) (b : Option BusNo)
  /-- RETRACT_RESTART (R327). -/
  | retractRestart (i : CtxNo)
  /-- SOURCE_ATTACH (R335). -/
  | sourceAttach (n : Port) (v1 : Option Nat) (v2 : Option Nat)
  /-- SINK_ATTACH (R336). -/
  | sinkAttach (n : Port) (v : Option Nat)
  /-- DB_ATTACH (R366). -/
  | dbAttach (v : Option Nat)
  /-- DETACH (R339). -/
  | detach (n : Port)
  /-- INFO_RETRY (R347). -/
  | infoRetry (n : Port)
  /-- BASE_CONTRACT_PG (R342). -/
  | baseContractPg (n : Port)
  /-- SINK_POWER_GOOD (R343). -/
  | sinkPowerGood (n : Port)
  /-- CTP_ACK_RX (R345). -/
  | ctpAckRx (n : Port) (w : Nat)
  /-- CTP_ACK_TIMEOUT (R345). -/
  | ctpAckTimeout (n : Port)
  /-- INFO_RX (R347). -/
  | infoRx (n : Port) (w : Nat) (o : Nat)
  /-- CAPS_RX (R350). -/
  | capsRx (n : Port) (w : Nat) (objs : List Nat)
  /-- REQUEST_RX (R351). -/
  | requestRx (n : Port) (w : Nat) (o : Nat)
  /-- ACCEPT_RX (R352). -/
  | acceptRx (n : Port) (w : Nat)
  /-- REJECT_OR_WAIT_RX (R349). -/
  | rejectOrWaitRx (n : Port) (w : Nat)
  /-- READY_RX (R352). -/
  | readyRx (n : Port) (w : Nat)
  /-- GET_CAPS_RX (R348). -/
  | getCapsRx (n : Port) (w : Nat)
  /-- SWAP_REQ_RX (R356). -/
  | swapReqRx (n : Port) (w : Nat)
  /-- CTP_HARD_RESET_RX (R360). -/
  | ctpHardResetRx (m : CtpHead)
  /-- RESERVED_TYPE_RX (R345). -/
  | reservedTypeRx (n : Port) (w : Nat) (objs : List Nat)
  /-- SEQUENCE_LEVEL_WAIT (R348). -/
  | sequenceLevelWait (n : Port)
  /-- SEQUENCE_TIMEOUT (R349). -/
  | sequenceTimeout (n : Port)
  /-- TRANSITION_SET_LEVEL (R352). -/
  | transitionSetLevel (n : Port)
  /-- TRANSITION_READY (R352). -/
  | transitionReady (n : Port)
  /-- NO_READY_TIMEOUT (R352). -/
  | noReadyTimeout (n : Port)
  /-- TRANSITION_BAND_EXIT (R355). -/
  | transitionBandExit (n : Port)
  /-- SINK_WINDOW_EXIT (R355). -/
  | sinkWindowExit (n : Port)
  /-- SWAP_OLD_SOURCE_OFF (R356). -/
  | swapOldSourceOff (n : Port)
  /-- SWAP_NEW_SOURCE_PG (R356). -/
  | swapNewSourcePg (n : Port)
  /-- SWAP_TIMEOUT (R357). -/
  | swapTimeout (n : Port)
  /-- HARD_RESET_HOLD_END (R360). -/
  | hardResetHoldEnd (n : Port)
  /-- HARD_RESET_STUCK (R361). -/
  | hardResetStuck (n : Port)
  /-- DEAD_BATTERY_START (R365). -/
  | deadBatteryStart (x : Straps)
  /-- LOCAL_PG_HANDOVER (R367). -/
  | localPgHandover
  /-- LOCAL_PG_FALL (R367). -/
  | localPgFall
  /-- CTP_SEND (R369). -/
  | ctpSend (n : Port)
  /-- CTP_HARD_RESET_CMD (R359). -/
  | ctpHardResetCmd (n : Port)
  /-- CTP_STATUS (R368). -/
  | ctpStatus (way : MbxWay)
  /-- CTP_RENEGOTIATE (R368). -/
  | ctpRenegotiate (way : MbxWay)
  /-- CTP_SWAP (R356). -/
  | ctpSwap (way : MbxWay)
  /-- CTP_HARD_RESET (R359). -/
  | ctpHardReset (way : MbxWay)
  /-- CHANNEL_COMMANDED_ON (R373). -/
  | channelCommandedOn (c : Chan)
  /-- RAMP_COMPLETE (R373). -/
  | rampComplete (c : Chan)
  /-- RAMP_NO_RISE (R374). -/
  | rampNoRise (c : Chan)
  /-- RAMP_TMO (R374). -/
  | rampTmo (c : Chan)
  /-- CURVE_TRIP (R376). -/
  | curveTrip (c : Chan) (k : Fin 9)
  /-- FAST_TRIP (R377). -/
  | fastTrip (c : Chan)
  /-- OVER_VOLTAGE (R378). -/
  | overVoltage (c : Chan)
  /-- FEED_UNDER_VOLTAGE (R378). -/
  | feedUnderVoltage (f : Fin 2)
  /-- FEED_WINDOW_RECOVER (R378). -/
  | feedWindowRecover (f : Fin 2)
  /-- REVERSE_CURRENT (R379). -/
  | reverseCurrent (c : Chan)
  /-- FEED_FORWARD_BIAS (R379). -/
  | feedForwardBias (f : Fin 2)
  /-- THERMAL_MODEL_STEP (R380). -/
  | thermalModelStep (c : Chan) (i : Int) (vp : Nat) (vb : Nat) (tdie : Int) (ntc : Int)
  /-- CHANNEL_TOGGLE (R382). -/
  | channelToggle (c : Chan)
  /-- COOL_DOWN_END (R382). -/
  | coolDownEnd (c : Chan)
  /-- FET_FAIL_CHECK (R384). -/
  | fetFailCheck (c : Chan)
  /-- FEED_SWITCHOVER (R386). -/
  | feedSwitchover (f : Fin 2)
  /-- PRIMARY_TAKEBACK (R386). -/
  | primaryTakeback
  /-- PFAIL_ASSERT (R387). -/
  | pfailAssert (uv : Bool) (fall : Bool)
  /-- PFAIL_HOLD_END (R387). -/
  | pfailHoldEnd
  /-- PFAIL_EXTERNAL (R387). -/
  | pfailExternal
  /-- PWARN_RX (R388). -/
  | pwarnRx (n : Port)
  /-- DOMAIN_SWITCH_OFF (R392). -/
  | domainSwitchOff (d : Fin 16)
  /-- DOMAIN_SWITCH_ON (R392). -/
  | domainSwitchOn (d : Fin 16)
  /-- DOMAIN_READY (R392). -/
  | domainReady (d : Fin 16)
  /-- DOMAIN_FAULT (R393). -/
  | domainFault (d : Fin 16)
  /-- STATE_REQ_RUN (R395). -/
  | stateReqRun
  /-- STATE_REQ_DOZE (R396). -/
  | stateReqDoze
  /-- STATE_REQ_RETAIN (R398). -/
  | stateReqRetain
  /-- STATE_REQ_HOLD (R400). -/
  | stateReqHold (wakes : List (Nat × Nat))
  /-- STATE_REQ_SHELF (R401). -/
  | stateReqShelf (vstby : Bool) (wakes : List (Nat × Nat))
  /-- DOZE_CLOCK_GATE (R396). -/
  | dozeClockGate
  /-- DOZE_CLOCK_UNGATE (R396). -/
  | dozeClockUngate
  /-- RETAIN_PORTS_SLEPT (R398). -/
  | retainPortsSlept
  /-- RETAIN_SLEEP_TIMEOUT (R398). -/
  | retainSleepTimeout
  /-- CHIP_WAKE (R406). -/
  | chipWake (w : Wake)
  /-- WAKE_REPLAYED (R407). -/
  | wakeReplayed (w : Wake)
  /-- WAKE_TIMER_EXPIRY (R406). -/
  | wakeTimerExpiry (w : Wake)
  /-- AVS_ADJUST (R405). -/
  | avsAdjust (mv : Nat) (ack : Bool)
  /-- BOOT_ROM_RUN (R410). -/
  | bootRomRun (corr : Nat) (uncorr : Bool) (good : Nat) (ok : Bool)
  /-- AWL_RESTART_PATH (R414). -/
  | awlRestartPath (corr : Nat) (uncorr : Bool)
  /-- FLASHLESS_BOOT (R415). -/
  | flashlessBoot (good : Nat) (ok : Bool)
  /-- POLICY_CHECK_START (R416). -/
  | policyCheckStart (refused : Nat)
  /-- KEY_GENERATE (R434). -/
  | keyGenerate (m : Fin 5) (tag : Nat) (k : Nat)
  /-- KEY_DERIVE (R434). -/
  | keyDerive (m : Fin 5) (tag : Nat) (src : Nat) (k : Nat)
  /-- KEY_ECDH (R434). -/
  | keyEcdh (m : Fin 5) (tag : Nat) (src : Nat) (k : Nat)
  /-- KEY_UNWRAP (R434). -/
  | keyUnwrap (m : Fin 5) (tag : Nat) (src : Nat) (k : Nat)
  /-- KEY_CLEAR (R434). -/
  | keyClear (m : Fin 5) (tag : Nat) (k : Nat)
  /-- KEY_PUBLIC (R434). -/
  | keyPublic (m : Fin 5) (tag : Nat) (src : Nat)
  /-- KEY_OP_COMPLETE (R434). -/
  | keyOpComplete
  /-- KEY_SLOT_ATTR_WRITE (R432). -/
  | keySlotAttrWrite (m : Fin 5) (k : Nat) (v : Nat)
  /-- CRY_SHA384 (R437). -/
  | crySha384 (tag : Nat)
  /-- CRY_HMAC (R437). -/
  | cryHmac (tag : Nat) (k : Fin 32)
  /-- CRY_GCM_ENCRYPT (R437). -/
  | cryGcmEncrypt (tag : Nat) (k : Fin 32)
  /-- CRY_GCM_DECRYPT (R437). -/
  | cryGcmDecrypt (tag : Nat) (k : Fin 32)
  /-- CRY_ECDSA_SIGN (R437). -/
  | cryEcdsaSign (tag : Nat) (k : Fin 32)
  /-- CRY_ECDSA_VERIFY (R437). -/
  | cryEcdsaVerify (tag : Nat)
  /-- CRY_MLDSA_VERIFY (R437). -/
  | cryMldsaVerify (tag : Nat)
  /-- CRY_RANDOM (R437). -/
  | cryRandom (tag : Nat)
  /-- CRY_COMPLETE (R437). -/
  | cryComplete
  /-- DEBUG_CHALLENGE (R440). -/
  | debugChallenge (tag : Nat)
  /-- DEBUG_ANSWER (R440). -/
  | debugAnswer (tag : Nat)
  /-- DEBUG_PASSWORD (R441). -/
  | debugPassword (tag : Nat)
  /-- DEBUG_CLOSE (R442). -/
  | debugClose (tag : Nat)
  /-- NONCE_EXPIRY (R440). -/
  | nonceExpiry
  /-- KEY_INFO (R443). -/
  | keyInfo (way : MbxWay)
  /-- QUOTE (R443). -/
  | quote (way : MbxWay)
  /-- LC_ADVANCE (R419). -/
  | lcAdvance (way : MbxWay) (fail : Bool) (veto : Bool)
  /-- LC_VOID (R435). -/
  | lcVoid (way : MbxWay) (fail : Bool) (veto : Bool)
  /-- SIGNER_REVOKE (R424). -/
  | signerRevoke (way : MbxWay) (fail : Bool) (veto : Bool)
  /-- FW_LOAD (R448). -/
  | fwLoad (way : MbxWay) (dma : List Byte)
  /-- IMAGE_HEAD_RX (R446). -/
  | imageHeadRx (n : Port) (p : CtlPkt)
  /-- IMAGE_DATA_RX (R449). -/
  | imageDataRx (n : Port) (p : CtlPkt)
  /-- IMAGE_ABORT_RX (R447). -/
  | imageAbortRx (n : Port) (p : CtlPkt)
  /-- IMAGE_FETCH_RX (R461). -/
  | imageFetchRx (n : Port) (p : CtlPkt)
  /-- SESSION_IDLE_TIMEOUT (R450). -/
  | sessionIdleTimeout
  /-- IMAGE_STAGED (R451). -/
  | imageStaged (ok : Bool)
  /-- FW_ACTIVATE (R455). -/
  | fwActivate (way : MbxWay) (veto : Bool)
  /-- ACTIVATION_APPLY (R456). -/
  | activationApply
  /-- FW_ROLLBACK (R458). -/
  | fwRollback (way : MbxWay)
  /-- FW_COMMIT (R457). -/
  | fwCommit (way : MbxWay) (veto : Bool)
  /-- FW_ABORT (R456). -/
  | fwAbort (way : MbxWay)
  /-- FW_STATUS (R462). -/
  | fwStatus (way : MbxWay)
  /-- SNAPSHOT_PERIODIC (R470). -/
  | snapshotPeriodic
  /-- SNAPSHOT_GO (R470). -/
  | snapshotGo (tag : Nat)
  /-- SNAPSHOT_AT_COMMAND (R470). -/
  | snapshotAtCommand (tag : Nat)
  /-- SNAPSHOT_AT_DUE (R470). -/
  | snapshotAtDue
  /-- SNAPSHOT_DEFERRED (R471). -/
  | snapshotDeferred
  /-- COUNTER_CLEAR (R472). -/
  | counterClear
  /-- DUMP_RECORD_WRITTEN (R475). -/
  | dumpRecordWritten (dmaErr : Bool)
  /-- CFG_READING_CHANGE (R335). -/
  | cfgReadingChange (n : Port) (v1 : Option Nat) (v2 : Option Nat)
  /-- PCIE_LINK_UP (R251). -/
  | pcieLinkUp (width : Nat) (speed : Nat)
  /-- ETH_LINK_CHANGE (R265). -/
  | ethLinkChange (n : Fin 2) (up : Bool) (an : Bool) (speed : Nat)
  /-- FLASH_CHUNK_WRITTEN (R451). -/
  | flashChunkWritten (ok : Bool)
  /-- RETURN_AUTH_EXPIRY (R440). -/
  | returnAuthExpiry
deriving DecidableEq, Repr

end Sys2Proof
end

