-- ==== Sys2Proof/Decode.lean ====
section
/-!
DEFINITION. Sys2Proof/Decode.lean: the commands that a word spells. The opcode table gives no row bits or operand fields, so
no word spells a command.
-/
namespace Sys2Proof

/-- The command of a word of nbits bits by the table's bits: none, for the table gives no row any bits. -/
def decodeTableWord (_nbits _w : Nat) : Option Instr := none

end Sys2Proof
end

