-- ==== Sys2Proof/Machine/RegMapA.lean ====
section
/-!
DEFINITION. Sys2Proof/Machine/RegMapA.lean: the register fields of CHIP, FUSE, CLK, CTM, PWRD, EVC, MBX, WLT.
One definition per field, at its window offset (R4), with its place in the word, its value after power-on in a spoke and
in a Root (R9, Tables 18.2 to 18.10) and its access type (R7). `X.all` lists the fields of register X.
-/
namespace Sys2Proof.Machine

-- CHIP_ROLE (R1)
def CHIP_ROLE.DEPTH : Fld := ⟨0x00 * 0x1000 + 0x040, 8, 8, 255, 0, .ro⟩
def CHIP_ROLE.STRAP_NOW : Fld := ⟨0x00 * 0x1000 + 0x040, 1, 1, 1, 1, .fx⟩
def CHIP_ROLE.ROLE : Fld := ⟨0x00 * 0x1000 + 0x040, 0, 1, 1, 1, .fx⟩
def CHIP_ROLE.all : List Fld := [CHIP_ROLE.DEPTH, CHIP_ROLE.STRAP_NOW, CHIP_ROLE.ROLE]

-- CHIP_HUB_ID (R19)
def CHIP_HUB_ID.PARENT_PORT : Fld := ⟨0x00 * 0x1000 + 0x044, 24, 2, 0, 0, .ro⟩
def CHIP_HUB_ID.PARENT_ID : Fld := ⟨0x00 * 0x1000 + 0x044, 16, 8, 255, 255, .ro⟩
def CHIP_HUB_ID.HUB_ID : Fld := ⟨0x00 * 0x1000 + 0x044, 0, 8, 255, 0, .ro⟩
def CHIP_HUB_ID.all : List Fld := [CHIP_HUB_ID.PARENT_PORT, CHIP_HUB_ID.PARENT_ID, CHIP_HUB_ID.HUB_ID]

-- CHIP_DARK_ADDR (R233)
def CHIP_DARK_ADDR.OFFSET : Fld := ⟨0x00 * 0x1000 + 0x048, 0, 26, 0, 0, .ro⟩
def CHIP_DARK_ADDR.all : List Fld := [CHIP_DARK_ADDR.OFFSET]

-- CHIP_ACCESS (R227)
def CHIP_ACCESS.DARK_SRC : Fld := ⟨0x00 * 0x1000 + 0x04C, 24, 8, 0, 0, .ro⟩
def CHIP_ACCESS.ERR_SRC : Fld := ⟨0x00 * 0x1000 + 0x04C, 16, 8, 0, 0, .ro⟩
def CHIP_ACCESS.ERR_PAGE : Fld := ⟨0x00 * 0x1000 + 0x04C, 0, 16, 0, 0, .ro⟩
def CHIP_ACCESS.all : List Fld := [CHIP_ACCESS.DARK_SRC, CHIP_ACCESS.ERR_SRC, CHIP_ACCESS.ERR_PAGE]

-- CHIP_CTL_RETRY (R238)
def CHIP_CTL_RETRY.RETRIES : Fld := ⟨0x00 * 0x1000 + 0x050, 16, 3, 3, 3, .rw⟩
def CHIP_CTL_RETRY.INTERVAL : Fld := ⟨0x00 * 0x1000 + 0x050, 0, 16, 5000, 5000, .rw⟩
def CHIP_CTL_RETRY.all : List Fld := [CHIP_CTL_RETRY.RETRIES, CHIP_CTL_RETRY.INTERVAL]

-- FUSE_LC (R418)
def FUSE_LC.REVOKED : Fld := ⟨0x01 * 0x1000 + 0x040, 9, 4, 0, 0, .fx⟩
def FUSE_LC.PUF_ENROLLED : Fld := ⟨0x01 * 0x1000 + 0x040, 8, 1, 0, 0, .fx⟩
def FUSE_LC.STAGES : Fld := ⟨0x01 * 0x1000 + 0x040, 3, 5, 0, 0, .fx⟩
def FUSE_LC.STATE : Fld := ⟨0x01 * 0x1000 + 0x040, 0, 3, 0, 0, .fx⟩
def FUSE_LC.all : List Fld := [FUSE_LC.REVOKED, FUSE_LC.PUF_ENROLLED, FUSE_LC.STAGES, FUSE_LC.STATE]

-- FUSE_PROTECT (R417)
def FUSE_PROTECT.PROTECT : Fld := ⟨0x01 * 0x1000 + 0x044, 0, 32, 0, 0, .fx⟩
def FUSE_PROTECT.all : List Fld := [FUSE_PROTECT.PROTECT]

-- FUSE_ROLLBACK (R423)
def FUSE_ROLLBACK.POLICY : Fld := ⟨0x01 * 0x1000 + 0x048, 8, 7, 0, 0, .fx⟩
def FUSE_ROLLBACK.BASE : Fld := ⟨0x01 * 0x1000 + 0x048, 0, 7, 0, 0, .fx⟩
def FUSE_ROLLBACK.all : List Fld := [FUSE_ROLLBACK.POLICY, FUSE_ROLLBACK.BASE]

-- FUSE_STAT (R418)
def FUSE_STAT.CORR : Fld := ⟨0x01 * 0x1000 + 0x04C, 16, 16, 0, 0, .ro⟩
def FUSE_STAT.UNCORR : Fld := ⟨0x01 * 0x1000 + 0x04C, 1, 1, 0, 0, .ro⟩
def FUSE_STAT.READ_DONE : Fld := ⟨0x01 * 0x1000 + 0x04C, 0, 1, 0, 0, .ro⟩
def FUSE_STAT.all : List Fld := [FUSE_STAT.CORR, FUSE_STAT.UNCORR, FUSE_STAT.READ_DONE]

-- FUSE_SERIAL_LO (R418)
def FUSE_SERIAL_LO.SERIAL : Fld := ⟨0x01 * 0x1000 + 0x050, 0, 32, 0, 0, .fx⟩
def FUSE_SERIAL_LO.all : List Fld := [FUSE_SERIAL_LO.SERIAL]

-- FUSE_SERIAL_HI (R418)
def FUSE_SERIAL_HI.SERIAL : Fld := ⟨0x01 * 0x1000 + 0x054, 0, 32, 0, 0, .fx⟩
def FUSE_SERIAL_HI.all : List Fld := [FUSE_SERIAL_HI.SERIAL]

-- FUSE_PART (R418)
def FUSE_PART.PART : Fld := ⟨0x01 * 0x1000 + 0x058, 0, 32, 0, 0, .fx⟩
def FUSE_PART.all : List Fld := [FUSE_PART.PART]

-- FUSE_HASH (R418)
def FUSE_HASH.DATA (i : Nat) : Fld := ⟨(0x01) * 0x1000 + 0x100 + 0x4 * i, 0, 32, 0, 0, .fx⟩
def FUSE_HASH.all (i : Nat) : List Fld := [FUSE_HASH.DATA i]

-- CLK_CTRL (R33)
def CLK_CTRL.FORCE_HOLD : Fld := ⟨0x02 * 0x1000 + 0x040, 1, 1, 0, 0, .rw⟩
def CLK_CTRL.SSC_EN : Fld := ⟨0x02 * 0x1000 + 0x040, 0, 1, 0, 0, .rwl⟩
def CLK_CTRL.all : List Fld := [CLK_CTRL.FORCE_HOLD, CLK_CTRL.SSC_EN]

-- CLK_STAT (R27)
def CLK_STAT.PORT_SLIP : Fld := ⟨0x02 * 0x1000 + 0x044, 12, 4, 0, 0, .ro⟩
def CLK_STAT.RCLK_LANE : Fld := ⟨0x02 * 0x1000 + 0x044, 10, 2, 0, 0, .ro⟩
def CLK_STAT.REFSEL : Fld := ⟨0x02 * 0x1000 + 0x044, 8, 2, 0, 0, .fx⟩
def CLK_STAT.RATIO_VALID : Fld := ⟨0x02 * 0x1000 + 0x044, 7, 1, 0, 0, .ro⟩
def CLK_STAT.SSC_SEEN : Fld := ⟨0x02 * 0x1000 + 0x044, 6, 1, 0, 0, .ro⟩
def CLK_STAT.SSC_ACTIVE : Fld := ⟨0x02 * 0x1000 + 0x044, 5, 1, 0, 0, .ro⟩
def CLK_STAT.REF_LOST : Fld := ⟨0x02 * 0x1000 + 0x044, 4, 1, 0, 0, .ro⟩
def CLK_STAT.NO_LOCAL_REF : Fld := ⟨0x02 * 0x1000 + 0x044, 3, 1, 0, 0, .ro⟩
def CLK_STAT.SLIP : Fld := ⟨0x02 * 0x1000 + 0x044, 2, 1, 0, 0, .ro⟩
def CLK_STAT.HOLDOVER : Fld := ⟨0x02 * 0x1000 + 0x044, 1, 1, 0, 0, .ro⟩
def CLK_STAT.LOCKED : Fld := ⟨0x02 * 0x1000 + 0x044, 0, 1, 0, 0, .ro⟩
def CLK_STAT.all : List Fld := [CLK_STAT.PORT_SLIP, CLK_STAT.RCLK_LANE, CLK_STAT.REFSEL, CLK_STAT.RATIO_VALID, CLK_STAT.SSC_SEEN, CLK_STAT.SSC_ACTIVE, CLK_STAT.REF_LOST, CLK_STAT.NO_LOCAL_REF, CLK_STAT.SLIP, CLK_STAT.HOLDOVER, CLK_STAT.LOCKED]

-- CLK_HOLD_RATIO (R34)
def CLK_HOLD_RATIO.PPM_X100 : Fld := ⟨0x02 * 0x1000 + 0x048, 0, 32, 0, 0, .ro⟩
def CLK_HOLD_RATIO.all : List Fld := [CLK_HOLD_RATIO.PPM_X100]

-- CLK_SLIP_CNT (R38)
def CLK_SLIP_CNT.PORT3 : Fld := ⟨0x02 * 0x1000 + 0x04C, 24, 8, 0, 0, .ro⟩
def CLK_SLIP_CNT.PORT2 : Fld := ⟨0x02 * 0x1000 + 0x04C, 16, 8, 0, 0, .ro⟩
def CLK_SLIP_CNT.PORT1 : Fld := ⟨0x02 * 0x1000 + 0x04C, 8, 8, 0, 0, .ro⟩
def CLK_SLIP_CNT.PORT0 : Fld := ⟨0x02 * 0x1000 + 0x04C, 0, 8, 0, 0, .ro⟩
def CLK_SLIP_CNT.all : List Fld := [CLK_SLIP_CNT.PORT3, CLK_SLIP_CNT.PORT2, CLK_SLIP_CNT.PORT1, CLK_SLIP_CNT.PORT0]

-- CTM_CAP_CTRL (R53)
def CTM_CAP_CTRL.TAG : Fld := ⟨0x03 * 0x1000 + 0x040, 8, 8, 0, 0, .wo⟩
def CTM_CAP_CTRL.PORT : Fld := ⟨0x03 * 0x1000 + 0x040, 2, 2, 0, 0, .wo⟩
def CTM_CAP_CTRL.KIND : Fld := ⟨0x03 * 0x1000 + 0x040, 1, 1, 0, 0, .wo⟩
def CTM_CAP_CTRL.GO : Fld := ⟨0x03 * 0x1000 + 0x040, 0, 1, 0, 0, .wo⟩
def CTM_CAP_CTRL.all : List Fld := [CTM_CAP_CTRL.TAG, CTM_CAP_CTRL.PORT, CTM_CAP_CTRL.KIND, CTM_CAP_CTRL.GO]

-- CTM_STAT (R42)
def CTM_STAT.STEP_SEQ : Fld := ⟨0x03 * 0x1000 + 0x044, 8, 8, 0, 0, .ro⟩
def CTM_STAT.REBASED : Fld := ⟨0x03 * 0x1000 + 0x044, 4, 1, 0, 0, .ro⟩
def CTM_STAT.FREEZE : Fld := ⟨0x03 * 0x1000 + 0x044, 3, 1, 0, 0, .ro⟩
def CTM_STAT.STEP_PENDING : Fld := ⟨0x03 * 0x1000 + 0x044, 2, 1, 0, 0, .ro⟩
def CTM_STAT.FREE : Fld := ⟨0x03 * 0x1000 + 0x044, 1, 1, 1, 0, .ro⟩
def CTM_STAT.VALID : Fld := ⟨0x03 * 0x1000 + 0x044, 0, 1, 0, 1, .ro⟩
def CTM_STAT.all : List Fld := [CTM_STAT.STEP_SEQ, CTM_STAT.REBASED, CTM_STAT.FREEZE, CTM_STAT.STEP_PENDING, CTM_STAT.FREE, CTM_STAT.VALID]

-- CTM_LAST_STEP_LO (R54)
def CTM_LAST_STEP_LO.STEP : Fld := ⟨0x03 * 0x1000 + 0x048, 0, 32, 0, 0, .ro⟩
def CTM_LAST_STEP_LO.all : List Fld := [CTM_LAST_STEP_LO.STEP]

-- CTM_LAST_STEP_HI (R54)
def CTM_LAST_STEP_HI.STEP : Fld := ⟨0x03 * 0x1000 + 0x04C, 0, 32, 0, 0, .ro⟩
def CTM_LAST_STEP_HI.all : List Fld := [CTM_LAST_STEP_HI.STEP]

-- CTM_ASYM (R43)
def CTM_ASYM.ASYM : Fld := ⟨0x03 * 0x1000 + 0x050, 0, 16, 0, 0, .rw⟩
def CTM_ASYM.all : List Fld := [CTM_ASYM.ASYM]

-- CTM_RES0 (R53)
def CTM_RES0.SEQ : Fld := ⟨0x03 * 0x1000 + 0x080, 16, 16, 0, 0, .ro⟩
def CTM_RES0.TAG : Fld := ⟨0x03 * 0x1000 + 0x080, 8, 8, 0, 0, .ro⟩
def CTM_RES0.VALID : Fld := ⟨0x03 * 0x1000 + 0x080, 7, 1, 0, 0, .ro⟩
def CTM_RES0.STATUS : Fld := ⟨0x03 * 0x1000 + 0x080, 0, 7, 0, 0, .ro⟩
def CTM_RES0.all : List Fld := [CTM_RES0.SEQ, CTM_RES0.TAG, CTM_RES0.VALID, CTM_RES0.STATUS]

-- CTM_RES (R53)
def CTM_RES.DATA (i : Nat) : Fld := ⟨(0x03) * 0x1000 + 0x084 + 0x4 * i, 0, 32, 0, 0, .ro⟩
def CTM_RES.all (i : Nat) : List Fld := [CTM_RES.DATA i]

-- PWRD_STATE_REQ (R394)
def PWRD_STATE_REQ.TARGET : Fld := ⟨0x04 * 0x1000 + 0x040, 0, 3, 0, 0, .wo⟩
def PWRD_STATE_REQ.all : List Fld := [PWRD_STATE_REQ.TARGET]

-- PWRD_STATE (R394)
def PWRD_STATE.RESULT : Fld := ⟨0x04 * 0x1000 + 0x044, 20, 4, 0, 0, .ro⟩
def PWRD_STATE.AWAKE_PORTS : Fld := ⟨0x04 * 0x1000 + 0x044, 16, 4, 0, 0, .ro⟩
def PWRD_STATE.LAST_LOW : Fld := ⟨0x04 * 0x1000 + 0x044, 8, 3, 0, 0, .ro⟩
def PWRD_STATE.ENTERING : Fld := ⟨0x04 * 0x1000 + 0x044, 7, 1, 0, 0, .ro⟩
def PWRD_STATE.EXITING : Fld := ⟨0x04 * 0x1000 + 0x044, 6, 1, 0, 0, .ro⟩
def PWRD_STATE.STATE : Fld := ⟨0x04 * 0x1000 + 0x044, 0, 3, 0, 0, .ro⟩
def PWRD_STATE.all : List Fld := [PWRD_STATE.RESULT, PWRD_STATE.AWAKE_PORTS, PWRD_STATE.LAST_LOW, PWRD_STATE.ENTERING, PWRD_STATE.EXITING, PWRD_STATE.STATE]

-- PWRD_CTRL (R397)
def PWRD_CTRL.RET_FSB : Fld := ⟨0x04 * 0x1000 + 0x048, 1, 1, 0, 0, .rw⟩
def PWRD_CTRL.RET_FSA : Fld := ⟨0x04 * 0x1000 + 0x048, 0, 1, 0, 0, .rw⟩
def PWRD_CTRL.all : List Fld := [PWRD_CTRL.RET_FSB, PWRD_CTRL.RET_FSA]

-- PWRD_WAKE_EN (R406)
def PWRD_WAKE_EN.EN : Fld := ⟨0x04 * 0x1000 + 0x04C, 0, 10, 1023, 1023, .rw⟩
def PWRD_WAKE_EN.all : List Fld := [PWRD_WAKE_EN.EN]

-- PWRD_WAKE_SRC (R406)
def PWRD_WAKE_SRC.REPLAYED : Fld := ⟨0x04 * 0x1000 + 0x050, 31, 1, 0, 0, .ro⟩
def PWRD_WAKE_SRC.FROM : Fld := ⟨0x04 * 0x1000 + 0x050, 28, 3, 0, 0, .ro⟩
def PWRD_WAKE_SRC.CFG_PORT : Fld := ⟨0x04 * 0x1000 + 0x050, 26, 2, 0, 0, .ro⟩
def PWRD_WAKE_SRC.FIRST : Fld := ⟨0x04 * 0x1000 + 0x050, 16, 4, 0, 0, .ro⟩
def PWRD_WAKE_SRC.SEEN : Fld := ⟨0x04 * 0x1000 + 0x050, 0, 10, 0, 0, .ro⟩
def PWRD_WAKE_SRC.all : List Fld := [PWRD_WAKE_SRC.REPLAYED, PWRD_WAKE_SRC.FROM, PWRD_WAKE_SRC.CFG_PORT, PWRD_WAKE_SRC.FIRST, PWRD_WAKE_SRC.SEEN]

-- PWRD_DOMAIN_CTRL (R392)
def PWRD_DOMAIN_CTRL.ON : Fld := ⟨0x04 * 0x1000 + 0x054, 0, 16, 65535, 65535, .rw⟩
def PWRD_DOMAIN_CTRL.all : List Fld := [PWRD_DOMAIN_CTRL.ON]

-- PWRD_DOMAIN_STAT (R392)
def PWRD_DOMAIN_STAT.FAULT : Fld := ⟨0x04 * 0x1000 + 0x058, 16, 16, 0, 0, .ro⟩
def PWRD_DOMAIN_STAT.POWERED : Fld := ⟨0x04 * 0x1000 + 0x058, 0, 16, 65535, 65535, .ro⟩
def PWRD_DOMAIN_STAT.all : List Fld := [PWRD_DOMAIN_STAT.FAULT, PWRD_DOMAIN_STAT.POWERED]

-- PWRD_TIMER (R406)
def PWRD_TIMER.MS : Fld := ⟨0x04 * 0x1000 + 0x05C, 0, 24, 0, 0, .rw⟩
def PWRD_TIMER.all : List Fld := [PWRD_TIMER.MS]

-- PWRD_AVS (R405)
def PWRD_AVS.BIAS : Fld := ⟨0x04 * 0x1000 + 0x060, 24, 8, 0, 0, .ro⟩
def PWRD_AVS.VSRAM_MV : Fld := ⟨0x04 * 0x1000 + 0x060, 12, 12, 0, 0, .ro⟩
def PWRD_AVS.VDD_MV : Fld := ⟨0x04 * 0x1000 + 0x060, 0, 12, 0, 0, .ro⟩
def PWRD_AVS.all : List Fld := [PWRD_AVS.BIAS, PWRD_AVS.VSRAM_MV, PWRD_AVS.VDD_MV]

-- PWRD_LOW_MS (R403)
def PWRD_LOW_MS.MS : Fld := ⟨0x04 * 0x1000 + 0x064, 0, 32, 0, 0, .ro⟩
def PWRD_LOW_MS.all : List Fld := [PWRD_LOW_MS.MS]

-- EVC_CTRL (R240)
def EVC_CTRL.REMOTE_VEC : Fld := ⟨0x05 * 0x1000 + 0x040, 8, 5, 31, 31, .rw⟩
def EVC_CTRL.INT_EN : Fld := ⟨0x05 * 0x1000 + 0x040, 0, 1, 0, 0, .rw⟩
def EVC_CTRL.all : List Fld := [EVC_CTRL.REMOTE_VEC, EVC_CTRL.INT_EN]

-- EVC_RING_HEAD (R244)
def EVC_RING_HEAD.HEAD : Fld := ⟨0x05 * 0x1000 + 0x044, 0, 10, 0, 0, .ro⟩
def EVC_RING_HEAD.all : List Fld := [EVC_RING_HEAD.HEAD]

-- EVC_RING_TAIL (R244)
def EVC_RING_TAIL.TAIL : Fld := ⟨0x05 * 0x1000 + 0x048, 0, 10, 0, 0, .rw⟩
def EVC_RING_TAIL.all : List Fld := [EVC_RING_TAIL.TAIL]

-- EVC_RING_LOST (R244)
def EVC_RING_LOST.LOST : Fld := ⟨0x05 * 0x1000 + 0x04C, 0, 16, 0, 0, .ro⟩
def EVC_RING_LOST.all : List Fld := [EVC_RING_LOST.LOST]

-- EVC_ARMED (R241)
def EVC_ARMED.ARMED : Fld := ⟨0x05 * 0x1000 + 0x050, 0, 32, 0, 0, .ro⟩
def EVC_ARMED.all : List Fld := [EVC_ARMED.ARMED]

-- EVC_SOFT (R240)
def EVC_SOFT.RAISE : Fld := ⟨0x05 * 0x1000 + 0x054, 0, 16, 0, 0, .wo⟩
def EVC_SOFT.all : List Fld := [EVC_SOFT.RAISE]

-- EVC_COAL (R241)
def EVC_COAL.US (v : Nat) : Fld := ⟨(0x05) * 0x1000 + 0x080 + 0x4 * v, 0, 10, 0, 0, .rw⟩
def EVC_COAL.all (v : Nat) : List Fld := [EVC_COAL.US v]

-- MBX_DOORBELL (R246)
def MBX_DOORBELL.TAG : Fld := ⟨0x06 * 0x1000 + 0x040, 16, 8, 0, 0, .wo⟩
def MBX_DOORBELL.CMD : Fld := ⟨0x06 * 0x1000 + 0x040, 0, 16, 0, 0, .wo⟩
def MBX_DOORBELL.all : List Fld := [MBX_DOORBELL.TAG, MBX_DOORBELL.CMD]

-- MBX_STAT (R246)
def MBX_STAT.LOST : Fld := ⟨0x06 * 0x1000 + 0x044, 8, 8, 0, 0, .ro⟩
def MBX_STAT.QUEUED : Fld := ⟨0x06 * 0x1000 + 0x044, 2, 3, 0, 0, .ro⟩
def MBX_STAT.AWL_UP : Fld := ⟨0x06 * 0x1000 + 0x044, 1, 1, 0, 0, .ro⟩
def MBX_STAT.BUSY : Fld := ⟨0x06 * 0x1000 + 0x044, 0, 1, 0, 0, .ro⟩
def MBX_STAT.all : List Fld := [MBX_STAT.LOST, MBX_STAT.QUEUED, MBX_STAT.AWL_UP, MBX_STAT.BUSY]

-- MBX_REQ (R246)
def MBX_REQ.DATA (i : Nat) : Fld := ⟨(0x06) * 0x1000 + 0x080 + 0x4 * i, 0, 32, 0, 0, .rw⟩
def MBX_REQ.all (i : Nat) : List Fld := [MBX_REQ.DATA i]

-- MBX_RES0 (R249)
def MBX_RES0.SEQ : Fld := ⟨0x06 * 0x1000 + 0x0C0, 16, 16, 0, 0, .ro⟩
def MBX_RES0.TAG : Fld := ⟨0x06 * 0x1000 + 0x0C0, 8, 8, 0, 0, .ro⟩
def MBX_RES0.VALID : Fld := ⟨0x06 * 0x1000 + 0x0C0, 7, 1, 0, 0, .ro⟩
def MBX_RES0.STATUS : Fld := ⟨0x06 * 0x1000 + 0x0C0, 0, 7, 0, 0, .ro⟩
def MBX_RES0.all : List Fld := [MBX_RES0.SEQ, MBX_RES0.TAG, MBX_RES0.VALID, MBX_RES0.STATUS]

-- MBX_RES (R249)
def MBX_RES.DATA (i : Nat) : Fld := ⟨(0x06) * 0x1000 + 0x0C4 + 0x4 * i, 0, 32, 0, 0, .ro⟩
def MBX_RES.all (i : Nat) : List Fld := [MBX_RES.DATA i]

-- WLT_PCS_CTRL (R69)
def WLT_PCS_CTRL.LANE_EN (n : Nat) : Fld := ⟨(0x10 + 8 * n + 0) * 0x1000 + 0x040, 8, 4, 15, 15, .rwl⟩
def WLT_PCS_CTRL.ALLOW_SLEEP (n : Nat) : Fld := ⟨(0x10 + 8 * n + 0) * 0x1000 + 0x040, 7, 1, 1, 1, .rw⟩
def WLT_PCS_CTRL.ALLOW_HUSH (n : Nat) : Fld := ⟨(0x10 + 8 * n + 0) * 0x1000 + 0x040, 6, 1, 1, 1, .rw⟩
def WLT_PCS_CTRL.FORCE_COMPAT (n : Nat) : Fld := ⟨(0x10 + 8 * n + 0) * 0x1000 + 0x040, 5, 1, 0, 0, .rwl⟩
def WLT_PCS_CTRL.TEST (n : Nat) : Fld := ⟨(0x10 + 8 * n + 0) * 0x1000 + 0x040, 1, 1, 0, 0, .rw⟩
def WLT_PCS_CTRL.RETRAIN (n : Nat) : Fld := ⟨(0x10 + 8 * n + 0) * 0x1000 + 0x040, 0, 1, 0, 0, .wo⟩
def WLT_PCS_CTRL.all (n : Nat) : List Fld := [WLT_PCS_CTRL.LANE_EN n, WLT_PCS_CTRL.ALLOW_SLEEP n, WLT_PCS_CTRL.ALLOW_HUSH n, WLT_PCS_CTRL.FORCE_COMPAT n, WLT_PCS_CTRL.TEST n, WLT_PCS_CTRL.RETRAIN n]

-- WLT_PCS_STAT (R69)
def WLT_PCS_STAT.RX_MASK (n : Nat) : Fld := ⟨(0x10 + 8 * n + 0) * 0x1000 + 0x044, 28, 4, 0, 0, .ro⟩
def WLT_PCS_STAT.TX_MASK (n : Nat) : Fld := ⟨(0x10 + 8 * n + 0) * 0x1000 + 0x044, 24, 4, 0, 0, .ro⟩
def WLT_PCS_STAT.BLOCK_LOCK (n : Nat) : Fld := ⟨(0x10 + 8 * n + 0) * 0x1000 + 0x044, 20, 4, 0, 0, .ro⟩
def WLT_PCS_STAT.LANE_STATE (n : Nat) : Fld := ⟨(0x10 + 8 * n + 0) * 0x1000 + 0x044, 18, 2, 0, 0, .ro⟩
def WLT_PCS_STAT.DESKEWED (n : Nat) : Fld := ⟨(0x10 + 8 * n + 0) * 0x1000 + 0x044, 17, 1, 0, 0, .ro⟩
def WLT_PCS_STAT.FLIPPED (n : Nat) : Fld := ⟨(0x10 + 8 * n + 0) * 0x1000 + 0x044, 16, 1, 0, 0, .ro⟩
def WLT_PCS_STAT.CLASS_USED (n : Nat) : Fld := ⟨(0x10 + 8 * n + 0) * 0x1000 + 0x044, 14, 2, 2, 2, .ro⟩
def WLT_PCS_STAT.PARTNER_CLASS (n : Nat) : Fld := ⟨(0x10 + 8 * n + 0) * 0x1000 + 0x044, 12, 2, 0, 0, .ro⟩
def WLT_PCS_STAT.CLASS_KNOWN (n : Nat) : Fld := ⟨(0x10 + 8 * n + 0) * 0x1000 + 0x044, 11, 1, 0, 0, .ro⟩
def WLT_PCS_STAT.COMPAT (n : Nat) : Fld := ⟨(0x10 + 8 * n + 0) * 0x1000 + 0x044, 10, 1, 0, 0, .ro⟩
def WLT_PCS_STAT.TRAIN_ATTEMPTS (n : Nat) : Fld := ⟨(0x10 + 8 * n + 0) * 0x1000 + 0x044, 4, 4, 0, 0, .ro⟩
def WLT_PCS_STAT.TRAIN_STATE (n : Nat) : Fld := ⟨(0x10 + 8 * n + 0) * 0x1000 + 0x044, 0, 4, 0, 0, .ro⟩
def WLT_PCS_STAT.all (n : Nat) : List Fld := [WLT_PCS_STAT.RX_MASK n, WLT_PCS_STAT.TX_MASK n, WLT_PCS_STAT.BLOCK_LOCK n, WLT_PCS_STAT.LANE_STATE n, WLT_PCS_STAT.DESKEWED n, WLT_PCS_STAT.FLIPPED n, WLT_PCS_STAT.CLASS_USED n, WLT_PCS_STAT.PARTNER_CLASS n, WLT_PCS_STAT.CLASS_KNOWN n, WLT_PCS_STAT.COMPAT n, WLT_PCS_STAT.TRAIN_ATTEMPTS n, WLT_PCS_STAT.TRAIN_STATE n]

-- WLT_CABLE (R332)
def WLT_CABLE.CLASS_SET (n : Nat) : Fld := ⟨(0x10 + 8 * n + 0) * 0x1000 + 0x048, 2, 1, 0, 0, .rwl⟩
def WLT_CABLE.CLASS (n : Nat) : Fld := ⟨(0x10 + 8 * n + 0) * 0x1000 + 0x048, 0, 2, 0, 0, .rwl⟩
def WLT_CABLE.all (n : Nat) : List Fld := [WLT_CABLE.CLASS_SET n, WLT_CABLE.CLASS n]

-- WLT_PCS_ERR (R71)
def WLT_PCS_ERR.BAD_HDR (n : Nat) : Fld := ⟨(0x10 + 8 * n + 0) * 0x1000 + 0x04C, 16, 16, 0, 0, .ro⟩
def WLT_PCS_ERR.LOCK_LOSS (n : Nat) : Fld := ⟨(0x10 + 8 * n + 0) * 0x1000 + 0x04C, 8, 8, 0, 0, .ro⟩
def WLT_PCS_ERR.DESKEW_ERR (n : Nat) : Fld := ⟨(0x10 + 8 * n + 0) * 0x1000 + 0x04C, 0, 8, 0, 0, .ro⟩
def WLT_PCS_ERR.all (n : Nat) : List Fld := [WLT_PCS_ERR.BAD_HDR n, WLT_PCS_ERR.LOCK_LOSS n, WLT_PCS_ERR.DESKEW_ERR n]

-- WLT_LANE_CTRL (R67)
def WLT_LANE_CTRL.TX_OVR (n k : Nat) : Fld := ⟨(0x10 + 8 * n + 1) * 0x1000 + 0x040 + 0x10 * k, 15, 1, 0, 0, .rw⟩
def WLT_LANE_CTRL.AMP (n k : Nat) : Fld := ⟨(0x10 + 8 * n + 1) * 0x1000 + 0x040 + 0x10 * k, 13, 2, 1, 1, .rw⟩
def WLT_LANE_CTRL.POST (n k : Nat) : Fld := ⟨(0x10 + 8 * n + 1) * 0x1000 + 0x040 + 0x10 * k, 8, 5, 0, 0, .rw⟩
def WLT_LANE_CTRL.PRE (n k : Nat) : Fld := ⟨(0x10 + 8 * n + 1) * 0x1000 + 0x040 + 0x10 * k, 4, 4, 0, 0, .rw⟩
def WLT_LANE_CTRL.TX_INV (n k : Nat) : Fld := ⟨(0x10 + 8 * n + 1) * 0x1000 + 0x040 + 0x10 * k, 3, 1, 0, 0, .rw⟩
def WLT_LANE_CTRL.DFE_FREEZE (n k : Nat) : Fld := ⟨(0x10 + 8 * n + 1) * 0x1000 + 0x040 + 0x10 * k, 2, 1, 0, 0, .rw⟩
def WLT_LANE_CTRL.all (n k : Nat) : List Fld := [WLT_LANE_CTRL.TX_OVR n k, WLT_LANE_CTRL.AMP n k, WLT_LANE_CTRL.POST n k, WLT_LANE_CTRL.PRE n k, WLT_LANE_CTRL.TX_INV n k, WLT_LANE_CTRL.DFE_FREEZE n k]

-- WLT_LANE_STAT (R67)
def WLT_LANE_STAT.CTLE (n k : Nat) : Fld := ⟨(0x10 + 8 * n + 1) * 0x1000 + 0x044 + 0x10 * k, 24, 4, 0, 0, .ro⟩
def WLT_LANE_STAT.SKEW (n k : Nat) : Fld := ⟨(0x10 + 8 * n + 1) * 0x1000 + 0x044 + 0x10 * k, 17, 7, 0, 0, .ro⟩
def WLT_LANE_STAT.ADAPT_DONE (n k : Nat) : Fld := ⟨(0x10 + 8 * n + 1) * 0x1000 + 0x044 + 0x10 * k, 16, 1, 0, 0, .ro⟩
def WLT_LANE_STAT.POL_INV (n k : Nat) : Fld := ⟨(0x10 + 8 * n + 1) * 0x1000 + 0x044 + 0x10 * k, 15, 1, 0, 0, .ro⟩
def WLT_LANE_STAT.BLOCK_LOCK (n k : Nat) : Fld := ⟨(0x10 + 8 * n + 1) * 0x1000 + 0x044 + 0x10 * k, 14, 1, 0, 0, .ro⟩
def WLT_LANE_STAT.PHYS (n k : Nat) : Fld := ⟨(0x10 + 8 * n + 1) * 0x1000 + 0x044 + 0x10 * k, 12, 2, 0, 0, .ro⟩
def WLT_LANE_STAT.CLAMPED (n k : Nat) : Fld := ⟨(0x10 + 8 * n + 1) * 0x1000 + 0x044 + 0x10 * k, 11, 1, 0, 0, .ro⟩
def WLT_LANE_STAT.POST_USED (n k : Nat) : Fld := ⟨(0x10 + 8 * n + 1) * 0x1000 + 0x044 + 0x10 * k, 6, 5, 12, 12, .ro⟩
def WLT_LANE_STAT.PRE_USED (n k : Nat) : Fld := ⟨(0x10 + 8 * n + 1) * 0x1000 + 0x044 + 0x10 * k, 2, 4, 4, 4, .ro⟩
def WLT_LANE_STAT.all (n k : Nat) : List Fld := [WLT_LANE_STAT.CTLE n k, WLT_LANE_STAT.SKEW n k, WLT_LANE_STAT.ADAPT_DONE n k, WLT_LANE_STAT.POL_INV n k, WLT_LANE_STAT.BLOCK_LOCK n k, WLT_LANE_STAT.PHYS n k, WLT_LANE_STAT.CLAMPED n k, WLT_LANE_STAT.POST_USED n k, WLT_LANE_STAT.PRE_USED n k]

-- WLT_TEST_CTRL (R82)
def WLT_TEST_CTRL.CHK_EN (n : Nat) : Fld := ⟨(0x10 + 8 * n + 2) * 0x1000 + 0x040, 16, 4, 0, 0, .rw⟩
def WLT_TEST_CTRL.GEN_EN (n : Nat) : Fld := ⟨(0x10 + 8 * n + 2) * 0x1000 + 0x040, 12, 4, 0, 0, .rw⟩
def WLT_TEST_CTRL.PATTERN (n : Nat) : Fld := ⟨(0x10 + 8 * n + 2) * 0x1000 + 0x040, 8, 4, 4, 4, .rw⟩
def WLT_TEST_CTRL.LOOP (n : Nat) : Fld := ⟨(0x10 + 8 * n + 2) * 0x1000 + 0x040, 4, 2, 0, 0, .rw⟩
def WLT_TEST_CTRL.TX_MUTE (n : Nat) : Fld := ⟨(0x10 + 8 * n + 2) * 0x1000 + 0x040, 3, 1, 0, 0, .rw⟩
def WLT_TEST_CTRL.FE_SLIP (n : Nat) : Fld := ⟨(0x10 + 8 * n + 2) * 0x1000 + 0x040, 2, 1, 0, 0, .ro⟩
def WLT_TEST_CTRL.all (n : Nat) : List Fld := [WLT_TEST_CTRL.CHK_EN n, WLT_TEST_CTRL.GEN_EN n, WLT_TEST_CTRL.PATTERN n, WLT_TEST_CTRL.LOOP n, WLT_TEST_CTRL.TX_MUTE n, WLT_TEST_CTRL.FE_SLIP n]

-- WLT_PRBS_ERR (R84)
def WLT_PRBS_ERR.SYNC (n k : Nat) : Fld := ⟨(0x10 + 8 * n + 2) * 0x1000 + 0x044 + 0x4 * k, 31, 1, 0, 0, .ro⟩
def WLT_PRBS_ERR.ERRORS (n k : Nat) : Fld := ⟨(0x10 + 8 * n + 2) * 0x1000 + 0x044 + 0x4 * k, 0, 31, 0, 0, .ro⟩
def WLT_PRBS_ERR.all (n k : Nat) : List Fld := [WLT_PRBS_ERR.SYNC n k, WLT_PRBS_ERR.ERRORS n k]

-- WLT_EYE_CTRL (R85)
def WLT_EYE_CTRL.LANE (n : Nat) : Fld := ⟨(0x10 + 8 * n + 2) * 0x1000 + 0x060, 20, 2, 0, 0, .rw⟩
def WLT_EYE_CTRL.PHASE (n : Nat) : Fld := ⟨(0x10 + 8 * n + 2) * 0x1000 + 0x060, 14, 6, 0, 0, .rw⟩
def WLT_EYE_CTRL.VOLT (n : Nat) : Fld := ⟨(0x10 + 8 * n + 2) * 0x1000 + 0x060, 8, 6, 0, 0, .rw⟩
def WLT_EYE_CTRL.DWELL (n : Nat) : Fld := ⟨(0x10 + 8 * n + 2) * 0x1000 + 0x060, 4, 4, 0, 0, .rw⟩
def WLT_EYE_CTRL.GO (n : Nat) : Fld := ⟨(0x10 + 8 * n + 2) * 0x1000 + 0x060, 0, 1, 0, 0, .wo⟩
def WLT_EYE_CTRL.all (n : Nat) : List Fld := [WLT_EYE_CTRL.LANE n, WLT_EYE_CTRL.PHASE n, WLT_EYE_CTRL.VOLT n, WLT_EYE_CTRL.DWELL n, WLT_EYE_CTRL.GO n]

-- WLT_EYE_STAT (R85)
def WLT_EYE_STAT.DONE (n : Nat) : Fld := ⟨(0x10 + 8 * n + 2) * 0x1000 + 0x064, 31, 1, 0, 0, .ro⟩
def WLT_EYE_STAT.BUSY (n : Nat) : Fld := ⟨(0x10 + 8 * n + 2) * 0x1000 + 0x064, 30, 1, 0, 0, .ro⟩
def WLT_EYE_STAT.ABORT (n : Nat) : Fld := ⟨(0x10 + 8 * n + 2) * 0x1000 + 0x064, 29, 1, 0, 0, .ro⟩
def WLT_EYE_STAT.MISMATCH (n : Nat) : Fld := ⟨(0x10 + 8 * n + 2) * 0x1000 + 0x064, 0, 29, 0, 0, .ro⟩
def WLT_EYE_STAT.all (n : Nat) : List Fld := [WLT_EYE_STAT.DONE n, WLT_EYE_STAT.BUSY n, WLT_EYE_STAT.ABORT n, WLT_EYE_STAT.MISMATCH n]

-- WLT_LINK_CTRL (R123)
def WLT_LINK_CTRL.HUSH_IDLE (n : Nat) : Fld := ⟨(0x10 + 8 * n + 3) * 0x1000 + 0x040, 8, 8, 16, 16, .rw⟩
def WLT_LINK_CTRL.SLEEP_REQ (n : Nat) : Fld := ⟨(0x10 + 8 * n + 3) * 0x1000 + 0x040, 0, 1, 0, 0, .wo⟩
def WLT_LINK_CTRL.all (n : Nat) : List Fld := [WLT_LINK_CTRL.HUSH_IDLE n, WLT_LINK_CTRL.SLEEP_REQ n]

-- WLT_LINK_STAT (R115)
def WLT_LINK_STAT.DOWN_REASON (n : Nat) : Fld := ⟨(0x10 + 8 * n + 3) * 0x1000 + 0x044, 28, 4, 0, 0, .ro⟩
def WLT_LINK_STAT.MAJOR (n : Nat) : Fld := ⟨(0x10 + 8 * n + 3) * 0x1000 + 0x044, 24, 4, 0, 0, .ro⟩
def WLT_LINK_STAT.MINOR (n : Nat) : Fld := ⟨(0x10 + 8 * n + 3) * 0x1000 + 0x044, 16, 8, 0, 0, .ro⟩
def WLT_LINK_STAT.FEATURES (n : Nat) : Fld := ⟨(0x10 + 8 * n + 3) * 0x1000 + 0x044, 8, 8, 0, 0, .ro⟩
def WLT_LINK_STAT.WIDTH_TX (n : Nat) : Fld := ⟨(0x10 + 8 * n + 3) * 0x1000 + 0x044, 6, 2, 0, 0, .ro⟩
def WLT_LINK_STAT.WIDTH_RX (n : Nat) : Fld := ⟨(0x10 + 8 * n + 3) * 0x1000 + 0x044, 4, 2, 0, 0, .ro⟩
def WLT_LINK_STAT.FACING_MISMATCH (n : Nat) : Fld := ⟨(0x10 + 8 * n + 3) * 0x1000 + 0x044, 3, 1, 0, 0, .ro⟩
def WLT_LINK_STAT.HELD (n : Nat) : Fld := ⟨(0x10 + 8 * n + 3) * 0x1000 + 0x044, 2, 1, 0, 0, .ro⟩
def WLT_LINK_STAT.ENC (n : Nat) : Fld := ⟨(0x10 + 8 * n + 3) * 0x1000 + 0x044, 1, 1, 0, 0, .ro⟩
def WLT_LINK_STAT.ADMITTED (n : Nat) : Fld := ⟨(0x10 + 8 * n + 3) * 0x1000 + 0x044, 0, 1, 0, 0, .ro⟩
def WLT_LINK_STAT.all (n : Nat) : List Fld := [WLT_LINK_STAT.DOWN_REASON n, WLT_LINK_STAT.MAJOR n, WLT_LINK_STAT.MINOR n, WLT_LINK_STAT.FEATURES n, WLT_LINK_STAT.WIDTH_TX n, WLT_LINK_STAT.WIDTH_RX n, WLT_LINK_STAT.FACING_MISMATCH n, WLT_LINK_STAT.HELD n, WLT_LINK_STAT.ENC n, WLT_LINK_STAT.ADMITTED n]

-- WLT_PARTNER_IDENT (R113)
def WLT_PARTNER_IDENT.IDENT (n i : Nat) : Fld := ⟨(0x10 + 8 * n + 3) * 0x1000 + 0x048 + 0x4 * i, 0, 32, 0, 0, .ro⟩
def WLT_PARTNER_IDENT.all (n i : Nat) : List Fld := [WLT_PARTNER_IDENT.IDENT n i]

-- WLT_LANE_HEALTH (R120)
def WLT_LANE_HEALTH.LANE_PARKED (n : Nat) : Fld := ⟨(0x10 + 8 * n + 3) * 0x1000 + 0x058, 0, 4, 0, 0, .ro⟩
def WLT_LANE_HEALTH.all (n : Nat) : List Fld := [WLT_LANE_HEALTH.LANE_PARKED n]

-- WLT_REPLAY_STAT (R100)
def WLT_REPLAY_STAT.STORED (n : Nat) : Fld := ⟨(0x10 + 8 * n + 4) * 0x1000 + 0x040, 23, 9, 0, 0, .ro⟩
def WLT_REPLAY_STAT.RPL_ID (n : Nat) : Fld := ⟨(0x10 + 8 * n + 4) * 0x1000 + 0x040, 21, 2, 0, 0, .ro⟩
def WLT_REPLAY_STAT.REPLAYS (n : Nat) : Fld := ⟨(0x10 + 8 * n + 4) * 0x1000 + 0x040, 0, 16, 0, 0, .ro⟩
def WLT_REPLAY_STAT.all (n : Nat) : List Fld := [WLT_REPLAY_STAT.STORED n, WLT_REPLAY_STAT.RPL_ID n, WLT_REPLAY_STAT.REPLAYS n]

-- WLT_FLIGHT_ERR (R93)
def WLT_FLIGHT_ERR.CRC_FAIL (n : Nat) : Fld := ⟨(0x10 + 8 * n + 4) * 0x1000 + 0x044, 16, 16, 0, 0, .ro⟩
def WLT_FLIGHT_ERR.HDR_FAIL (n : Nat) : Fld := ⟨(0x10 + 8 * n + 4) * 0x1000 + 0x044, 8, 8, 0, 0, .ro⟩
def WLT_FLIGHT_ERR.CRED_ERR (n : Nat) : Fld := ⟨(0x10 + 8 * n + 4) * 0x1000 + 0x044, 0, 8, 0, 0, .ro⟩
def WLT_FLIGHT_ERR.all (n : Nat) : List Fld := [WLT_FLIGHT_ERR.CRC_FAIL n, WLT_FLIGHT_ERR.HDR_FAIL n, WLT_FLIGHT_ERR.CRED_ERR n]

-- WLT_CRED_AVAIL (R103)
def WLT_CRED_AVAIL.HI (n i : Nat) : Fld := ⟨(0x10 + 8 * n + 4) * 0x1000 + 0x048 + 0x4 * i, 16, 16, 0, 0, .ro⟩
def WLT_CRED_AVAIL.LO (n i : Nat) : Fld := ⟨(0x10 + 8 * n + 4) * 0x1000 + 0x048 + 0x4 * i, 0, 16, 0, 0, .ro⟩
def WLT_CRED_AVAIL.all (n i : Nat) : List Fld := [WLT_CRED_AVAIL.HI n i, WLT_CRED_AVAIL.LO n i]

-- WLT_ENC_CTRL (R127)
def WLT_ENC_CTRL.ENC_EN (n : Nat) : Fld := ⟨(0x10 + 8 * n + 5) * 0x1000 + 0x040, 0, 1, 0, 0, .rwl⟩
def WLT_ENC_CTRL.all (n : Nat) : List Fld := [WLT_ENC_CTRL.ENC_EN n]

-- WLT_ENC_STAT (R127)
def WLT_ENC_STAT.TAG_FAIL (n : Nat) : Fld := ⟨(0x10 + 8 * n + 5) * 0x1000 + 0x044, 16, 16, 0, 0, .ro⟩
def WLT_ENC_STAT.KX_STATE (n : Nat) : Fld := ⟨(0x10 + 8 * n + 5) * 0x1000 + 0x044, 1, 2, 0, 0, .ro⟩
def WLT_ENC_STAT.MANDATORY (n : Nat) : Fld := ⟨(0x10 + 8 * n + 5) * 0x1000 + 0x044, 0, 1, 0, 0, .fx⟩
def WLT_ENC_STAT.all (n : Nat) : List Fld := [WLT_ENC_STAT.TAG_FAIL n, WLT_ENC_STAT.KX_STATE n, WLT_ENC_STAT.MANDATORY n]

-- WLT_POISON_CNT (R106)
def WLT_POISON_CNT.TX_LISTED (n : Nat) : Fld := ⟨(0x10 + 8 * n + 6) * 0x1000 + 0x040, 16, 16, 0, 0, .ro⟩
def WLT_POISON_CNT.RX_POISONED (n : Nat) : Fld := ⟨(0x10 + 8 * n + 6) * 0x1000 + 0x040, 0, 16, 0, 0, .ro⟩
def WLT_POISON_CNT.all (n : Nat) : List Fld := [WLT_POISON_CNT.TX_LISTED n, WLT_POISON_CNT.RX_POISONED n]

-- WLT_PARTNER_CAP (R113)
def WLT_PARTNER_CAP.DATA (n i : Nat) : Fld := ⟨(0x10 + 8 * n + 7) * 0x1000 + 0x040 + 0x4 * i, 0, 32, 0, 0, .ro⟩
def WLT_PARTNER_CAP.all (n i : Nat) : List Fld := [WLT_PARTNER_CAP.DATA n i]

end Sys2Proof.Machine
end

