-- ==== Sys2Proof/Machine/RegMapB.lean ====
section
/-!
DEFINITION. Sys2Proof/Machine/RegMapB.lean: the register fields of LST, FE, WHL, WHLw, PCIE, ETH, PTP.
One definition per field, at its window offset (R4), with its place in the word, its value after power-on in a spoke and
in a Root (R9, Tables 18.2 to 18.10) and its access type (R7). `X.all` lists the fields of register X.
-/
namespace Sys2Proof.Machine

/-- Power-on partition sizes of Table 18.5 in KiB, m = 8 × attachment + 4 × direction + class (R150). -/
def partReset (m : Nat) : Nat :=
  if m < 32 then
    if m % 8 < 4 then [0x20, 0x80, 0x100, 0x100].getD (m % 4) 0 else [0x20, 0x40, 0x80, 0x80].getD (m % 4) 0
  else [0x10, 0x40, 0x70, 0x40].getD (m % 4) 0

-- LST_BUF_PLAN (R165)
def LST_BUF_PLAN.LATCHED : Fld := ⟨0x30 * 0x1000 + 0x040, 1, 1, 0, 0, .ro⟩
def LST_BUF_PLAN.PLAN : Fld := ⟨0x30 * 0x1000 + 0x040, 0, 1, 1, 1, .rwl⟩
def LST_BUF_PLAN.all : List Fld := [LST_BUF_PLAN.LATCHED, LST_BUF_PLAN.PLAN]

-- LST_CTX_CMD (R144)
def LST_CTX_CMD.OP : Fld := ⟨0x30 * 0x1000 + 0x044, 24, 4, 0, 0, .wo⟩
def LST_CTX_CMD.ENGINE : Fld := ⟨0x30 * 0x1000 + 0x044, 16, 4, 0, 0, .wo⟩
def LST_CTX_CMD.INDEX : Fld := ⟨0x30 * 0x1000 + 0x044, 0, 11, 0, 0, .wo⟩
def LST_CTX_CMD.all : List Fld := [LST_CTX_CMD.OP, LST_CTX_CMD.ENGINE, LST_CTX_CMD.INDEX]

-- LST_CTX_STAT (R144)
def LST_CTX_STAT.BUSY : Fld := ⟨0x30 * 0x1000 + 0x048, 31, 1, 0, 0, .ro⟩
def LST_CTX_STAT.CTX_BUSY : Fld := ⟨0x30 * 0x1000 + 0x048, 30, 1, 0, 0, .ro⟩
def LST_CTX_STAT.STATUS : Fld := ⟨0x30 * 0x1000 + 0x048, 16, 8, 0, 0, .ro⟩
def LST_CTX_STAT.LOST : Fld := ⟨0x30 * 0x1000 + 0x048, 12, 4, 0, 0, .ro⟩
def LST_CTX_STAT.INDEX : Fld := ⟨0x30 * 0x1000 + 0x048, 0, 11, 0, 0, .ro⟩
def LST_CTX_STAT.all : List Fld := [LST_CTX_STAT.BUSY, LST_CTX_STAT.CTX_BUSY, LST_CTX_STAT.STATUS, LST_CTX_STAT.LOST, LST_CTX_STAT.INDEX]

-- LST_ENGINES (R214)
def LST_ENGINES.FENCED : Fld := ⟨0x30 * 0x1000 + 0x04C, 0, 16, 0, 0, .ro⟩
def LST_ENGINES.all : List Fld := [LST_ENGINES.FENCED]

-- LST_DISCARD (R141)
def LST_DISCARD.MISROUTE : Fld := ⟨0x30 * 0x1000 + 0x050, 16, 16, 0, 0, .ro⟩
def LST_DISCARD.NO_CTX : Fld := ⟨0x30 * 0x1000 + 0x050, 0, 16, 0, 0, .ro⟩
def LST_DISCARD.all : List Fld := [LST_DISCARD.MISROUTE, LST_DISCARD.NO_CTX]

-- LST_CT_CTRL (R154)
def LST_CT_CTRL.CT_OFF : Fld := ⟨0x30 * 0x1000 + 0x054, 0, 4, 0, 0, .rw⟩
def LST_CT_CTRL.all : List Fld := [LST_CT_CTRL.CT_OFF]

-- LST_FLOW_TORN (R148)
def LST_FLOW_TORN.COUNT : Fld := ⟨0x30 * 0x1000 + 0x058, 4, 12, 0, 0, .ro⟩
def LST_FLOW_TORN.ALL : Fld := ⟨0x30 * 0x1000 + 0x058, 3, 1, 0, 0, .ro⟩
def LST_FLOW_TORN.ATT : Fld := ⟨0x30 * 0x1000 + 0x058, 0, 3, 0, 0, .ro⟩
def LST_FLOW_TORN.all : List Fld := [LST_FLOW_TORN.COUNT, LST_FLOW_TORN.ALL, LST_FLOW_TORN.ATT]

-- LST_ECC_CB (R198)
def LST_ECC_CB.CORR : Fld := ⟨0x30 * 0x1000 + 0x060, 16, 16, 0, 0, .ro⟩
def LST_ECC_CB.UNCORR : Fld := ⟨0x30 * 0x1000 + 0x060, 0, 16, 0, 0, .ro⟩
def LST_ECC_CB.all : List Fld := [LST_ECC_CB.CORR, LST_ECC_CB.UNCORR]

-- LST_ECC_TBL (R199)
def LST_ECC_TBL.CORR : Fld := ⟨0x30 * 0x1000 + 0x064, 16, 16, 0, 0, .ro⟩
def LST_ECC_TBL.UNCORR : Fld := ⟨0x30 * 0x1000 + 0x064, 0, 16, 0, 0, .ro⟩
def LST_ECC_TBL.all : List Fld := [LST_ECC_TBL.CORR, LST_ECC_TBL.UNCORR]

-- LST_PARITY (R195)
def LST_PARITY.INGRESS : Fld := ⟨0x30 * 0x1000 + 0x068, 16, 16, 0, 0, .ro⟩
def LST_PARITY.EGRESS : Fld := ⟨0x30 * 0x1000 + 0x068, 0, 16, 0, 0, .ro⟩
def LST_PARITY.all : List Fld := [LST_PARITY.INGRESS, LST_PARITY.EGRESS]

-- LST_END_DISCARD (R209)
def LST_END_DISCARD.POISONED : Fld := ⟨0x30 * 0x1000 + 0x06C, 16, 16, 0, 0, .ro⟩
def LST_END_DISCARD.SEAL_FAIL : Fld := ⟨0x30 * 0x1000 + 0x06C, 0, 16, 0, 0, .ro⟩
def LST_END_DISCARD.all : List Fld := [LST_END_DISCARD.POISONED, LST_END_DISCARD.SEAL_FAIL]

-- LST_REHOME (R215)
def LST_REHOME.LAST_CTX : Fld := ⟨0x30 * 0x1000 + 0x070, 16, 11, 0, 0, .ro⟩
def LST_REHOME.NO_ROOM : Fld := ⟨0x30 * 0x1000 + 0x070, 8, 8, 0, 0, .ro⟩
def LST_REHOME.MOVED : Fld := ⟨0x30 * 0x1000 + 0x070, 0, 8, 0, 0, .ro⟩
def LST_REHOME.all : List Fld := [LST_REHOME.LAST_CTX, LST_REHOME.NO_ROOM, LST_REHOME.MOVED]

-- LST_ERR_HEAD (R202)
def LST_ERR_HEAD.TOTAL : Fld := ⟨0x30 * 0x1000 + 0x078, 16, 16, 0, 0, .ro⟩
def LST_ERR_HEAD.NEXT : Fld := ⟨0x30 * 0x1000 + 0x078, 0, 4, 0, 0, .ro⟩
def LST_ERR_HEAD.all : List Fld := [LST_ERR_HEAD.TOTAL, LST_ERR_HEAD.NEXT]

-- LST_ERR_LOG0 (R202)
def LST_ERR_LOG0.CAUSE (e : Nat) : Fld := ⟨(0x30) * 0x1000 + 0x080 + 0x8 * e, 0, 8, 0, 0, .ro⟩
def LST_ERR_LOG0.UNIT (e : Nat) : Fld := ⟨(0x30) * 0x1000 + 0x080 + 0x8 * e, 8, 8, 0, 0, .ro⟩
def LST_ERR_LOG0.INDEX (e : Nat) : Fld := ⟨(0x30) * 0x1000 + 0x080 + 0x8 * e, 16, 11, 0, 0, .ro⟩
def LST_ERR_LOG0.all (e : Nat) : List Fld := [LST_ERR_LOG0.CAUSE e, LST_ERR_LOG0.UNIT e, LST_ERR_LOG0.INDEX e]

-- LST_ERR_LOG1 (R202)
def LST_ERR_LOG1.TIME (e : Nat) : Fld := ⟨(0x30) * 0x1000 + 0x084 + 0x8 * e, 0, 32, 0, 0, .ro⟩
def LST_ERR_LOG1.all (e : Nat) : List Fld := [LST_ERR_LOG1.TIME e]

-- LST_PART (R166)
def LST_PART.KIB (m : Nat) : Fld := ⟨(0x31) * 0x1000 + 0x040 + 0x4 * m, 0, 16, (partReset m), (partReset m), .rwl⟩
def LST_PART.all (m : Nat) : List Fld := [LST_PART.KIB m]

-- LST_PART_CTRL (R166)
def LST_PART_CTRL.FREE_KIB : Fld := ⟨0x31 * 0x1000 + 0x140, 16, 16, 0, 0, .ro⟩
def LST_PART_CTRL.PART_ERR : Fld := ⟨0x31 * 0x1000 + 0x140, 1, 1, 0, 0, .ro⟩
def LST_PART_CTRL.APPLY : Fld := ⟨0x31 * 0x1000 + 0x140, 0, 1, 0, 0, .wo⟩
def LST_PART_CTRL.all : List Fld := [LST_PART_CTRL.FREE_KIB, LST_PART_CTRL.PART_ERR, LST_PART_CTRL.APPLY]

-- FE_CTRL (R214)
def FE_CTRL.FENCE (n : Nat) : Fld := ⟨(0x40 + n) * 0x1000 + 0x040, 0, 1, 0, 0, .wo⟩
def FE_CTRL.all (n : Nat) : List Fld := [FE_CTRL.FENCE n]

-- FE_STAT (R214)
def FE_STAT.FENCED (n : Nat) : Fld := ⟨(0x40 + n) * 0x1000 + 0x044, 31, 1, 0, 0, .ro⟩
def FE_STAT.CAUSE (n : Nat) : Fld := ⟨(0x40 + n) * 0x1000 + 0x044, 28, 3, 0, 0, .ro⟩
def FE_STAT.HOMED (n : Nat) : Fld := ⟨(0x40 + n) * 0x1000 + 0x044, 0, 8, 0, 0, .ro⟩
def FE_STAT.all (n : Nat) : List Fld := [FE_STAT.FENCED n, FE_STAT.CAUSE n, FE_STAT.HOMED n]

-- FE_LOAD (R152)
def FE_LOAD.SLOTS (n : Nat) : Fld := ⟨(0x40 + n) * 0x1000 + 0x048, 0, 18, 0, 0, .ro⟩
def FE_LOAD.all (n : Nat) : List Fld := [FE_LOAD.SLOTS n]

-- FE_FENCE_TIME (R214)
def FE_FENCE_TIME.TIME (n : Nat) : Fld := ⟨(0x40 + n) * 0x1000 + 0x04C, 0, 32, 0, 0, .ro⟩
def FE_FENCE_TIME.all (n : Nat) : List Fld := [FE_FENCE_TIME.TIME n]

-- FE_FENCE_LOSS (R214)
def FE_FENCE_LOSS.PACKETS (n : Nat) : Fld := ⟨(0x40 + n) * 0x1000 + 0x050, 8, 8, 0, 0, .ro⟩
def FE_FENCE_LOSS.SLOTS (n : Nat) : Fld := ⟨(0x40 + n) * 0x1000 + 0x050, 0, 7, 0, 0, .ro⟩
def FE_FENCE_LOSS.all (n : Nat) : List Fld := [FE_FENCE_LOSS.PACKETS n, FE_FENCE_LOSS.SLOTS n]

-- WHL_COMMIT (R182)
def WHL_COMMIT.OP : Fld := ⟨0x50 * 0x1000 + 0x040, 24, 4, 0, 0, .wo⟩
def WHL_COMMIT.TAG : Fld := ⟨0x50 * 0x1000 + 0x040, 16, 8, 0, 0, .wo⟩
def WHL_COMMIT.WHEELS : Fld := ⟨0x50 * 0x1000 + 0x040, 0, 8, 0, 0, .wo⟩
def WHL_COMMIT.all : List Fld := [WHL_COMMIT.OP, WHL_COMMIT.TAG, WHL_COMMIT.WHEELS]

-- WHL_COMMIT_EPOCH (R182)
def WHL_COMMIT_EPOCH.EPOCH : Fld := ⟨0x50 * 0x1000 + 0x044, 0, 32, 0, 0, .rw⟩
def WHL_COMMIT_EPOCH.all : List Fld := [WHL_COMMIT_EPOCH.EPOCH]

-- WHL_STAT (R184)
def WHL_STAT.SHADOW_DROPS : Fld := ⟨0x50 * 0x1000 + 0x048, 16, 8, 0, 0, .ro⟩
def WHL_STAT.AT : Fld := ⟨0x50 * 0x1000 + 0x048, 8, 1, 0, 0, .ro⟩
def WHL_STAT.STAGED : Fld := ⟨0x50 * 0x1000 + 0x048, 0, 8, 0, 0, .ro⟩
def WHL_STAT.all : List Fld := [WHL_STAT.SHADOW_DROPS, WHL_STAT.AT, WHL_STAT.STAGED]

-- WHL_STAGED_EPOCH (R184)
def WHL_STAGED_EPOCH.EPOCH : Fld := ⟨0x50 * 0x1000 + 0x04C, 0, 32, 0, 0, .ro⟩
def WHL_STAGED_EPOCH.all : List Fld := [WHL_STAGED_EPOCH.EPOCH]

-- WHL_EPOCH (R168)
def WHL_EPOCH.EPOCH : Fld := ⟨0x50 * 0x1000 + 0x050, 0, 32, 0, 0, .ro⟩
def WHL_EPOCH.all : List Fld := [WHL_EPOCH.EPOCH]

-- WHL_CTRL (R185)
def WHL_CTRL.BORROW_SHORT : Fld := ⟨0x50 * 0x1000 + 0x054, 16, 5, 8, 8, .rw⟩
def WHL_CTRL.COPY : Fld := ⟨0x50 * 0x1000 + 0x054, 0, 8, 0, 0, .wo⟩
def WHL_CTRL.all : List Fld := [WHL_CTRL.BORROW_SHORT, WHL_CTRL.COPY]

-- WHL_FLOW_EVT (R189)
def WHL_FLOW_EVT.DRAINED_CTX : Fld := ⟨0x50 * 0x1000 + 0x058, 16, 11, 0, 0, .ro⟩
def WHL_FLOW_EVT.OQ_CTX : Fld := ⟨0x50 * 0x1000 + 0x058, 0, 11, 0, 0, .ro⟩
def WHL_FLOW_EVT.all : List Fld := [WHL_FLOW_EVT.DRAINED_CTX, WHL_FLOW_EVT.OQ_CTX]

-- WHL_UNDERFED (R191)
def WHL_UNDERFED.COUNT : Fld := ⟨0x50 * 0x1000 + 0x05C, 16, 16, 0, 0, .ro⟩
def WHL_UNDERFED.LAST_CTX : Fld := ⟨0x50 * 0x1000 + 0x05C, 0, 11, 0, 0, .ro⟩
def WHL_UNDERFED.all : List Fld := [WHL_UNDERFED.COUNT, WHL_UNDERFED.LAST_CTX]

-- WHL_RES0 (R184)
def WHL_RES0.SEQ : Fld := ⟨0x50 * 0x1000 + 0x080, 16, 16, 0, 0, .ro⟩
def WHL_RES0.TAG : Fld := ⟨0x50 * 0x1000 + 0x080, 8, 8, 0, 0, .ro⟩
def WHL_RES0.VALID : Fld := ⟨0x50 * 0x1000 + 0x080, 7, 1, 0, 0, .ro⟩
def WHL_RES0.STATUS : Fld := ⟨0x50 * 0x1000 + 0x080, 0, 7, 0, 0, .ro⟩
def WHL_RES0.all : List Fld := [WHL_RES0.SEQ, WHL_RES0.TAG, WHL_RES0.VALID, WHL_RES0.STATUS]

-- WHL_RES1 (R184)
def WHL_RES1.EPOCH : Fld := ⟨0x50 * 0x1000 + 0x084, 0, 32, 0, 0, .ro⟩
def WHL_RES1.all : List Fld := [WHL_RES1.EPOCH]

-- WHL_RES2 (R184)
def WHL_RES2.WHEEL : Fld := ⟨0x50 * 0x1000 + 0x088, 0, 3, 0, 0, .ro⟩
def WHL_RES2.WHEEL_VALID : Fld := ⟨0x50 * 0x1000 + 0x088, 3, 1, 0, 0, .ro⟩
def WHL_RES2.ENTRY : Fld := ⟨0x50 * 0x1000 + 0x088, 4, 10, 0, 0, .ro⟩
def WHL_RES2.all : List Fld := [WHL_RES2.WHEEL, WHL_RES2.WHEEL_VALID, WHL_RES2.ENTRY]

-- WHL_RES3 (R184)
def WHL_RES3.NEED : Fld := ⟨0x50 * 0x1000 + 0x08C, 0, 16, 0, 0, .ro⟩
def WHL_RES3.BASIS : Fld := ⟨0x50 * 0x1000 + 0x08C, 16, 16, 0, 0, .ro⟩
def WHL_RES3.all : List Fld := [WHL_RES3.NEED, WHL_RES3.BASIS]

-- WHL_RES (R184)
def WHL_RES.DATA (i : Nat) : Fld := ⟨(0x50) * 0x1000 + 0x090 + 0x4 * i, 0, 32, 0, 0, .ro⟩
def WHL_RES.all (i : Nat) : List Fld := [WHL_RES.DATA i]

-- WHLw_SIZE (R168)
def WHLw_SIZE.BASIS (w : Nat) : Fld := ⟨(0x51) * 0x1000 + 0x040 + 0x10 * w, 16, 16, 49600, 49600, .ro⟩
def WHLw_SIZE.P (w : Nat) : Fld := ⟨(0x51) * 0x1000 + 0x040 + 0x10 * w, 0, 16, 0, 0, .ro⟩
def WHLw_SIZE.all (w : Nat) : List Fld := [WHLw_SIZE.BASIS w, WHLw_SIZE.P w]

-- WHLw_RES (R173)
def WHLw_RES.ENTRIES (w : Nat) : Fld := ⟨(0x51) * 0x1000 + 0x044 + 0x10 * w, 16, 10, 0, 0, .ro⟩
def WHLw_RES.RESERVED (w : Nat) : Fld := ⟨(0x51) * 0x1000 + 0x044 + 0x10 * w, 0, 16, 500, 500, .ro⟩
def WHLw_RES.all (w : Nat) : List Fld := [WHLw_RES.ENTRIES w, WHLw_RES.RESERVED w]

-- WHLw_LEND (R177)
def WHLw_LEND.SHORT (w : Nat) : Fld := ⟨(0x51) * 0x1000 + 0x048 + 0x10 * w, 16, 16, 0, 0, .ro⟩
def WHLw_LEND.POOL (w : Nat) : Fld := ⟨(0x51) * 0x1000 + 0x048 + 0x10 * w, 0, 16, 0, 0, .ro⟩
def WHLw_LEND.all (w : Nat) : List Fld := [WHLw_LEND.SHORT w, WHLw_LEND.POOL w]

-- WHLw_POS (R174)
def WHLw_POS.EXPANDING (w : Nat) : Fld := ⟨(0x51) * 0x1000 + 0x04C + 0x10 * w, 17, 1, 0, 0, .ro⟩
def WHLw_POS.UNRESERVED (w : Nat) : Fld := ⟨(0x51) * 0x1000 + 0x04C + 0x10 * w, 16, 1, 0, 0, .ro⟩
def WHLw_POS.POSITION (w : Nat) : Fld := ⟨(0x51) * 0x1000 + 0x04C + 0x10 * w, 0, 16, 0, 0, .ro⟩
def WHLw_POS.all (w : Nat) : List Fld := [WHLw_POS.EXPANDING w, WHLw_POS.UNRESERVED w, WHLw_POS.POSITION w]

-- PCIE_ID (R252)
def PCIE_ID.DEVICE : Fld := ⟨0x60 * 0x1000 + 0x040, 16, 16, 0x9640, 0x9640, .ro⟩
def PCIE_ID.VENDOR : Fld := ⟨0x60 * 0x1000 + 0x040, 0, 16, 0, 0, .fx⟩
def PCIE_ID.all : List Fld := [PCIE_ID.DEVICE, PCIE_ID.VENDOR]

-- PCIE_STAT (R251)
def PCIE_STAT.WIDTH : Fld := ⟨0x60 * 0x1000 + 0x044, 20, 4, 0, 0, .ro⟩
def PCIE_STAT.SPEED : Fld := ⟨0x60 * 0x1000 + 0x044, 16, 4, 0, 0, .ro⟩
def PCIE_STAT.DL_ACTIVE : Fld := ⟨0x60 * 0x1000 + 0x044, 1, 1, 0, 0, .ro⟩
def PCIE_STAT.PERST : Fld := ⟨0x60 * 0x1000 + 0x044, 0, 1, 0, 0, .ro⟩
def PCIE_STAT.all : List Fld := [PCIE_STAT.WIDTH, PCIE_STAT.SPEED, PCIE_STAT.DL_ACTIVE, PCIE_STAT.PERST]

-- PCIE_DROP (R251)
def PCIE_DROP.UR_SENT : Fld := ⟨0x60 * 0x1000 + 0x048, 16, 16, 0, 0, .ro⟩
def PCIE_DROP.DISCARDED : Fld := ⟨0x60 * 0x1000 + 0x048, 0, 16, 0, 0, .ro⟩
def PCIE_DROP.all : List Fld := [PCIE_DROP.UR_SENT, PCIE_DROP.DISCARDED]

-- PCIE_ERR (R251)
def PCIE_ERR.CORR : Fld := ⟨0x60 * 0x1000 + 0x04C, 16, 16, 0, 0, .ro⟩
def PCIE_ERR.UNCORR : Fld := ⟨0x60 * 0x1000 + 0x04C, 0, 16, 0, 0, .ro⟩
def PCIE_ERR.all : List Fld := [PCIE_ERR.CORR, PCIE_ERR.UNCORR]

-- PCIE_VDP (R256)
def PCIE_VDP.BIND (v : Nat) : Fld := ⟨(0x61) * 0x1000 + 0x040 + 0x4 * v, 31, 1, 0, 0, .rw⟩
def PCIE_VDP.GROUP (v : Nat) : Fld := ⟨(0x61) * 0x1000 + 0x040 + 0x4 * v, 30, 1, 0, 0, .rw⟩
def PCIE_VDP.GROUP_ACTIVE (v : Nat) : Fld := ⟨(0x61) * 0x1000 + 0x040 + 0x4 * v, 29, 1, 0, 0, .ro⟩
def PCIE_VDP.PRESENT (v : Nat) : Fld := ⟨(0x61) * 0x1000 + 0x040 + 0x4 * v, 28, 1, 0, 0, .ro⟩
def PCIE_VDP.FWD_CTX (v : Nat) : Fld := ⟨(0x61) * 0x1000 + 0x040 + 0x4 * v, 0, 11, 0, 0, .rw⟩
def PCIE_VDP.all (v : Nat) : List Fld := [PCIE_VDP.BIND v, PCIE_VDP.GROUP v, PCIE_VDP.GROUP_ACTIVE v, PCIE_VDP.PRESENT v, PCIE_VDP.FWD_CTX v]

-- PCIE_GRP (R256)
def PCIE_GRP.BIND (v g : Nat) : Fld := ⟨(0x62) * 0x1000 + 0x040 + 0x40 * v + 0x4 * g, 31, 1, 0, 0, .rw⟩
def PCIE_GRP.PRESENT (v g : Nat) : Fld := ⟨(0x62) * 0x1000 + 0x040 + 0x40 * v + 0x4 * g, 28, 1, 0, 0, .ro⟩
def PCIE_GRP.FWD_CTX (v g : Nat) : Fld := ⟨(0x62) * 0x1000 + 0x040 + 0x40 * v + 0x4 * g, 0, 11, 0, 0, .rw⟩
def PCIE_GRP.all (v g : Nat) : List Fld := [PCIE_GRP.BIND v g, PCIE_GRP.PRESENT v g, PCIE_GRP.FWD_CTX v g]

-- PCIE_RP_CTRL (R258)
def PCIE_RP_CTRL.HOT_RESET (n : Nat) : Fld := ⟨(0x63) * 0x1000 + 0x040 + 0x20 * n, 4, 1, 0, 0, .wo⟩
def PCIE_RP_CTRL.MAX_SPEED (n : Nat) : Fld := ⟨(0x63) * 0x1000 + 0x040 + 0x20 * n, 2, 2, 3, 3, .rw⟩
def PCIE_RP_CTRL.LINK_DIS (n : Nat) : Fld := ⟨(0x63) * 0x1000 + 0x040 + 0x20 * n, 1, 1, 0, 0, .rw⟩
def PCIE_RP_CTRL.PERST (n : Nat) : Fld := ⟨(0x63) * 0x1000 + 0x040 + 0x20 * n, 0, 1, 1, 1, .rw⟩
def PCIE_RP_CTRL.all (n : Nat) : List Fld := [PCIE_RP_CTRL.HOT_RESET n, PCIE_RP_CTRL.MAX_SPEED n, PCIE_RP_CTRL.LINK_DIS n, PCIE_RP_CTRL.PERST n]

-- PCIE_RP_STAT (R258)
def PCIE_RP_STAT.WIDTH (n : Nat) : Fld := ⟨(0x63) * 0x1000 + 0x044 + 0x20 * n, 20, 4, 0, 0, .ro⟩
def PCIE_RP_STAT.SPEED (n : Nat) : Fld := ⟨(0x63) * 0x1000 + 0x044 + 0x20 * n, 16, 4, 0, 0, .ro⟩
def PCIE_RP_STAT.DL_ACTIVE (n : Nat) : Fld := ⟨(0x63) * 0x1000 + 0x044 + 0x20 * n, 1, 1, 0, 0, .ro⟩
def PCIE_RP_STAT.PRESENT (n : Nat) : Fld := ⟨(0x63) * 0x1000 + 0x044 + 0x20 * n, 0, 1, 0, 0, .ro⟩
def PCIE_RP_STAT.all (n : Nat) : List Fld := [PCIE_RP_STAT.WIDTH n, PCIE_RP_STAT.SPEED n, PCIE_RP_STAT.DL_ACTIVE n, PCIE_RP_STAT.PRESENT n]

-- PCIE_RP_CTX (R261)
def PCIE_RP_CTX.BIND (n : Nat) : Fld := ⟨(0x63) * 0x1000 + 0x048 + 0x20 * n, 31, 1, 0, 0, .rw⟩
def PCIE_RP_CTX.REV_CTX (n : Nat) : Fld := ⟨(0x63) * 0x1000 + 0x048 + 0x20 * n, 0, 11, 0, 0, .rw⟩
def PCIE_RP_CTX.all (n : Nat) : List Fld := [PCIE_RP_CTX.BIND n, PCIE_RP_CTX.REV_CTX n]

-- ETH_CTRL (R265)
def ETH_CTRL.MAX_FRAME (n : Nat) : Fld := ⟨(0x70 + 4 * n) * 0x1000 + 0x040, 16, 16, 1522, 1522, .rw⟩
def ETH_CTRL.PAUSE_RX (n : Nat) : Fld := ⟨(0x70 + 4 * n) * 0x1000 + 0x040, 9, 1, 1, 1, .rw⟩
def ETH_CTRL.PAUSE_EN (n : Nat) : Fld := ⟨(0x70 + 4 * n) * 0x1000 + 0x040, 8, 1, 0, 0, .rw⟩
def ETH_CTRL.TS_ALL (n : Nat) : Fld := ⟨(0x70 + 4 * n) * 0x1000 + 0x040, 7, 1, 0, 0, .rw⟩
def ETH_CTRL.FWD_BAD (n : Nat) : Fld := ⟨(0x70 + 4 * n) * 0x1000 + 0x040, 6, 1, 0, 0, .rw⟩
def ETH_CTRL.AN (n : Nat) : Fld := ⟨(0x70 + 4 * n) * 0x1000 + 0x040, 5, 1, 1, 1, .rw⟩
def ETH_CTRL.FEC (n : Nat) : Fld := ⟨(0x70 + 4 * n) * 0x1000 + 0x040, 3, 2, 0, 0, .rw⟩
def ETH_CTRL.MODE (n : Nat) : Fld := ⟨(0x70 + 4 * n) * 0x1000 + 0x040, 0, 3, 0, 0, .rw⟩
def ETH_CTRL.all (n : Nat) : List Fld := [ETH_CTRL.MAX_FRAME n, ETH_CTRL.PAUSE_RX n, ETH_CTRL.PAUSE_EN n, ETH_CTRL.TS_ALL n, ETH_CTRL.FWD_BAD n, ETH_CTRL.AN n, ETH_CTRL.FEC n, ETH_CTRL.MODE n]

-- ETH_STAT (R265)
def ETH_STAT.PAUSED (n : Nat) : Fld := ⟨(0x70 + 4 * n) * 0x1000 + 0x044, 8, 1, 0, 0, .ro⟩
def ETH_STAT.LOCAL_FAULT (n : Nat) : Fld := ⟨(0x70 + 4 * n) * 0x1000 + 0x044, 7, 1, 0, 0, .ro⟩
def ETH_STAT.REMOTE_FAULT (n : Nat) : Fld := ⟨(0x70 + 4 * n) * 0x1000 + 0x044, 6, 1, 0, 0, .ro⟩
def ETH_STAT.SGMII_SPEED (n : Nat) : Fld := ⟨(0x70 + 4 * n) * 0x1000 + 0x044, 4, 2, 0, 0, .ro⟩
def ETH_STAT.AN_DONE (n : Nat) : Fld := ⟨(0x70 + 4 * n) * 0x1000 + 0x044, 1, 1, 0, 0, .ro⟩
def ETH_STAT.LINK_UP (n : Nat) : Fld := ⟨(0x70 + 4 * n) * 0x1000 + 0x044, 0, 1, 0, 0, .ro⟩
def ETH_STAT.all (n : Nat) : List Fld := [ETH_STAT.PAUSED n, ETH_STAT.LOCAL_FAULT n, ETH_STAT.REMOTE_FAULT n, ETH_STAT.SGMII_SPEED n, ETH_STAT.AN_DONE n, ETH_STAT.LINK_UP n]

-- ETH_DEFAULT (R268)
def ETH_DEFAULT.VALID (n : Nat) : Fld := ⟨(0x70 + 4 * n) * 0x1000 + 0x048, 31, 1, 0, 0, .rw⟩
def ETH_DEFAULT.TS (n : Nat) : Fld := ⟨(0x70 + 4 * n) * 0x1000 + 0x048, 30, 1, 0, 0, .rw⟩
def ETH_DEFAULT.CTX (n : Nat) : Fld := ⟨(0x70 + 4 * n) * 0x1000 + 0x048, 0, 11, 0, 0, .rw⟩
def ETH_DEFAULT.all (n : Nat) : List Fld := [ETH_DEFAULT.VALID n, ETH_DEFAULT.TS n, ETH_DEFAULT.CTX n]

-- ETH_DROP0 (R267)
def ETH_DROP0.FCS_BAD (n : Nat) : Fld := ⟨(0x70 + 4 * n) * 0x1000 + 0x04C, 16, 16, 0, 0, .ro⟩
def ETH_DROP0.LENGTH (n : Nat) : Fld := ⟨(0x70 + 4 * n) * 0x1000 + 0x04C, 0, 16, 0, 0, .ro⟩
def ETH_DROP0.all (n : Nat) : List Fld := [ETH_DROP0.FCS_BAD n, ETH_DROP0.LENGTH n]

-- ETH_DROP1 (R268)
def ETH_DROP1.MISS (n : Nat) : Fld := ⟨(0x70 + 4 * n) * 0x1000 + 0x050, 16, 16, 0, 0, .ro⟩
def ETH_DROP1.NO_FLOW (n : Nat) : Fld := ⟨(0x70 + 4 * n) * 0x1000 + 0x050, 0, 16, 0, 0, .ro⟩
def ETH_DROP1.all (n : Nat) : List Fld := [ETH_DROP1.MISS n, ETH_DROP1.NO_FLOW n]

-- ETH_PAUSE (R271)
def ETH_PAUSE.QUANTA (n : Nat) : Fld := ⟨(0x70 + 4 * n) * 0x1000 + 0x054, 16, 16, 65535, 65535, .rw⟩
def ETH_PAUSE.XOFF_KIB (n : Nat) : Fld := ⟨(0x70 + 4 * n) * 0x1000 + 0x054, 8, 8, 192, 192, .rw⟩
def ETH_PAUSE.XON_KIB (n : Nat) : Fld := ⟨(0x70 + 4 * n) * 0x1000 + 0x054, 0, 8, 128, 128, .rw⟩
def ETH_PAUSE.all (n : Nat) : List Fld := [ETH_PAUSE.QUANTA n, ETH_PAUSE.XOFF_KIB n, ETH_PAUSE.XON_KIB n]

-- ETH_TS_ADJ (R272)
def ETH_TS_ADJ.RX (n : Nat) : Fld := ⟨(0x70 + 4 * n) * 0x1000 + 0x058, 16, 16, 0, 0, .rw⟩
def ETH_TS_ADJ.TX (n : Nat) : Fld := ⟨(0x70 + 4 * n) * 0x1000 + 0x058, 0, 16, 0, 0, .rw⟩
def ETH_TS_ADJ.all (n : Nat) : List Fld := [ETH_TS_ADJ.RX n, ETH_TS_ADJ.TX n]

-- ETH_VTAG (R269)
def ETH_VTAG.TPID (n t : Nat) : Fld := ⟨(0x71 + 4 * n) * 0x1000 + 0x040 + 0x4 * t, 16, 16, 33024, 33024, .rw⟩
def ETH_VTAG.PCP (n t : Nat) : Fld := ⟨(0x71 + 4 * n) * 0x1000 + 0x040 + 0x4 * t, 13, 3, 0, 0, .rw⟩
def ETH_VTAG.DEI (n t : Nat) : Fld := ⟨(0x71 + 4 * n) * 0x1000 + 0x040 + 0x4 * t, 12, 1, 0, 0, .rw⟩
def ETH_VTAG.VID (n t : Nat) : Fld := ⟨(0x71 + 4 * n) * 0x1000 + 0x040 + 0x4 * t, 0, 12, 0, 0, .rw⟩
def ETH_VTAG.all (n t : Nat) : List Fld := [ETH_VTAG.TPID n t, ETH_VTAG.PCP n t, ETH_VTAG.DEI n t, ETH_VTAG.VID n t]

-- ETH_CLS0 (R268)
def ETH_CLS0.VALID (n i : Nat) : Fld := ⟨(0x71 + 4 * n) * 0x1000 + 0x100 + 0x10 * i, 31, 1, 0, 0, .rw⟩
def ETH_CLS0.TS (n i : Nat) : Fld := ⟨(0x71 + 4 * n) * 0x1000 + 0x100 + 0x10 * i, 30, 1, 0, 0, .rw⟩
def ETH_CLS0.M_VID (n i : Nat) : Fld := ⟨(0x71 + 4 * n) * 0x1000 + 0x100 + 0x10 * i, 29, 1, 0, 0, .rw⟩
def ETH_CLS0.M_PCP (n i : Nat) : Fld := ⟨(0x71 + 4 * n) * 0x1000 + 0x100 + 0x10 * i, 28, 1, 0, 0, .rw⟩
def ETH_CLS0.M_ETYPE (n i : Nat) : Fld := ⟨(0x71 + 4 * n) * 0x1000 + 0x100 + 0x10 * i, 27, 1, 0, 0, .rw⟩
def ETH_CLS0.UNTAGGED (n i : Nat) : Fld := ⟨(0x71 + 4 * n) * 0x1000 + 0x100 + 0x10 * i, 26, 1, 0, 0, .rw⟩
def ETH_CLS0.MAC_LEN (n i : Nat) : Fld := ⟨(0x71 + 4 * n) * 0x1000 + 0x100 + 0x10 * i, 20, 6, 0, 0, .rw⟩
def ETH_CLS0.CTX (n i : Nat) : Fld := ⟨(0x71 + 4 * n) * 0x1000 + 0x100 + 0x10 * i, 0, 11, 0, 0, .rw⟩
def ETH_CLS0.all (n i : Nat) : List Fld := [ETH_CLS0.VALID n i, ETH_CLS0.TS n i, ETH_CLS0.M_VID n i, ETH_CLS0.M_PCP n i, ETH_CLS0.M_ETYPE n i, ETH_CLS0.UNTAGGED n i, ETH_CLS0.MAC_LEN n i, ETH_CLS0.CTX n i]

-- ETH_CLS1 (R268)
def ETH_CLS1.ETYPE (n i : Nat) : Fld := ⟨(0x71 + 4 * n) * 0x1000 + 0x104 + 0x10 * i, 16, 16, 0, 0, .rw⟩
def ETH_CLS1.PCP (n i : Nat) : Fld := ⟨(0x71 + 4 * n) * 0x1000 + 0x104 + 0x10 * i, 13, 3, 0, 0, .rw⟩
def ETH_CLS1.VID (n i : Nat) : Fld := ⟨(0x71 + 4 * n) * 0x1000 + 0x104 + 0x10 * i, 0, 12, 0, 0, .rw⟩
def ETH_CLS1.all (n i : Nat) : List Fld := [ETH_CLS1.ETYPE n i, ETH_CLS1.PCP n i, ETH_CLS1.VID n i]

-- ETH_CLS2 (R268)
def ETH_CLS2.MAC_LO (n i : Nat) : Fld := ⟨(0x71 + 4 * n) * 0x1000 + 0x108 + 0x10 * i, 0, 32, 0, 0, .rw⟩
def ETH_CLS2.all (n i : Nat) : List Fld := [ETH_CLS2.MAC_LO n i]

-- ETH_CLS3 (R268)
def ETH_CLS3.MAC_HI (n i : Nat) : Fld := ⟨(0x71 + 4 * n) * 0x1000 + 0x10C + 0x10 * i, 0, 16, 0, 0, .rw⟩
def ETH_CLS3.all (n i : Nat) : List Fld := [ETH_CLS3.MAC_HI n i]

-- PTP_CTRL (R276)
def PTP_CTRL.RX_RING : Fld := ⟨0x78 * 0x1000 + 0x040, 2, 1, 1, 1, .rw⟩
def PTP_CTRL.UDP_EN : Fld := ⟨0x78 * 0x1000 + 0x040, 1, 1, 1, 1, .rw⟩
def PTP_CTRL.L2_EN : Fld := ⟨0x78 * 0x1000 + 0x040, 0, 1, 1, 1, .rw⟩
def PTP_CTRL.all : List Fld := [PTP_CTRL.RX_RING, PTP_CTRL.UDP_EN, PTP_CTRL.L2_EN]

-- PTP_ANCHOR_EPOCH (R274)
def PTP_ANCHOR_EPOCH.EPOCH : Fld := ⟨0x78 * 0x1000 + 0x044, 0, 32, 0, 0, .rw⟩
def PTP_ANCHOR_EPOCH.all : List Fld := [PTP_ANCHOR_EPOCH.EPOCH]

-- PTP_ANCHOR_NS (R274)
def PTP_ANCHOR_NS.NS : Fld := ⟨0x78 * 0x1000 + 0x048, 0, 30, 0, 0, .rw⟩
def PTP_ANCHOR_NS.all : List Fld := [PTP_ANCHOR_NS.NS]

-- PTP_ANCHOR_SEC_LO (R274)
def PTP_ANCHOR_SEC_LO.SEC : Fld := ⟨0x78 * 0x1000 + 0x04C, 0, 32, 0, 0, .rw⟩
def PTP_ANCHOR_SEC_LO.all : List Fld := [PTP_ANCHOR_SEC_LO.SEC]

-- PTP_ANCHOR_SEC_HI (R274)
def PTP_ANCHOR_SEC_HI.SEC : Fld := ⟨0x78 * 0x1000 + 0x050, 0, 16, 0, 0, .rw⟩
def PTP_ANCHOR_SEC_HI.all : List Fld := [PTP_ANCHOR_SEC_HI.SEC]

-- PTP_ADJ (R274)
def PTP_ADJ.ADJ : Fld := ⟨0x78 * 0x1000 + 0x054, 0, 32, 0, 0, .rw⟩
def PTP_ADJ.all : List Fld := [PTP_ADJ.ADJ]

-- PTP_APPLY (R274)
def PTP_APPLY.EPOCH : Fld := ⟨0x78 * 0x1000 + 0x058, 0, 32, 0, 0, .rw⟩
def PTP_APPLY.all : List Fld := [PTP_APPLY.EPOCH]

-- PTP_MAP_CTRL (R274)
def PTP_MAP_CTRL.LATE : Fld := ⟨0x78 * 0x1000 + 0x05C, 2, 1, 0, 0, .ro⟩
def PTP_MAP_CTRL.STAGED : Fld := ⟨0x78 * 0x1000 + 0x05C, 1, 1, 0, 0, .ro⟩
def PTP_MAP_CTRL.GO : Fld := ⟨0x78 * 0x1000 + 0x05C, 0, 1, 0, 0, .wo⟩
def PTP_MAP_CTRL.all : List Fld := [PTP_MAP_CTRL.LATE, PTP_MAP_CTRL.STAGED, PTP_MAP_CTRL.GO]

-- PTP_TS_HEAD (R276)
def PTP_TS_HEAD.HEAD : Fld := ⟨0x78 * 0x1000 + 0x060, 0, 6, 0, 0, .ro⟩
def PTP_TS_HEAD.all : List Fld := [PTP_TS_HEAD.HEAD]

-- PTP_TS_TAIL (R276)
def PTP_TS_TAIL.TAIL : Fld := ⟨0x78 * 0x1000 + 0x064, 0, 6, 0, 0, .rw⟩
def PTP_TS_TAIL.all : List Fld := [PTP_TS_TAIL.TAIL]

-- PTP_TS_LOST (R276)
def PTP_TS_LOST.LOST : Fld := ⟨0x78 * 0x1000 + 0x068, 0, 16, 0, 0, .ro⟩
def PTP_TS_LOST.all : List Fld := [PTP_TS_LOST.LOST]

-- PTP_RING (R276)
def PTP_RING.DATA (e i : Nat) : Fld := ⟨(0x79) * 0x1000 + 0x040 + 0x20 * e + 0x4 * i, 0, 32, 0, 0, .ro⟩
def PTP_RING.all (e i : Nat) : List Fld := [PTP_RING.DATA e i]

end Sys2Proof.Machine
end

