-- ==== Sys2Proof/Machine/RegMapC.lean ====
section
/-!
DEFINITION. Sys2Proof/Machine/RegMapC.lean: the register fields of DSP, FST, CAN, I2C, SPI, UART, GPIO, BRT, SEM.
One definition per field, at its window offset (R4), with its place in the word, its value after power-on in a spoke and
in a Root (R9, Tables 18.2 to 18.10) and its access type (R7). `X.all` lists the fields of register X.
-/
namespace Sys2Proof.Machine

-- DSP_CTRL (R291)
def DSP_CTRL.GENLOCK (h : Nat) : Fld := ⟨(0x80 + 4 * h) * 0x1000 + 0x040, 4, 1, 0, 0, .rw⟩
def DSP_CTRL.BPC (h : Nat) : Fld := ⟨(0x80 + 4 * h) * 0x1000 + 0x040, 3, 1, 1, 1, .rw⟩
def DSP_CTRL.FMT (h : Nat) : Fld := ⟨(0x80 + 4 * h) * 0x1000 + 0x040, 0, 2, 3, 3, .rw⟩
def DSP_CTRL.all (h : Nat) : List Fld := [DSP_CTRL.GENLOCK h, DSP_CTRL.BPC h, DSP_CTRL.FMT h]

-- DSP_HTIMING (R291)
def DSP_HTIMING.HTOTAL (h : Nat) : Fld := ⟨(0x80 + 4 * h) * 0x1000 + 0x044, 16, 13, 2200, 2200, .rw⟩
def DSP_HTIMING.HACTIVE (h : Nat) : Fld := ⟨(0x80 + 4 * h) * 0x1000 + 0x044, 0, 13, 1920, 1920, .rw⟩
def DSP_HTIMING.all (h : Nat) : List Fld := [DSP_HTIMING.HTOTAL h, DSP_HTIMING.HACTIVE h]

-- DSP_HSYNC (R291)
def DSP_HSYNC.HPOL (h : Nat) : Fld := ⟨(0x80 + 4 * h) * 0x1000 + 0x048, 31, 1, 1, 1, .rw⟩
def DSP_HSYNC.HWIDTH (h : Nat) : Fld := ⟨(0x80 + 4 * h) * 0x1000 + 0x048, 16, 13, 44, 44, .rw⟩
def DSP_HSYNC.HSTART (h : Nat) : Fld := ⟨(0x80 + 4 * h) * 0x1000 + 0x048, 0, 13, 2008, 2008, .rw⟩
def DSP_HSYNC.all (h : Nat) : List Fld := [DSP_HSYNC.HPOL h, DSP_HSYNC.HWIDTH h, DSP_HSYNC.HSTART h]

-- DSP_VTIMING (R291)
def DSP_VTIMING.VTOTAL (h : Nat) : Fld := ⟨(0x80 + 4 * h) * 0x1000 + 0x04C, 16, 13, 1125, 1125, .rw⟩
def DSP_VTIMING.VACTIVE (h : Nat) : Fld := ⟨(0x80 + 4 * h) * 0x1000 + 0x04C, 0, 13, 1080, 1080, .rw⟩
def DSP_VTIMING.all (h : Nat) : List Fld := [DSP_VTIMING.VTOTAL h, DSP_VTIMING.VACTIVE h]

-- DSP_VSYNC (R291)
def DSP_VSYNC.VPOL (h : Nat) : Fld := ⟨(0x80 + 4 * h) * 0x1000 + 0x050, 31, 1, 1, 1, .rw⟩
def DSP_VSYNC.VWIDTH (h : Nat) : Fld := ⟨(0x80 + 4 * h) * 0x1000 + 0x050, 16, 13, 5, 5, .rw⟩
def DSP_VSYNC.VSTART (h : Nat) : Fld := ⟨(0x80 + 4 * h) * 0x1000 + 0x050, 0, 13, 1084, 1084, .rw⟩
def DSP_VSYNC.all (h : Nat) : List Fld := [DSP_VSYNC.VPOL h, DSP_VSYNC.VWIDTH h, DSP_VSYNC.VSTART h]

-- DSP_PERIOD (R291)
def DSP_PERIOD.PERIOD_TICKS (h : Nat) : Fld := ⟨(0x80 + 4 * h) * 0x1000 + 0x054, 0, 32, 6666667, 6666667, .rw⟩
def DSP_PERIOD.all (h : Nat) : List Fld := [DSP_PERIOD.PERIOD_TICKS h]

-- DSP_ANCHOR_LO (R294)
def DSP_ANCHOR_LO.ANCHOR (h : Nat) : Fld := ⟨(0x80 + 4 * h) * 0x1000 + 0x058, 0, 32, 0, 0, .rw⟩
def DSP_ANCHOR_LO.all (h : Nat) : List Fld := [DSP_ANCHOR_LO.ANCHOR h]

-- DSP_ANCHOR_HI (R294)
def DSP_ANCHOR_HI.ANCHOR (h : Nat) : Fld := ⟨(0x80 + 4 * h) * 0x1000 + 0x05C, 0, 32, 0, 0, .rw⟩
def DSP_ANCHOR_HI.all (h : Nat) : List Fld := [DSP_ANCHOR_HI.ANCHOR h]

-- DSP_GL (R295)
def DSP_GL.GL_LOCKED (h : Nat) : Fld := ⟨(0x80 + 4 * h) * 0x1000 + 0x060, 31, 1, 0, 0, .ro⟩
def DSP_GL.ERR (h : Nat) : Fld := ⟨(0x80 + 4 * h) * 0x1000 + 0x060, 8, 23, 0, 0, .ro⟩
def DSP_GL.MAX_LINES (h : Nat) : Fld := ⟨(0x80 + 4 * h) * 0x1000 + 0x060, 0, 8, 8, 8, .rw⟩
def DSP_GL.all (h : Nat) : List Fld := [DSP_GL.GL_LOCKED h, DSP_GL.ERR h, DSP_GL.MAX_LINES h]

-- DSP_STAT (R292)
def DSP_STAT.SURF_ERR (h : Nat) : Fld := ⟨(0x80 + 4 * h) * 0x1000 + 0x064, 6, 2, 0, 0, .ro⟩
def DSP_STAT.TIMING_ERR (h : Nat) : Fld := ⟨(0x80 + 4 * h) * 0x1000 + 0x064, 5, 1, 0, 0, .ro⟩
def DSP_STAT.FLIP_PENDING (h : Nat) : Fld := ⟨(0x80 + 4 * h) * 0x1000 + 0x064, 4, 1, 0, 0, .ro⟩
def DSP_STAT.FRONT_PAL (h : Nat) : Fld := ⟨(0x80 + 4 * h) * 0x1000 + 0x064, 3, 1, 0, 0, .ro⟩
def DSP_STAT.FRONT_SURF (h : Nat) : Fld := ⟨(0x80 + 4 * h) * 0x1000 + 0x064, 2, 1, 0, 0, .ro⟩
def DSP_STAT.PIXCLK_LOCKED (h : Nat) : Fld := ⟨(0x80 + 4 * h) * 0x1000 + 0x064, 1, 1, 0, 0, .ro⟩
def DSP_STAT.RUNNING (h : Nat) : Fld := ⟨(0x80 + 4 * h) * 0x1000 + 0x064, 0, 1, 0, 0, .ro⟩
def DSP_STAT.all (h : Nat) : List Fld := [DSP_STAT.SURF_ERR h, DSP_STAT.TIMING_ERR h, DSP_STAT.FLIP_PENDING h, DSP_STAT.FRONT_PAL h, DSP_STAT.FRONT_SURF h, DSP_STAT.PIXCLK_LOCKED h, DSP_STAT.RUNNING h]

-- DSP_FRAME_CNT (R290)
def DSP_FRAME_CNT.COUNT (h : Nat) : Fld := ⟨(0x80 + 4 * h) * 0x1000 + 0x068, 0, 32, 0, 0, .ro⟩
def DSP_FRAME_CNT.all (h : Nat) : List Fld := [DSP_FRAME_CNT.COUNT h]

-- DSP_PARITY (R221)
def DSP_PARITY.FRAMES (h : Nat) : Fld := ⟨(0x80 + 4 * h) * 0x1000 + 0x06C, 16, 16, 0, 0, .ro⟩
def DSP_PARITY.PIXELS (h : Nat) : Fld := ⟨(0x80 + 4 * h) * 0x1000 + 0x06C, 0, 16, 0, 0, .ro⟩
def DSP_PARITY.all (h : Nat) : List Fld := [DSP_PARITY.FRAMES h, DSP_PARITY.PIXELS h]

-- DSP_SURF_BASE (R279)
def DSP_SURF_BASE.SPAN (h s : Nat) : Fld := ⟨(0x81 + 4 * h) * 0x1000 + 0x040 + 0x10 * s, 31, 1, 0, 0, .rw⟩
def DSP_SURF_BASE.PAGE (h s : Nat) : Fld := ⟨(0x81 + 4 * h) * 0x1000 + 0x040 + 0x10 * s, 0, 13, (4096 * h + 2048 * s), (4096 * h + 2048 * s), .rw⟩
def DSP_SURF_BASE.all (h s : Nat) : List Fld := [DSP_SURF_BASE.SPAN h s, DSP_SURF_BASE.PAGE h s]

-- DSP_SURF_STRIDE (R279)
def DSP_SURF_STRIDE.BYTES (h s : Nat) : Fld := ⟨(0x81 + 4 * h) * 0x1000 + 0x044 + 0x10 * s, 0, 16, 1920, 1920, .rw⟩
def DSP_SURF_STRIDE.all (h s : Nat) : List Fld := [DSP_SURF_STRIDE.BYTES h s]

-- DSP_SURF_SIZE (R279)
def DSP_SURF_SIZE.HEIGHT (h s : Nat) : Fld := ⟨(0x81 + 4 * h) * 0x1000 + 0x048 + 0x10 * s, 16, 13, 1080, 1080, .rw⟩
def DSP_SURF_SIZE.WIDTH (h s : Nat) : Fld := ⟨(0x81 + 4 * h) * 0x1000 + 0x048 + 0x10 * s, 0, 13, 1920, 1920, .rw⟩
def DSP_SURF_SIZE.all (h s : Nat) : List Fld := [DSP_SURF_SIZE.HEIGHT h s, DSP_SURF_SIZE.WIDTH h s]

-- DSP_FLIP_TIME_LO (R289)
def DSP_FLIP_TIME_LO.TIME (h : Nat) : Fld := ⟨(0x81 + 4 * h) * 0x1000 + 0x060, 0, 32, 0, 0, .ro⟩
def DSP_FLIP_TIME_LO.all (h : Nat) : List Fld := [DSP_FLIP_TIME_LO.TIME h]

-- DSP_FLIP_TIME_HI (R289)
def DSP_FLIP_TIME_HI.TIME (h : Nat) : Fld := ⟨(0x81 + 4 * h) * 0x1000 + 0x064, 0, 32, 0, 0, .ro⟩
def DSP_FLIP_TIME_HI.all (h : Nat) : List Fld := [DSP_FLIP_TIME_HI.TIME h]

-- DSP_FLIP_INFO (R289)
def DSP_FLIP_INFO.VALID (h : Nat) : Fld := ⟨(0x81 + 4 * h) * 0x1000 + 0x068, 31, 1, 0, 0, .ro⟩
def DSP_FLIP_INFO.FREE (h : Nat) : Fld := ⟨(0x81 + 4 * h) * 0x1000 + 0x068, 30, 1, 0, 0, .ro⟩
def DSP_FLIP_INFO.all (h : Nat) : List Fld := [DSP_FLIP_INFO.VALID h, DSP_FLIP_INFO.FREE h]

-- DSP_FLIP_SEQ (R289)
def DSP_FLIP_SEQ.SEQ (h : Nat) : Fld := ⟨(0x81 + 4 * h) * 0x1000 + 0x06C, 0, 32, 0, 0, .ro⟩
def DSP_FLIP_SEQ.all (h : Nat) : List Fld := [DSP_FLIP_SEQ.SEQ h]

-- DSP_FLIP_CHK (R288)
def DSP_FLIP_CHK.RECEIVED (h : Nat) : Fld := ⟨(0x81 + 4 * h) * 0x1000 + 0x070, 16, 16, 0, 0, .ro⟩
def DSP_FLIP_CHK.EXPECTED (h : Nat) : Fld := ⟨(0x81 + 4 * h) * 0x1000 + 0x070, 0, 16, 0, 0, .ro⟩
def DSP_FLIP_CHK.all (h : Nat) : List Fld := [DSP_FLIP_CHK.RECEIVED h, DSP_FLIP_CHK.EXPECTED h]

-- DSP_FLIP_WH (R288)
def DSP_FLIP_WH.WITHHELD (h : Nat) : Fld := ⟨(0x81 + 4 * h) * 0x1000 + 0x074, 0, 16, 0, 0, .ro⟩
def DSP_FLIP_WH.all (h : Nat) : List Fld := [DSP_FLIP_WH.WITHHELD h]

-- DSP_OP_ERR (R285)
def DSP_OP_ERR.BAD_ARG (h : Nat) : Fld := ⟨(0x81 + 4 * h) * 0x1000 + 0x078, 16, 16, 0, 0, .ro⟩
def DSP_OP_ERR.BAD_HEAD (h : Nat) : Fld := ⟨(0x81 + 4 * h) * 0x1000 + 0x078, 0, 16, 0, 0, .ro⟩
def DSP_OP_ERR.all (h : Nat) : List Fld := [DSP_OP_ERR.BAD_ARG h, DSP_OP_ERR.BAD_HEAD h]

-- DSP_FB_CTRL (R301)
def DSP_FB_CTRL.VALID (h : Nat) : Fld := ⟨(0x82 + 4 * h) * 0x1000 + 0x040, 31, 1, 0, 0, .rw⟩
def DSP_FB_CTRL.LOCAL (h : Nat) : Fld := ⟨(0x82 + 4 * h) * 0x1000 + 0x040, 30, 1, 0, 0, .rw⟩
def DSP_FB_CTRL.HOSTMEM (h : Nat) : Fld := ⟨(0x82 + 4 * h) * 0x1000 + 0x040, 29, 1, 0, 0, .rw⟩
def DSP_FB_CTRL.FORCE (h : Nat) : Fld := ⟨(0x82 + 4 * h) * 0x1000 + 0x040, 28, 1, 0, 0, .rw⟩
def DSP_FB_CTRL.WATERMARK (h : Nat) : Fld := ⟨(0x82 + 4 * h) * 0x1000 + 0x040, 24, 4, 8, 8, .rw⟩
def DSP_FB_CTRL.REQ_CTX (h : Nat) : Fld := ⟨(0x82 + 4 * h) * 0x1000 + 0x040, 0, 11, 0, 0, .rw⟩
def DSP_FB_CTRL.all (h : Nat) : List Fld := [DSP_FB_CTRL.VALID h, DSP_FB_CTRL.LOCAL h, DSP_FB_CTRL.HOSTMEM h, DSP_FB_CTRL.FORCE h, DSP_FB_CTRL.WATERMARK h, DSP_FB_CTRL.REQ_CTX h]

-- DSP_FB_ADDR_LO (R301)
def DSP_FB_ADDR_LO.ADDR (h s : Nat) : Fld := ⟨(0x82 + 4 * h) * 0x1000 + 0x044 + 0x8 * s, 0, 32, 0, 0, .rw⟩
def DSP_FB_ADDR_LO.all (h s : Nat) : List Fld := [DSP_FB_ADDR_LO.ADDR h s]

-- DSP_FB_ADDR_HI (R301)
def DSP_FB_ADDR_HI.ADDR (h s : Nat) : Fld := ⟨(0x82 + 4 * h) * 0x1000 + 0x048 + 0x8 * s, 0, 32, 0, 0, .rw⟩
def DSP_FB_ADDR_HI.all (h s : Nat) : List Fld := [DSP_FB_ADDR_HI.ADDR h s]

-- DSP_FB_STRIDE (R301)
def DSP_FB_STRIDE.BYTES (h : Nat) : Fld := ⟨(0x82 + 4 * h) * 0x1000 + 0x054, 0, 16, 0, 0, .rw⟩
def DSP_FB_STRIDE.all (h : Nat) : List Fld := [DSP_FB_STRIDE.BYTES h]

-- DSP_FB_STAT (R300)
def DSP_FB_STAT.ACTIVE (h : Nat) : Fld := ⟨(0x82 + 4 * h) * 0x1000 + 0x058, 31, 1, 0, 0, .ro⟩
def DSP_FB_STAT.CAUSE (h : Nat) : Fld := ⟨(0x82 + 4 * h) * 0x1000 + 0x058, 28, 3, 0, 0, .ro⟩
def DSP_FB_STAT.URGENT (h : Nat) : Fld := ⟨(0x82 + 4 * h) * 0x1000 + 0x058, 27, 1, 0, 0, .ro⟩
def DSP_FB_STAT.HELD (h : Nat) : Fld := ⟨(0x82 + 4 * h) * 0x1000 + 0x058, 0, 5, 0, 0, .ro⟩
def DSP_FB_STAT.all (h : Nat) : List Fld := [DSP_FB_STAT.ACTIVE h, DSP_FB_STAT.CAUSE h, DSP_FB_STAT.URGENT h, DSP_FB_STAT.HELD h]

-- DSP_UNDERRUN (R305)
def DSP_UNDERRUN.FRAMES (h : Nat) : Fld := ⟨(0x82 + 4 * h) * 0x1000 + 0x05C, 16, 16, 0, 0, .ro⟩
def DSP_UNDERRUN.LINES (h : Nat) : Fld := ⟨(0x82 + 4 * h) * 0x1000 + 0x05C, 0, 16, 0, 0, .ro⟩
def DSP_UNDERRUN.all (h : Nat) : List Fld := [DSP_UNDERRUN.FRAMES h, DSP_UNDERRUN.LINES h]

-- DSP_UNDERRUN_PIX (R305)
def DSP_UNDERRUN_PIX.PIXELS (h : Nat) : Fld := ⟨(0x82 + 4 * h) * 0x1000 + 0x060, 0, 32, 0, 0, .ro⟩
def DSP_UNDERRUN_PIX.all (h : Nat) : List Fld := [DSP_UNDERRUN_PIX.PIXELS h]

-- DSP_NO_PAIR (R301)
def DSP_NO_PAIR.COUNT (h : Nat) : Fld := ⟨(0x82 + 4 * h) * 0x1000 + 0x064, 0, 16, 0, 0, .ro⟩
def DSP_NO_PAIR.all (h : Nat) : List Fld := [DSP_NO_PAIR.COUNT h]

-- DSP_DP_CTRL (R297)
def DSP_DP_CTRL.ENH_FRAMING (h : Nat) : Fld := ⟨(0x83 + 4 * h) * 0x1000 + 0x040, 6, 1, 1, 1, .rw⟩
def DSP_DP_CTRL.DOWNSPREAD (h : Nat) : Fld := ⟨(0x83 + 4 * h) * 0x1000 + 0x040, 5, 1, 0, 0, .rw⟩
def DSP_DP_CTRL.TRAIN (h : Nat) : Fld := ⟨(0x83 + 4 * h) * 0x1000 + 0x040, 4, 1, 0, 0, .wo⟩
def DSP_DP_CTRL.LANES (h : Nat) : Fld := ⟨(0x83 + 4 * h) * 0x1000 + 0x040, 2, 2, 2, 2, .rw⟩
def DSP_DP_CTRL.RATE (h : Nat) : Fld := ⟨(0x83 + 4 * h) * 0x1000 + 0x040, 0, 2, 3, 3, .rw⟩
def DSP_DP_CTRL.all (h : Nat) : List Fld := [DSP_DP_CTRL.ENH_FRAMING h, DSP_DP_CTRL.DOWNSPREAD h, DSP_DP_CTRL.TRAIN h, DSP_DP_CTRL.LANES h, DSP_DP_CTRL.RATE h]

-- DSP_DP_STAT (R297)
def DSP_DP_STAT.IRQ_HPD (h : Nat) : Fld := ⟨(0x83 + 4 * h) * 0x1000 + 0x044, 5, 1, 0, 0, .ro⟩
def DSP_DP_STAT.BW_ERR (h : Nat) : Fld := ⟨(0x83 + 4 * h) * 0x1000 + 0x044, 4, 1, 0, 0, .ro⟩
def DSP_DP_STAT.TRAIN_FAIL (h : Nat) : Fld := ⟨(0x83 + 4 * h) * 0x1000 + 0x044, 3, 1, 0, 0, .ro⟩
def DSP_DP_STAT.TRAINED (h : Nat) : Fld := ⟨(0x83 + 4 * h) * 0x1000 + 0x044, 2, 1, 0, 0, .ro⟩
def DSP_DP_STAT.TRAINING (h : Nat) : Fld := ⟨(0x83 + 4 * h) * 0x1000 + 0x044, 1, 1, 0, 0, .ro⟩
def DSP_DP_STAT.HPD (h : Nat) : Fld := ⟨(0x83 + 4 * h) * 0x1000 + 0x044, 0, 1, 0, 0, .ro⟩
def DSP_DP_STAT.all (h : Nat) : List Fld := [DSP_DP_STAT.IRQ_HPD h, DSP_DP_STAT.BW_ERR h, DSP_DP_STAT.TRAIN_FAIL h, DSP_DP_STAT.TRAINED h, DSP_DP_STAT.TRAINING h, DSP_DP_STAT.HPD h]

-- DSP_AUX_CTRL (R299)
def DSP_AUX_CTRL.CMD (h : Nat) : Fld := ⟨(0x83 + 4 * h) * 0x1000 + 0x048, 28, 4, 0, 0, .rw⟩
def DSP_AUX_CTRL.ADDR (h : Nat) : Fld := ⟨(0x83 + 4 * h) * 0x1000 + 0x048, 8, 20, 0, 0, .rw⟩
def DSP_AUX_CTRL.LEN (h : Nat) : Fld := ⟨(0x83 + 4 * h) * 0x1000 + 0x048, 4, 4, 0, 0, .rw⟩
def DSP_AUX_CTRL.GO (h : Nat) : Fld := ⟨(0x83 + 4 * h) * 0x1000 + 0x048, 0, 1, 0, 0, .wo⟩
def DSP_AUX_CTRL.all (h : Nat) : List Fld := [DSP_AUX_CTRL.CMD h, DSP_AUX_CTRL.ADDR h, DSP_AUX_CTRL.LEN h, DSP_AUX_CTRL.GO h]

-- DSP_AUX_DATA (R299)
def DSP_AUX_DATA.DATA (h i : Nat) : Fld := ⟨(0x83 + 4 * h) * 0x1000 + 0x050 + 0x4 * i, 0, 32, 0, 0, .rw⟩
def DSP_AUX_DATA.all (h i : Nat) : List Fld := [DSP_AUX_DATA.DATA h i]

-- DSP_AUX_STAT (R299)
def DSP_AUX_STAT.DONE (h : Nat) : Fld := ⟨(0x83 + 4 * h) * 0x1000 + 0x060, 31, 1, 0, 0, .ro⟩
def DSP_AUX_STAT.BUSY (h : Nat) : Fld := ⟨(0x83 + 4 * h) * 0x1000 + 0x060, 30, 1, 0, 0, .ro⟩
def DSP_AUX_STAT.REPLY (h : Nat) : Fld := ⟨(0x83 + 4 * h) * 0x1000 + 0x060, 28, 2, 0, 0, .ro⟩
def DSP_AUX_STAT.COUNT (h : Nat) : Fld := ⟨(0x83 + 4 * h) * 0x1000 + 0x060, 0, 5, 0, 0, .ro⟩
def DSP_AUX_STAT.all (h : Nat) : List Fld := [DSP_AUX_STAT.DONE h, DSP_AUX_STAT.BUSY h, DSP_AUX_STAT.REPLY h, DSP_AUX_STAT.COUNT h]

-- FST_STAT (R278)
def FST_STAT.FSB_INIT : Fld := ⟨0x88 * 0x1000 + 0x040, 5, 1, 0, 0, .ro⟩
def FST_STAT.FSA_INIT : Fld := ⟨0x88 * 0x1000 + 0x040, 4, 1, 0, 0, .ro⟩
def FST_STAT.FSB_FENCED : Fld := ⟨0x88 * 0x1000 + 0x040, 3, 1, 0, 0, .ro⟩
def FST_STAT.FSA_FENCED : Fld := ⟨0x88 * 0x1000 + 0x040, 2, 1, 0, 0, .ro⟩
def FST_STAT.FSB_ON : Fld := ⟨0x88 * 0x1000 + 0x040, 1, 1, 0, 0, .ro⟩
def FST_STAT.FSA_ON : Fld := ⟨0x88 * 0x1000 + 0x040, 0, 1, 0, 0, .ro⟩
def FST_STAT.all : List Fld := [FST_STAT.FSB_INIT, FST_STAT.FSA_INIT, FST_STAT.FSB_FENCED, FST_STAT.FSA_FENCED, FST_STAT.FSB_ON, FST_STAT.FSA_ON]

-- FST_PERR (R221)
def FST_PERR.FSB : Fld := ⟨0x88 * 0x1000 + 0x044, 16, 16, 0, 0, .ro⟩
def FST_PERR.FSA : Fld := ⟨0x88 * 0x1000 + 0x044, 0, 16, 0, 0, .ro⟩
def FST_PERR.all : List Fld := [FST_PERR.FSB, FST_PERR.FSA]

-- CAN_CTRL (R315)
def CAN_CTRL.TX_TIMEOUT (n : Nat) : Fld := ⟨(0x90 + n) * 0x1000 + 0x040, 24, 8, 100, 100, .rw⟩
def CAN_CTRL.SEM (n : Nat) : Fld := ⟨(0x90 + n) * 0x1000 + 0x040, 19, 5, 0, 0, .rw⟩
def CAN_CTRL.SEM_EN (n : Nat) : Fld := ⟨(0x90 + n) * 0x1000 + 0x040, 18, 1, 0, 0, .rw⟩
def CAN_CTRL.MISS_FIFO (n : Nat) : Fld := ⟨(0x90 + n) * 0x1000 + 0x040, 17, 1, 0, 0, .rw⟩
def CAN_CTRL.AUTO_RECOVER (n : Nat) : Fld := ⟨(0x90 + n) * 0x1000 + 0x040, 16, 1, 1, 1, .rw⟩
def CAN_CTRL.MODE (n : Nat) : Fld := ⟨(0x90 + n) * 0x1000 + 0x040, 14, 2, 0, 0, .rw⟩
def CAN_CTRL.FD_EN (n : Nat) : Fld := ⟨(0x90 + n) * 0x1000 + 0x040, 13, 1, 1, 1, .rw⟩
def CAN_CTRL.TDC (n : Nat) : Fld := ⟨(0x90 + n) * 0x1000 + 0x040, 12, 1, 1, 1, .rw⟩
def CAN_CTRL.all (n : Nat) : List Fld := [CAN_CTRL.TX_TIMEOUT n, CAN_CTRL.SEM n, CAN_CTRL.SEM_EN n, CAN_CTRL.MISS_FIFO n, CAN_CTRL.AUTO_RECOVER n, CAN_CTRL.MODE n, CAN_CTRL.FD_EN n, CAN_CTRL.TDC n]

-- CAN_TIMING (R315)
def CAN_TIMING.NBRP (n : Nat) : Fld := ⟨(0x90 + n) * 0x1000 + 0x044, 24, 8, 3, 3, .rw⟩
def CAN_TIMING.NSEG (n : Nat) : Fld := ⟨(0x90 + n) * 0x1000 + 0x044, 16, 8, 15, 15, .rw⟩
def CAN_TIMING.DBRP (n : Nat) : Fld := ⟨(0x90 + n) * 0x1000 + 0x044, 8, 8, 1, 1, .rw⟩
def CAN_TIMING.DSEG (n : Nat) : Fld := ⟨(0x90 + n) * 0x1000 + 0x044, 0, 8, 9, 9, .rw⟩
def CAN_TIMING.all (n : Nat) : List Fld := [CAN_TIMING.NBRP n, CAN_TIMING.NSEG n, CAN_TIMING.DBRP n, CAN_TIMING.DSEG n]

-- CAN_STAT (R315)
def CAN_STAT.TEC (n : Nat) : Fld := ⟨(0x90 + n) * 0x1000 + 0x048, 24, 8, 0, 0, .ro⟩
def CAN_STAT.REC (n : Nat) : Fld := ⟨(0x90 + n) * 0x1000 + 0x048, 16, 8, 0, 0, .ro⟩
def CAN_STAT.STATE (n : Nat) : Fld := ⟨(0x90 + n) * 0x1000 + 0x048, 14, 2, 0, 0, .ro⟩
def CAN_STAT.RX_OVF (n : Nat) : Fld := ⟨(0x90 + n) * 0x1000 + 0x048, 8, 6, 0, 0, .ro⟩
def CAN_STAT.TX_DROP (n : Nat) : Fld := ⟨(0x90 + n) * 0x1000 + 0x048, 0, 8, 0, 0, .ro⟩
def CAN_STAT.all (n : Nat) : List Fld := [CAN_STAT.TEC n, CAN_STAT.REC n, CAN_STAT.STATE n, CAN_STAT.RX_OVF n, CAN_STAT.TX_DROP n]

-- I2C_CTRL (R318)
def I2C_CTRL.SEM (n : Nat) : Fld := ⟨(0x94 + n) * 0x1000 + 0x040, 27, 5, 0, 0, .rw⟩
def I2C_CTRL.SEM_EN (n : Nat) : Fld := ⟨(0x94 + n) * 0x1000 + 0x040, 26, 1, 0, 0, .rw⟩
def I2C_CTRL.SPEED (n : Nat) : Fld := ⟨(0x94 + n) * 0x1000 + 0x040, 24, 2, 0, 0, .rw⟩
def I2C_CTRL.TEN (n : Nat) : Fld := ⟨(0x94 + n) * 0x1000 + 0x040, 11, 1, 0, 0, .rw⟩
def I2C_CTRL.TADDR10 (n : Nat) : Fld := ⟨(0x94 + n) * 0x1000 + 0x040, 10, 1, 0, 0, .rw⟩
def I2C_CTRL.TADDR (n : Nat) : Fld := ⟨(0x94 + n) * 0x1000 + 0x040, 0, 10, 0, 0, .rw⟩
def I2C_CTRL.all (n : Nat) : List Fld := [I2C_CTRL.SEM n, I2C_CTRL.SEM_EN n, I2C_CTRL.SPEED n, I2C_CTRL.TEN n, I2C_CTRL.TADDR10 n, I2C_CTRL.TADDR n]

-- I2C_STAT (R318)
def I2C_STAT.NACKS (n : Nat) : Fld := ⟨(0x94 + n) * 0x1000 + 0x044, 16, 16, 0, 0, .ro⟩
def I2C_STAT.ARB_LOST (n : Nat) : Fld := ⟨(0x94 + n) * 0x1000 + 0x044, 8, 8, 0, 0, .ro⟩
def I2C_STAT.HELD (n : Nat) : Fld := ⟨(0x94 + n) * 0x1000 + 0x044, 0, 1, 0, 0, .ro⟩
def I2C_STAT.all (n : Nat) : List Fld := [I2C_STAT.NACKS n, I2C_STAT.ARB_LOST n, I2C_STAT.HELD n]

-- I2C_MIRROR (R318)
def I2C_MIRROR.DATA (n i : Nat) : Fld := ⟨(0x94 + n) * 0x1000 + 0x100 + 0x4 * i, 0, 32, 0, 0, .rw⟩
def I2C_MIRROR.all (n i : Nat) : List Fld := [I2C_MIRROR.DATA n i]

-- SPI_CTRL (R319)
def SPI_CTRL.SEM (n : Nat) : Fld := ⟨(0x96 + n) * 0x1000 + 0x040, 27, 5, 0, 0, .rw⟩
def SPI_CTRL.SEM_EN (n : Nat) : Fld := ⟨(0x96 + n) * 0x1000 + 0x040, 26, 1, 0, 0, .rw⟩
def SPI_CTRL.DIV (n : Nat) : Fld := ⟨(0x96 + n) * 0x1000 + 0x040, 10, 8, 4, 4, .rw⟩
def SPI_CTRL.CPOL_CPHA (n : Nat) : Fld := ⟨(0x96 + n) * 0x1000 + 0x040, 8, 2, 0, 0, .rw⟩
def SPI_CTRL.CS_POL (n : Nat) : Fld := ⟨(0x96 + n) * 0x1000 + 0x040, 4, 4, 0, 0, .rw⟩
def SPI_CTRL.HELD (n : Nat) : Fld := ⟨(0x96 + n) * 0x1000 + 0x040, 0, 1, 0, 0, .ro⟩
def SPI_CTRL.all (n : Nat) : List Fld := [SPI_CTRL.SEM n, SPI_CTRL.SEM_EN n, SPI_CTRL.DIV n, SPI_CTRL.CPOL_CPHA n, SPI_CTRL.CS_POL n, SPI_CTRL.HELD n]

-- SPI_WIN_A (R319)
def SPI_WIN_A.DEV_BASE (n w : Nat) : Fld := ⟨(0x96 + n) * 0x1000 + 0x050 + 0x8 * w, 0, 32, 0, 0, .rw⟩
def SPI_WIN_A.all (n w : Nat) : List Fld := [SPI_WIN_A.DEV_BASE n w]

-- SPI_WIN_B (R319)
def SPI_WIN_B.VALID (n w : Nat) : Fld := ⟨(0x96 + n) * 0x1000 + 0x054 + 0x8 * w, 31, 1, 0, 0, .rw⟩
def SPI_WIN_B.PREFETCH (n w : Nat) : Fld := ⟨(0x96 + n) * 0x1000 + 0x054 + 0x8 * w, 30, 1, 0, 0, .rw⟩
def SPI_WIN_B.CS (n w : Nat) : Fld := ⟨(0x96 + n) * 0x1000 + 0x054 + 0x8 * w, 28, 2, 0, 0, .rw⟩
def SPI_WIN_B.LINES (n w : Nat) : Fld := ⟨(0x96 + n) * 0x1000 + 0x054 + 0x8 * w, 26, 2, 0, 0, .rw⟩
def SPI_WIN_B.ADDR4 (n w : Nat) : Fld := ⟨(0x96 + n) * 0x1000 + 0x054 + 0x8 * w, 25, 1, 0, 0, .rw⟩
def SPI_WIN_B.DUMMY (n w : Nat) : Fld := ⟨(0x96 + n) * 0x1000 + 0x054 + 0x8 * w, 21, 4, 0, 0, .rw⟩
def SPI_WIN_B.SIZE (n w : Nat) : Fld := ⟨(0x96 + n) * 0x1000 + 0x054 + 0x8 * w, 16, 5, 0, 0, .rw⟩
def SPI_WIN_B.WR_CMD (n w : Nat) : Fld := ⟨(0x96 + n) * 0x1000 + 0x054 + 0x8 * w, 8, 8, 2, 2, .rw⟩
def SPI_WIN_B.RD_CMD (n w : Nat) : Fld := ⟨(0x96 + n) * 0x1000 + 0x054 + 0x8 * w, 0, 8, 3, 3, .rw⟩
def SPI_WIN_B.all (n w : Nat) : List Fld := [SPI_WIN_B.VALID n w, SPI_WIN_B.PREFETCH n w, SPI_WIN_B.CS n w, SPI_WIN_B.LINES n w, SPI_WIN_B.ADDR4 n w, SPI_WIN_B.DUMMY n w, SPI_WIN_B.SIZE n w, SPI_WIN_B.WR_CMD n w, SPI_WIN_B.RD_CMD n w]

-- SPI_DISCARD_HEAD (R321)
def SPI_DISCARD_HEAD.TOTAL (n : Nat) : Fld := ⟨(0x96 + n) * 0x1000 + 0x070, 16, 16, 0, 0, .ro⟩
def SPI_DISCARD_HEAD.NEXT (n : Nat) : Fld := ⟨(0x96 + n) * 0x1000 + 0x070, 0, 4, 0, 0, .ro⟩
def SPI_DISCARD_HEAD.all (n : Nat) : List Fld := [SPI_DISCARD_HEAD.TOTAL n, SPI_DISCARD_HEAD.NEXT n]

-- SPI_DISCARD_LOG0 (R321)
def SPI_DISCARD_LOG0.OFFSET (n e : Nat) : Fld := ⟨(0x96 + n) * 0x1000 + 0x080 + 0x8 * e, 0, 26, 0, 0, .ro⟩
def SPI_DISCARD_LOG0.WIN (n e : Nat) : Fld := ⟨(0x96 + n) * 0x1000 + 0x080 + 0x8 * e, 26, 2, 0, 0, .ro⟩
def SPI_DISCARD_LOG0.CAUSE (n e : Nat) : Fld := ⟨(0x96 + n) * 0x1000 + 0x080 + 0x8 * e, 28, 3, 0, 0, .ro⟩
def SPI_DISCARD_LOG0.all (n e : Nat) : List Fld := [SPI_DISCARD_LOG0.OFFSET n e, SPI_DISCARD_LOG0.WIN n e, SPI_DISCARD_LOG0.CAUSE n e]

-- SPI_DISCARD_LOG1 (R321)
def SPI_DISCARD_LOG1.BYTES (n e : Nat) : Fld := ⟨(0x96 + n) * 0x1000 + 0x084 + 0x8 * e, 0, 7, 0, 0, .ro⟩
def SPI_DISCARD_LOG1.HUB (n e : Nat) : Fld := ⟨(0x96 + n) * 0x1000 + 0x084 + 0x8 * e, 8, 8, 0, 0, .ro⟩
def SPI_DISCARD_LOG1.CTX (n e : Nat) : Fld := ⟨(0x96 + n) * 0x1000 + 0x084 + 0x8 * e, 16, 11, 0, 0, .ro⟩
def SPI_DISCARD_LOG1.all (n e : Nat) : List Fld := [SPI_DISCARD_LOG1.BYTES n e, SPI_DISCARD_LOG1.HUB n e, SPI_DISCARD_LOG1.CTX n e]

-- UART_CTRL (R322)
def UART_CTRL.BAUD (n : Nat) : Fld := ⟨(0x98 + n) * 0x1000 + 0x040, 8, 24, 115200, 115200, .rw⟩
def UART_CTRL.DATA_BITS (n : Nat) : Fld := ⟨(0x98 + n) * 0x1000 + 0x040, 4, 4, 8, 8, .rw⟩
def UART_CTRL.PARITY (n : Nat) : Fld := ⟨(0x98 + n) * 0x1000 + 0x040, 1, 3, 0, 0, .rw⟩
def UART_CTRL.STOP2 (n : Nat) : Fld := ⟨(0x98 + n) * 0x1000 + 0x040, 0, 1, 0, 0, .rw⟩
def UART_CTRL.all (n : Nat) : List Fld := [UART_CTRL.BAUD n, UART_CTRL.DATA_BITS n, UART_CTRL.PARITY n, UART_CTRL.STOP2 n]

-- UART_FRAME (R322)
def UART_FRAME.FRAMING (n : Nat) : Fld := ⟨(0x98 + n) * 0x1000 + 0x044, 30, 2, 0, 0, .rw⟩
def UART_FRAME.RS485 (n : Nat) : Fld := ⟨(0x98 + n) * 0x1000 + 0x044, 29, 1, 0, 0, .rw⟩
def UART_FRAME.MISS_FIFO (n : Nat) : Fld := ⟨(0x98 + n) * 0x1000 + 0x044, 28, 1, 0, 0, .rw⟩
def UART_FRAME.DE_LEAD (n : Nat) : Fld := ⟨(0x98 + n) * 0x1000 + 0x044, 24, 4, 1, 1, .rw⟩
def UART_FRAME.DE_LAG (n : Nat) : Fld := ⟨(0x98 + n) * 0x1000 + 0x044, 20, 4, 1, 1, .rw⟩
def UART_FRAME.RULE (n : Nat) : Fld := ⟨(0x98 + n) * 0x1000 + 0x044, 12, 8, 7, 7, .rw⟩
def UART_FRAME.all (n : Nat) : List Fld := [UART_FRAME.FRAMING n, UART_FRAME.RS485 n, UART_FRAME.MISS_FIFO n, UART_FRAME.DE_LEAD n, UART_FRAME.DE_LAG n, UART_FRAME.RULE n]

-- UART_STAT (R322)
def UART_STAT.PARITY_ERR (n : Nat) : Fld := ⟨(0x98 + n) * 0x1000 + 0x048, 24, 8, 0, 0, .ro⟩
def UART_STAT.FRAMING_ERR (n : Nat) : Fld := ⟨(0x98 + n) * 0x1000 + 0x048, 16, 8, 0, 0, .ro⟩
def UART_STAT.BREAKS (n : Nat) : Fld := ⟨(0x98 + n) * 0x1000 + 0x048, 8, 8, 0, 0, .ro⟩
def UART_STAT.RX_OVF (n : Nat) : Fld := ⟨(0x98 + n) * 0x1000 + 0x048, 0, 8, 0, 0, .ro⟩
def UART_STAT.all (n : Nat) : List Fld := [UART_STAT.PARITY_ERR n, UART_STAT.FRAMING_ERR n, UART_STAT.BREAKS n, UART_STAT.RX_OVF n]

-- GPIO_CFG (R323)
def GPIO_CFG.OD (g : Nat) : Fld := ⟨(0x9C) * 0x1000 + 0x040 + 0x10 * g, 24, 8, 0, 0, .rw⟩
def GPIO_CFG.DIR (g : Nat) : Fld := ⟨(0x9C) * 0x1000 + 0x040 + 0x10 * g, 16, 8, 0, 0, .rw⟩
def GPIO_CFG.EDGE_EN (g : Nat) : Fld := ⟨(0x9C) * 0x1000 + 0x040 + 0x10 * g, 8, 8, 0, 0, .rw⟩
def GPIO_CFG.FILTER (g : Nat) : Fld := ⟨(0x9C) * 0x1000 + 0x040 + 0x10 * g, 0, 8, 0, 0, .rw⟩
def GPIO_CFG.all (g : Nat) : List Fld := [GPIO_CFG.OD g, GPIO_CFG.DIR g, GPIO_CFG.EDGE_EN g, GPIO_CFG.FILTER g]

-- GPIO_LEVEL (R323)
def GPIO_LEVEL.IN (g : Nat) : Fld := ⟨(0x9C) * 0x1000 + 0x044 + 0x10 * g, 8, 8, 0, 0, .ro⟩
def GPIO_LEVEL.OUT (g : Nat) : Fld := ⟨(0x9C) * 0x1000 + 0x044 + 0x10 * g, 0, 8, 0, 0, .rw⟩
def GPIO_LEVEL.all (g : Nat) : List Fld := [GPIO_LEVEL.IN g, GPIO_LEVEL.OUT g]

-- GPIO_WAKE_EN (R323)
def GPIO_WAKE_EN.LINES : Fld := ⟨0x9C * 0x1000 + 0x0A0, 0, 8, 0, 0, .rw⟩
def GPIO_WAKE_EN.all : List Fld := [GPIO_WAKE_EN.LINES]

-- GPIO_SCHED_T_LO (R323)
def GPIO_SCHED_T_LO.T : Fld := ⟨0x9C * 0x1000 + 0x0A4, 0, 32, 0, 0, .rw⟩
def GPIO_SCHED_T_LO.all : List Fld := [GPIO_SCHED_T_LO.T]

-- GPIO_SCHED_T_HI (R323)
def GPIO_SCHED_T_HI.T : Fld := ⟨0x9C * 0x1000 + 0x0A8, 0, 32, 0, 0, .rw⟩
def GPIO_SCHED_T_HI.all : List Fld := [GPIO_SCHED_T_HI.T]

-- GPIO_SCHED_PUSH (R323)
def GPIO_SCHED_PUSH.GROUP : Fld := ⟨0x9C * 0x1000 + 0x0AC, 24, 3, 0, 0, .wo⟩
def GPIO_SCHED_PUSH.MASK : Fld := ⟨0x9C * 0x1000 + 0x0AC, 8, 8, 0, 0, .wo⟩
def GPIO_SCHED_PUSH.LEVELS : Fld := ⟨0x9C * 0x1000 + 0x0AC, 0, 8, 0, 0, .wo⟩
def GPIO_SCHED_PUSH.all : List Fld := [GPIO_SCHED_PUSH.GROUP, GPIO_SCHED_PUSH.MASK, GPIO_SCHED_PUSH.LEVELS]

-- GPIO_SCHED_STAT (R323)
def GPIO_SCHED_STAT.SCHED_FULL : Fld := ⟨0x9C * 0x1000 + 0x0B0, 16, 16, 0, 0, .ro⟩
def GPIO_SCHED_STAT.QUEUED : Fld := ⟨0x9C * 0x1000 + 0x0B0, 0, 6, 0, 0, .ro⟩
def GPIO_SCHED_STAT.all : List Fld := [GPIO_SCHED_STAT.SCHED_FULL, GPIO_SCHED_STAT.QUEUED]

-- GPIO_TS_HEAD (R323)
def GPIO_TS_HEAD.HEAD : Fld := ⟨0x9C * 0x1000 + 0x0B4, 0, 4, 0, 0, .ro⟩
def GPIO_TS_HEAD.all : List Fld := [GPIO_TS_HEAD.HEAD]

-- GPIO_TS_TAIL (R323)
def GPIO_TS_TAIL.TAIL : Fld := ⟨0x9C * 0x1000 + 0x0B8, 0, 4, 0, 0, .rw⟩
def GPIO_TS_TAIL.all : List Fld := [GPIO_TS_TAIL.TAIL]

-- GPIO_TS0 (R323)
def GPIO_TS0.GROUP (e : Nat) : Fld := ⟨(0x9C) * 0x1000 + 0x0C0 + 0x8 * e, 0, 3, 0, 0, .ro⟩
def GPIO_TS0.LINES (e : Nat) : Fld := ⟨(0x9C) * 0x1000 + 0x0C0 + 0x8 * e, 8, 8, 0, 0, .ro⟩
def GPIO_TS0.LEVELS (e : Nat) : Fld := ⟨(0x9C) * 0x1000 + 0x0C0 + 0x8 * e, 16, 8, 0, 0, .ro⟩
def GPIO_TS0.all (e : Nat) : List Fld := [GPIO_TS0.GROUP e, GPIO_TS0.LINES e, GPIO_TS0.LEVELS e]

-- GPIO_TS1 (R323)
def GPIO_TS1.TICKS (e : Nat) : Fld := ⟨(0x9C) * 0x1000 + 0x0C4 + 0x8 * e, 0, 32, 0, 0, .ro⟩
def GPIO_TS1.all (e : Nat) : List Fld := [GPIO_TS1.TICKS e]

-- BRT_CTRL (R329)
def BRT_CTRL.XFER_TIMEOUT : Fld := ⟨0x9D * 0x1000 + 0x040, 0, 16, 10, 10, .rw⟩
def BRT_CTRL.all : List Fld := [BRT_CTRL.XFER_TIMEOUT]

-- BRT_STAT0 (R310)
def BRT_STAT0.MISS : Fld := ⟨0x9D * 0x1000 + 0x044, 16, 16, 0, 0, .ro⟩
def BRT_STAT0.RATE_DROPS : Fld := ⟨0x9D * 0x1000 + 0x044, 0, 16, 0, 0, .ro⟩
def BRT_STAT0.all : List Fld := [BRT_STAT0.MISS, BRT_STAT0.RATE_DROPS]

-- BRT_STAT1 (R314)
def BRT_STAT1.SEQ_GAPS : Fld := ⟨0x9D * 0x1000 + 0x048, 24, 8, 0, 0, .ro⟩
def BRT_STAT1.RETRACTS : Fld := ⟨0x9D * 0x1000 + 0x048, 16, 8, 0, 0, .ro⟩
def BRT_STAT1.LOCK_REFUSED : Fld := ⟨0x9D * 0x1000 + 0x048, 8, 8, 0, 0, .ro⟩
def BRT_STAT1.WRAP_BAD : Fld := ⟨0x9D * 0x1000 + 0x048, 0, 8, 0, 0, .ro⟩
def BRT_STAT1.all : List Fld := [BRT_STAT1.SEQ_GAPS, BRT_STAT1.RETRACTS, BRT_STAT1.LOCK_REFUSED, BRT_STAT1.WRAP_BAD]

-- BRT_XFER_DOORBELL (R329)
def BRT_XFER_DOORBELL.TAG : Fld := ⟨0x9D * 0x1000 + 0x04C, 16, 8, 0, 0, .wo⟩
def BRT_XFER_DOORBELL.GO : Fld := ⟨0x9D * 0x1000 + 0x04C, 0, 1, 0, 0, .wo⟩
def BRT_XFER_DOORBELL.all : List Fld := [BRT_XFER_DOORBELL.TAG, BRT_XFER_DOORBELL.GO]

-- BRT_XFER_STAT (R329)
def BRT_XFER_STAT.LOST : Fld := ⟨0x9D * 0x1000 + 0x050, 8, 8, 0, 0, .ro⟩
def BRT_XFER_STAT.BUSY : Fld := ⟨0x9D * 0x1000 + 0x050, 0, 1, 0, 0, .ro⟩
def BRT_XFER_STAT.all : List Fld := [BRT_XFER_STAT.LOST, BRT_XFER_STAT.BUSY]

-- BRT_XREQ (R329)
def BRT_XREQ.DATA (i : Nat) : Fld := ⟨(0x9D) * 0x1000 + 0x080 + 0x4 * i, 0, 32, 0, 0, .rw⟩
def BRT_XREQ.all (i : Nat) : List Fld := [BRT_XREQ.DATA i]

-- BRT_XRES0 (R329)
def BRT_XRES0.SEQ : Fld := ⟨0x9D * 0x1000 + 0x0C0, 16, 16, 0, 0, .ro⟩
def BRT_XRES0.TAG : Fld := ⟨0x9D * 0x1000 + 0x0C0, 8, 8, 0, 0, .ro⟩
def BRT_XRES0.VALID : Fld := ⟨0x9D * 0x1000 + 0x0C0, 7, 1, 0, 0, .ro⟩
def BRT_XRES0.STATUS : Fld := ⟨0x9D * 0x1000 + 0x0C0, 0, 7, 0, 0, .ro⟩
def BRT_XRES0.all : List Fld := [BRT_XRES0.SEQ, BRT_XRES0.TAG, BRT_XRES0.VALID, BRT_XRES0.STATUS]

-- BRT_XRES (R329)
def BRT_XRES.DATA (i : Nat) : Fld := ⟨(0x9D) * 0x1000 + 0x0C4 + 0x4 * i, 0, 32, 0, 0, .ro⟩
def BRT_XRES.all (i : Nat) : List Fld := [BRT_XRES.DATA i]

-- SEM_CTRL (R325)
def SEM_CTRL.BREAK : Fld := ⟨0x9E * 0x1000 + 0x040, 5, 1, 0, 0, .wo⟩
def SEM_CTRL.NUM : Fld := ⟨0x9E * 0x1000 + 0x040, 0, 5, 0, 0, .wo⟩
def SEM_CTRL.all : List Fld := [SEM_CTRL.BREAK, SEM_CTRL.NUM]

end Sys2Proof.Machine
end

