-- ==== Sys2Proof/Machine/RegMapD.lean ====
section
/-!
DEFINITION. Sys2Proof/Machine/RegMapD.lean: the register fields of CTP, EYE, KEY, CRY, CNT, BOOT, UPD, DBG.
One definition per field, at its window offset (R4), with its place in the word, its value after power-on in a spoke and
in a Root (R9, Tables 18.2 to 18.10) and its access type (R7). `X.all` lists the fields of register X.
-/
namespace Sys2Proof.Machine

/-- The value of an E0–E3 channel, or of a feed channel E4, E5 (Table 18.9). -/
def feedSel (n a b : Nat) : Nat := if n < 4 then a else b

/-- THRESH of curve point k after power-on, Table 18.10. -/
def curveThresh (k : Nat) : Nat := [0x80, 0x50, 0x40, 0x30, 0x20, 0x1A, 0x16, 0x12].getD k 0
/-- UNIT of curve point k after power-on, Table 18.10. -/
def curveUnit (k : Nat) : Nat := [0, 1, 1, 1, 2, 2, 2, 2].getD k 0
/-- TIME of curve point k after power-on, Table 18.10. -/
def curveTime (k : Nat) : Nat := [0x0A, 0x01, 0x0A, 0x32, 0x02, 0x0A, 0x64, 0x190].getD k 0
/-- MODE of a counter selection after power-on (Table 18.9). -/
def selMode (g : Nat) : Nat := if g < 12 then 4 else 0
/-- SRC of a counter selection after power-on (Table 18.9): k in groups 0 to 11. -/
def selSrc (g k : Nat) : Nat := if g < 12 then k else 0
/-- WIRED_ROLE after power-on of a spoke (R330): port 0 sink, ports 1 to 3 source; a Root has four sources. -/
def wiredRoleReset (n : Nat) : Nat := if n = 0 then 0 else 1

-- CTP_CFG (R330)
def CTP_CFG.LEVELS (n : Nat) : Fld := ⟨(0xA0 + 4 * n) * 0x1000 + 0x040, 8, 3, 0, 0, .rwl⟩
def CTP_CFG.FORCE_V1 (n : Nat) : Fld := ⟨(0xA0 + 4 * n) * 0x1000 + 0x040, 6, 1, 0, 0, .rw⟩
def CTP_CFG.SWAP_OK (n : Nat) : Fld := ⟨(0xA0 + 4 * n) * 0x1000 + 0x040, 5, 1, 0, 0, .rwl⟩
def CTP_CFG.CLASS_SET (n : Nat) : Fld := ⟨(0xA0 + 4 * n) * 0x1000 + 0x040, 4, 1, 0, 0, .ro⟩
def CTP_CFG.CLASS (n : Nat) : Fld := ⟨(0xA0 + 4 * n) * 0x1000 + 0x040, 2, 2, 0, 0, .ro⟩
def CTP_CFG.WIRED_ROLE (n : Nat) : Fld := ⟨(0xA0 + 4 * n) * 0x1000 + 0x040, 0, 1, (wiredRoleReset n), 1, .rwl⟩
def CTP_CFG.all (n : Nat) : List Fld := [CTP_CFG.LEVELS n, CTP_CFG.FORCE_V1 n, CTP_CFG.SWAP_OK n, CTP_CFG.CLASS_SET n, CTP_CFG.CLASS n, CTP_CFG.WIRED_ROLE n]

-- CTP_STAT (R334)
def CTP_STAT.STATE (n : Nat) : Fld := ⟨(0xA0 + 4 * n) * 0x1000 + 0x044, 28, 4, 0, 0, .ro⟩
def CTP_STAT.REV (n : Nat) : Fld := ⟨(0xA0 + 4 * n) * 0x1000 + 0x044, 26, 2, 0, 0, .ro⟩
def CTP_STAT.DB (n : Nat) : Fld := ⟨(0xA0 + 4 * n) * 0x1000 + 0x044, 25, 1, 0, 0, .ro⟩
def CTP_STAT.PARTNER_DB (n : Nat) : Fld := ⟨(0xA0 + 4 * n) * 0x1000 + 0x044, 24, 1, 0, 0, .ro⟩
def CTP_STAT.PARTNER_SWAP_OK (n : Nat) : Fld := ⟨(0xA0 + 4 * n) * 0x1000 + 0x044, 23, 1, 0, 0, .ro⟩
def CTP_STAT.PARTNER_PG (n : Nat) : Fld := ⟨(0xA0 + 4 * n) * 0x1000 + 0x044, 22, 1, 0, 0, .ro⟩
def CTP_STAT.PARTNER_CLASS (n : Nat) : Fld := ⟨(0xA0 + 4 * n) * 0x1000 + 0x044, 20, 2, 0, 0, .ro⟩
def CTP_STAT.PARTNER_CLASS_KNOWN (n : Nat) : Fld := ⟨(0xA0 + 4 * n) * 0x1000 + 0x044, 19, 1, 0, 0, .ro⟩
def CTP_STAT.LEVEL (n : Nat) : Fld := ⟨(0xA0 + 4 * n) * 0x1000 + 0x044, 18, 1, 0, 0, .ro⟩
def CTP_STAT.POWER_ROLE (n : Nat) : Fld := ⟨(0xA0 + 4 * n) * 0x1000 + 0x044, 17, 1, (wiredRoleReset n), 1, .ro⟩
def CTP_STAT.FLIPPED (n : Nat) : Fld := ⟨(0xA0 + 4 * n) * 0x1000 + 0x044, 16, 1, 0, 0, .ro⟩
def CTP_STAT.BOTH_RD (n : Nat) : Fld := ⟨(0xA0 + 4 * n) * 0x1000 + 0x044, 15, 1, 0, 0, .ro⟩
def CTP_STAT.CFG_SHORT (n : Nat) : Fld := ⟨(0xA0 + 4 * n) * 0x1000 + 0x044, 14, 1, 0, 0, .ro⟩
def CTP_STAT.NO_SUPPLY (n : Nat) : Fld := ⟨(0xA0 + 4 * n) * 0x1000 + 0x044, 13, 1, 0, 0, .ro⟩
def CTP_STAT.PG (n : Nat) : Fld := ⟨(0xA0 + 4 * n) * 0x1000 + 0x044, 12, 1, 0, 0, .ro⟩
def CTP_STAT.all (n : Nat) : List Fld := [CTP_STAT.STATE n, CTP_STAT.REV n, CTP_STAT.DB n, CTP_STAT.PARTNER_DB n, CTP_STAT.PARTNER_SWAP_OK n, CTP_STAT.PARTNER_PG n, CTP_STAT.PARTNER_CLASS n, CTP_STAT.PARTNER_CLASS_KNOWN n, CTP_STAT.LEVEL n, CTP_STAT.POWER_ROLE n, CTP_STAT.FLIPPED n, CTP_STAT.BOTH_RD n, CTP_STAT.CFG_SHORT n, CTP_STAT.NO_SUPPLY n, CTP_STAT.PG n]

-- CTP_CONTRACT (R352)
def CTP_CONTRACT.SEQ (n : Nat) : Fld := ⟨(0xA0 + 4 * n) * 0x1000 + 0x048, 24, 8, 0, 0, .ro⟩
def CTP_CONTRACT.BASE (n : Nat) : Fld := ⟨(0xA0 + 4 * n) * 0x1000 + 0x048, 12, 1, 0, 0, .ro⟩
def CTP_CONTRACT.CURRENT (n : Nat) : Fld := ⟨(0xA0 + 4 * n) * 0x1000 + 0x048, 2, 10, 0, 0, .ro⟩
def CTP_CONTRACT.VOLT (n : Nat) : Fld := ⟨(0xA0 + 4 * n) * 0x1000 + 0x048, 0, 2, 0, 0, .ro⟩
def CTP_CONTRACT.all (n : Nat) : List Fld := [CTP_CONTRACT.SEQ n, CTP_CONTRACT.BASE n, CTP_CONTRACT.CURRENT n, CTP_CONTRACT.VOLT n]

-- CTP_VCABLE (R343)
def CTP_VCABLE.MV25 (n : Nat) : Fld := ⟨(0xA0 + 4 * n) * 0x1000 + 0x04C, 0, 12, 0, 0, .ro⟩
def CTP_VCABLE.all (n : Nat) : List Fld := [CTP_VCABLE.MV25 n]

-- CTP_CMD (R369)
def CTP_CMD.HARD_RESET (n : Nat) : Fld := ⟨(0xA0 + 4 * n) * 0x1000 + 0x050, 1, 1, 0, 0, .wo⟩
def CTP_CMD.SEND (n : Nat) : Fld := ⟨(0xA0 + 4 * n) * 0x1000 + 0x050, 0, 1, 0, 0, .wo⟩
def CTP_CMD.all (n : Nat) : List Fld := [CTP_CMD.HARD_RESET n, CTP_CMD.SEND n]

-- CTP_TX_STAT (R345)
def CTP_TX_STAT.BUSY (n : Nat) : Fld := ⟨(0xA0 + 4 * n) * 0x1000 + 0x054, 31, 1, 0, 0, .ro⟩
def CTP_TX_STAT.OUTCOME (n : Nat) : Fld := ⟨(0xA0 + 4 * n) * 0x1000 + 0x054, 28, 3, 0, 0, .ro⟩
def CTP_TX_STAT.all (n : Nat) : List Fld := [CTP_TX_STAT.BUSY n, CTP_TX_STAT.OUTCOME n]

-- CTP_HR (R359)
def CTP_HR.COUNT (n : Nat) : Fld := ⟨(0xA0 + 4 * n) * 0x1000 + 0x058, 16, 16, 0, 0, .ro⟩
def CTP_HR.STUCK (n : Nat) : Fld := ⟨(0xA0 + 4 * n) * 0x1000 + 0x058, 4, 1, 0, 0, .ro⟩
def CTP_HR.CAUSE (n : Nat) : Fld := ⟨(0xA0 + 4 * n) * 0x1000 + 0x058, 0, 4, 0, 0, .ro⟩
def CTP_HR.all (n : Nat) : List Fld := [CTP_HR.COUNT n, CTP_HR.STUCK n, CTP_HR.CAUSE n]

-- CTP_RX_PTR (R369)
def CTP_RX_PTR.LOST (n : Nat) : Fld := ⟨(0xA0 + 4 * n) * 0x1000 + 0x05C, 16, 8, 0, 0, .ro⟩
def CTP_RX_PTR.TAIL (n : Nat) : Fld := ⟨(0xA0 + 4 * n) * 0x1000 + 0x05C, 8, 2, 0, 0, .rw⟩
def CTP_RX_PTR.HEAD (n : Nat) : Fld := ⟨(0xA0 + 4 * n) * 0x1000 + 0x05C, 0, 2, 0, 0, .ro⟩
def CTP_RX_PTR.all (n : Nat) : List Fld := [CTP_RX_PTR.LOST n, CTP_RX_PTR.TAIL n, CTP_RX_PTR.HEAD n]

-- CTP_TX (R369)
def CTP_TX.DATA (n i : Nat) : Fld := ⟨(0xA1 + 4 * n) * 0x1000 + 0x040 + 0x4 * i, 0, 32, 0, 0, .rw⟩
def CTP_TX.all (n i : Nat) : List Fld := [CTP_TX.DATA n i]

-- CTP_RX (R369)
def CTP_RX.DATA (n e i : Nat) : Fld := ⟨(0xA1 + 4 * n) * 0x1000 + 0x080 + 0x40 * e + 0x4 * i, 0, 32, 0, 0, .ro⟩
def CTP_RX.all (n e i : Nat) : List Fld := [CTP_RX.DATA n e i]

-- EYE_FEED_CTRL (R386)
def EYE_FEED_CTRL.MODE : Fld := ⟨0xB0 * 0x1000 + 0x040, 0, 2, 0, 0, .rw⟩
def EYE_FEED_CTRL.all : List Fld := [EYE_FEED_CTRL.MODE]

-- EYE_FEED_STAT (R386)
def EYE_FEED_STAT.SWITCHES : Fld := ⟨0xB0 * 0x1000 + 0x044, 16, 16, 0, 0, .ro⟩
def EYE_FEED_STAT.B_PRESENT : Fld := ⟨0xB0 * 0x1000 + 0x044, 3, 1, 0, 0, .ro⟩
def EYE_FEED_STAT.A_PRESENT : Fld := ⟨0xB0 * 0x1000 + 0x044, 2, 1, 0, 0, .ro⟩
def EYE_FEED_STAT.B_CONDUCTING : Fld := ⟨0xB0 * 0x1000 + 0x044, 1, 1, 0, 0, .ro⟩
def EYE_FEED_STAT.A_CONDUCTING : Fld := ⟨0xB0 * 0x1000 + 0x044, 0, 1, 0, 0, .ro⟩
def EYE_FEED_STAT.all : List Fld := [EYE_FEED_STAT.SWITCHES, EYE_FEED_STAT.B_PRESENT, EYE_FEED_STAT.A_PRESENT, EYE_FEED_STAT.B_CONDUCTING, EYE_FEED_STAT.A_CONDUCTING]

-- EYE_WARN_CTRL (R387)
def EYE_WARN_CTRL.HOLD_MS : Fld := ⟨0xB0 * 0x1000 + 0x048, 24, 8, 10, 10, .rw⟩
def EYE_WARN_CTRL.FOLLOW : Fld := ⟨0xB0 * 0x1000 + 0x048, 19, 1, 0, 0, .rw⟩
def EYE_WARN_CTRL.PWARN_EN : Fld := ⟨0xB0 * 0x1000 + 0x048, 18, 1, 1, 1, .rw⟩
def EYE_WARN_CTRL.SRC : Fld := ⟨0xB0 * 0x1000 + 0x048, 16, 2, 2, 0, .rw⟩
def EYE_WARN_CTRL.FEED_UV : Fld := ⟨0xB0 * 0x1000 + 0x048, 0, 12, 68, 68, .rw⟩
def EYE_WARN_CTRL.all : List Fld := [EYE_WARN_CTRL.HOLD_MS, EYE_WARN_CTRL.FOLLOW, EYE_WARN_CTRL.PWARN_EN, EYE_WARN_CTRL.SRC, EYE_WARN_CTRL.FEED_UV]

-- EYE_WARN_STAT (R387)
def EYE_WARN_STAT.COUNT : Fld := ⟨0xB0 * 0x1000 + 0x04C, 16, 16, 0, 0, .ro⟩
def EYE_WARN_STAT.ACTIVE : Fld := ⟨0xB0 * 0x1000 + 0x04C, 4, 1, 0, 0, .ro⟩
def EYE_WARN_STAT.EXTERNAL : Fld := ⟨0xB0 * 0x1000 + 0x04C, 3, 1, 0, 0, .ro⟩
def EYE_WARN_STAT.FOLLOWED : Fld := ⟨0xB0 * 0x1000 + 0x04C, 2, 1, 0, 0, .ro⟩
def EYE_WARN_STAT.SLOPE : Fld := ⟨0xB0 * 0x1000 + 0x04C, 1, 1, 0, 0, .ro⟩
def EYE_WARN_STAT.UV : Fld := ⟨0xB0 * 0x1000 + 0x04C, 0, 1, 0, 0, .ro⟩
def EYE_WARN_STAT.all : List Fld := [EYE_WARN_STAT.COUNT, EYE_WARN_STAT.ACTIVE, EYE_WARN_STAT.EXTERNAL, EYE_WARN_STAT.FOLLOWED, EYE_WARN_STAT.SLOPE, EYE_WARN_STAT.UV]

-- EYE_DIE_TEMP (R380)
def EYE_DIE_TEMP.TEMP : Fld := ⟨0xB0 * 0x1000 + 0x050, 0, 16, 0, 0, .ro⟩
def EYE_DIE_TEMP.all : List Fld := [EYE_DIE_TEMP.TEMP]

-- EYE_CH_CTRL (R373)
def EYE_CH_CTRL.SLOPE (n : Nat) : Fld := ⟨(0xB1 + n) * 0x1000 + 0x040, 16, 8, 10, 10, .rwl⟩
def EYE_CH_CTRL.TSRC (n : Nat) : Fld := ⟨(0xB1 + n) * 0x1000 + 0x040, 8, 2, 0, 0, .rwl⟩
def EYE_CH_CTRL.ON (n : Nat) : Fld := ⟨(0xB1 + n) * 0x1000 + 0x040, 0, 1, 1, 1, .rw⟩
def EYE_CH_CTRL.all (n : Nat) : List Fld := [EYE_CH_CTRL.SLOPE n, EYE_CH_CTRL.TSRC n, EYE_CH_CTRL.ON n]

-- EYE_CH_STAT (R373)
def EYE_CH_STAT.STATE (n : Nat) : Fld := ⟨(0xB1 + n) * 0x1000 + 0x044, 28, 4, 0, 0, .ro⟩
def EYE_CH_STAT.COOLING (n : Nat) : Fld := ⟨(0xB1 + n) * 0x1000 + 0x044, 27, 1, 0, 0, .ro⟩
def EYE_CH_STAT.PENDING (n : Nat) : Fld := ⟨(0xB1 + n) * 0x1000 + 0x044, 26, 1, 0, 0, .ro⟩
def EYE_CH_STAT.NTC_FAULT (n : Nat) : Fld := ⟨(0xB1 + n) * 0x1000 + 0x044, 25, 1, 0, 0, .ro⟩
def EYE_CH_STAT.CLAMPED (n : Nat) : Fld := ⟨(0xB1 + n) * 0x1000 + 0x044, 24, 1, 0, 0, .ro⟩
def EYE_CH_STAT.CAUSE (n : Nat) : Fld := ⟨(0xB1 + n) * 0x1000 + 0x044, 20, 4, 0, 0, .ro⟩
def EYE_CH_STAT.RAMP_WHY (n : Nat) : Fld := ⟨(0xB1 + n) * 0x1000 + 0x044, 17, 3, 0, 0, .ro⟩
def EYE_CH_STAT.CURVE_PT (n : Nat) : Fld := ⟨(0xB1 + n) * 0x1000 + 0x044, 13, 4, 0, 0, .ro⟩
def EYE_CH_STAT.ROLE (n : Nat) : Fld := ⟨(0xB1 + n) * 0x1000 + 0x044, 12, 1, 0, 0, .ro⟩
def EYE_CH_STAT.all (n : Nat) : List Fld := [EYE_CH_STAT.STATE n, EYE_CH_STAT.COOLING n, EYE_CH_STAT.PENDING n, EYE_CH_STAT.NTC_FAULT n, EYE_CH_STAT.CLAMPED n, EYE_CH_STAT.CAUSE n, EYE_CH_STAT.RAMP_WHY n, EYE_CH_STAT.CURVE_PT n, EYE_CH_STAT.ROLE n]

-- EYE_CH_LIMIT (R375)
def EYE_CH_LIMIT.BOUND (n : Nat) : Fld := ⟨(0xB1 + n) * 0x1000 + 0x048, 20, 12, (feedSel n 0 3000), (feedSel n 0 3000), .rwl⟩
def EYE_CH_LIMIT.INRUSH (n : Nat) : Fld := ⟨(0xB1 + n) * 0x1000 + 0x048, 10, 10, (feedSel n 50 500), (feedSel n 50 500), .rwl⟩
def EYE_CH_LIMIT.FAST (n : Nat) : Fld := ⟨(0xB1 + n) * 0x1000 + 0x048, 0, 10, (feedSel n 120 600), (feedSel n 120 600), .rwl⟩
def EYE_CH_LIMIT.all (n : Nat) : List Fld := [EYE_CH_LIMIT.BOUND n, EYE_CH_LIMIT.INRUSH n, EYE_CH_LIMIT.FAST n]

-- EYE_CH_VWIN (R378)
def EYE_CH_VWIN.OV (n : Nat) : Fld := ⟨(0xB1 + n) * 0x1000 + 0x04C, 16, 12, (feedSel n 0 2400), (feedSel n 0 2400), .rwl⟩
def EYE_CH_VWIN.UV (n : Nat) : Fld := ⟨(0xB1 + n) * 0x1000 + 0x04C, 0, 12, (feedSel n 0 640), (feedSel n 0 640), .rwl⟩
/-- Reads 0 in E0 to E3. -/
def EYE_CH_VWIN.all (n : Nat) : List Fld := if n < 4 then [] else [EYE_CH_VWIN.OV n, EYE_CH_VWIN.UV n]

-- EYE_CH_SENSE (R376)
def EYE_CH_SENSE.RSENSE (n : Nat) : Fld := ⟨(0xB1 + n) * 0x1000 + 0x050, 0, 16, (feedSel n 1000 150), (feedSel n 1000 150), .rwl⟩
def EYE_CH_SENSE.all (n : Nat) : List Fld := [EYE_CH_SENSE.RSENSE n]

-- EYE_CH_THERM0 (R380)
def EYE_CH_THERM0.THETA1 (n : Nat) : Fld := ⟨(0xB1 + n) * 0x1000 + 0x054, 16, 16, 200, 200, .rwl⟩
def EYE_CH_THERM0.TAU1 (n : Nat) : Fld := ⟨(0xB1 + n) * 0x1000 + 0x054, 0, 16, 50, 50, .rwl⟩
def EYE_CH_THERM0.all (n : Nat) : List Fld := [EYE_CH_THERM0.THETA1 n, EYE_CH_THERM0.TAU1 n]

-- EYE_CH_THERM1 (R380)
def EYE_CH_THERM1.THETA2 (n : Nat) : Fld := ⟨(0xB1 + n) * 0x1000 + 0x058, 16, 16, 300, 300, .rwl⟩
def EYE_CH_THERM1.TAU2 (n : Nat) : Fld := ⟨(0xB1 + n) * 0x1000 + 0x058, 0, 16, 800, 800, .rwl⟩
def EYE_CH_THERM1.all (n : Nat) : List Fld := [EYE_CH_THERM1.THETA2 n, EYE_CH_THERM1.TAU2 n]

-- EYE_CH_TLIM (R380)
def EYE_CH_TLIM.T_LIMIT (n : Nat) : Fld := ⟨(0xB1 + n) * 0x1000 + 0x05C, 24, 8, 150, 150, .rwl⟩
def EYE_CH_TLIM.T_WARN (n : Nat) : Fld := ⟨(0xB1 + n) * 0x1000 + 0x05C, 16, 8, 125, 125, .rwl⟩
def EYE_CH_TLIM.COOL_RISE (n : Nat) : Fld := ⟨(0xB1 + n) * 0x1000 + 0x05C, 8, 8, 10, 10, .rwl⟩
def EYE_CH_TLIM.E_SOA (n : Nat) : Fld := ⟨(0xB1 + n) * 0x1000 + 0x05C, 0, 8, 50, 50, .rwl⟩
def EYE_CH_TLIM.all (n : Nat) : List Fld := [EYE_CH_TLIM.T_LIMIT n, EYE_CH_TLIM.T_WARN n, EYE_CH_TLIM.COOL_RISE n, EYE_CH_TLIM.E_SOA n]

-- EYE_CH_CURVE (R376)
def EYE_CH_CURVE.THRESH (n k : Nat) : Fld := ⟨(0xB1 + n) * 0x1000 + 0x080 + 0x4 * k, 24, 8, (curveThresh k), (curveThresh k), .rwl⟩
def EYE_CH_CURVE.UNIT (n k : Nat) : Fld := ⟨(0xB1 + n) * 0x1000 + 0x080 + 0x4 * k, 16, 2, (curveUnit k), (curveUnit k), .rwl⟩
def EYE_CH_CURVE.TIME (n k : Nat) : Fld := ⟨(0xB1 + n) * 0x1000 + 0x080 + 0x4 * k, 0, 16, (curveTime k), (curveTime k), .rwl⟩
def EYE_CH_CURVE.all (n k : Nat) : List Fld := [EYE_CH_CURVE.THRESH n k, EYE_CH_CURVE.UNIT n k, EYE_CH_CURVE.TIME n k]

-- EYE_CH_MEAS_I (R380)
def EYE_CH_MEAS_I.I (n : Nat) : Fld := ⟨(0xB1 + n) * 0x1000 + 0x0A0, 0, 16, 0, 0, .ro⟩
def EYE_CH_MEAS_I.all (n : Nat) : List Fld := [EYE_CH_MEAS_I.I n]

-- EYE_CH_MEAS_V (R380)
def EYE_CH_MEAS_V.V_PORT (n : Nat) : Fld := ⟨(0xB1 + n) * 0x1000 + 0x0A4, 16, 12, 0, 0, .ro⟩
def EYE_CH_MEAS_V.V_BOARD (n : Nat) : Fld := ⟨(0xB1 + n) * 0x1000 + 0x0A4, 0, 12, 0, 0, .ro⟩
def EYE_CH_MEAS_V.all (n : Nat) : List Fld := [EYE_CH_MEAS_V.V_PORT n, EYE_CH_MEAS_V.V_BOARD n]

-- EYE_CH_TEMP (R380)
def EYE_CH_TEMP.T_USED (n : Nat) : Fld := ⟨(0xB1 + n) * 0x1000 + 0x0A8, 18, 9, 0, 0, .ro⟩
def EYE_CH_TEMP.T_MODEL (n : Nat) : Fld := ⟨(0xB1 + n) * 0x1000 + 0x0A8, 9, 9, 0, 0, .ro⟩
def EYE_CH_TEMP.T_NTC (n : Nat) : Fld := ⟨(0xB1 + n) * 0x1000 + 0x0A8, 0, 9, 0, 0, .ro⟩
def EYE_CH_TEMP.all (n : Nat) : List Fld := [EYE_CH_TEMP.T_USED n, EYE_CH_TEMP.T_MODEL n, EYE_CH_TEMP.T_NTC n]

-- EYE_CH_COOL (R382)
def EYE_CH_COOL.LEFT (n : Nat) : Fld := ⟨(0xB1 + n) * 0x1000 + 0x0AC, 16, 16, 0, 0, .ro⟩
def EYE_CH_COOL.RAMP_MJ (n : Nat) : Fld := ⟨(0xB1 + n) * 0x1000 + 0x0AC, 0, 16, 0, 0, .ro⟩
def EYE_CH_COOL.all (n : Nat) : List Fld := [EYE_CH_COOL.LEFT n, EYE_CH_COOL.RAMP_MJ n]

-- EYE_CH_TRIPS (R381)
def EYE_CH_TRIPS.TRIPS (n : Nat) : Fld := ⟨(0xB1 + n) * 0x1000 + 0x0B0, 16, 16, 0, 0, .ro⟩
def EYE_CH_TRIPS.all (n : Nat) : List Fld := [EYE_CH_TRIPS.TRIPS n]

-- KEY_STAT (R434)
def KEY_STAT.PUF_TRIES : Fld := ⟨0xC0 * 0x1000 + 0x040, 16, 3, 0, 0, .ro⟩
def KEY_STAT.PWD_FAILS : Fld := ⟨0xC0 * 0x1000 + 0x040, 8, 4, 0, 0, .ro⟩
def KEY_STAT.PWD_LOCKED : Fld := ⟨0xC0 * 0x1000 + 0x040, 6, 1, 0, 0, .ro⟩
def KEY_STAT.DBG_LEVEL : Fld := ⟨0xC0 * 0x1000 + 0x040, 4, 2, 3, 3, .ro⟩
def KEY_STAT.CLEARED : Fld := ⟨0xC0 * 0x1000 + 0x040, 3, 1, 0, 0, .ro⟩
def KEY_STAT.KEYS_READY : Fld := ⟨0xC0 * 0x1000 + 0x040, 2, 1, 0, 0, .ro⟩
def KEY_STAT.ENROLLING : Fld := ⟨0xC0 * 0x1000 + 0x040, 1, 1, 0, 0, .ro⟩
def KEY_STAT.ROOT_OK : Fld := ⟨0xC0 * 0x1000 + 0x040, 0, 1, 0, 0, .ro⟩
def KEY_STAT.all : List Fld := [KEY_STAT.PUF_TRIES, KEY_STAT.PWD_FAILS, KEY_STAT.PWD_LOCKED, KEY_STAT.DBG_LEVEL, KEY_STAT.CLEARED, KEY_STAT.KEYS_READY, KEY_STAT.ENROLLING, KEY_STAT.ROOT_OK]

-- KEY_OP (R434)
def KEY_OP.OP : Fld := ⟨0xC0 * 0x1000 + 0x044, 28, 4, 0, 0, .wo⟩
def KEY_OP.TAG : Fld := ⟨0xC0 * 0x1000 + 0x044, 16, 8, 0, 0, .wo⟩
def KEY_OP.TARGET : Fld := ⟨0xC0 * 0x1000 + 0x044, 8, 5, 0, 0, .wo⟩
def KEY_OP.SOURCE : Fld := ⟨0xC0 * 0x1000 + 0x044, 0, 5, 0, 0, .wo⟩
def KEY_OP.all : List Fld := [KEY_OP.OP, KEY_OP.TAG, KEY_OP.TARGET, KEY_OP.SOURCE]

-- KEY_DBG_CTRL (R440)
def KEY_DBG_CTRL.TAG : Fld := ⟨0xC0 * 0x1000 + 0x048, 8, 8, 0, 0, .wo⟩
def KEY_DBG_CTRL.OP : Fld := ⟨0xC0 * 0x1000 + 0x048, 0, 3, 0, 0, .wo⟩
def KEY_DBG_CTRL.all : List Fld := [KEY_DBG_CTRL.TAG, KEY_DBG_CTRL.OP]

-- KEY_DBG_WAIT (R441)
def KEY_DBG_WAIT.MS : Fld := ⟨0xC0 * 0x1000 + 0x04C, 0, 32, 0, 0, .ro⟩
def KEY_DBG_WAIT.all : List Fld := [KEY_DBG_WAIT.MS]

-- KEY_MEASURE (R428)
def KEY_MEASURE.DATA (i : Nat) : Fld := ⟨(0xC0) * 0x1000 + 0x080 + 0x4 * i, 0, 32, 0, 0, .ro⟩
def KEY_MEASURE.all (i : Nat) : List Fld := [KEY_MEASURE.DATA i]

-- KEY_RES0 (R434)
def KEY_RES0.SEQ : Fld := ⟨0xC0 * 0x1000 + 0x0C0, 16, 16, 0, 0, .ro⟩
def KEY_RES0.TAG : Fld := ⟨0xC0 * 0x1000 + 0x0C0, 8, 8, 0, 0, .ro⟩
def KEY_RES0.VALID : Fld := ⟨0xC0 * 0x1000 + 0x0C0, 7, 1, 0, 0, .ro⟩
def KEY_RES0.STATUS : Fld := ⟨0xC0 * 0x1000 + 0x0C0, 0, 7, 0, 0, .ro⟩
def KEY_RES0.all : List Fld := [KEY_RES0.SEQ, KEY_RES0.TAG, KEY_RES0.VALID, KEY_RES0.STATUS]

-- KEY_RES (R434)
def KEY_RES.DATA (i : Nat) : Fld := ⟨(0xC0) * 0x1000 + 0x0C4 + 0x4 * i, 0, 32, 0, 0, .ro⟩
def KEY_RES.all (i : Nat) : List Fld := [KEY_RES.DATA i]

-- KEY_DBG_NONCE (R440)
def KEY_DBG_NONCE.DATA (i : Nat) : Fld := ⟨(0xC1) * 0x1000 + 0x040 + 0x4 * i, 0, 32, 0, 0, .ro⟩
def KEY_DBG_NONCE.all (i : Nat) : List Fld := [KEY_DBG_NONCE.DATA i]

-- KEY_DBG_ANSWER (R440)
def KEY_DBG_ANSWER.DATA (i : Nat) : Fld := ⟨(0xC1) * 0x1000 + 0x080 + 0x4 * i, 0, 32, 0, 0, .rw⟩
def KEY_DBG_ANSWER.all (i : Nat) : List Fld := [KEY_DBG_ANSWER.DATA i]

-- KEY_PUB (R440)
def KEY_PUB.DATA (i : Nat) : Fld := ⟨(0xC1) * 0x1000 + 0x200 + 0x4 * i, 0, 32, 0, 0, .ro⟩
def KEY_PUB.all (i : Nat) : List Fld := [KEY_PUB.DATA i]

-- KEY_QUOTE (R440)
def KEY_QUOTE.DATA (i : Nat) : Fld := ⟨(0xC1) * 0x1000 + 0x280 + 0x4 * i, 0, 32, 0, 0, .ro⟩
def KEY_QUOTE.all (i : Nat) : List Fld := [KEY_QUOTE.DATA i]

-- KEY_PROV (R440)
def KEY_PROV.DATA (i : Nat) : Fld := ⟨(0xC1) * 0x1000 + 0x400 + 0x4 * i, 0, 32, 0, 0, .rw⟩
def KEY_PROV.all (i : Nat) : List Fld := [KEY_PROV.DATA i]

-- KEY_OP_DATA (R440)
def KEY_OP_DATA.DATA (i : Nat) : Fld := ⟨(0xC1) * 0x1000 + 0x500 + 0x4 * i, 0, 32, 0, 0, .rw⟩
def KEY_OP_DATA.all (i : Nat) : List Fld := [KEY_OP_DATA.DATA i]

-- CRY_CTRL (R437)
def CRY_CTRL.OP : Fld := ⟨0xC8 * 0x1000 + 0x040, 28, 4, 0, 0, .wo⟩
def CRY_CTRL.TAG : Fld := ⟨0xC8 * 0x1000 + 0x040, 16, 8, 0, 0, .wo⟩
def CRY_CTRL.SLOT : Fld := ⟨0xC8 * 0x1000 + 0x040, 8, 5, 0, 0, .wo⟩
def CRY_CTRL.all : List Fld := [CRY_CTRL.OP, CRY_CTRL.TAG, CRY_CTRL.SLOT]

-- CRY_LEN (R437)
def CRY_LEN.BYTES : Fld := ⟨0xC8 * 0x1000 + 0x044, 0, 14, 0, 0, .rw⟩
def CRY_LEN.all : List Fld := [CRY_LEN.BYTES]

-- CRY_STAT (R437)
def CRY_STAT.LOST : Fld := ⟨0xC8 * 0x1000 + 0x048, 8, 8, 0, 0, .ro⟩
def CRY_STAT.WAITING : Fld := ⟨0xC8 * 0x1000 + 0x048, 1, 1, 0, 0, .ro⟩
def CRY_STAT.BUSY : Fld := ⟨0xC8 * 0x1000 + 0x048, 0, 1, 0, 0, .ro⟩
def CRY_STAT.all : List Fld := [CRY_STAT.LOST, CRY_STAT.WAITING, CRY_STAT.BUSY]

-- CRY_RES0 (R437)
def CRY_RES0.SEQ : Fld := ⟨0xC8 * 0x1000 + 0x080, 16, 16, 0, 0, .ro⟩
def CRY_RES0.TAG : Fld := ⟨0xC8 * 0x1000 + 0x080, 8, 8, 0, 0, .ro⟩
def CRY_RES0.VALID : Fld := ⟨0xC8 * 0x1000 + 0x080, 7, 1, 0, 0, .ro⟩
def CRY_RES0.STATUS : Fld := ⟨0xC8 * 0x1000 + 0x080, 0, 7, 0, 0, .ro⟩
def CRY_RES0.all : List Fld := [CRY_RES0.SEQ, CRY_RES0.TAG, CRY_RES0.VALID, CRY_RES0.STATUS]

-- CRY_RES (R437)
def CRY_RES.DATA (i : Nat) : Fld := ⟨(0xC8) * 0x1000 + 0x084 + 0x4 * i, 0, 32, 0, 0, .ro⟩
def CRY_RES.all (i : Nat) : List Fld := [CRY_RES.DATA i]

-- CRY_IN (R437)
def CRY_IN.DATA (n i : Nat) : Fld := ⟨(0xC9 + n) * 0x1000 + 0x040 + 0x4 * i, 0, 32, 0, 0, .rw⟩
def CRY_IN.all (n i : Nat) : List Fld := [CRY_IN.DATA n i]

-- CRY_OUT (R437)
def CRY_OUT.DATA (i : Nat) : Fld := ⟨(0xCC) * 0x1000 + 0x040 + 0x4 * i, 0, 32, 0, 0, .ro⟩
def CRY_OUT.all (i : Nat) : List Fld := [CRY_OUT.DATA i]

-- CNT_CTRL (R470)
def CNT_CTRL.CLEAR : Fld := ⟨0xD0 * 0x1000 + 0x040, 4, 1, 0, 0, .wo⟩
def CNT_CTRL.DEST : Fld := ⟨0xD0 * 0x1000 + 0x040, 3, 1, 0, 0, .rw⟩
def CNT_CTRL.DUMP : Fld := ⟨0xD0 * 0x1000 + 0x040, 2, 1, 0, 0, .rw⟩
def CNT_CTRL.PERIODIC : Fld := ⟨0xD0 * 0x1000 + 0x040, 1, 1, 0, 0, .rw⟩
def CNT_CTRL.RUN : Fld := ⟨0xD0 * 0x1000 + 0x040, 0, 1, 1, 1, .rw⟩
def CNT_CTRL.all : List Fld := [CNT_CTRL.CLEAR, CNT_CTRL.DEST, CNT_CTRL.DUMP, CNT_CTRL.PERIODIC, CNT_CTRL.RUN]

-- CNT_PERIOD (R470)
def CNT_PERIOD.TICKS : Fld := ⟨0xD0 * 0x1000 + 0x044, 0, 32, 400000, 400000, .rw⟩
def CNT_PERIOD.all : List Fld := [CNT_PERIOD.TICKS]

-- CNT_ANCHOR_LO (R470)
def CNT_ANCHOR_LO.ANCHOR : Fld := ⟨0xD0 * 0x1000 + 0x048, 0, 32, 0, 0, .rw⟩
def CNT_ANCHOR_LO.all : List Fld := [CNT_ANCHOR_LO.ANCHOR]

-- CNT_ANCHOR_HI (R470)
def CNT_ANCHOR_HI.ANCHOR : Fld := ⟨0xD0 * 0x1000 + 0x04C, 0, 32, 0, 0, .rw⟩
def CNT_ANCHOR_HI.all : List Fld := [CNT_ANCHOR_HI.ANCHOR]

-- CNT_SNAP (R470)
def CNT_SNAP.TAG : Fld := ⟨0xD0 * 0x1000 + 0x050, 16, 8, 0, 0, .wo⟩
def CNT_SNAP.AT : Fld := ⟨0xD0 * 0x1000 + 0x050, 1, 1, 0, 0, .wo⟩
def CNT_SNAP.GO : Fld := ⟨0xD0 * 0x1000 + 0x050, 0, 1, 0, 0, .wo⟩
def CNT_SNAP.all : List Fld := [CNT_SNAP.TAG, CNT_SNAP.AT, CNT_SNAP.GO]

-- CNT_SNAP_T_LO (R470)
def CNT_SNAP_T_LO.T : Fld := ⟨0xD0 * 0x1000 + 0x054, 0, 32, 0, 0, .rw⟩
def CNT_SNAP_T_LO.all : List Fld := [CNT_SNAP_T_LO.T]

-- CNT_SNAP_T_HI (R470)
def CNT_SNAP_T_HI.T : Fld := ⟨0xD0 * 0x1000 + 0x058, 0, 32, 0, 0, .rw⟩
def CNT_SNAP_T_HI.all : List Fld := [CNT_SNAP_T_HI.T]

-- CNT_STAT (R470)
def CNT_STAT.MERGED : Fld := ⟨0xD0 * 0x1000 + 0x05C, 16, 16, 0, 0, .ro⟩
def CNT_STAT.WRITING : Fld := ⟨0xD0 * 0x1000 + 0x05C, 1, 1, 0, 0, .ro⟩
def CNT_STAT.AT_PENDING : Fld := ⟨0xD0 * 0x1000 + 0x05C, 0, 1, 0, 0, .ro⟩
def CNT_STAT.all : List Fld := [CNT_STAT.MERGED, CNT_STAT.WRITING, CNT_STAT.AT_PENDING]

-- CNT_SNAP_SEQ (R470)
def CNT_SNAP_SEQ.SEQ : Fld := ⟨0xD0 * 0x1000 + 0x060, 0, 32, 0, 0, .ro⟩
def CNT_SNAP_SEQ.all : List Fld := [CNT_SNAP_SEQ.SEQ]

-- CNT_SNAP_TIME_LO (R470)
def CNT_SNAP_TIME_LO.TIME : Fld := ⟨0xD0 * 0x1000 + 0x064, 0, 32, 0, 0, .ro⟩
def CNT_SNAP_TIME_LO.all : List Fld := [CNT_SNAP_TIME_LO.TIME]

-- CNT_SNAP_TIME_HI (R470)
def CNT_SNAP_TIME_HI.TIME : Fld := ⟨0xD0 * 0x1000 + 0x068, 0, 32, 0, 0, .ro⟩
def CNT_SNAP_TIME_HI.all : List Fld := [CNT_SNAP_TIME_HI.TIME]

-- CNT_RING_BASE_LO (R475)
def CNT_RING_BASE_LO.ADDR : Fld := ⟨0xD0 * 0x1000 + 0x070, 6, 26, 0, 0, .rw⟩
def CNT_RING_BASE_LO.all : List Fld := [CNT_RING_BASE_LO.ADDR]

-- CNT_RING_BASE_HI (R475)
def CNT_RING_BASE_HI.ADDR : Fld := ⟨0xD0 * 0x1000 + 0x074, 0, 32, 0, 0, .rw⟩
def CNT_RING_BASE_HI.all : List Fld := [CNT_RING_BASE_HI.ADDR]

-- CNT_RING_SIZE (R475)
def CNT_RING_SIZE.RECORDS : Fld := ⟨0xD0 * 0x1000 + 0x078, 0, 16, 170, 170, .rw⟩
def CNT_RING_SIZE.all : List Fld := [CNT_RING_SIZE.RECORDS]

-- CNT_RING_HEAD (R475)
def CNT_RING_HEAD.HEAD : Fld := ⟨0xD0 * 0x1000 + 0x07C, 0, 16, 0, 0, .ro⟩
def CNT_RING_HEAD.all : List Fld := [CNT_RING_HEAD.HEAD]

-- CNT_RING_TAIL (R475)
def CNT_RING_TAIL.TAIL : Fld := ⟨0xD0 * 0x1000 + 0x080, 0, 16, 0, 0, .rw⟩
def CNT_RING_TAIL.all : List Fld := [CNT_RING_TAIL.TAIL]

-- CNT_RING_LOST (R475)
def CNT_RING_LOST.LOST : Fld := ⟨0xD0 * 0x1000 + 0x084, 0, 32, 0, 0, .ro⟩
def CNT_RING_LOST.all : List Fld := [CNT_RING_LOST.LOST]

-- CNT_SEL_GEN (R466)
def CNT_SEL_GEN.GEN : Fld := ⟨0xD0 * 0x1000 + 0x088, 0, 32, 0, 0, .ro⟩
def CNT_SEL_GEN.all : List Fld := [CNT_SEL_GEN.GEN]

-- CNT_SEL (R466)
def CNT_SEL.MODE (g k : Nat) : Fld := ⟨(0xD1 + g / 8) * 0x1000 + 0x040 + 0x20 * (g % 8) + 0x4 * k, 28, 4, (selMode g), (selMode g), .rw⟩
def CNT_SEL.SRC (g k : Nat) : Fld := ⟨(0xD1 + g / 8) * 0x1000 + 0x040 + 0x20 * (g % 8) + 0x4 * k, 20, 8, (selSrc g k), (selSrc g k), .rw⟩
def CNT_SEL.N (g k : Nat) : Fld := ⟨(0xD1 + g / 8) * 0x1000 + 0x040 + 0x20 * (g % 8) + 0x4 * k, 0, 18, 0, 0, .rw⟩
def CNT_SEL.all (g k : Nat) : List Fld := [CNT_SEL.MODE g k, CNT_SEL.SRC g k, CNT_SEL.N g k]

-- CNT_VAL_LO (R463)
def CNT_VAL_LO.COUNT (g k : Nat) : Fld := ⟨(0xD4 + g / 8) * 0x1000 + 0x040 + 0x40 * (g % 8) + 0x8 * k, 0, 32, 0, 0, .ro⟩
def CNT_VAL_LO.all (g k : Nat) : List Fld := [CNT_VAL_LO.COUNT g k]

-- CNT_VAL_HI (R463)
def CNT_VAL_HI.COUNT (g k : Nat) : Fld := ⟨(0xD4 + g / 8) * 0x1000 + 0x044 + 0x40 * (g % 8) + 0x8 * k, 0, 16, 0, 0, .ro⟩
def CNT_VAL_HI.all (g k : Nat) : List Fld := [CNT_VAL_HI.COUNT g k]

-- CNT_PEND (R466)
def CNT_PEND.SLOTS (u : Nat) : Fld := ⟨(0xD7) * 0x1000 + 0x040 + 0x4 * u, 0, 32, 0, 0, .ro⟩
def CNT_PEND.all (u : Nat) : List Fld := [CNT_PEND.SLOTS u]

-- BOOT_STAT (R454)
def BOOT_STAT.RECORD_SEQ : Fld := ⟨0xE0 * 0x1000 + 0x040, 16, 16, 0, 0, .ro⟩
def BOOT_STAT.CFG_SKIPPED : Fld := ⟨0xE0 * 0x1000 + 0x040, 8, 8, 0, 0, .ro⟩
def BOOT_STAT.CFG_APPLIED : Fld := ⟨0xE0 * 0x1000 + 0x040, 7, 1, 0, 0, .ro⟩
def BOOT_STAT.POLICY_LOADED : Fld := ⟨0xE0 * 0x1000 + 0x040, 6, 1, 0, 0, .ro⟩
def BOOT_STAT.B_VALID : Fld := ⟨0xE0 * 0x1000 + 0x040, 5, 1, 0, 0, .ro⟩
def BOOT_STAT.A_VALID : Fld := ⟨0xE0 * 0x1000 + 0x040, 4, 1, 0, 0, .ro⟩
def BOOT_STAT.FLASHLESS : Fld := ⟨0xE0 * 0x1000 + 0x040, 3, 1, 0, 0, .ro⟩
def BOOT_STAT.FELL_BACK : Fld := ⟨0xE0 * 0x1000 + 0x040, 2, 1, 0, 0, .ro⟩
def BOOT_STAT.RECORD_BANK : Fld := ⟨0xE0 * 0x1000 + 0x040, 1, 1, 0, 0, .ro⟩
def BOOT_STAT.BOOTED_BANK : Fld := ⟨0xE0 * 0x1000 + 0x040, 0, 1, 0, 0, .ro⟩
def BOOT_STAT.all : List Fld := [BOOT_STAT.RECORD_SEQ, BOOT_STAT.CFG_SKIPPED, BOOT_STAT.CFG_APPLIED, BOOT_STAT.POLICY_LOADED, BOOT_STAT.B_VALID, BOOT_STAT.A_VALID, BOOT_STAT.FLASHLESS, BOOT_STAT.FELL_BACK, BOOT_STAT.RECORD_BANK, BOOT_STAT.BOOTED_BANK]

-- BOOT_BANK0 (R454)
def BOOT_BANK0.BASE_VERSION (b : Nat) : Fld := ⟨(0xE0) * 0x1000 + 0x050 + 0x10 * b, 0, 32, 0, 0, .ro⟩
def BOOT_BANK0.all (b : Nat) : List Fld := [BOOT_BANK0.BASE_VERSION b]

-- BOOT_BANK1 (R454)
def BOOT_BANK1.BASE_ROLLBACK (b : Nat) : Fld := ⟨(0xE0) * 0x1000 + 0x054 + 0x10 * b, 16, 7, 0, 0, .ro⟩
def BOOT_BANK1.SCHEMA (b : Nat) : Fld := ⟨(0xE0) * 0x1000 + 0x054 + 0x10 * b, 0, 16, 0, 0, .ro⟩
def BOOT_BANK1.all (b : Nat) : List Fld := [BOOT_BANK1.BASE_ROLLBACK b, BOOT_BANK1.SCHEMA b]

-- BOOT_BANK2 (R454)
def BOOT_BANK2.POLICY_VERSION (b : Nat) : Fld := ⟨(0xE0) * 0x1000 + 0x058 + 0x10 * b, 0, 32, 0, 0, .ro⟩
def BOOT_BANK2.all (b : Nat) : List Fld := [BOOT_BANK2.POLICY_VERSION b]

-- BOOT_BANK3 (R454)
def BOOT_BANK3.CFG_PRESENT (b : Nat) : Fld := ⟨(0xE0) * 0x1000 + 0x05C + 0x10 * b, 8, 1, 0, 0, .ro⟩
def BOOT_BANK3.POLICY_PRESENT (b : Nat) : Fld := ⟨(0xE0) * 0x1000 + 0x05C + 0x10 * b, 7, 1, 0, 0, .ro⟩
def BOOT_BANK3.POLICY_ROLLBACK (b : Nat) : Fld := ⟨(0xE0) * 0x1000 + 0x05C + 0x10 * b, 0, 7, 0, 0, .ro⟩
def BOOT_BANK3.all (b : Nat) : List Fld := [BOOT_BANK3.CFG_PRESENT b, BOOT_BANK3.POLICY_PRESENT b, BOOT_BANK3.POLICY_ROLLBACK b]

-- UPD_STAT (R447)
def UPD_STAT.SESSION : Fld := ⟨0xE8 * 0x1000 + 0x040, 24, 8, 0, 0, .ro⟩
def UPD_STAT.STATE : Fld := ⟨0xE8 * 0x1000 + 0x040, 20, 4, 0, 0, .ro⟩
def UPD_STAT.KIND : Fld := ⟨0xE8 * 0x1000 + 0x040, 18, 2, 0, 0, .ro⟩
def UPD_STAT.TARGET : Fld := ⟨0xE8 * 0x1000 + 0x040, 17, 1, 0, 0, .ro⟩
def UPD_STAT.RELAY : Fld := ⟨0xE8 * 0x1000 + 0x040, 16, 1, 0, 0, .ro⟩
def UPD_STAT.CHUNKS_DONE : Fld := ⟨0xE8 * 0x1000 + 0x040, 8, 8, 0, 0, .ro⟩
def UPD_STAT.CHUNKS_TOTAL : Fld := ⟨0xE8 * 0x1000 + 0x040, 0, 8, 0, 0, .ro⟩
def UPD_STAT.all : List Fld := [UPD_STAT.SESSION, UPD_STAT.STATE, UPD_STAT.KIND, UPD_STAT.TARGET, UPD_STAT.RELAY, UPD_STAT.CHUNKS_DONE, UPD_STAT.CHUNKS_TOTAL]

-- UPD_REFUSE (R447)
def UPD_REFUSE.SRC_HUB : Fld := ⟨0xE8 * 0x1000 + 0x044, 16, 8, 0, 0, .ro⟩
def UPD_REFUSE.CHUNK : Fld := ⟨0xE8 * 0x1000 + 0x044, 8, 8, 0, 0, .ro⟩
def UPD_REFUSE.REASON : Fld := ⟨0xE8 * 0x1000 + 0x044, 0, 5, 0, 0, .ro⟩
def UPD_REFUSE.all : List Fld := [UPD_REFUSE.SRC_HUB, UPD_REFUSE.CHUNK, UPD_REFUSE.REASON]

-- UPD_ACT (R447)
def UPD_ACT.PENDING : Fld := ⟨0xE8 * 0x1000 + 0x048, 31, 1, 0, 0, .ro⟩
def UPD_ACT.AT : Fld := ⟨0xE8 * 0x1000 + 0x048, 30, 1, 0, 0, .ro⟩
def UPD_ACT.LATE : Fld := ⟨0xE8 * 0x1000 + 0x048, 29, 1, 0, 0, .ro⟩
def UPD_ACT.FAILED : Fld := ⟨0xE8 * 0x1000 + 0x048, 28, 1, 0, 0, .ro⟩
def UPD_ACT.all : List Fld := [UPD_ACT.PENDING, UPD_ACT.AT, UPD_ACT.LATE, UPD_ACT.FAILED]

-- UPD_FWD (R447)
def UPD_FWD.FAILED : Fld := ⟨0xE8 * 0x1000 + 0x050, 4, 4, 0, 0, .ro⟩
def UPD_FWD.PORTS : Fld := ⟨0xE8 * 0x1000 + 0x050, 0, 4, 0, 0, .ro⟩
def UPD_FWD.all : List Fld := [UPD_FWD.FAILED, UPD_FWD.PORTS]

-- UPD_ACT_EPOCH (R455)
def UPD_ACT_EPOCH.EPOCH : Fld := ⟨0xE8 * 0x1000 + 0x04C, 0, 32, 0, 0, .ro⟩
def UPD_ACT_EPOCH.all : List Fld := [UPD_ACT_EPOCH.EPOCH]

-- UPD_TARGET (R450)
def UPD_TARGET.IDS (k : Nat) : Fld := ⟨(0xE8) * 0x1000 + 0x080 + 0x4 * k, 0, 32, 0, 0, .ro⟩
def UPD_TARGET.all (k : Nat) : List Fld := [UPD_TARGET.IDS k]

-- DBG_LOG_HEAD (R481)
def DBG_LOG_HEAD.TOTAL : Fld := ⟨0xF0 * 0x1000 + 0x040, 16, 16, 0, 0, .ro⟩
def DBG_LOG_HEAD.NEXT : Fld := ⟨0xF0 * 0x1000 + 0x040, 0, 8, 0, 0, .ro⟩
def DBG_LOG_HEAD.all : List Fld := [DBG_LOG_HEAD.TOTAL, DBG_LOG_HEAD.NEXT]

-- DBG_LOG0 (R481)
def DBG_LOG0.CAUSE (e : Nat) : Fld := ⟨(0xF0) * 0x1000 + 0x080 + 0x8 * e, 0, 8, 0, 0, .ro⟩
def DBG_LOG0.UNIT (e : Nat) : Fld := ⟨(0xF0) * 0x1000 + 0x080 + 0x8 * e, 8, 8, 0, 0, .ro⟩
def DBG_LOG0.INDEX (e : Nat) : Fld := ⟨(0xF0) * 0x1000 + 0x080 + 0x8 * e, 16, 11, 0, 0, .ro⟩
def DBG_LOG0.all (e : Nat) : List Fld := [DBG_LOG0.CAUSE e, DBG_LOG0.UNIT e, DBG_LOG0.INDEX e]

-- DBG_LOG1 (R481)
def DBG_LOG1.TIME (e : Nat) : Fld := ⟨(0xF0) * 0x1000 + 0x084 + 0x8 * e, 0, 32, 0, 0, .ro⟩
def DBG_LOG1.all (e : Nat) : List Fld := [DBG_LOG1.TIME e]

-- DBG_AWL_CTRL (R481)
def DBG_AWL_CTRL.STEP : Fld := ⟨0xF1 * 0x1000 + 0x040, 1, 1, 0, 0, .wo⟩
def DBG_AWL_CTRL.HALT : Fld := ⟨0xF1 * 0x1000 + 0x040, 0, 1, 0, 0, .rw⟩
def DBG_AWL_CTRL.all : List Fld := [DBG_AWL_CTRL.STEP, DBG_AWL_CTRL.HALT]

-- DBG_AWL_PC (R481)
def DBG_AWL_PC.PC : Fld := ⟨0xF1 * 0x1000 + 0x044, 1, 31, 0, 0, .ro⟩
def DBG_AWL_PC.WORLD : Fld := ⟨0xF1 * 0x1000 + 0x044, 0, 1, 0, 0, .ro⟩
def DBG_AWL_PC.all : List Fld := [DBG_AWL_PC.PC, DBG_AWL_PC.WORLD]

-- DBG_TRACE (R481)
def DBG_TRACE.DATA (i : Nat) : Fld := ⟨(0xF2) * 0x1000 + 0x040 + 0x4 * i, 0, 32, 0, 0, .ro⟩
def DBG_TRACE.all (i : Nat) : List Fld := [DBG_TRACE.DATA i]

end Sys2Proof.Machine
end

