-- ==== Sys2Proof/Machine/RegMapW.lean ====
section
/-!
DEFINITION. Sys2Proof/Machine/RegMapW.lean: the fields of the table windows and on-chip rings (Tables 08.1, 08.2).
One definition per field, at its window offset (R4), with its place in the word, its value after power-on in a spoke and
in a Root (R9, Tables 18.2 to 18.10) and its access type (R7). `X.all` lists the fields of register X.
-/
namespace Sys2Proof.Machine

/-- Slots 0 to 8 are fixed (R431). -/
def slotFixed (s : Nat) : Nat := if s < 9 then 1 else 0

-- CTX0 (R143), i < 2048
def CTX0.IN_ATT (i : Nat) : Fld := ⟨0x0100000 + 0x100 * i + 0x00, 0, 3, 0, 0, .rw⟩
def CTX0.CLASS (i : Nat) : Fld := ⟨0x0100000 + 0x100 * i + 0x00, 4, 2, 0, 0, .rw⟩
def CTX0.TTYPE (i : Nat) : Fld := ⟨0x0100000 + 0x100 * i + 0x00, 6, 4, 0, 0, .rw⟩
def CTX0.HOME (i : Nat) : Fld := ⟨0x0100000 + 0x100 * i + 0x00, 10, 4, 0, 0, .rw⟩
def CTX0.HOME_AUTO (i : Nat) : Fld := ⟨0x0100000 + 0x100 * i + 0x00, 14, 1, 0, 0, .rw⟩
def CTX0.SEAL (i : Nat) : Fld := ⟨0x0100000 + 0x100 * i + 0x00, 15, 1, 0, 0, .rw⟩
def CTX0.WRAP (i : Nat) : Fld := ⟨0x0100000 + 0x100 * i + 0x00, 16, 1, 0, 0, .rw⟩
def CTX0.MCAST (i : Nat) : Fld := ⟨0x0100000 + 0x100 * i + 0x00, 17, 1, 0, 0, .rw⟩
def CTX0.PAIR_VALID (i : Nat) : Fld := ⟨0x0100000 + 0x100 * i + 0x00, 18, 1, 0, 0, .rw⟩
def CTX0.PAIR (i : Nat) : Fld := ⟨0x0100000 + 0x100 * i + 0x00, 19, 11, 0, 0, .rw⟩
def CTX0.all (i : Nat) : List Fld := [CTX0.IN_ATT i, CTX0.CLASS i, CTX0.TTYPE i, CTX0.HOME i, CTX0.HOME_AUTO i, CTX0.SEAL i, CTX0.WRAP i, CTX0.MCAST i, CTX0.PAIR_VALID i, CTX0.PAIR i]

-- CTX1 (R143), i < 2048
def CTX1.OUT_ATT (i : Nat) : Fld := ⟨0x0100000 + 0x100 * i + 0x04, 0, 3, 0, 0, .rw⟩
def CTX1.OUT_LABEL (i : Nat) : Fld := ⟨0x0100000 + 0x100 * i + 0x04, 3, 11, 0, 0, .rw⟩
def CTX1.END_HUB (i : Nat) : Fld := ⟨0x0100000 + 0x100 * i + 0x04, 16, 8, 0, 0, .rw⟩
def CTX1.all (i : Nat) : List Fld := [CTX1.OUT_ATT i, CTX1.OUT_LABEL i, CTX1.END_HUB i]

-- CTX2 (R143), i < 2048
def CTX2.QUOTA (i : Nat) : Fld := ⟨0x0100000 + 0x100 * i + 0x08, 0, 16, 0, 0, .rw⟩
def CTX2.DECLARED (i : Nat) : Fld := ⟨0x0100000 + 0x100 * i + 0x08, 16, 16, 0, 0, .rw⟩
def CTX2.all (i : Nat) : List Fld := [CTX2.QUOTA i, CTX2.DECLARED i]

-- CTX3 (R143), i < 2048
def CTX3.BUF_QUOTA (i : Nat) : Fld := ⟨0x0100000 + 0x100 * i + 0x0C, 0, 18, 0, 0, .rw⟩
def CTX3.all (i : Nat) : List Fld := [CTX3.BUF_QUOTA i]

-- CTX4 (R143), i < 2048
def CTX4.NEXT_SEQ (i : Nat) : Fld := ⟨0x0100000 + 0x100 * i + 0x10, 0, 16, 0, 0, .ro⟩
def CTX4.GAPS (i : Nat) : Fld := ⟨0x0100000 + 0x100 * i + 0x10, 16, 16, 0, 0, .ro⟩
def CTX4.all (i : Nat) : List Fld := [CTX4.NEXT_SEQ i, CTX4.GAPS i]

-- CTX5 (R143), i < 2048
def CTX5.ACTIVE (i : Nat) : Fld := ⟨0x0100000 + 0x100 * i + 0x14, 0, 1, 0, 0, .ro⟩
def CTX5.WARMING (i : Nat) : Fld := ⟨0x0100000 + 0x100 * i + 0x14, 1, 1, 0, 0, .ro⟩
def CTX5.OVER_QUOTA (i : Nat) : Fld := ⟨0x0100000 + 0x100 * i + 0x14, 2, 1, 0, 0, .ro⟩
def CTX5.REHOMED (i : Nat) : Fld := ⟨0x0100000 + 0x100 * i + 0x14, 3, 1, 0, 0, .ro⟩
def CTX5.HELD (i : Nat) : Fld := ⟨0x0100000 + 0x100 * i + 0x14, 4, 1, 0, 0, .ro⟩
def CTX5.UNDERFED (i : Nat) : Fld := ⟨0x0100000 + 0x100 * i + 0x14, 5, 1, 0, 0, .ro⟩
def CTX5.DRAINING (i : Nat) : Fld := ⟨0x0100000 + 0x100 * i + 0x14, 6, 1, 0, 0, .ro⟩
def CTX5.WARM_LEFT (i : Nat) : Fld := ⟨0x0100000 + 0x100 * i + 0x14, 8, 4, 0, 0, .ro⟩
def CTX5.LAST_CAUSE (i : Nat) : Fld := ⟨0x0100000 + 0x100 * i + 0x14, 12, 4, 0, 0, .ro⟩
def CTX5.all (i : Nat) : List Fld := [CTX5.ACTIVE i, CTX5.WARMING i, CTX5.OVER_QUOTA i, CTX5.REHOMED i, CTX5.HELD i, CTX5.UNDERFED i, CTX5.DRAINING i, CTX5.WARM_LEFT i, CTX5.LAST_CAUSE i]

-- CTX6 (R143), i < 2048
def CTX6.OCCUPANCY (i : Nat) : Fld := ⟨0x0100000 + 0x100 * i + 0x18, 0, 18, 0, 0, .ro⟩
def CTX6.all (i : Nat) : List Fld := [CTX6.OCCUPANCY i]

-- CTX7 (R143), i < 2048
def CTX7.EPOCH_USE (i : Nat) : Fld := ⟨0x0100000 + 0x100 * i + 0x1C, 0, 16, 0, 0, .ro⟩
def CTX7.DISCARDS (i : Nat) : Fld := ⟨0x0100000 + 0x100 * i + 0x1C, 16, 16, 0, 0, .ro⟩
def CTX7.all (i : Nat) : List Fld := [CTX7.EPOCH_USE i, CTX7.DISCARDS i]

-- CTX_FAN (R157), i < 2048, j < 8
def CTX_FAN.ATT (i j : Nat) : Fld := ⟨0x0100000 + 0x100 * i + 0x20 + 2 * j, 0, 3, 0, 0, .rw⟩
def CTX_FAN.LABEL (i j : Nat) : Fld := ⟨0x0100000 + 0x100 * i + 0x20 + 2 * j, 3, 11, 0, 0, .rw⟩
def CTX_FAN.VALID (i j : Nat) : Fld := ⟨0x0100000 + 0x100 * i + 0x20 + 2 * j, 15, 1, 0, 0, .rw⟩
def CTX_FAN.all (i j : Nat) : List Fld := [CTX_FAN.ATT i j, CTX_FAN.LABEL i j, CTX_FAN.VALID i j]

-- CTXC (R143), i < 2048
def CTXC.PKTS_LO (i : Nat) : Fld := ⟨0x0100000 + 0x100 * i + 0x30, 0, 32, 0, 0, .ro⟩
def CTXC.all (i : Nat) : List Fld := [CTXC.PKTS_LO i]

-- CTXD (R143), i < 2048
def CTXD.PKTS_HI (i : Nat) : Fld := ⟨0x0100000 + 0x100 * i + 0x34, 0, 16, 0, 0, .ro⟩
def CTXD.all (i : Nat) : List Fld := [CTXD.PKTS_HI i]

-- CTXE (R143), i < 2048
def CTXE.SLOTS_LO (i : Nat) : Fld := ⟨0x0100000 + 0x100 * i + 0x38, 0, 32, 0, 0, .ro⟩
def CTXE.all (i : Nat) : List Fld := [CTXE.SLOTS_LO i]

-- CTXF (R143), i < 2048
def CTXF.SLOTS_HI (i : Nat) : Fld := ⟨0x0100000 + 0x100 * i + 0x3C, 0, 16, 0, 0, .ro⟩
def CTXF.all (i : Nat) : List Fld := [CTXF.SLOTS_HI i]

-- CTXP0 (R180), i < 2048
def CTXP0.PRED_X16 (i : Nat) : Fld := ⟨0x0100000 + 0x100 * i + 0x40, 0, 20, 0, 0, .ro⟩
def CTXP0.all (i : Nat) : List Fld := [CTXP0.PRED_X16 i]

-- CTXP1 (R192), i < 2048
def CTXP1.EFF_QUOTA (i : Nat) : Fld := ⟨0x0100000 + 0x100 * i + 0x44, 0, 16, 0, 0, .ro⟩
def CTXP1.OWN_USE (i : Nat) : Fld := ⟨0x0100000 + 0x100 * i + 0x44, 16, 16, 0, 0, .ro⟩
def CTXP1.all (i : Nat) : List Fld := [CTXP1.EFF_QUOTA i, CTXP1.OWN_USE i]

-- CTXP2 (R180), i < 2048
def CTXP2.BORROWED (i : Nat) : Fld := ⟨0x0100000 + 0x100 * i + 0x48, 0, 16, 0, 0, .ro⟩
def CTXP2.LAST_DEMAND (i : Nat) : Fld := ⟨0x0100000 + 0x100 * i + 0x48, 16, 16, 0, 0, .ro⟩
def CTXP2.all (i : Nat) : List Fld := [CTXP2.BORROWED i, CTXP2.LAST_DEMAND i]

-- CTXP3 (R151), i < 2048
def CTXP3.ADMITTED_OCC (i : Nat) : Fld := ⟨0x0100000 + 0x100 * i + 0x4C, 0, 18, 0, 0, .ro⟩
def CTXP3.all (i : Nat) : List Fld := [CTXP3.ADMITTED_OCC i]

-- CTXP4 (R174), i < 2048
def CTXP4.OWED (i : Nat) : Fld := ⟨0x0100000 + 0x100 * i + 0x50, 0, 17, 0, 0, .ro⟩
def CTXP4.all (i : Nat) : List Fld := [CTXP4.OWED i]

-- CTXP5 (R177), i < 2048
def CTXP5.SLACK (i : Nat) : Fld := ⟨0x0100000 + 0x100 * i + 0x54, 0, 16, 0, 0, .ro⟩
def CTXP5.all (i : Nat) : List Fld := [CTXP5.SLACK i]

-- CTXP6 (R183), i < 2048
def CTXP6.QWHEEL (i : Nat) : Fld := ⟨0x0100000 + 0x100 * i + 0x58, 0, 3, 0, 0, .ro⟩
def CTXP6.IN_MAP (i : Nat) : Fld := ⟨0x0100000 + 0x100 * i + 0x58, 3, 1, 0, 0, .ro⟩
def CTXP6.ENTRY (i : Nat) : Fld := ⟨0x0100000 + 0x100 * i + 0x58, 4, 10, 0, 0, .ro⟩
def CTXP6.all (i : Nat) : List Fld := [CTXP6.QWHEEL i, CTXP6.IN_MAP i, CTXP6.ENTRY i]

-- BRT0 (R309), b < 4096
def BRT0.VALID (b : Nat) : Fld := ⟨0x0180000 + 0x20 * b + 0x00, 31, 1, 0, 0, .rw⟩
def BRT0.TS (b : Nat) : Fld := ⟨0x0180000 + 0x20 * b + 0x00, 30, 1, 0, 0, .rw⟩
def BRT0.FIFO (b : Nat) : Fld := ⟨0x0180000 + 0x20 * b + 0x00, 29, 1, 0, 0, .rw⟩
def BRT0.PRIO (b : Nat) : Fld := ⟨0x0180000 + 0x20 * b + 0x00, 27, 2, 0, 0, .rw⟩
def BRT0.LOCAL (b : Nat) : Fld := ⟨0x0180000 + 0x20 * b + 0x00, 26, 1, 0, 0, .rw⟩
def BRT0.IN_BUS (b : Nat) : Fld := ⟨0x0180000 + 0x20 * b + 0x00, 20, 4, 0, 0, .rw⟩
def BRT0.CTX (b : Nat) : Fld := ⟨0x0180000 + 0x20 * b + 0x00, 0, 11, 0, 0, .rw⟩
def BRT0.all (b : Nat) : List Fld := [BRT0.VALID b, BRT0.TS b, BRT0.FIFO b, BRT0.PRIO b, BRT0.LOCAL b, BRT0.IN_BUS b, BRT0.CTX b]

-- BRT1 (R309), b < 4096
def BRT1.ID (b : Nat) : Fld := ⟨0x0180000 + 0x20 * b + 0x04, 0, 32, 0, 0, .rw⟩
def BRT1.all (b : Nat) : List Fld := [BRT1.ID b]

-- BRT2 (R309), b < 4096
def BRT2.MASK (b : Nat) : Fld := ⟨0x0180000 + 0x20 * b + 0x08, 0, 32, 0, 0, .rw⟩
def BRT2.all (b : Nat) : List Fld := [BRT2.MASK b]

-- BRT3 (R309), b < 4096
def BRT3.NEW_ID (b : Nat) : Fld := ⟨0x0180000 + 0x20 * b + 0x0C, 0, 32, 0, 0, .rw⟩
def BRT3.all (b : Nat) : List Fld := [BRT3.NEW_ID b]

-- BRT4 (R309), b < 4096
def BRT4.XMASK (b : Nat) : Fld := ⟨0x0180000 + 0x20 * b + 0x10, 0, 32, 0, 0, .rw⟩
def BRT4.all (b : Nat) : List Fld := [BRT4.XMASK b]

-- BRT5 (R309), b < 4096
def BRT5.DST_HUB (b : Nat) : Fld := ⟨0x0180000 + 0x20 * b + 0x14, 0, 8, 0, 0, .rw⟩
def BRT5.DST_BUS (b : Nat) : Fld := ⟨0x0180000 + 0x20 * b + 0x14, 8, 4, 0, 0, .rw⟩
def BRT5.all (b : Nat) : List Fld := [BRT5.DST_HUB b, BRT5.DST_BUS b]

-- BRT6 (R309), b < 4096
def BRT6.RATE (b : Nat) : Fld := ⟨0x0180000 + 0x20 * b + 0x18, 0, 10, 0, 0, .rw⟩
def BRT6.BURST (b : Nat) : Fld := ⟨0x0180000 + 0x20 * b + 0x18, 16, 8, 0, 0, .rw⟩
def BRT6.all (b : Nat) : List Fld := [BRT6.RATE b, BRT6.BURST b]

-- BRT7 (R309), b < 4096
def BRT7.HITS (b : Nat) : Fld := ⟨0x0180000 + 0x20 * b + 0x1C, 0, 32, 0, 0, .ro⟩
def BRT7.all (b : Nat) : List Fld := [BRT7.HITS b]

-- ROUTE (R22), j < 256
def ROUTE.DEPTH (j : Nat) : Fld := ⟨0x01A0000 + 4 * j, 8, 8, 0, 0, .ro⟩
def ROUTE.ROUTE (j : Nat) : Fld := ⟨0x01A0000 + 4 * j, 0, 3, 0, 0, .ro⟩
def ROUTE.all (j : Nat) : List Fld := [ROUTE.DEPTH j, ROUTE.ROUTE j]

-- PAL (R282), h < 2, p < 2, e < 256
def PAL.COLOUR (h p e : Nat) : Fld := ⟨0x01A4000 + 0x800 * h + 0x400 * p + 4 * e, 0, 30, 0, 0, .rw⟩
def PAL.all (h p e : Nat) : List Fld := [PAL.COLOUR h p e]

-- SEM0 (R324), s < 32
def SEM0.HELD (s : Nat) : Fld := ⟨0x01A8000 + 0x10 * s, 31, 1, 0, 0, .ro⟩
def SEM0.HUB (s : Nat) : Fld := ⟨0x01A8000 + 0x10 * s, 16, 8, 0, 0, .ro⟩
def SEM0.TAG (s : Nat) : Fld := ⟨0x01A8000 + 0x10 * s, 8, 8, 0, 0, .ro⟩
def SEM0.all (s : Nat) : List Fld := [SEM0.HELD s, SEM0.HUB s, SEM0.TAG s]

-- SEM1 (R324), s < 32
def SEM1.TIMEOUT_MS (s : Nat) : Fld := ⟨0x01A8004 + 0x10 * s, 16, 16, 50, 50, .rw⟩
def SEM1.CTX (s : Nat) : Fld := ⟨0x01A8004 + 0x10 * s, 0, 11, 0, 0, .ro⟩
def SEM1.all (s : Nat) : List Fld := [SEM1.TIMEOUT_MS s, SEM1.CTX s]

-- SEM2 (R324), s < 32
def SEM2.ACQ_TIME (s : Nat) : Fld := ⟨0x01A8008 + 0x10 * s, 0, 32, 0, 0, .ro⟩
def SEM2.all (s : Nat) : List Fld := [SEM2.ACQ_TIME s]

-- SEM3 (R325), s < 32
def SEM3.BROKEN (s : Nat) : Fld := ⟨0x01A800C + 0x10 * s, 0, 16, 0, 0, .ro⟩
def SEM3.all (s : Nat) : List Fld := [SEM3.BROKEN s]

-- SLOT0 (R432), s < 32
def SLOT0.VALID (s : Nat) : Fld := ⟨0x01AC000 + 0x10 * s, 31, 1, 0, 0, .ro⟩
def SLOT0.TYPE (s : Nat) : Fld := ⟨0x01AC000 + 0x10 * s, 28, 3, 0, 0, .ro⟩
def SLOT0.ORIGIN (s : Nat) : Fld := ⟨0x01AC000 + 0x10 * s, 26, 2, 0, 0, .ro⟩
def SLOT0.MASTERS (s : Nat) : Fld := ⟨0x01AC000 + 0x10 * s, 21, 5, 0, 0, .rw⟩
def SLOT0.LCS (s : Nat) : Fld := ⟨0x01AC000 + 0x10 * s, 15, 6, 0, 0, .rw⟩
def SLOT0.USES (s : Nat) : Fld := ⟨0x01AC000 + 0x10 * s, 9, 6, 0, 0, .rw⟩
def SLOT0.FIXED (s : Nat) : Fld := ⟨0x01AC000 + 0x10 * s, 8, 1, slotFixed s, slotFixed s, .ro⟩
def SLOT0.all (s : Nat) : List Fld := [SLOT0.VALID s, SLOT0.TYPE s, SLOT0.ORIGIN s, SLOT0.MASTERS s, SLOT0.LCS s, SLOT0.USES s, SLOT0.FIXED s]

-- SLOT1 (R433), s < 32
def SLOT1.USES_CNT (s : Nat) : Fld := ⟨0x01AC004 + 0x10 * s, 0, 32, 0, 0, .ro⟩
def SLOT1.all (s : Nat) : List Fld := [SLOT1.USES_CNT s]

-- MAPA_HDR (R172), w < 8
def MAPA_HDR.COUNT (w : Nat) : Fld := ⟨0x01C0000 + 0x4000 * w, 0, 16, 0, 0, .rw⟩
def MAPA_HDR.BASIS (w : Nat) : Fld := ⟨0x01C0000 + 0x4000 * w, 16, 16, 0, 0, .ro⟩
def MAPA_HDR.all (w : Nat) : List Fld := [MAPA_HDR.COUNT w, MAPA_HDR.BASIS w]

-- MAPA0 (R172), w < 8, e < 1023
def MAPA0.CTX (w e : Nat) : Fld := ⟨0x01C0000 + 0x4000 * w + 8 + 8 * e, 0, 11, 0, 0, .rw⟩
def MAPA0.CLASS (w e : Nat) : Fld := ⟨0x01C0000 + 0x4000 * w + 8 + 8 * e, 11, 2, 0, 0, .rw⟩
def MAPA0.QUOTA (w e : Nat) : Fld := ⟨0x01C0000 + 0x4000 * w + 8 + 8 * e, 16, 16, 0, 0, .rw⟩
def MAPA0.all (w e : Nat) : List Fld := [MAPA0.CTX w e, MAPA0.CLASS w e, MAPA0.QUOTA w e]

-- MAPA1 (R172), w < 8, e < 1023
def MAPA1.DECLARED (w e : Nat) : Fld := ⟨0x01C0000 + 0x4000 * w + 12 + 8 * e, 0, 16, 0, 0, .rw⟩
def MAPA1.SHARE (w e : Nat) : Fld := ⟨0x01C0000 + 0x4000 * w + 12 + 8 * e, 16, 16, 0, 0, .rw⟩
def MAPA1.all (w e : Nat) : List Fld := [MAPA1.DECLARED w e, MAPA1.SHARE w e]

-- MAPS_HDR (R172), w < 8
def MAPS_HDR.COUNT (w : Nat) : Fld := ⟨0x01C2000 + 0x4000 * w, 0, 16, 0, 0, .rw⟩
def MAPS_HDR.BASIS (w : Nat) : Fld := ⟨0x01C2000 + 0x4000 * w, 16, 16, 0, 0, .ro⟩
def MAPS_HDR.all (w : Nat) : List Fld := [MAPS_HDR.COUNT w, MAPS_HDR.BASIS w]

-- MAPS0 (R172), w < 8, e < 1023
def MAPS0.CTX (w e : Nat) : Fld := ⟨0x01C2000 + 0x4000 * w + 8 + 8 * e, 0, 11, 0, 0, .rw⟩
def MAPS0.CLASS (w e : Nat) : Fld := ⟨0x01C2000 + 0x4000 * w + 8 + 8 * e, 11, 2, 0, 0, .rw⟩
def MAPS0.QUOTA (w e : Nat) : Fld := ⟨0x01C2000 + 0x4000 * w + 8 + 8 * e, 16, 16, 0, 0, .rw⟩
def MAPS0.all (w e : Nat) : List Fld := [MAPS0.CTX w e, MAPS0.CLASS w e, MAPS0.QUOTA w e]

-- MAPS1 (R172), w < 8, e < 1023
def MAPS1.DECLARED (w e : Nat) : Fld := ⟨0x01C2000 + 0x4000 * w + 12 + 8 * e, 0, 16, 0, 0, .rw⟩
def MAPS1.SHARE (w e : Nat) : Fld := ⟨0x01C2000 + 0x4000 * w + 12 + 8 * e, 16, 16, 0, 0, .rw⟩
def MAPS1.all (w e : Nat) : List Fld := [MAPS1.DECLARED w e, MAPS1.SHARE w e]

-- DUMP (R475), j < 65536
def DUMP.DATA (j : Nat) : Fld := ⟨0x0200000 + 4 * j, 0, 32, 0, 0, .ro⟩
def DUMP.all (j : Nat) : List Fld := [DUMP.DATA j]

-- EVRING (R244), j < 2048
def EVRING.DATA (j : Nat) : Fld := ⟨0x0240000 + 4 * j, 0, 32, 0, 0, .ro⟩
def EVRING.all (j : Nat) : List Fld := [EVRING.DATA j]

end Sys2Proof.Machine
end

