-- ==== Sys2Proof/Machine/RegMap.lean ====
section
/-!
DEFINITION. Sys2Proof/Machine/RegMap.lean: which fields stand in each word of the control window (R224, R480).
-/
namespace Sys2Proof.Machine

/-- The map byte of event e, byte 0x100 + e of page 0x05 (R241). -/
def EVC_MAP.PIN (e : Nat) : Fld := ⟨0x05 * 0x1000 + 0x100 + 4 * (e / 4), 8 * (e % 4) + 6, 1, 0, 0, .rw⟩
def EVC_MAP.MSG (e : Nat) : Fld := ⟨0x05 * 0x1000 + 0x100 + 4 * (e / 4), 8 * (e % 4) + 5, 1, 1, 0, .rw⟩
def EVC_MAP.VECTOR (e : Nat) : Fld := ⟨0x05 * 0x1000 + 0x100 + 4 * (e / 4), 8 * (e % 4), 5, e / 8, e / 8, .rw⟩
def EVC_MAP.all (e : Nat) : List Fld := [EVC_MAP.PIN e, EVC_MAP.MSG e, EVC_MAP.VECTOR e]

/-- The four map bytes of an EVC_MAP word (R241). -/
def evcMapWord (o : Nat) : List Fld :=
  (List.range 4).flatMap fun b => EVC_MAP.all (o - 0x100 + b)

def words_CHIP_0x00 (o : Nat) : List Fld :=
  if o = 0x040 then CHIP_ROLE.all else
  if o = 0x044 then CHIP_HUB_ID.all else
  if o = 0x048 then CHIP_DARK_ADDR.all else
  if o = 0x04C then CHIP_ACCESS.all else
  if o = 0x050 then CHIP_CTL_RETRY.all else
  []

def words_FUSE_0x01 (o : Nat) : List Fld :=
  if o = 0x040 then FUSE_LC.all else
  if o = 0x044 then FUSE_PROTECT.all else
  if o = 0x048 then FUSE_ROLLBACK.all else
  if o = 0x04C then FUSE_STAT.all else
  if o = 0x050 then FUSE_SERIAL_LO.all else
  if o = 0x054 then FUSE_SERIAL_HI.all else
  if o = 0x058 then FUSE_PART.all else
  if 0x100 ≤ o ∧ (o - 0x100) / 0x4 < 72 ∧ ((o - 0x100) % 0x4) = 0 then FUSE_HASH.all ((o - 0x100) / 0x4) else
  []

def words_CLK_0x02 (o : Nat) : List Fld :=
  if o = 0x040 then CLK_CTRL.all else
  if o = 0x044 then CLK_STAT.all else
  if o = 0x048 then CLK_HOLD_RATIO.all else
  if o = 0x04C then CLK_SLIP_CNT.all else
  []

def words_CTM_0x03 (o : Nat) : List Fld :=
  if o = 0x040 then CTM_CAP_CTRL.all else
  if o = 0x044 then CTM_STAT.all else
  if o = 0x048 then CTM_LAST_STEP_LO.all else
  if o = 0x04C then CTM_LAST_STEP_HI.all else
  if o = 0x050 then CTM_ASYM.all else
  if o = 0x080 then CTM_RES0.all else
  if 0x084 ≤ o ∧ (o - 0x084) / 0x4 < 15 ∧ ((o - 0x084) % 0x4) = 0 then CTM_RES.all ((o - 0x084) / 0x4) else
  []

def words_PWRD_0x04 (o : Nat) : List Fld :=
  if o = 0x040 then PWRD_STATE_REQ.all else
  if o = 0x044 then PWRD_STATE.all else
  if o = 0x048 then PWRD_CTRL.all else
  if o = 0x04C then PWRD_WAKE_EN.all else
  if o = 0x050 then PWRD_WAKE_SRC.all else
  if o = 0x054 then PWRD_DOMAIN_CTRL.all else
  if o = 0x058 then PWRD_DOMAIN_STAT.all else
  if o = 0x05C then PWRD_TIMER.all else
  if o = 0x060 then PWRD_AVS.all else
  if o = 0x064 then PWRD_LOW_MS.all else
  []

def words_EVC_0x05 (o : Nat) : List Fld :=
  if o = 0x040 then EVC_CTRL.all else
  if o = 0x044 then EVC_RING_HEAD.all else
  if o = 0x048 then EVC_RING_TAIL.all else
  if o = 0x04C then EVC_RING_LOST.all else
  if o = 0x050 then EVC_ARMED.all else
  if o = 0x054 then EVC_SOFT.all else
  if 0x080 ≤ o ∧ (o - 0x080) / 0x4 < 32 ∧ ((o - 0x080) % 0x4) = 0 then EVC_COAL.all ((o - 0x080) / 0x4) else
  []

def words_MBX_0x06 (o : Nat) : List Fld :=
  if o = 0x040 then MBX_DOORBELL.all else
  if o = 0x044 then MBX_STAT.all else
  if 0x080 ≤ o ∧ (o - 0x080) / 0x4 < 16 ∧ ((o - 0x080) % 0x4) = 0 then MBX_REQ.all ((o - 0x080) / 0x4) else
  if o = 0x0C0 then MBX_RES0.all else
  if 0x0C4 ≤ o ∧ (o - 0x0C4) / 0x4 < 15 ∧ ((o - 0x0C4) % 0x4) = 0 then MBX_RES.all ((o - 0x0C4) / 0x4) else
  []

def words_WLT_0x108n0 (n o : Nat) : List Fld :=
  if o = 0x040 then WLT_PCS_CTRL.all n else
  if o = 0x044 then WLT_PCS_STAT.all n else
  if o = 0x048 then WLT_CABLE.all n else
  if o = 0x04C then WLT_PCS_ERR.all n else
  []

def words_WLT_0x108n1 (n o : Nat) : List Fld :=
  if 0x040 ≤ o ∧ (o - 0x040) / 0x10 < 4 ∧ ((o - 0x040) % 0x10) = 0 then WLT_LANE_CTRL.all n ((o - 0x040) / 0x10) else
  if 0x044 ≤ o ∧ (o - 0x044) / 0x10 < 4 ∧ ((o - 0x044) % 0x10) = 0 then WLT_LANE_STAT.all n ((o - 0x044) / 0x10) else
  []

def words_WLT_0x108n2 (n o : Nat) : List Fld :=
  if o = 0x040 then WLT_TEST_CTRL.all n else
  if 0x044 ≤ o ∧ (o - 0x044) / 0x4 < 4 ∧ ((o - 0x044) % 0x4) = 0 then WLT_PRBS_ERR.all n ((o - 0x044) / 0x4) else
  if o = 0x060 then WLT_EYE_CTRL.all n else
  if o = 0x064 then WLT_EYE_STAT.all n else
  []

def words_WLT_0x108n3 (n o : Nat) : List Fld :=
  if o = 0x040 then WLT_LINK_CTRL.all n else
  if o = 0x044 then WLT_LINK_STAT.all n else
  if 0x048 ≤ o ∧ (o - 0x048) / 0x4 < 4 ∧ ((o - 0x048) % 0x4) = 0 then WLT_PARTNER_IDENT.all n ((o - 0x048) / 0x4) else
  if o = 0x058 then WLT_LANE_HEALTH.all n else
  []

def words_WLT_0x108n4 (n o : Nat) : List Fld :=
  if o = 0x040 then WLT_REPLAY_STAT.all n else
  if o = 0x044 then WLT_FLIGHT_ERR.all n else
  if 0x048 ≤ o ∧ (o - 0x048) / 0x4 < 2 ∧ ((o - 0x048) % 0x4) = 0 then WLT_CRED_AVAIL.all n ((o - 0x048) / 0x4) else
  []

def words_WLT_0x108n5 (n o : Nat) : List Fld :=
  if o = 0x040 then WLT_ENC_CTRL.all n else
  if o = 0x044 then WLT_ENC_STAT.all n else
  []

def words_WLT_0x108n6 (n o : Nat) : List Fld :=
  if o = 0x040 then WLT_POISON_CNT.all n else
  []

def words_WLT_0x108n7 (n o : Nat) : List Fld :=
  if 0x040 ≤ o ∧ (o - 0x040) / 0x4 < 13 ∧ ((o - 0x040) % 0x4) = 0 then WLT_PARTNER_CAP.all n ((o - 0x040) / 0x4) else
  []

def words_LST_0x30 (o : Nat) : List Fld :=
  if o = 0x040 then LST_BUF_PLAN.all else
  if o = 0x044 then LST_CTX_CMD.all else
  if o = 0x048 then LST_CTX_STAT.all else
  if o = 0x04C then LST_ENGINES.all else
  if o = 0x050 then LST_DISCARD.all else
  if o = 0x054 then LST_CT_CTRL.all else
  if o = 0x058 then LST_FLOW_TORN.all else
  if o = 0x060 then LST_ECC_CB.all else
  if o = 0x064 then LST_ECC_TBL.all else
  if o = 0x068 then LST_PARITY.all else
  if o = 0x06C then LST_END_DISCARD.all else
  if o = 0x070 then LST_REHOME.all else
  if o = 0x078 then LST_ERR_HEAD.all else
  if 0x080 ≤ o ∧ (o - 0x080) / 0x8 < 16 ∧ ((o - 0x080) % 0x8) = 0 then LST_ERR_LOG0.all ((o - 0x080) / 0x8) else
  if 0x084 ≤ o ∧ (o - 0x084) / 0x8 < 16 ∧ ((o - 0x084) % 0x8) = 0 then LST_ERR_LOG1.all ((o - 0x084) / 0x8) else
  []

def words_LST_0x31 (o : Nat) : List Fld :=
  if 0x040 ≤ o ∧ (o - 0x040) / 0x4 < 64 ∧ ((o - 0x040) % 0x4) = 0 then LST_PART.all ((o - 0x040) / 0x4) else
  if o = 0x140 then LST_PART_CTRL.all else
  []

def words_FE_0x40n (n o : Nat) : List Fld :=
  if o = 0x040 then FE_CTRL.all n else
  if o = 0x044 then FE_STAT.all n else
  if o = 0x048 then FE_LOAD.all n else
  if o = 0x04C then FE_FENCE_TIME.all n else
  if o = 0x050 then FE_FENCE_LOSS.all n else
  []

def words_WHL_0x50 (o : Nat) : List Fld :=
  if o = 0x040 then WHL_COMMIT.all else
  if o = 0x044 then WHL_COMMIT_EPOCH.all else
  if o = 0x048 then WHL_STAT.all else
  if o = 0x04C then WHL_STAGED_EPOCH.all else
  if o = 0x050 then WHL_EPOCH.all else
  if o = 0x054 then WHL_CTRL.all else
  if o = 0x058 then WHL_FLOW_EVT.all else
  if o = 0x05C then WHL_UNDERFED.all else
  if o = 0x080 then WHL_RES0.all else
  if o = 0x084 then WHL_RES1.all else
  if o = 0x088 then WHL_RES2.all else
  if o = 0x08C then WHL_RES3.all else
  if 0x090 ≤ o ∧ (o - 0x090) / 0x4 < 12 ∧ ((o - 0x090) % 0x4) = 0 then WHL_RES.all ((o - 0x090) / 0x4) else
  []

def words_WHLw_0x51 (o : Nat) : List Fld :=
  if 0x040 ≤ o ∧ (o - 0x040) / 0x10 < 8 ∧ ((o - 0x040) % 0x10) = 0 then WHLw_SIZE.all ((o - 0x040) / 0x10) else
  if 0x044 ≤ o ∧ (o - 0x044) / 0x10 < 8 ∧ ((o - 0x044) % 0x10) = 0 then WHLw_RES.all ((o - 0x044) / 0x10) else
  if 0x048 ≤ o ∧ (o - 0x048) / 0x10 < 8 ∧ ((o - 0x048) % 0x10) = 0 then WHLw_LEND.all ((o - 0x048) / 0x10) else
  if 0x04C ≤ o ∧ (o - 0x04C) / 0x10 < 8 ∧ ((o - 0x04C) % 0x10) = 0 then WHLw_POS.all ((o - 0x04C) / 0x10) else
  []

def words_PCIE_0x60 (o : Nat) : List Fld :=
  if o = 0x040 then PCIE_ID.all else
  if o = 0x044 then PCIE_STAT.all else
  if o = 0x048 then PCIE_DROP.all else
  if o = 0x04C then PCIE_ERR.all else
  []

def words_PCIE_0x61 (o : Nat) : List Fld :=
  if 0x040 ≤ o ∧ (o - 0x040) / 0x4 < 16 ∧ ((o - 0x040) % 0x4) = 0 then PCIE_VDP.all ((o - 0x040) / 0x4) else
  []

def words_PCIE_0x62 (o : Nat) : List Fld :=
  if 0x040 ≤ o ∧ (o - 0x040) / 0x40 < 16 ∧ ((o - 0x040) % 0x40) / 0x4 < 16 ∧ (((o - 0x040) % 0x40) % 0x4) = 0 then PCIE_GRP.all ((o - 0x040) / 0x40) (((o - 0x040) % 0x40) / 0x4) else
  []

def words_PCIE_0x63 (o : Nat) : List Fld :=
  if 0x040 ≤ o ∧ (o - 0x040) / 0x20 < 2 ∧ ((o - 0x040) % 0x20) = 0 then PCIE_RP_CTRL.all ((o - 0x040) / 0x20) else
  if 0x044 ≤ o ∧ (o - 0x044) / 0x20 < 2 ∧ ((o - 0x044) % 0x20) = 0 then PCIE_RP_STAT.all ((o - 0x044) / 0x20) else
  if 0x048 ≤ o ∧ (o - 0x048) / 0x20 < 2 ∧ ((o - 0x048) % 0x20) = 0 then PCIE_RP_CTX.all ((o - 0x048) / 0x20) else
  []

def words_ETH_0x704n (n o : Nat) : List Fld :=
  if o = 0x040 then ETH_CTRL.all n else
  if o = 0x044 then ETH_STAT.all n else
  if o = 0x048 then ETH_DEFAULT.all n else
  if o = 0x04C then ETH_DROP0.all n else
  if o = 0x050 then ETH_DROP1.all n else
  if o = 0x054 then ETH_PAUSE.all n else
  if o = 0x058 then ETH_TS_ADJ.all n else
  []

def words_ETH_0x714n (n o : Nat) : List Fld :=
  if 0x040 ≤ o ∧ (o - 0x040) / 0x4 < 16 ∧ ((o - 0x040) % 0x4) = 0 then ETH_VTAG.all n ((o - 0x040) / 0x4) else
  if 0x100 ≤ o ∧ (o - 0x100) / 0x10 < 64 ∧ ((o - 0x100) % 0x10) = 0 then ETH_CLS0.all n ((o - 0x100) / 0x10) else
  if 0x104 ≤ o ∧ (o - 0x104) / 0x10 < 64 ∧ ((o - 0x104) % 0x10) = 0 then ETH_CLS1.all n ((o - 0x104) / 0x10) else
  if 0x108 ≤ o ∧ (o - 0x108) / 0x10 < 64 ∧ ((o - 0x108) % 0x10) = 0 then ETH_CLS2.all n ((o - 0x108) / 0x10) else
  if 0x10C ≤ o ∧ (o - 0x10C) / 0x10 < 64 ∧ ((o - 0x10C) % 0x10) = 0 then ETH_CLS3.all n ((o - 0x10C) / 0x10) else
  []

def words_PTP_0x78 (o : Nat) : List Fld :=
  if o = 0x040 then PTP_CTRL.all else
  if o = 0x044 then PTP_ANCHOR_EPOCH.all else
  if o = 0x048 then PTP_ANCHOR_NS.all else
  if o = 0x04C then PTP_ANCHOR_SEC_LO.all else
  if o = 0x050 then PTP_ANCHOR_SEC_HI.all else
  if o = 0x054 then PTP_ADJ.all else
  if o = 0x058 then PTP_APPLY.all else
  if o = 0x05C then PTP_MAP_CTRL.all else
  if o = 0x060 then PTP_TS_HEAD.all else
  if o = 0x064 then PTP_TS_TAIL.all else
  if o = 0x068 then PTP_TS_LOST.all else
  []

def words_PTP_0x79 (o : Nat) : List Fld :=
  if 0x040 ≤ o ∧ (o - 0x040) / 0x20 < 64 ∧ ((o - 0x040) % 0x20) / 0x4 < 8 ∧ (((o - 0x040) % 0x20) % 0x4) = 0 then PTP_RING.all ((o - 0x040) / 0x20) (((o - 0x040) % 0x20) / 0x4) else
  []

def words_DSP_0x804h (h o : Nat) : List Fld :=
  if o = 0x040 then DSP_CTRL.all h else
  if o = 0x044 then DSP_HTIMING.all h else
  if o = 0x048 then DSP_HSYNC.all h else
  if o = 0x04C then DSP_VTIMING.all h else
  if o = 0x050 then DSP_VSYNC.all h else
  if o = 0x054 then DSP_PERIOD.all h else
  if o = 0x058 then DSP_ANCHOR_LO.all h else
  if o = 0x05C then DSP_ANCHOR_HI.all h else
  if o = 0x060 then DSP_GL.all h else
  if o = 0x064 then DSP_STAT.all h else
  if o = 0x068 then DSP_FRAME_CNT.all h else
  if o = 0x06C then DSP_PARITY.all h else
  []

def words_DSP_0x814h (h o : Nat) : List Fld :=
  if 0x040 ≤ o ∧ (o - 0x040) / 0x10 < 2 ∧ ((o - 0x040) % 0x10) = 0 then DSP_SURF_BASE.all h ((o - 0x040) / 0x10) else
  if 0x044 ≤ o ∧ (o - 0x044) / 0x10 < 2 ∧ ((o - 0x044) % 0x10) = 0 then DSP_SURF_STRIDE.all h ((o - 0x044) / 0x10) else
  if 0x048 ≤ o ∧ (o - 0x048) / 0x10 < 2 ∧ ((o - 0x048) % 0x10) = 0 then DSP_SURF_SIZE.all h ((o - 0x048) / 0x10) else
  if o = 0x060 then DSP_FLIP_TIME_LO.all h else
  if o = 0x064 then DSP_FLIP_TIME_HI.all h else
  if o = 0x068 then DSP_FLIP_INFO.all h else
  if o = 0x06C then DSP_FLIP_SEQ.all h else
  if o = 0x070 then DSP_FLIP_CHK.all h else
  if o = 0x074 then DSP_FLIP_WH.all h else
  if o = 0x078 then DSP_OP_ERR.all h else
  []

def words_DSP_0x824h (h o : Nat) : List Fld :=
  if o = 0x040 then DSP_FB_CTRL.all h else
  if 0x044 ≤ o ∧ (o - 0x044) / 0x8 < 2 ∧ ((o - 0x044) % 0x8) = 0 then DSP_FB_ADDR_LO.all h ((o - 0x044) / 0x8) else
  if 0x048 ≤ o ∧ (o - 0x048) / 0x8 < 2 ∧ ((o - 0x048) % 0x8) = 0 then DSP_FB_ADDR_HI.all h ((o - 0x048) / 0x8) else
  if o = 0x054 then DSP_FB_STRIDE.all h else
  if o = 0x058 then DSP_FB_STAT.all h else
  if o = 0x05C then DSP_UNDERRUN.all h else
  if o = 0x060 then DSP_UNDERRUN_PIX.all h else
  if o = 0x064 then DSP_NO_PAIR.all h else
  []

def words_DSP_0x834h (h o : Nat) : List Fld :=
  if o = 0x040 then DSP_DP_CTRL.all h else
  if o = 0x044 then DSP_DP_STAT.all h else
  if o = 0x048 then DSP_AUX_CTRL.all h else
  if 0x050 ≤ o ∧ (o - 0x050) / 0x4 < 4 ∧ ((o - 0x050) % 0x4) = 0 then DSP_AUX_DATA.all h ((o - 0x050) / 0x4) else
  if o = 0x060 then DSP_AUX_STAT.all h else
  []

def words_FST_0x88 (o : Nat) : List Fld :=
  if o = 0x040 then FST_STAT.all else
  if o = 0x044 then FST_PERR.all else
  []

def words_CAN_0x90n (n o : Nat) : List Fld :=
  if o = 0x040 then CAN_CTRL.all n else
  if o = 0x044 then CAN_TIMING.all n else
  if o = 0x048 then CAN_STAT.all n else
  []

def words_I2C_0x94n (n o : Nat) : List Fld :=
  if o = 0x040 then I2C_CTRL.all n else
  if o = 0x044 then I2C_STAT.all n else
  if 0x100 ≤ o ∧ (o - 0x100) / 0x4 < 64 ∧ ((o - 0x100) % 0x4) = 0 then I2C_MIRROR.all n ((o - 0x100) / 0x4) else
  []

def words_SPI_0x96n (n o : Nat) : List Fld :=
  if o = 0x040 then SPI_CTRL.all n else
  if 0x050 ≤ o ∧ (o - 0x050) / 0x8 < 4 ∧ ((o - 0x050) % 0x8) = 0 then SPI_WIN_A.all n ((o - 0x050) / 0x8) else
  if 0x054 ≤ o ∧ (o - 0x054) / 0x8 < 4 ∧ ((o - 0x054) % 0x8) = 0 then SPI_WIN_B.all n ((o - 0x054) / 0x8) else
  if o = 0x070 then SPI_DISCARD_HEAD.all n else
  if 0x080 ≤ o ∧ (o - 0x080) / 0x8 < 16 ∧ ((o - 0x080) % 0x8) = 0 then SPI_DISCARD_LOG0.all n ((o - 0x080) / 0x8) else
  if 0x084 ≤ o ∧ (o - 0x084) / 0x8 < 16 ∧ ((o - 0x084) % 0x8) = 0 then SPI_DISCARD_LOG1.all n ((o - 0x084) / 0x8) else
  []

def words_UART_0x98n (n o : Nat) : List Fld :=
  if o = 0x040 then UART_CTRL.all n else
  if o = 0x044 then UART_FRAME.all n else
  if o = 0x048 then UART_STAT.all n else
  []

def words_GPIO_0x9C (o : Nat) : List Fld :=
  if 0x040 ≤ o ∧ (o - 0x040) / 0x10 < 6 ∧ ((o - 0x040) % 0x10) = 0 then GPIO_CFG.all ((o - 0x040) / 0x10) else
  if 0x044 ≤ o ∧ (o - 0x044) / 0x10 < 6 ∧ ((o - 0x044) % 0x10) = 0 then GPIO_LEVEL.all ((o - 0x044) / 0x10) else
  if o = 0x0A0 then GPIO_WAKE_EN.all else
  if o = 0x0A4 then GPIO_SCHED_T_LO.all else
  if o = 0x0A8 then GPIO_SCHED_T_HI.all else
  if o = 0x0AC then GPIO_SCHED_PUSH.all else
  if o = 0x0B0 then GPIO_SCHED_STAT.all else
  if o = 0x0B4 then GPIO_TS_HEAD.all else
  if o = 0x0B8 then GPIO_TS_TAIL.all else
  if 0x0C0 ≤ o ∧ (o - 0x0C0) / 0x8 < 16 ∧ ((o - 0x0C0) % 0x8) = 0 then GPIO_TS0.all ((o - 0x0C0) / 0x8) else
  if 0x0C4 ≤ o ∧ (o - 0x0C4) / 0x8 < 16 ∧ ((o - 0x0C4) % 0x8) = 0 then GPIO_TS1.all ((o - 0x0C4) / 0x8) else
  []

def words_BRT_0x9D (o : Nat) : List Fld :=
  if o = 0x040 then BRT_CTRL.all else
  if o = 0x044 then BRT_STAT0.all else
  if o = 0x048 then BRT_STAT1.all else
  if o = 0x04C then BRT_XFER_DOORBELL.all else
  if o = 0x050 then BRT_XFER_STAT.all else
  if 0x080 ≤ o ∧ (o - 0x080) / 0x4 < 16 ∧ ((o - 0x080) % 0x4) = 0 then BRT_XREQ.all ((o - 0x080) / 0x4) else
  if o = 0x0C0 then BRT_XRES0.all else
  if 0x0C4 ≤ o ∧ (o - 0x0C4) / 0x4 < 15 ∧ ((o - 0x0C4) % 0x4) = 0 then BRT_XRES.all ((o - 0x0C4) / 0x4) else
  []

def words_SEM_0x9E (o : Nat) : List Fld :=
  if o = 0x040 then SEM_CTRL.all else
  []

def words_CTP_0xA04n (n o : Nat) : List Fld :=
  if o = 0x040 then CTP_CFG.all n else
  if o = 0x044 then CTP_STAT.all n else
  if o = 0x048 then CTP_CONTRACT.all n else
  if o = 0x04C then CTP_VCABLE.all n else
  if o = 0x050 then CTP_CMD.all n else
  if o = 0x054 then CTP_TX_STAT.all n else
  if o = 0x058 then CTP_HR.all n else
  if o = 0x05C then CTP_RX_PTR.all n else
  []

def words_CTP_0xA14n (n o : Nat) : List Fld :=
  if 0x040 ≤ o ∧ (o - 0x040) / 0x4 < 8 ∧ ((o - 0x040) % 0x4) = 0 then CTP_TX.all n ((o - 0x040) / 0x4) else
  if 0x080 ≤ o ∧ (o - 0x080) / 0x40 < 4 ∧ ((o - 0x080) % 0x40) / 0x4 < 16 ∧ (((o - 0x080) % 0x40) % 0x4) = 0 then CTP_RX.all n ((o - 0x080) / 0x40) (((o - 0x080) % 0x40) / 0x4) else
  []

def words_EYE_0xB0 (o : Nat) : List Fld :=
  if o = 0x040 then EYE_FEED_CTRL.all else
  if o = 0x044 then EYE_FEED_STAT.all else
  if o = 0x048 then EYE_WARN_CTRL.all else
  if o = 0x04C then EYE_WARN_STAT.all else
  if o = 0x050 then EYE_DIE_TEMP.all else
  []

def words_EYE_0xB1n (n o : Nat) : List Fld :=
  if o = 0x040 then EYE_CH_CTRL.all n else
  if o = 0x044 then EYE_CH_STAT.all n else
  if o = 0x048 then EYE_CH_LIMIT.all n else
  if o = 0x04C then EYE_CH_VWIN.all n else
  if o = 0x050 then EYE_CH_SENSE.all n else
  if o = 0x054 then EYE_CH_THERM0.all n else
  if o = 0x058 then EYE_CH_THERM1.all n else
  if o = 0x05C then EYE_CH_TLIM.all n else
  if 0x080 ≤ o ∧ (o - 0x080) / 0x4 < 8 ∧ ((o - 0x080) % 0x4) = 0 then EYE_CH_CURVE.all n ((o - 0x080) / 0x4) else
  if o = 0x0A0 then EYE_CH_MEAS_I.all n else
  if o = 0x0A4 then EYE_CH_MEAS_V.all n else
  if o = 0x0A8 then EYE_CH_TEMP.all n else
  if o = 0x0AC then EYE_CH_COOL.all n else
  if o = 0x0B0 then EYE_CH_TRIPS.all n else
  []

def words_KEY_0xC0 (o : Nat) : List Fld :=
  if o = 0x040 then KEY_STAT.all else
  if o = 0x044 then KEY_OP.all else
  if o = 0x048 then KEY_DBG_CTRL.all else
  if o = 0x04C then KEY_DBG_WAIT.all else
  if 0x080 ≤ o ∧ (o - 0x080) / 0x4 < 12 ∧ ((o - 0x080) % 0x4) = 0 then KEY_MEASURE.all ((o - 0x080) / 0x4) else
  if o = 0x0C0 then KEY_RES0.all else
  if 0x0C4 ≤ o ∧ (o - 0x0C4) / 0x4 < 15 ∧ ((o - 0x0C4) % 0x4) = 0 then KEY_RES.all ((o - 0x0C4) / 0x4) else
  []

def words_KEY_0xC1 (o : Nat) : List Fld :=
  if 0x040 ≤ o ∧ (o - 0x040) / 0x4 < 12 ∧ ((o - 0x040) % 0x4) = 0 then KEY_DBG_NONCE.all ((o - 0x040) / 0x4) else
  if 0x080 ≤ o ∧ (o - 0x080) / 0x4 < 64 ∧ ((o - 0x080) % 0x4) = 0 then KEY_DBG_ANSWER.all ((o - 0x080) / 0x4) else
  if 0x200 ≤ o ∧ (o - 0x200) / 0x4 < 32 ∧ ((o - 0x200) % 0x4) = 0 then KEY_PUB.all ((o - 0x200) / 0x4) else
  if 0x280 ≤ o ∧ (o - 0x280) / 0x4 < 64 ∧ ((o - 0x280) % 0x4) = 0 then KEY_QUOTE.all ((o - 0x280) / 0x4) else
  if 0x400 ≤ o ∧ (o - 0x400) / 0x4 < 52 ∧ ((o - 0x400) % 0x4) = 0 then KEY_PROV.all ((o - 0x400) / 0x4) else
  if 0x500 ≤ o ∧ (o - 0x500) / 0x4 < 64 ∧ ((o - 0x500) % 0x4) = 0 then KEY_OP_DATA.all ((o - 0x500) / 0x4) else
  []

def words_CRY_0xC8 (o : Nat) : List Fld :=
  if o = 0x040 then CRY_CTRL.all else
  if o = 0x044 then CRY_LEN.all else
  if o = 0x048 then CRY_STAT.all else
  if o = 0x080 then CRY_RES0.all else
  if 0x084 ≤ o ∧ (o - 0x084) / 0x4 < 15 ∧ ((o - 0x084) % 0x4) = 0 then CRY_RES.all ((o - 0x084) / 0x4) else
  []

def words_CRY_0xC9n (n o : Nat) : List Fld :=
  if 0x040 ≤ o ∧ (o - 0x040) / 0x4 < 1008 ∧ ((o - 0x040) % 0x4) = 0 then CRY_IN.all n ((o - 0x040) / 0x4) else
  []

def words_CRY_0xCC (o : Nat) : List Fld :=
  if 0x040 ≤ o ∧ (o - 0x040) / 0x4 < 1008 ∧ ((o - 0x040) % 0x4) = 0 then CRY_OUT.all ((o - 0x040) / 0x4) else
  []

def words_CNT_0xD0 (o : Nat) : List Fld :=
  if o = 0x040 then CNT_CTRL.all else
  if o = 0x044 then CNT_PERIOD.all else
  if o = 0x048 then CNT_ANCHOR_LO.all else
  if o = 0x04C then CNT_ANCHOR_HI.all else
  if o = 0x050 then CNT_SNAP.all else
  if o = 0x054 then CNT_SNAP_T_LO.all else
  if o = 0x058 then CNT_SNAP_T_HI.all else
  if o = 0x05C then CNT_STAT.all else
  if o = 0x060 then CNT_SNAP_SEQ.all else
  if o = 0x064 then CNT_SNAP_TIME_LO.all else
  if o = 0x068 then CNT_SNAP_TIME_HI.all else
  if o = 0x070 then CNT_RING_BASE_LO.all else
  if o = 0x074 then CNT_RING_BASE_HI.all else
  if o = 0x078 then CNT_RING_SIZE.all else
  if o = 0x07C then CNT_RING_HEAD.all else
  if o = 0x080 then CNT_RING_TAIL.all else
  if o = 0x084 then CNT_RING_LOST.all else
  if o = 0x088 then CNT_SEL_GEN.all else
  []

def words_CNT_0xD1g8 (g o : Nat) : List Fld :=
  if (0x040 + 0x20 * (g % 8)) ≤ o ∧ (o - (0x040 + 0x20 * (g % 8))) / 0x4 < 8 ∧ ((o - (0x040 + 0x20 * (g % 8))) % 0x4) = 0 then CNT_SEL.all g ((o - (0x040 + 0x20 * (g % 8))) / 0x4) else
  []

def words_CNT_0xD4g8 (g o : Nat) : List Fld :=
  if (0x040 + 0x40 * (g % 8)) ≤ o ∧ (o - (0x040 + 0x40 * (g % 8))) / 0x8 < 8 ∧ ((o - (0x040 + 0x40 * (g % 8))) % 0x8) = 0 then CNT_VAL_LO.all g ((o - (0x040 + 0x40 * (g % 8))) / 0x8) else
  if (0x044 + 0x40 * (g % 8)) ≤ o ∧ (o - (0x044 + 0x40 * (g % 8))) / 0x8 < 8 ∧ ((o - (0x044 + 0x40 * (g % 8))) % 0x8) = 0 then CNT_VAL_HI.all g ((o - (0x044 + 0x40 * (g % 8))) / 0x8) else
  []

def words_CNT_0xD7 (o : Nat) : List Fld :=
  if 0x040 ≤ o ∧ (o - 0x040) / 0x4 < 24 ∧ ((o - 0x040) % 0x4) = 0 then CNT_PEND.all ((o - 0x040) / 0x4) else
  []

def words_BOOT_0xE0 (o : Nat) : List Fld :=
  if o = 0x040 then BOOT_STAT.all else
  if 0x050 ≤ o ∧ (o - 0x050) / 0x10 < 2 ∧ ((o - 0x050) % 0x10) = 0 then BOOT_BANK0.all ((o - 0x050) / 0x10) else
  if 0x054 ≤ o ∧ (o - 0x054) / 0x10 < 2 ∧ ((o - 0x054) % 0x10) = 0 then BOOT_BANK1.all ((o - 0x054) / 0x10) else
  if 0x058 ≤ o ∧ (o - 0x058) / 0x10 < 2 ∧ ((o - 0x058) % 0x10) = 0 then BOOT_BANK2.all ((o - 0x058) / 0x10) else
  if 0x05C ≤ o ∧ (o - 0x05C) / 0x10 < 2 ∧ ((o - 0x05C) % 0x10) = 0 then BOOT_BANK3.all ((o - 0x05C) / 0x10) else
  []

def words_UPD_0xE8 (o : Nat) : List Fld :=
  if o = 0x040 then UPD_STAT.all else
  if o = 0x044 then UPD_REFUSE.all else
  if o = 0x048 then UPD_ACT.all else
  if o = 0x050 then UPD_FWD.all else
  if o = 0x04C then UPD_ACT_EPOCH.all else
  if 0x080 ≤ o ∧ (o - 0x080) / 0x4 < 8 ∧ ((o - 0x080) % 0x4) = 0 then UPD_TARGET.all ((o - 0x080) / 0x4) else
  []

def words_DBG_0xF0 (o : Nat) : List Fld :=
  if o = 0x040 then DBG_LOG_HEAD.all else
  if 0x080 ≤ o ∧ (o - 0x080) / 0x8 < 256 ∧ ((o - 0x080) % 0x8) = 0 then DBG_LOG0.all ((o - 0x080) / 0x8) else
  if 0x084 ≤ o ∧ (o - 0x084) / 0x8 < 256 ∧ ((o - 0x084) % 0x8) = 0 then DBG_LOG1.all ((o - 0x084) / 0x8) else
  []

def words_DBG_0xF1 (o : Nat) : List Fld :=
  if o = 0x040 then DBG_AWL_CTRL.all else
  if o = 0x044 then DBG_AWL_PC.all else
  []

def words_DBG_0xF2 (o : Nat) : List Fld :=
  if 0x040 ≤ o ∧ (o - 0x040) / 0x4 < 1008 ∧ ((o - 0x040) % 0x4) = 0 then DBG_TRACE.all ((o - 0x040) / 0x4) else
  []

/-- The fields of the word at page p, page offset o ≥ 0x040 (R480); none where the tables list nothing (R8, R478). -/
def pageWord (p o : Nat) : List Fld :=
  if p = 0x00 then words_CHIP_0x00 o else
  if p = 0x01 then words_FUSE_0x01 o else
  if p = 0x02 then words_CLK_0x02 o else
  if p = 0x03 then words_CTM_0x03 o else
  if p = 0x04 then words_PWRD_0x04 o else
  if p = 0x05 ∧ 0x100 ≤ o ∧ o < 0x200 then evcMapWord o else
  if p = 0x05 then words_EVC_0x05 o else
  if p = 0x06 then words_MBX_0x06 o else
  if p = 0x30 then words_LST_0x30 o else
  if p = 0x31 then words_LST_0x31 o else
  if p = 0x50 then words_WHL_0x50 o else
  if p = 0x51 then words_WHLw_0x51 o else
  if p = 0x60 then words_PCIE_0x60 o else
  if p = 0x61 then words_PCIE_0x61 o else
  if p = 0x62 then words_PCIE_0x62 o else
  if p = 0x63 then words_PCIE_0x63 o else
  if p = 0x78 then words_PTP_0x78 o else
  if p = 0x79 then words_PTP_0x79 o else
  if p = 0x88 then words_FST_0x88 o else
  if p = 0x9C then words_GPIO_0x9C o else
  if p = 0x9D then words_BRT_0x9D o else
  if p = 0x9E then words_SEM_0x9E o else
  if p = 0xB0 then words_EYE_0xB0 o else
  if p = 0xC0 then words_KEY_0xC0 o else
  if p = 0xC1 then words_KEY_0xC1 o else
  if p = 0xC8 then words_CRY_0xC8 o else
  if p = 0xCC then words_CRY_0xCC o else
  if p = 0xD0 then words_CNT_0xD0 o else
  if p = 0xD7 then words_CNT_0xD7 o else
  if p = 0xE0 then words_BOOT_0xE0 o else
  if p = 0xE8 then words_UPD_0xE8 o else
  if p = 0xF0 then words_DBG_0xF0 o else
  if p = 0xF1 then words_DBG_0xF1 o else
  if p = 0xF2 then words_DBG_0xF2 o else
  if 0x10 ≤ p ∧ p < 0x30 ∧ p % 8 = 0 then words_WLT_0x108n0 ((p - 0x10) / 8) o else
  if 0x10 ≤ p ∧ p < 0x30 ∧ p % 8 = 1 then words_WLT_0x108n1 ((p - 0x10) / 8) o else
  if 0x10 ≤ p ∧ p < 0x30 ∧ p % 8 = 2 then words_WLT_0x108n2 ((p - 0x10) / 8) o else
  if 0x10 ≤ p ∧ p < 0x30 ∧ p % 8 = 3 then words_WLT_0x108n3 ((p - 0x10) / 8) o else
  if 0x10 ≤ p ∧ p < 0x30 ∧ p % 8 = 4 then words_WLT_0x108n4 ((p - 0x10) / 8) o else
  if 0x10 ≤ p ∧ p < 0x30 ∧ p % 8 = 5 then words_WLT_0x108n5 ((p - 0x10) / 8) o else
  if 0x10 ≤ p ∧ p < 0x30 ∧ p % 8 = 6 then words_WLT_0x108n6 ((p - 0x10) / 8) o else
  if 0x10 ≤ p ∧ p < 0x30 ∧ p % 8 = 7 then words_WLT_0x108n7 ((p - 0x10) / 8) o else
  if 0x40 ≤ p ∧ p < 0x50 then words_FE_0x40n (p - 0x40) o else
  if 0x70 ≤ p ∧ p < 0x78 ∧ p % 4 = 0 then words_ETH_0x704n ((p - 0x70) / 4) o else
  if 0x70 ≤ p ∧ p < 0x78 ∧ p % 4 = 1 then words_ETH_0x714n ((p - 0x70) / 4) o else
  if 0x80 ≤ p ∧ p < 0x88 ∧ p % 4 = 0 then words_DSP_0x804h ((p - 0x80) / 4) o else
  if 0x80 ≤ p ∧ p < 0x88 ∧ p % 4 = 1 then words_DSP_0x814h ((p - 0x80) / 4) o else
  if 0x80 ≤ p ∧ p < 0x88 ∧ p % 4 = 2 then words_DSP_0x824h ((p - 0x80) / 4) o else
  if 0x80 ≤ p ∧ p < 0x88 ∧ p % 4 = 3 then words_DSP_0x834h ((p - 0x80) / 4) o else
  if 0x90 ≤ p ∧ p < 0x94 then words_CAN_0x90n (p - 0x90) o else
  if 0x94 ≤ p ∧ p < 0x96 then words_I2C_0x94n (p - 0x94) o else
  if 0x96 ≤ p ∧ p < 0x98 then words_SPI_0x96n (p - 0x96) o else
  if 0x98 ≤ p ∧ p < 0x9c then words_UART_0x98n (p - 0x98) o else
  if 0xA0 ≤ p ∧ p < 0xB0 ∧ p % 4 = 0 then words_CTP_0xA04n ((p - 0xA0) / 4) o else
  if 0xA0 ≤ p ∧ p < 0xB0 ∧ p % 4 = 1 then words_CTP_0xA14n ((p - 0xA0) / 4) o else
  if 0xb1 ≤ p ∧ p < 0xb7 then words_EYE_0xB1n (p - 0xb1) o else
  if 0xc9 ≤ p ∧ p < 0xcc then words_CRY_0xC9n (p - 0xc9) o else
  if 0xD1 ≤ p ∧ p < 0xD4 ∧ 0x040 ≤ o ∧ o < 0x140 then words_CNT_0xD1g8 ((p - 0xD1) * 8 + (o - 0x040) / 0x20) o else
  if 0xD4 ≤ p ∧ p < 0xD7 ∧ 0x040 ≤ o ∧ o < 0x240 then words_CNT_0xD4g8 ((p - 0xD4) * 8 + (o - 0x040) / 0x40) o else
  []

def ctxWord0 (i o : Nat) : List Fld :=
  if o = 0x00 then CTX0.all i else
  if o = 0x04 then CTX1.all i else
  if o = 0x08 then CTX2.all i else
  if o = 0x0C then CTX3.all i else
  if o = 0x10 then CTX4.all i else
  if o = 0x14 then CTX5.all i else
  if o = 0x18 then CTX6.all i else
  if o = 0x1C then CTX7.all i else
  if o = 0x30 then CTXC.all i else
  if o = 0x34 then CTXD.all i else
  if o = 0x38 then CTXE.all i else
  if o = 0x3C then CTXF.all i else
  if o = 0x40 then CTXP0.all i else
  if o = 0x44 then CTXP1.all i else
  if o = 0x48 then CTXP2.all i else
  if o = 0x4C then CTXP3.all i else
  if o = 0x50 then CTXP4.all i else
  if o = 0x54 then CTXP5.all i else
  if o = 0x58 then CTXP6.all i else
  []

/-- A word of flow context i at its byte o (Tables 05.4 and 06.8). -/
def ctxWord (i o : Nat) : List Fld :=
  if 0x20 ≤ o ∧ o < 0x30 then
    (List.range 2).flatMap fun b => (CTX_FAN.all i ((o - 0x20) / 2)).map fun f => { f with lo := f.lo + 16 * b }
  else ctxWord0 i o

def brtWord (b o : Nat) : List Fld :=
  if o = 0x00 then BRT0.all b else
  if o = 0x04 then BRT1.all b else
  if o = 0x08 then BRT2.all b else
  if o = 0x0C then BRT3.all b else
  if o = 0x10 then BRT4.all b else
  if o = 0x14 then BRT5.all b else
  if o = 0x18 then BRT6.all b else
  if o = 0x1C then BRT7.all b else
  []

def semWord (s o : Nat) : List Fld :=
  if o = 0 then SEM0.all s else
  if o = 4 then SEM1.all s else
  if o = 8 then SEM2.all s else
  if o = 12 then SEM3.all s else
  []

def slotWord (s o : Nat) : List Fld :=
  if o = 0 then SLOT0.all s else
  if o = 4 then SLOT1.all s else
  []

/-- A word of the maps of wheel w at byte o of its 16 KiB (Tables 06.3 and 06.4). -/
def mapWord (w o : Nat) : List Fld :=
  if o = 0 then MAPA_HDR.all w else
  if o = 0x2000 then MAPS_HDR.all w else
  if 8 ≤ o ∧ o < 0x2000 then
    (if o % 8 = 0 then MAPA0.all w ((o - 8) / 8) else MAPA1.all w ((o - 8) / 8)) else
  if 0x2008 ≤ o ∧ o < 0x4000 then
    (if o % 8 = 0 then MAPS0.all w ((o - 0x2008) / 8) else MAPS1.all w ((o - 0x2008) / 8)) else
  []

/-- The fields of the word at window offset a in the table windows and rings of Tables 08.1 and 08.2; none where the
range is reserved (R227). -/
def windowWord (a : Nat) : List Fld :=
  if 0x0100000 ≤ a ∧ a < 0x0180000 then ctxWord ((a - 0x0100000) / 0x100) (a % 0x100) else
  if 0x0180000 ≤ a ∧ a < 0x01A0000 then brtWord ((a - 0x0180000) / 0x20) (a % 0x20) else
  if 0x01A0000 ≤ a ∧ a < 0x01A0400 then ROUTE.all ((a - 0x01A0000) / 4) else
  if 0x01A4000 ≤ a ∧ a < 0x01A5000 then
    PAL.all ((a - 0x01A4000) / 0x800) ((a - 0x01A4000) % 0x800 / 0x400) ((a - 0x01A4000) % 0x400 / 4) else
  if 0x01A8000 ≤ a ∧ a < 0x01A8200 then semWord ((a - 0x01A8000) / 0x10) (a % 0x10) else
  if 0x01AC000 ≤ a ∧ a < 0x01AC200 then slotWord ((a - 0x01AC000) / 0x10) (a % 0x10) else
  if 0x01C0000 ≤ a ∧ a < 0x01E0000 then mapWord ((a - 0x01C0000) / 0x4000) (a % 0x4000) else
  if 0x0200000 ≤ a ∧ a < 0x0240000 then DUMP.all ((a - 0x0200000) / 4) else
  if 0x0240000 ≤ a ∧ a < 0x0242000 then EVRING.all ((a - 0x0240000) / 4) else
  []

end Sys2Proof.Machine
end

