-- ==== Sys2Proof/Machine/Pages.lean ====
section
/-!
DEFINITION. Sys2Proof/Machine/Pages.lean: the pages of the control window (R230, R476 to R479): block type, instance, domain,
lockable and volatile marks, and the header fields.
-/
namespace Sys2Proof.Machine

/-- Header fields of page p (Table 08.3). -/
def PAGE_LOCK.LOCKED (p : Nat) : Fld := ⟨p * 0x1000 + 0x00C, 0, 1, 0, 0, .ro⟩
def EVT_RAW (p : Nat) : Fld := ⟨p * 0x1000 + 0x010, 0, 32, 0, 0, .ro⟩
def EVT_EN (p : Nat) : Fld := ⟨p * 0x1000 + 0x014, 0, 32, 0, 0, .rw⟩

/-- A listed page of Table 18.1. -/
structure PageInfo where
  typ : Nat
  inst : Nat
  page : Nat
  domain : Nat
  lockable : Bool
  volatile : Bool
deriving DecidableEq, Repr

/-- Table 18.1; none for a reserved page (R478). -/
def pageInfo (p : Nat) : Option PageInfo :=
  if p = 0x00 then some ⟨0x0001, 0, 0, 0, false, false⟩ else
  if p = 0x01 then some ⟨0x0002, 0, 0, 1, false, false⟩ else
  if p = 0x02 then some ⟨0x0003, 0, 0, 0, true, false⟩ else
  if p = 0x03 then some ⟨0x0004, 0, 0, 0, false, false⟩ else
  if p = 0x04 then some ⟨0x0005, 0, 0, 0, false, false⟩ else
  if p = 0x05 then some ⟨0x0006, 0, 0, 0, false, false⟩ else
  if p = 0x06 then some ⟨0x0007, 0, 0, 2, false, true⟩ else
  if 0x10 ≤ p ∧ p < 0x30 then
    some ⟨0x0010, (p - 0x10) / 8, p % 8, 6 + (p - 0x10) / 8, p % 8 = 0 || p % 8 = 5, false⟩ else
  if p = 0x30 ∨ p = 0x31 then some ⟨0x0020, 0, p - 0x30, 3, true, false⟩ else
  if 0x40 ≤ p ∧ p < 0x50 then some ⟨0x0021, p - 0x40, 0, 3, false, false⟩ else
  if p = 0x50 ∨ p = 0x51 then some ⟨0x0022, 0, p - 0x50, 3, false, false⟩ else
  if 0x60 ≤ p ∧ p < 0x64 then some ⟨0x0030, 0, p - 0x60, 10, false, false⟩ else
  if p = 0x70 ∨ p = 0x71 ∨ p = 0x74 ∨ p = 0x75 then some ⟨0x0031, (p - 0x70) / 4, p % 4, 11, false, false⟩ else
  if p = 0x78 ∨ p = 0x79 then some ⟨0x0032, 0, p - 0x78, 11, false, false⟩ else
  if 0x80 ≤ p ∧ p < 0x88 then some ⟨0x0040, (p - 0x80) / 4, p % 4, 12, false, false⟩ else
  if p = 0x88 then some ⟨0x0041, 0, 0, 12, false, false⟩ else
  if 0x90 ≤ p ∧ p < 0x94 then some ⟨0x0050, p - 0x90, 0, 13, false, true⟩ else
  if p = 0x94 ∨ p = 0x95 then some ⟨0x0051, p - 0x94, 0, 13, false, false⟩ else
  if p = 0x96 ∨ p = 0x97 then some ⟨0x0052, p - 0x96, 0, 13, false, false⟩ else
  if 0x98 ≤ p ∧ p < 0x9C then some ⟨0x0053, p - 0x98, 0, 13, false, true⟩ else
  if p = 0x9C then some ⟨0x0054, 0, 0, 13, false, false⟩ else
  if p = 0x9D then some ⟨0x0055, 0, 0, 13, false, false⟩ else
  if p = 0x9E then some ⟨0x0056, 0, 0, 13, false, false⟩ else
  if 0xA0 ≤ p ∧ p < 0xB0 ∧ p % 4 < 2 then some ⟨0x0060, (p - 0xA0) / 4, p % 4, 15, p % 4 = 0, false⟩ else
  if p = 0xB0 then some ⟨0x0061, 0, 0, 15, false, false⟩ else
  if 0xB1 ≤ p ∧ p < 0xB7 then some ⟨0x0061, 0, p - 0xB0, 15, true, false⟩ else
  if p = 0xC0 ∨ p = 0xC1 then some ⟨0x0070, 0, p - 0xC0, 1, false, false⟩ else
  if 0xC8 ≤ p ∧ p < 0xCD then some ⟨0x0071, 0, p - 0xC8, 1, false, false⟩ else
  if 0xD0 ≤ p ∧ p < 0xD8 then some ⟨0x0080, 0, p - 0xD0, 3, false, false⟩ else
  if p = 0xE0 then some ⟨0x0090, 0, 0, 1, false, false⟩ else
  if p = 0xE8 then some ⟨0x0091, 0, 0, 1, false, false⟩ else
  if 0xF0 ≤ p ∧ p < 0x100 then some ⟨0x00F0, 0, p - 0xF0, 1, false, false⟩ else
  none

/-- ENABLE after power-on (R479): 0 in the first pages of the heads, CAN, I2C, SPI and UART blocks. -/
def enableReset (p : Nat) : Nat :=
  if p = 0x80 ∨ p = 0x84 ∨ (0x90 ≤ p ∧ p < 0x9C) then 0 else 1

def BLK_CTRL.ENABLE (p : Nat) : Fld := ⟨p * 0x1000 + 0x020, 0, 1, enableReset p, enableReset p, .rw⟩
def BLK_STAT.DOMAIN_OFF (p : Nat) : Fld := ⟨p * 0x1000 + 0x024, 2, 1, 0, 0, .ro⟩
def BLK_STAT.FAULT (p : Nat) : Fld := ⟨p * 0x1000 + 0x024, 1, 1, 0, 0, .ro⟩
def BLK_STAT.READY (p : Nat) : Fld := ⟨p * 0x1000 + 0x024, 0, 1, 0, 0, .ro⟩

/-- The debug level a DBG page opens at (Table 18.11). -/
def dbgPageLevel (p : Nat) : Nat := if p = 0xF0 then 1 else if p < 0xF3 then 2 else 3

/-- First event number of the block at page p (Table 08.6). -/
def evFirst (p : Nat) : Nat :=
  if p = 0x00 then 0x00 else if p = 0x02 then 0x08 else if p = 0x03 then 0x0B else if p = 0x04 then 0x0C else
  if p = 0x06 then 0x0E else
  if 0x10 ≤ p ∧ p < 0x30 then (if p % 8 = 0 then 0x10 else 0x16) + 16 * ((p - 0x10) / 8) else
  if p = 0x30 then 0x50 else if p = 0x50 then 0x58 else if 0x40 ≤ p ∧ p < 0x50 then 0x60 + (p - 0x40) else
  if p = 0x60 then 0x70 else if p = 0x70 then 0x78 else if p = 0x74 then 0x7B else if p = 0x78 then 0x7E else
  if p = 0x80 then 0x80 else if p = 0x84 then 0x86 else if p = 0x88 then 0x8C else
  if 0x90 ≤ p ∧ p < 0x94 then 0x90 + 2 * (p - 0x90) else
  if 0x94 ≤ p ∧ p < 0x96 then 0x98 + 2 * (p - 0x94) else
  if 0x96 ≤ p ∧ p < 0x98 then 0x9C + 2 * (p - 0x96) else
  if 0x98 ≤ p ∧ p < 0x9C then 0xA0 + 2 * (p - 0x98) else
  if p = 0x9C then 0xA8 else if p = 0x9D then 0xAB else if p = 0x9E then 0xAE else
  if 0xA0 ≤ p ∧ p < 0xB0 then 0xB0 + 5 * ((p - 0xA0) / 4) else
  if p = 0xB0 then 0xC4 else if p = 0xC0 then 0xD4 else if p = 0xC8 then 0xD8 else if p = 0xD0 then 0xDA else
  if p = 0xE0 then 0xDC else if p = 0xE8 then 0xE0 else 0xF0

/-- An event: the page whose EVT_RAW holds it, and its bit (Table 08.6). -/
structure Ev where
  page : Nat
  bit : Nat
deriving DecidableEq, Repr

/-- The event's number (Table 08.6). -/
def Ev.num (e : Ev) : Nat := evFirst e.page + e.bit

/-- The pages that carry events, with how many bits each (Table 08.6). -/
def evPages : List (Nat × Nat) :=
  [(0x00, 8), (0x02, 3), (0x03, 1), (0x04, 2), (0x06, 2), (0x10, 6), (0x13, 9), (0x18, 6), (0x1B, 9), (0x20, 6),
   (0x23, 9), (0x28, 6), (0x2B, 9), (0x30, 8), (0x50, 6)]
  ++ (List.range 16).map (fun n => (0x40 + n, 1))
  ++ [(0x60, 7), (0x70, 3), (0x74, 3), (0x78, 2), (0x80, 6), (0x84, 6), (0x88, 1)]
  ++ (List.range 12).map (fun n => (0x90 + n, 2))
  ++ [(0x9C, 3), (0x9D, 3), (0x9E, 1), (0xA0, 5), (0xA4, 5), (0xA8, 5), (0xAC, 5), (0xB0, 16), (0xC0, 4), (0xC8, 2),
      (0xD0, 2), (0xE0, 2), (0xE8, 6), (0x05, 16)]

namespace EV
def enumRefused : Ev := ⟨0x00, 0⟩
def hubJoined : Ev := ⟨0x00, 1⟩
def hubLeft : Ev := ⟨0x00, 2⟩
def idAssigned : Ev := ⟨0x00, 3⟩
def lockedWrite : Ev := ⟨0x00, 4⟩
def evtMsgLost : Ev := ⟨0x00, 5⟩
def accessErr : Ev := ⟨0x00, 6⟩
def writeToDark : Ev := ⟨0x00, 7⟩
def lineageLost : Ev := ⟨0x02, 0⟩
def lineageLocked : Ev := ⟨0x02, 1⟩
def noLocalRef : Ev := ⟨0x02, 2⟩
def ctmStep : Ev := ⟨0x03, 0⟩
def wakeReplayed : Ev := ⟨0x04, 0⟩
def domainFault : Ev := ⟨0x04, 1⟩
def mbxDone : Ev := ⟨0x06, 0⟩
def awlRestart : Ev := ⟨0x06, 1⟩
def trainDone (n : Nat) : Ev := ⟨0x10 + 8 * n, 0⟩
def laneLost (n : Nat) : Ev := ⟨0x10 + 8 * n, 1⟩
def trainTimeout (n : Nat) : Ev := ⟨0x10 + 8 * n, 2⟩
def compatEntered (n : Nat) : Ev := ⟨0x10 + 8 * n, 3⟩
def tackSeen (n : Nat) : Ev := ⟨0x10 + 8 * n, 4⟩
def eyeDone (n : Nat) : Ev := ⟨0x10 + 8 * n, 5⟩
def linkUp (n : Nat) : Ev := ⟨0x13 + 8 * n, 0⟩
def linkDown (n : Nat) : Ev := ⟨0x13 + 8 * n, 1⟩
def widthChanged (n : Nat) : Ev := ⟨0x13 + 8 * n, 2⟩
def replayExhausted (n : Nat) : Ev := ⟨0x13 + 8 * n, 3⟩
def tagFail (n : Nat) : Ev := ⟨0x13 + 8 * n, 4⟩
def versionMismatch (n : Nat) : Ev := ⟨0x13 + 8 * n, 5⟩
def sessionResumed (n : Nat) : Ev := ⟨0x13 + 8 * n, 6⟩
def sessionExpired (n : Nat) : Ev := ⟨0x13 + 8 * n, 7⟩
def pwarnRx (n : Nat) : Ev := ⟨0x13 + 8 * n, 8⟩
def ctxCmdDone : Ev := ⟨0x30, 0⟩
def flowTorn : Ev := ⟨0x30, 1⟩
def engineFenced : Ev := ⟨0x30, 2⟩
def flowRehomed : Ev := ⟨0x30, 3⟩
def partErr : Ev := ⟨0x30, 4⟩
def sealFail : Ev := ⟨0x30, 5⟩
def memUncorr : Ev := ⟨0x30, 6⟩
def rehomeNoRoom : Ev := ⟨0x30, 7⟩
def whlCommitDone : Ev := ⟨0x50, 0⟩
def whlCommitRefused : Ev := ⟨0x50, 1⟩
def overQuota : Ev := ⟨0x50, 2⟩
def quotaDrained : Ev := ⟨0x50, 3⟩
def flowUnderfed : Ev := ⟨0x50, 4⟩
def whlRescaled : Ev := ⟨0x50, 5⟩
def feFenced (n : Nat) : Ev := ⟨0x40 + n, 0⟩
def pcieLinkUp : Ev := ⟨0x60, 0⟩
def pcieLinkDown : Ev := ⟨0x60, 1⟩
def pcieReset : Ev := ⟨0x60, 2⟩
def portPresence : Ev := ⟨0x60, 3⟩
def tlpPoisoned : Ev := ⟨0x60, 4⟩
def pcieUncorr : Ev := ⟨0x60, 5⟩
def flr : Ev := ⟨0x60, 6⟩
def ethLinkUp (n : Nat) : Ev := ⟨0x70 + 4 * n, 0⟩
def ethLinkDown (n : Nat) : Ev := ⟨0x70 + 4 * n, 1⟩
def fcsBad (n : Nat) : Ev := ⟨0x70 + 4 * n, 2⟩
def tsReady : Ev := ⟨0x78, 0⟩
def tsOverrun : Ev := ⟨0x78, 1⟩
def flipDone (h : Nat) : Ev := ⟨0x80 + 4 * h, 0⟩
def flipWithheld (h : Nat) : Ev := ⟨0x80 + 4 * h, 1⟩
def lineUnderrun (h : Nat) : Ev := ⟨0x80 + 4 * h, 2⟩
def pixelParity (h : Nat) : Ev := ⟨0x80 + 4 * h, 3⟩
def hpdChange (h : Nat) : Ev := ⟨0x80 + 4 * h, 4⟩
def auxDone (h : Nat) : Ev := ⟨0x80 + 4 * h, 5⟩
def bankFenced : Ev := ⟨0x88, 0⟩
def canRx (n : Nat) : Ev := ⟨0x90 + n, 0⟩
def busOff (n : Nat) : Ev := ⟨0x90 + n, 1⟩
def i2cDone (n : Nat) : Ev := ⟨0x94 + n, 0⟩
def i2cNack (n : Nat) : Ev := ⟨0x94 + n, 1⟩
def spiDone (n : Nat) : Ev := ⟨0x96 + n, 0⟩
def prefetchDiscard (n : Nat) : Ev := ⟨0x96 + n, 1⟩
def uartRx (n : Nat) : Ev := ⟨0x98 + n, 0⟩
def uartErr (n : Nat) : Ev := ⟨0x98 + n, 1⟩
def gpioEdge : Ev := ⟨0x9C, 0⟩
def gpioWake : Ev := ⟨0x9C, 1⟩
def schedLate : Ev := ⟨0x9C, 2⟩
def brtMiss : Ev := ⟨0x9D, 0⟩
def rateDrop : Ev := ⟨0x9D, 1⟩
def seqGap : Ev := ⟨0x9D, 2⟩
def semBroken : Ev := ⟨0x9E, 0⟩
def attach (n : Nat) : Ev := ⟨0xA0 + 4 * n, 0⟩
def detach (n : Nat) : Ev := ⟨0xA0 + 4 * n, 1⟩
def contractDone (n : Nat) : Ev := ⟨0xA0 + 4 * n, 2⟩
def hardReset (n : Nat) : Ev := ⟨0xA0 + 4 * n, 3⟩
def swapDone (n : Nat) : Ev := ⟨0xA0 + 4 * n, 4⟩
def trip (n : Nat) : Ev := ⟨0xB0, n⟩
def fetFail (n : Nat) : Ev := ⟨0xB0, 6 + n⟩
def pfail : Ev := ⟨0xB0, 12⟩
def feedSwitch : Ev := ⟨0xB0, 13⟩
def coolDone : Ev := ⟨0xB0, 14⟩
def overtempWarn : Ev := ⟨0xB0, 15⟩
def keyDone : Ev := ⟨0xC0, 0⟩
def keyDenied : Ev := ⟨0xC0, 1⟩
def debugOpen : Ev := ⟨0xC0, 2⟩
def passwordLockout : Ev := ⟨0xC0, 3⟩
def cryDone : Ev := ⟨0xC8, 0⟩
def cryErr : Ev := ⟨0xC8, 1⟩
def counterDump : Ev := ⟨0xD0, 0⟩
def ringOverrun : Ev := ⟨0xD0, 1⟩
def bankFail : Ev := ⟨0xE0, 0⟩
def flashlessBoot : Ev := ⟨0xE0, 1⟩
def updateRefused : Ev := ⟨0xE8, 0⟩
def imageStaged : Ev := ⟨0xE8, 1⟩
def activated : Ev := ⟨0xE8, 2⟩
def rolledBack : Ev := ⟨0xE8, 3⟩
def settingsReset : Ev := ⟨0xE8, 4⟩
def forwardFail : Ev := ⟨0xE8, 5⟩
def soft (k : Nat) : Ev := ⟨0x05, k⟩
end EV

end Sys2Proof.Machine
end

