-- ==== Sys2Proof/Config.lean ====
section
/-!
DEFINITION. Sys2Proof/Config.lean: what the spec leaves to the part or leaves open. Each is a constant without a body, so
that no proof can see its value.
-/
namespace Sys2Proof.Config

/-- Free value number n, where the spec states no result (log entry 2). -/
opaque freeNat : Nat → Nat

/-- The bit errors that the counter of the word at an address meets in a tick, and what a running margin scan shows at it: what arrives on
the lanes decides them, and the spec states no number (R84, R86; log entry 2). -/
opaque bitErrors : Nat → Nat → Nat

/-- A read of so many bytes from an offset meets, at a tick, a bad word of the memory it reads (R212; log entry 2). -/
opaque unreadable : Nat → Nat → Nat → Bool
/-- A PCI Express link (0 and 1: root ports, 16: the Root's upstream link) has, at a tick, credit for the TLP at a place of its queue:
posted 0, non-posted 1, completion 2. The link's credits are PCI Express's, not the spec's (R263; log entry 88). -/
opaque linkCredit : Nat → Nat → Nat → Nat → Bool
/-- The CRC field of a CAN frame, which ISO 11898-1 defines: identifier word, remote frame, data (R315, R328; log entry 3). -/
opaque canCrc : Nat → Nat → List Byte → Nat
/-- The word of Table 05.4 at offset 0x80 + 4k that shows an end context's reliable-bulk state, whose layout the spec does not give (R142,
log entry 2). -/
opaque rlbWord : Nat → List Nat → Nat

/-- SHA-384 of a byte string (FIPS 180-4, Table 00.6): 48 bytes. Log entry 3. -/
opaque sha384 : List Byte → List Byte
/-- HMAC-SHA-384 of a key and a message (FIPS 198-1): 48 bytes. Log entry 3. -/
opaque hmac384 : List Byte → List Byte → List Byte
/-- AES-256-GCM: key, nonce, additional data, plain text to cipher text and tag (SP 800-38D). Log entry 3. -/
opaque gcmSeal : List Byte → List Byte → List Byte → List Byte → List Byte
/-- AES-256-GCM opening: key, nonce, additional data, cipher text and tag; none when the tag is bad. Log entry 3. -/
opaque gcmOpen : List Byte → List Byte → List Byte → List Byte → Option (List Byte)
/-- ECDSA P-384: private key, message to r ‖ s (FIPS 186-5). Log entry 3. -/
opaque ecdsaSign : List Byte → List Byte → List Byte
/-- ECDSA P-384 check: public key, message, signature. Log entry 3. -/
opaque ecdsaVerify : List Byte → List Byte → List Byte → Bool
/-- ML-DSA-65 check: public key, message, signature (FIPS 204). Log entry 3. -/
opaque mldsaVerify : List Byte → List Byte → List Byte → Bool
/-- ECDH P-384: private key, peer public key; none when the point is not on the curve (SP 800-56A). Log entry 3. -/
opaque ecdh : List Byte → List Byte → Option (List Byte)
/-- The P-384 public key of a private key. Log entry 3. -/
opaque p384Public : List Byte → List Byte
/-- The key derivation of SP 800-108: key, label, context, length in bytes. Log entry 3. -/
opaque kdf : List Byte → List Byte → List Byte → Nat → List Byte
/-- The 384-bit secret that the PUF's cells and the W field of a helper record give (R427). Log entry 3. -/
opaque pufSecret : List Byte → List Byte
/-- The W field of a helper record for a secret (R425): its codeword against the enrolment majority. Log entry 3. -/
opaque pufEnrol : List Byte → List Byte
/-- The identity private scalar of a KDF output (R429). Log entry 3. -/
opaque identScalar : List Byte → List Byte
/-- What an UNWRAP finds in a blob under a key (Table 15.9); none when its tag is bad. Log entry 3. -/
opaque unwrap : List Byte → List Byte → Option (List Byte)
/-- The GCM operations of CRY_IN under a slot key (Table of CRY_CTRL). Log entry 3. -/
opaque cryEncrypt : List Byte → List Byte → List Byte
opaque cryDecrypt : List Byte → List Byte → Option (List Byte)
/-- The settings defaults under a schema (R459). Log entry 2. -/
opaque settingsDefaults : Nat → List Byte
/-- The hash of the Hirdoxon provisioning signer that the ROM holds (R412). Log entry 2. -/
opaque romSigner : List Byte
/-- The check bits that SECDED (39,32) stores with a write-once word (R417, R419; log entry 2): the spec names no code matrix. -/
opaque fuseCheck : Nat → Nat
/-- Byte n of the random generator's output (log entry 2). -/
opaque drbg : Nat → Byte

/-- What Capture-IR loads into the instruction register of the debug port, as long as that register is, and what a code in it names:
1 IDCODE, 2 SAMPLE/PRELOAD, 3 EXTEST, above 3 another instruction (R489; log entry 92). -/
opaque tapIr : List Bool
opaque tapCode : List Bool → Nat
/-- The silicon revision of this part (CHIP_INFO, PART_REV). Log entry 2. -/
opaque siliconRev : Nat
/-- The PCI Express vendor id (PCIE_ID.VENDOR is 'fixed', spec/09). Log entry 2. -/
opaque pcieVendor : Nat

end Sys2Proof.Config
end

