-- ==== Sys2Proof/Machine/State.lean ====
section
/-!
DEFINITION. Sys2Proof/Machine/State.lean: all the state the spec gives one hub, as plain data, and its value after
power-on. Register fields stand in the sparse store `regs` (RegMap.lean names them); what the rules imply beyond the
registers stands in one structure per block.
-/
namespace Sys2Proof.Machine

/-- No command of the block ends in a fault: every error the spec describes sets state and raises events. The one reason
stands for bytes that do not exist; no meaning raises it (safe). -/
inductive Fault where
  /-- Raised by no meaning (safe): an access outside every range the spec gives would answer it. -/
  | absentMemory (addr : Nat)
deriving DecidableEq, Repr

/-- Why a command has no meaning. -/
inductive Refusal where
  /-- Raised by an arm of `exec` that has no meaning yet (safe). -/
  | notModelled (mnemonic : String)
deriving DecidableEq, Repr

/-- What the hub sends out: the record of outputs (log entry 4). -/
inductive Emit where
  /-- A control packet on a Welt port. -/
  | ctl (port : Nat) (p : CtlPkt)
  /-- A time message on a Welt port: MX 0 DELAY_REQ, 1 DELAY_RESP, 2 STEP_NOTICE; its META bytes (Table 05.15). -/
  | time (port mx : Nat) (info : List Byte)
  /-- Scrambled blocks on a lane: of a flight, of the training pattern, alignment and WAKE blocks (R58 to R61, R65, R77). -/
  | blocks (port lane : Nat) (l : List Block)
  /-- 8b/10b code groups on a compatibility lane (R74). -/
  | symbols (port lane : Nat) (l : List Nat)
  /-- What leaves a lane under TEST (R82, Table 03.9): 0 nothing, 1 a pattern code and its first 64 bits, 2 the partner's data, 3 the same
  through the elastic buffer (R83); at 8.0 Gbaud on a compatibility port (R76). -/
  | test (port lane kind pattern first64 : Nat) (compat : Bool)
  /-- A flight: FSEQ, payload slots, seal (R98). -/
  | flight (port : Nat) (slots : List (List Byte)) (slot31 : List Byte)
  /-- A 1.x frame (R133). -/
  | frame (port : Nat) (f : Frame1x)
  /-- The Tack pattern on lane 0 (R79; DESIGN CHOICE, log entry 107): its bursts, each UI high, UI low, then ns of electrical idle. -/
  | tack (port : Nat) (bursts : List (Nat × Nat × Nat))
  /-- A whole packet handed to an attachment's adapter or to the far end. -/
  | packet (att : Nat) (p : Pkt)
  /-- A storage packet at a HOST egress, for the end port (Root) or root port (spoke) that its channel names (Table 09.2). -/
  | host (port : Nat) (p : Pkt)
  /-- The host's read of the control window from an offset is answered (R225, R226). -/
  | hostRead (offset : Nat) (data : List Byte)
  /-- What the host reads of BAR0 or BAR2 (R225, R253) -/
  | barRead (v : Nat)
  /-- The host's read of BAR2 from an offset is answered: the MSI-X table and the PBA (R253). -/
  | tableRead (offset : Nat) (data : List Byte)
  /-- A function's vendor and device ID, its class code where the spec gives one, and what it advertises (R251 to R253). -/
  | identity (vendor device cls : Nat) (options : List PcieOption)
  /-- A head scans a line out: its pixels' colours, 30 bits each (R281, R282). -/
  | scan (head line : Nat) (colours : List Nat)
  /-- An MSI-X message of table entry v. -/
  | msix (v : Nat)
  /-- Bytes written to host memory by DMA. -/
  | dma (addr : Nat) (data : List Byte)
  /-- A PCI Express TLP or reset on the host side (port 16) or a root port. -/
  | tlp (port : Nat) (data : List Byte)
  | pcieReset (port : Nat)
  | pcieDisable (port : Nat) (on : Bool)
  /-- An Unsupported Request completion towards the host (16) or a root port; a hot-plug interrupt of an end port. -/
  | unsupported (port : Nat)
  | hotPlug (v : Nat) (g : Option Nat) (addr data : Nat)
  /-- An Ethernet frame sent; a PAUSE sent with its quanta. -/
  | eth (port : Nat) (data : List Byte)
  | pause (port quanta : Nat)
  /-- A contract-channel frame (R344): type, MSG_ID, what goes onto the wire. -/
  | ctp (port typ msgId : Nat) (frame : List Byte)
  /-- The port supply's outputs PSn_EN and PSn_SEL (R331): 0 off, 1 12 V, 2 24 V, 3 48 V. -/
  | supply (port level : Nat)
  /-- Bus traffic: bus number, identifier, payload. -/
  | bus (b id : Nat) (data : List Byte)
  /-- A memory-window operation of an SPI bus (R319): chip select, LINES, dummy cycles, the bytes sent. -/
  | spi (b cs lines dummy : Nat) (data : List Byte)
  /-- A CAN frame (R315): bus, identifier word, remote frame, DLC, data. -/
  | can (b id : Nat) (rtr : Bool) (dlc : Nat) (data : List Byte)
  /-- Characters of a UART, up to nine bits each (R322, R328). -/
  | uart (b : Nat) (chars : List Nat)
  /-- The DE output of an RS-485 port, around the characters that follow (R322): bit times of lead and lag. -/
  | de (b lead lag : Nat)
  /-- GPIO lines driven: group, mask, levels. -/
  | gpio (g mask levels : Nat)
  /-- An output pin and its level. -/
  | pin (name : String) (level : Nat)
  /-- A PMBus write on AVS_SCL and AVS_SDA (R492): device address, command code, set point in mV. -/
  | pmbus (address command mv : Nat)
  /-- An AUX request. -/
  | aux (head cmd addr : Nat) (data : List Byte)
  /-- A DisplayPort link training request: rate, lanes, enhanced framing, down-spread (R296). -/
  | dpTrain (head rate lanes : Nat) (enhanced spread : Bool)
  /-- A line fetch request or answer, and whether the answer is marked bad. -/
  | line (head line : Nat) (data : List Byte) (bad : Bool)
  /-- A memory read of the management function: address, bytes (R301). -/
  | memRead (addr bytes : Nat)
deriving DecidableEq, Repr

-- Chapter 01 ---------------------------------------------------------------------------------------------------------

/-- The Root's record of one hub below it (R15 to R20, R506). -/
structure HubRec where
  /-- hub id of its parent -/
  parent : Nat
  /-- the parent's port -/
  port : Nat
  /-- links between the Root and it -/
  depth : Nat
  /-- its HUB_IDENT -/
  ident : Nat
  /-- the 2 s session hold of R20 runs -/
  held : Bool
  /-- it has answered its ASSIGN_ID -/
  joined : Bool
  /-- it is a UH3200 -/
  uh3200 : Bool
  /-- FREE as last read (R506) -/
  free : Bool
  /-- upstream encryption as last read (R506) -/
  enc : Bool
deriving DecidableEq, Repr

/-- A LINK_UP or LINK_DOWN report of a port (R17). -/
structure Report where
  /-- the hub -/
  hub : Nat
  /-- its port -/
  port : Nat
  /-- LINK_UP -/
  up : Bool
deriving DecidableEq, Repr

/-- One hop of one direction of a path: hub, ingress and egress attachment, context (R146). -/
structure Hop where
  /-- the hub -/
  hub : Nat
  /-- IN_ATT -/
  inAtt : Nat
  /-- OUT_ATT -/
  outAtt : Nat
  /-- the context -/
  ctx : Nat
deriving DecidableEq, Repr

/-- Enumeration state (chapter 01). -/
structure ChainSt where
  /-- the Root's queue of reports, oldest first -/
  reports : List Report
  /-- the Root's chain map -/
  hubs : Tbl HubRec
  /-- identity and id bound since power-on, newest first (R18) -/
  binds : List (Nat × Nat)
  /-- a spoke's held reports of its downstream ports, oldest first (R17) -/
  heldReports : List Report
  /-- a spoke's own 2 s hold after LINK_DOWN of port 0 (R20) -/
  hold0 : Bool
  /-- identity of the partner at the last admission of port 0 -/
  parentIdent : Nat
  /-- parent, port and reason (true: COUNT) of the last ENUM_REFUSED (R16) -/
  refused : Option (Nat × Nat × Bool)
  /-- the report at the head waits for the answer to its control READ (R18); whether its partner is a UH3200 -/
  asked : Option Bool
  /-- the paths that the Root has built, by PATH_ID: its hops in path order (R146, R250) -/
  paths : Tbl (List Hop)
deriving DecidableEq, Repr

-- Chapter 02 ---------------------------------------------------------------------------------------------------------

/-- What the reference PLL follows (R29, R33, R36, R505). -/
inductive PllMode where
  | off | refin | held | upstream | ratio | nominal
deriving DecidableEq, Repr

/-- Lineage state beyond CLK_STAT. -/
structure ClkSt where
  /-- REFIN present under R28 -/
  refin : Bool
  /-- what the reference PLL follows (R29, R33, R36) -/
  pll : PllMode
  /-- a slew back to REFIN or towards the recovered clock runs -/
  slew : Bool
  /-- the 64 ms ratio measurement of R34 runs -/
  ratioRun : Bool
  /-- the reference PLL has locked once since power-on (R41, R42) -/
  everLocked : Bool
  /-- the PLL has locked since the last LINK_UP, step 2 of Table 02.3 -/
  relocked : Bool
  /-- a rejoin runs (its steps 1 to 6) -/
  rejoin : Bool
deriving DecidableEq, Repr

/-- Chain time beyond CTM_STAT. -/
structure TimeSt where
  /-- chain time, ticks, 64 bits (R41) -/
  ticks : Nat
  /-- sub-tick phase of chain time, 1/256 tick (R41) -/
  phase : Nat
  /-- chain time counts (R41, R42) -/
  run : Bool
  /-- sub-ticks of the freeze still to pass -/
  freeze : Nat
  /-- a time step announced and not yet applied (R46, R47) -/
  pend : Option StepNote
  /-- number of the latest DELAY_REQ and its departure stamp while unanswered -/
  exch : Nat
  /-- departure stamp of the DELAY_REQ that is unanswered (R43) -/
  waiting : Option Stamp
  /-- the last offsets in sub-ticks, newest first, at most eight -/
  offs : List Int
  /-- the hop delays of the same exchanges -/
  dels : List Int
  /-- exchanges done of the eight of an alignment; none in steady state -/
  align : Option Nat
  /-- an averaged result exists, its hop delay and offset (R53) -/
  avgValid : Bool
  /-- hop delay of the averaged result, sub-ticks (R53) -/
  avgD : Int
  /-- offset of the averaged result, sub-ticks (R53) -/
  avgO : Int
  /-- offset still to slew, sub-ticks (R44) -/
  slew : Int
  /-- STEP_SEQ of the next TIME_STEP (R46) -/
  stepSeqNo : Nat
deriving DecidableEq, Repr

-- Chapter 03 ---------------------------------------------------------------------------------------------------------

/-- Training and lane state of one port beyond its registers. -/
structure LanePort where
  /-- the CFG wires hold attach -/
  attach : Bool
  /-- the contract channel reported a partner of version 1 (R73) -/
  partnerV1 : Bool
  /-- receive lanes ready under R68 -/
  ready : Nat
  /-- STATE last sent: 0 none, 1 TRAIN, 2 RX_READY, 3 GO (R69) -/
  sentState : Nat
  /-- STATE last received in an alignment block (R69) -/
  rcvState : Nat
  /-- RX_MASK last received from the partner -/
  rcvMask : Nat
  /-- PRESET_SEQ last received (R66, R68) -/
  rcvPreset : Nat
  /-- PRESET_SEQ sent: changes of the TX taps (R66) -/
  presetSeq : Nat
  /-- ALIGN_SEQ last received (R65) -/
  alignSeq : Nat
  /-- receive lanes whose number and polarity are resolved (R63) -/
  resolved : Nat
  /-- compatibility lanes with lane lock -/
  compatLock : Nat
  /-- stored PRE_USED, POST_USED, CTLE and DFE of each lane in Sleep (R78) -/
  stored : List (List Nat)
  /-- DFE value of each receive lane, as adapted, frozen, or stored in Sleep (R68, R78) -/
  dfe : List Nat
  /-- TACK is being sent on lane 0 (R79) -/
  tackSending : Bool
  /-- TACK has been seen while Sleep was being entered (R79) -/
  tackLatched : Bool
  /-- Sleep entry is being made -/
  sleepEntering : Bool
  /-- uptimes of the failures of each lane within 1 s (R120) -/
  fails : List (List Nat)
  /-- LANE_EN as the present training took it (WLTn_PCS_CTRL) -/
  enabled : Nat
  /-- a receive lane has failed: the ready mask that the first narrower flight will use (R118) -/
  narrow : Option Nat
  /-- number that each physical lane carries in its last alignment block; 4: none yet (R63) -/
  nums : List Nat
  /-- uptime + 1 at the last change of the partner's PRESET_SEQ; 0: none since training began (R68) -/
  presetAt : Nat
  /-- ALIGN_SEQ of the next alignment block sent (R65) -/
  alignTx : Nat
  /-- state of each transmit lane's PRBS31 generator: the last 31 bits of its training pattern (R65) -/
  gen : List Nat
  /-- blocks of the training pattern since the last alignment block, at most 255 (R65) -/
  since : Nat
  /-- the last 64 headers that each active receive lane has seen since framing was declared, newest first: of a wrong kind (R60, R71) -/
  hist : List Bool
  /-- scrambler state of each transmit lane (R59) -/
  scr : List Nat
  /-- running disparity of each compatibility transmit lane, a bit each (R73) -/
  rd : Nat
  /-- flights in a row that the receiver has framed since GO, at most four (R60) -/
  framed : Nat
deriving DecidableEq, Repr

-- Chapter 04 ---------------------------------------------------------------------------------------------------------

/-- A stored flight (R100): FSEQ, payload slots, the resume point its seal named, and how many slots carry contents. -/
structure Flight where
  /-- its FSEQ -/
  fseq : Nat
  /-- its payload slots -/
  slots : List (List Byte)
  /-- RESUME_BACK of its seal -/
  resumeBack : Nat
  /-- RESUME_SLOT of its seal -/
  resumeSlot : Nat
  /-- slots with contents -/
  used : Nat
  /-- the partner has acknowledged it -/
  acked : Bool
  /-- slot 0 is a seal-fill slot: its slots keep their positions in a replay (R99) -/
  fill : Bool
  /-- it is encrypted, with a tag slot (R131) -/
  enc : Bool
  /-- link packet numbers of its packet slots, one for each -/
  lpns : List Nat
deriving DecidableEq, Repr

/-- A slot that waits to be sent: bytes, class (4: link slot), its packet's link packet number, whether it is the packet's
header slot or its last. -/
structure TxSlot where
  /-- its 32 bytes -/
  bytes : List Byte
  /-- class, 4 for a link slot -/
  cls : Nat
  /-- link packet number of its packet -/
  lpn : Nat
  /-- the packet's header slot -/
  head : Bool
  /-- the packet's last slot -/
  last : Bool
deriving DecidableEq, Repr

/-- A PACKET frame of a 1.x link that is not yet acknowledged (R133, R134). -/
structure TxFrame where
  /-- its PSEQ -/
  pseq : Nat
  /-- its body -/
  body : List Byte
  /-- attachment its packet came from -/
  inAtt : Nat
  /-- link packet number of its packet there -/
  inLpn : Nat
  /-- the hub knows it to be bad: sent again it ends with K30.7 -/
  bad : Bool
deriving DecidableEq, Repr

/-- A packet that has begun to leave by a Welt port and that CLEAR_LPN has not passed (R105, R108): its number there, where
it came from, and its fate at this hub. -/
structure OutRec where
  /-- its number on this link -/
  lpn : Nat
  /-- attachment it came from -/
  inAtt : Nat
  /-- its number there -/
  inLpn : Nat
  /-- its fate is decided (R106) -/
  decided : Bool
  /-- it is poisoned -/
  bad : Bool
  /-- its last slot has been sent -/
  sentAll : Bool
  /-- its slots still pending at the port's attachment egress (R468) -/
  held : Nat
  /-- its slots still pending at its attachment's ingress (R468) -/
  heldIn : Nat
deriving DecidableEq, Repr

/-- Link state of one port beyond its registers. -/
structure LinkPort where
  -- transmit
  /-- FSEQ of the next new flight -/
  fseq : Nat
  /-- the replay buffer: flights sent and not yet acknowledged, oldest first (R100) -/
  replay : List Flight
  /-- FSEQ of the next flight to send again, while a replay runs -/
  replayAt : Option Nat
  /-- the flight that failed last and how often (R101) -/
  failSeq : Nat
  /-- how often that flight has failed in a row (R101) -/
  failures : Nat
  /-- resume point of the newest flight that has left the replay buffer -/
  ackBack : Nat
  /-- slot of that resume point (R99) -/
  ackSlot : Nat
  /-- slots that wait to be sent, oldest first (R88, R89) -/
  txq : List TxSlot
  /-- the flow whose message is open on the link (R139) -/
  openMsg : Option Nat
  /-- flight and position of the header of the packet open at the end of the last flight sent -/
  openAt : Option (Nat × Nat)
  /-- slots sent since admission, by class (R103) -/
  sent : List Nat
  /-- CRED last received, by class (R103) -/
  credTx : List Nat
  /-- link packet number of the next packet sent (R105) -/
  txLpn : Nat
  /-- CLEAR_LPN of the next seal sent (R105, R108) -/
  clearLpn : Nat
  /-- packets begun on this link that CLEAR_LPN has not passed (R105, R108) -/
  outs : List OutRec
  /-- listed poisoned packets and the FSEQ of the first flight whose seal listed each -/
  poison : List (Nat × Nat)
  /-- flights since the last seal-fill slot, at most 16 (R95) -/
  fillCount : Nat
  /-- FILL_NEXT of the last seal sent: the next flight has a seal-fill slot (R95) -/
  fillNext : Bool
  /-- transmit count of the encryption (R131) -/
  txc : Nat
  /-- the next seal announces a width change (R118) -/
  widthNext : Bool
  -- receive
  /-- ACK_SEQ of the seals sent: FSEQ of the last flight accepted (R96) -/
  ackSeq : Nat
  /-- seals go out with NAK set (R97) -/
  nak : Bool
  /-- RPL_ID last received in a seal, which seals with NAK repeat (R97) -/
  lastRpl : Nat
  /-- the flight being received has failed a header check or lost a lane -/
  flightBad : Bool
  /-- slot 0 of the flight being received is a seal-fill slot -/
  fillIn : Bool
  /-- link packet number of the next packet received (R105) -/
  rxLpn : Nat
  /-- its value at the start of the flight being received -/
  rxLpnStart : Nat
  /-- data slots still to come of the packet open at the end of the last accepted flight -/
  rxOpen : Nat
  /-- the same of the last flight that arrived, accepted or not (R96) -/
  wireOpen : Nat
  /-- numbers of the packets with slots in the flight being received -/
  current : List Nat
  /-- lead-in flights of a replay are passing (R99) -/
  leadIn : Bool
  /-- resume point of the last flight accepted in order -/
  rxBack : Nat
  /-- slot of that resume point (R99) -/
  rxSlot : Nat
  /-- accepted slots of each packet not yet decided, by number (R468), and the packets discarded on arrival -/
  pendLpn : Tbl Nat
  /-- numbers of packets discarded on arrival and not yet decided (R107, R468) -/
  discLpn : List Nat
  /-- slots freed since admission, by class (R103) -/
  freed : List Nat
  /-- numbers of packets that a replay will bring again: their first copy has not freed its slots yet (R99, R103) -/
  again : List Nat
  /-- numbers of packets whose first copy has freed the slots that their second copy takes (R103) -/
  paid : List Nat
  /-- initial credit sent in this end's CAP, by class (R102, Table 04.6) -/
  initCred : List Nat
  /-- transmit count last received (R131) -/
  rxTxc : Nat
  /-- uptimes of the latest failed tags, newest first (R132) -/
  tagTimes : List Nat
  -- messages
  /-- link messages received in part: message type and segments (R91) -/
  partial_ : List (Nat × List (List Byte))
  /-- the last link message received whole: type and bytes (R91) -/
  lastMsg : Option (Nat × List Byte)
  /-- bytes of the CAP this end sent (R112, R128) -/
  ownCap : List Byte
  /-- this end has sent its CAP (R112) -/
  capSent : Bool
  /-- a valid CAP has come (R112) -/
  capRcvd : Bool
  /-- ROOTED of the CAP received: the partner said it is rooted (R14, Table 04.6) -/
  capRooted : Bool
  /-- value of the CAP_DONE sent (R115) -/
  capDoneSent : Option Nat
  /-- value of the CAP_DONE received (R115) -/
  capDoneRcvd : Option Nat
  /-- both CAPs agree on encryption (R127) -/
  encAgreed : Bool
  /-- ephemeral private key -/
  eph : List Byte
  /-- the partner's key share (R128) -/
  shareRcvd : Option (List Byte)
  /-- the transcript of the key exchange (R128) -/
  transcript : List Byte
  /-- the partner's KX_AUTH was verified (R129) -/
  authOk : Bool
  /-- the flight that carries KX_DONE has left: flights after it are encrypted (R115, R130) -/
  kxDoneSent : Bool
  /-- KX_DONE has come (R115) -/
  kxDoneRcvd : Bool
  /-- 72 bytes of keys and salts (R130) -/
  keys : List Byte
  -- session
  /-- HUB_IDENT of the partner of the last session (R126) -/
  prevIdent : Nat
  /-- both ends of the last session had RESUME in use (R125) -/
  prevResume : Bool
  /-- a valid CAP came within the 2 s of the hold -/
  capInTime : Bool
  /-- uptime at that CAP (R126) -/
  capAt : Nat
  -- Hush and Sleep
  /-- LSTATE that the next seals ask for: 0 none, 1 Hush, 3 Sleep (R121, R123) -/
  lstateTx : Nat
  /-- LSTATE_AT of those seals (R121, R123) -/
  lstateAt : Nat
  /-- agreed Hush or Sleep boundary: kind 1 Hush, 2 Sleep, and FSEQ [7:0] -/
  agreed : Option (Nat × Nat)
  /-- flights still to pass before a lapsed Hush is asked for again (R121) -/
  hushLapse : Nat
  /-- a packet slot has been accepted that no seal has acknowledged since (R122) -/
  hushOwes : Bool
  /-- flights in a row without contents (R121, HUSH_IDLE) -/
  idleFlights : Nat
  /-- a Sleep request waits until the link is quiet (R123) -/
  sleepWant : Bool
  /-- the first admission after Hold or Shelf offers no RESUME (R404) -/
  noResume : Bool
  /-- the partner's port that the cable ends at (R20) -/
  farPort : Nat
  /-- the partner's port at the last admission (R20, R126) -/
  prevFar : Nat
  -- compatibility framing
  /-- PSEQ of the next compatibility frame (R134) -/
  pseqTx : Nat
  /-- PSEQ of the last compatibility frame accepted (R134); the first PACKET is to carry 0 (DESIGN CHOICE, log entry 84) -/
  pseqRx : Nat
  /-- frames sent and not acknowledged (R134) -/
  frames : List TxFrame
deriving DecidableEq, Repr

-- Chapter 05 ---------------------------------------------------------------------------------------------------------

/-- A packet inside the hub: where it came from, its context (2048: a fixed label), its link packet number when it came
by a Welt port, whether it is decided and good, and its copies still to leave. -/
structure FlowPkt where
  /-- the packet -/
  pkt : Pkt
  /-- its context, 2048 for a fixed label -/
  ctx : Nat
  /-- attachment it came from -/
  inAtt : Nat
  /-- its link packet number there -/
  lpn : Nat
  /-- its fate is decided (R106) -/
  decided : Bool
  /-- it is poisoned -/
  bad : Bool
  /-- attachment it leaves by -/
  outAtt : Nat
  /-- its flow id there -/
  outLabel : Nat
  /-- its header slot has left an egress port -/
  begun : Bool
deriving DecidableEq, Repr

/-- Ingress-end RLB state of a context (R158, R160). -/
structure RlbIn where
  /-- SEQ of the next packet (R158) -/
  nextSeq : Nat
  /-- packets sent and not yet acknowledged, oldest first (R158) -/
  kept : List Pkt
  /-- current timeout, µs -/
  timeout : Nat
deriving DecidableEq, Repr

/-- Egress-end RLB state of a context (R159). -/
structure RlbOut where
  /-- SEQ of the last packet accepted (R159) -/
  ackSeq : Nat
  /-- packets accepted since the last ACK was sent (R159) -/
  unacked : Nat
  /-- ACK_SEQ of the last NAK and its chain time -/
  nakFor : Option (Nat × Nat)
deriving DecidableEq, Repr

/-- Flow state beyond the contexts. -/
structure FlowSt where
  /-- packets waiting in ingress partitions, oldest first -/
  waiting : List FlowPkt
  /-- packets admitted into the Last and not yet sent, oldest first -/
  admitted : List FlowPkt
  /-- RLB state of the contexts at their ingress end (R158, R160) -/
  rlbIn : Tbl RlbIn
  /-- RLB state of the contexts at their egress end (R159) -/
  rlbOut : Tbl RlbOut
  /-- HELD packets at an adapter, awaiting TTAG -/
  held : List FlowPkt
  /-- partition sizes applied, KiB -/
  parts : List Nat
  /-- SEQ of the next packet an adapter sends, by context -/
  seqOut : Tbl Nat
  /-- packets an ingress adapter holds back: attachment, context, packet (R147, R158) -/
  backlog : List (Nat × Nat × Pkt)
  /-- decided frames that wait for an Ethernet port (R270) -/
  netq : List FlowPkt
  /-- number of the next packet that enters from an attachment other than a Welt port -/
  number : Nat
  /-- a written context command that has not completed (R144): the word of LST_CTX_CMD -/
  command : Option Nat
  /-- held effects whose apply time had passed when their adapter took them (R138): no register shows this record -/
  late : Nat
deriving DecidableEq, Repr

-- Chapter 06 ---------------------------------------------------------------------------------------------------------

/-- One wheel beyond its registers. -/
structure WheelSt where
  /-- owed counts by context (R174) -/
  owed : Tbl Int
  /-- owed count of the CTL floor (R174) -/
  floorOwed : Int
  /-- slots charged to the quota in this epoch, by context (R180, R189) -/
  use : Tbl Nat
  /-- slots sent or admitted in this epoch, by context (R180) -/
  sent : Tbl Nat
  /-- slots charged to the quota in the epoch that ended last (R189) -/
  last : Tbl Nat
  /-- slots borrowed in this epoch, by context (Table 06.8) -/
  served : Tbl Nat
  /-- order 6: how far the weighted round robin has come, in slots of a flow of weight 1 (R175, log entry 23) -/
  turn : Rat
  /-- order 6: where the turn of each flow ends (R175, log entry 23) -/
  turns : Tbl Rat
  /-- what is left of the lend pool (R177) -/
  pool : Nat
deriving DecidableEq, Repr

/-- A staged or requested commit (R182 to R187). -/
structure Commit where
  /-- the wheels, a bit each -/
  wheels : Nat
  /-- COMMIT_EPOCH -/
  epoch : Nat
  /-- the commit names an epoch; clear: at the next one -/
  atEpoch : Bool
  /-- TAG of the result -/
  tag : Nat
  /-- chain time of the write -/
  arrived : Nat
  /-- checked and staged; before that the request waits for COMMIT_STAGING -/
  ready : Bool
deriving DecidableEq, Repr

structure WheelsSt where
  /-- the eight wheels (R168) -/
  wheels : Vector WheelSt 8
  /-- the staged commits, each of its own wheels (R182, R184), and requests not yet checked -/
  commits : List Commit
  /-- slots each engine has processed in this epoch (R179) -/
  engines : Tbl Nat
  /-- slots counted against each engine's budget in this epoch (R179) -/
  budget : Tbl Nat
  /-- engines that the budget of this epoch still counts re-homed contexts on (R179) -/
  homes : Tbl Nat
deriving DecidableEq, Repr

-- Chapter 07 ---------------------------------------------------------------------------------------------------------

/-- Integrity state beyond its registers: engines detected failed and their cause, the flows still to re-home. -/
structure IntegritySt where
  /-- engines fenced whose flows are still to be re-homed -/
  rehome : List Nat
  /-- the Awl has stopped on an uncorrectable error and its restart is still to come (R201, R414) -/
  awlDown : Bool
deriving DecidableEq, Repr

-- Chapter 08 ---------------------------------------------------------------------------------------------------------

/-- Raises of one event since its last EVENT packet (R242). -/
structure EvLog where
  /-- raises since the last EVENT packet -/
  count : Nat
  /-- chain time of the first of them -/
  first : Nat
deriving DecidableEq, Repr

/-- An entry of the replay cache (R239). -/
structure CacheEnt where
  /-- SRC_HUB -/
  src : Nat
  /-- TAG -/
  tag : Nat
  /-- the operation -/
  op : Nat
  /-- its offset -/
  offset : Nat
  /-- none while in progress -/
  answer : Option CtlPkt
deriving DecidableEq, Repr

/-- A control request this hub has sent (R238). -/
structure OutReq where
  /-- the request -/
  pkt : CtlPkt
  /-- times it has been sent -/
  attempts : Nat
  /-- what the answer completes: 0 a plain write, 1 a mailbox command, 2 an image segment, 3 a fetch, 4 an ASSIGN_ID, 5 a
  REASSIGN, 6 what a FLOW_TORN has torn, 7 the identity of a reported partner -/
  purpose : Nat
deriving DecidableEq, Repr

/-- A write queued for the power die (R229): address, byte enables, value, source, the answer owed, and the
status of the later words of its request that do not queue. -/
structure PdWrite where
  /-- window offset -/
  addr : Nat
  /-- byte enables -/
  be : Nat
  /-- the word -/
  val : Nat
  /-- who writes -/
  src : Src
  /-- the answer owed when it has taken effect: port and response -/
  answer : Option (Nat × CtlPkt)
  /-- status of the later words of its request -/
  rest : Nat
deriving DecidableEq, Repr

/-- A request that waits (R228, R229): writes of the power-die queue ahead of it, or 0 while it stands behind an earlier waiting
request of its requester; port, request. -/
structure PdRead where
  /-- queued writes ahead of it -/
  ahead : Nat
  /-- port it came by -/
  port : Nat
  /-- the request -/
  req : CtlPkt
deriving DecidableEq, Repr

/-- A control operation that a mailbox command sends (R250): target hub, operation, window offset, data or how many bytes. -/
structure RemoteOp where
  /-- target hub -/
  hub : Nat
  /-- operation -/
  op : Nat
  /-- window offset -/
  offset : Nat
  /-- length -/
  bytes : Nat
  /-- data of a write -/
  data : List Byte
deriving DecidableEq, Repr

/-- A mailbox command accepted: its code, tag and request bytes; for a remote one the port and request. -/
structure MbxCmd where
  /-- CMD -/
  cmd : Nat
  /-- TAG -/
  tag : Nat
  /-- the 64 request bytes -/
  req : List Byte
  /-- port and request of a remote command -/
  remote : Option (Nat × CtlPkt)
  /-- what the host's memory holds at the address the command names -/
  dma : List Byte
  /-- a fuse that the command programs fails its read-back, or the owner policy module refuses the command -/
  fail : Bool
  /-- control requests it still sends, in order: hub, offset, operation, bytes, data -/
  todo : List RemoteOp
  /-- tags of its requests not yet answered -/
  tags : List Nat
  /-- what its answers gave so far -/
  got : List Byte
  /-- the result prepared by the Awl: status and result bytes 4–63 -/
  result : Option (Nat × List Byte)
  /-- the Awl has taken it up -/
  begun : Bool
  /-- what a path request has done so far, by hub: a context activated, or 65,536 + the wheels of a commit applied -/
  steps : List (Nat × Nat)
  /-- the refusal that ends it once its contexts are torn down, 0 for none -/
  fate : Nat
  /-- an answer that came while the core was halted: status and data -/
  heard : Option (Nat × List Byte) := none
deriving DecidableEq, Repr

structure CtlSt where
  /-- the replay cache (R239) -/
  cache : List CacheEnt
  /-- control requests sent and not yet answered, by TAG (R238) -/
  reqs : Tbl OutReq
  /-- TAG of the next control request (R238) -/
  nextTag : Nat
  /-- writes queued for the power die, oldest first (R229) -/
  pdq : List PdWrite
  /-- requests that wait behind queued writes or behind an earlier request of their requester (R228, R229) -/
  pdReads : List PdRead
  /-- mailbox commands accepted and not yet done, oldest first (R246, R247) -/
  mbxQueue : List MbxCmd
  /-- entries of the log that MBX_LOG_POP reads, oldest first (R235) -/
  awlLog : List Nat
  /-- raises of each event since its last EVENT packet (R242) -/
  evLog : Tbl EvLog
  /-- TAGs of answered requests and the uptime until which they are not used again (R238) -/
  spent : List (Nat × Nat)
  /-- vectors whose coalescing timer runs, with the uptime at which it expires (R241) -/
  timers : Tbl Nat
  /-- armings of a vector with no coalescing that are still to be delivered, each for itself (R241) -/
  armings : Tbl Nat
  /-- events raised, or enabled while raised, since their vector's last delivery (R241) -/
  raised : List Nat
  /-- RWL values at locking, by field key (R231) -/
  locked : Tbl Nat
deriving DecidableEq, Repr


-- Chapter 09 ---------------------------------------------------------------------------------------------------------

/-- What the Root's end port mirrors of the spoke root port's link (R258). -/
structure EndLink where
  /-- Data Link Layer Link Active -/
  up : Bool
  /-- current speed -/
  speed : Nat
  /-- negotiated width -/
  width : Nat
deriving DecidableEq, Repr

/-- An MSI-X table entry. -/
structure Msix where
  /-- message address -/
  addr : Nat
  /-- message data -/
  data : Nat
  /-- the entry is masked -/
  mask : Bool
  /-- its pending bit -/
  pending : Bool
deriving DecidableEq, Repr

/-- Host and network adapter state. End ports are numbered v, or 16 + 16 v + g for a group port. -/
structure HostSt where
  /-- link state that end ports mirror (R258) -/
  ends : Tbl EndLink
  /-- bus ranges and windows of the ports, as software set them (R254, R255) -/
  ports : Tbl PortCfg
  /-- the MSI-X table, by vector (R253) -/
  msix : Tbl Msix
  /-- MSI-X Enable (R253) -/
  msixOn : Bool
  /-- MSI-X Function Mask (R253) -/
  msixFMask : Bool
  /-- BAR0 of the management function: 64-bit, not prefetchable, 64 MiB (R225, R253) -/
  bar0 : Nat
  /-- BAR2, likewise, 16 KiB: the MSI-X table and the PBA (R253) -/
  bar2 : Nat
  /-- Memory Space Enable of the management function's Command register: its BARs are answered (PCI Express) -/
  memOn : Bool
  /-- TLPs that wait at the HOST egress for a PCI Express link, in flow order: link and TLP (R263) -/
  queue : List (Nat × Tlp)
  /-- the PTP map set as written: ANCHOR_EPOCH, NS, SEC_LO, SEC_HI, ADJ, APPLY (R274) -/
  ptpWritten : List Nat
  /-- the staged PTP map set (R274) -/
  ptpStaged : Option (List Nat)
deriving DecidableEq, Repr

-- Chapter 10 ---------------------------------------------------------------------------------------------------------

/-- A surface in force (R279, R280). -/
structure Surf where
  /-- BASE -/
  page : Nat
  /-- SPAN -/
  span : Bool
  /-- STRIDE -/
  stride : Nat
  /-- WIDTH -/
  width : Nat
  /-- HEIGHT -/
  height : Nat
deriving DecidableEq, Repr

/-- The raster timing in force (R291): the timing registers' values. -/
structure Raster where
  /-- HTOTAL -/
  htotal : Nat
  /-- HACTIVE -/
  hactive : Nat
  /-- VTOTAL -/
  vtotal : Nat
  /-- VACTIVE -/
  vactive : Nat
  /-- the HSYNC word -/
  hsync : Nat
  /-- the VSYNC word -/
  vsync : Nat
  /-- PERIOD_TICKS -/
  period : Nat
  /-- ANCHOR -/
  anchor : Nat
deriving DecidableEq, Repr

/-- A display-update operation received (R284): its MX, its flow, its packet. -/
structure DispOp where
  /-- its MX, the operation -/
  mx : Nat
  /-- its flow -/
  ctx : Nat
  /-- its packet -/
  pkt : Pkt
deriving DecidableEq, Repr

/-- A pending flip (R289): when it became due, and its flags. -/
structure PendFlip where
  /-- its flow -/
  ctx : Nat
  /-- the tick, as State.uptime counts, at which it became due -/
  due : Nat
  /-- NO_PAL -/
  noPal : Bool
  /-- SYNC_BACK -/
  syncBack : Bool
deriving DecidableEq, Repr

/-- A line in the line buffer (R303): its bytes so far, and whether it is bad under R211. -/
structure LineBuf where
  /-- the line -/
  line : Nat
  /-- its bytes so far -/
  data : List Byte
  /-- bad under R211 -/
  bad : Bool
  /-- written before its packet was decided: the packet's attachment and number (R211) -/
  waits : Option (Nat × Nat)
deriving DecidableEq, Repr

/-- One display head beyond its registers. -/
structure HeadSt where
  /-- the two surfaces in force (R279, R280) -/
  surfs : List Surf
  /-- the raster timing in force (R291) -/
  raster : Raster
  /-- operations received and not yet applied, in the order decided good; a pending flip keeps its place (R286) -/
  waits : List DispOp
  /-- the flow of the operation being carried out; 2048: the copy of SYNC_BACK -/
  busy : Option Nat
  /-- operations since each flow's last FLIP (R288) -/
  counts : Tbl Nat
  /-- a flip that waits for its blank (R289) -/
  pend : Option PendFlip
  /-- after a gen-lock restart, the earliest time of the first blank (R294) -/
  restart : Option Nat
  /-- whole lines by which the next front porch is longer, shorter when negative (R295) -/
  porch : Int
  /-- trim of f_pix in ppm, longer frames when negative (R295) -/
  trim : Int
  /-- lines of this frame requested (R303) -/
  asked : Nat
  /-- lines of this frame that the raster has begun (R303) -/
  begun : Nat
  /-- lines in the line buffer (R303) -/
  lines : List LineBuf
  /-- underrun lines of this frame (R304) -/
  underLines : Nat
  /-- underrun pixels of this frame (R304) -/
  underPix : Nat
  /-- parity errors found in this frame in FSA (R221) -/
  perrA : Nat
  /-- parity errors found in this frame in FSB (R221) -/
  perrB : Nat
  /-- pixels of this frame shown as entry 0 for parity errors (R221) -/
  perrPix : Nat
  /-- banks isolated in this frame, by bit (R300) -/
  lost : Nat
  /-- RATE and lanes of the training that runs, or ran last (R297) -/
  training : Nat × Nat
  /-- RATE and lanes at which the main link is trained (R297) -/
  trained : Option (Nat × Nat)
  /-- the AUX request that runs, or ran last: CMD, ADDR, data (R299) -/
  aux : Nat × Nat × List Byte
  /-- DEFER replies to it so far (R299) -/
  defers : Nat
deriving DecidableEq, Repr

/-- Display state: the heads, and writes that wait for a bank's initialising (R278). -/
structure DispSt where
  /-- the two display heads (R277) -/
  heads : Vector HeadSt 2
  /-- writes that wait for a bank's initialising (R278) -/
  initWait : List (Nat × Byte)
  /-- line-data packets that the fetcher took or discarded before they were decided: attachment, number, discarded (R211) -/
  early : List (Nat × Nat × Bool)
deriving DecidableEq, Repr

-- Chapter 11 ---------------------------------------------------------------------------------------------------------

/-- A message queued at a bus (R313): bus, priority, the context it arrived on, its packet. -/
structure BrMsg where
  /-- the bus -/
  bus : Nat
  /-- its priority -/
  prio : Nat
  /-- the context it came on -/
  ctx : Nat
  /-- the packet -/
  pkt : Pkt
  /-- the tick, as State.uptime counts, at which it reached the head of its queue (R316) -/
  since : Option Nat
deriving DecidableEq, Repr

/-- The triple that holds a semaphore (R324): source hub, context, TAG. -/
structure Triple where
  /-- source hub -/
  hub : Nat
  /-- context -/
  ctx : Nat
  /-- TAG -/
  tag : Nat
deriving DecidableEq, Repr

/-- A read-ahead kept for a context (R320): destination SPI bus, window, offset of its first byte, the hub of the device. -/
structure ReadAhead where
  /-- destination SPI bus -/
  bus : Nat
  /-- window -/
  win : Nat
  /-- offset of its first byte -/
  off : Nat
  /-- hub of the device -/
  hub : Nat
  /-- the bytes -/
  data : List Byte
  /-- where its first byte lay in the payload of the RESP (R321) -/
  start : Nat
deriving DecidableEq, Repr

/-- A scheduled output (R323). -/
structure Sched where
  /-- chain time of the output -/
  t : Nat
  /-- GPIO group -/
  group : Nat
  /-- pins that change -/
  mask : Nat
  /-- their new levels -/
  levels : Nat
deriving DecidableEq, Repr

/-- A transfer of the transfer window (R329): its request packet and context, whether it expects a RESP, whether it has been
discarded on its way, how often it was retracted, and how many RESPs of retracted attempts may still arrive. -/
structure Xfer where
  /-- TAG of the result -/
  tag : Nat
  /-- its context -/
  ctx : Nat
  /-- the request packet -/
  pkt : Pkt
  /-- it expects a RESP -/
  resp : Bool
  /-- it has been discarded on its way -/
  lost : Bool
  /-- how often it was retracted (R327) -/
  retracts : Nat
  /-- RESPs of retracted attempts that may still come -/
  stale : Nat
deriving DecidableEq, Repr

/-- Bridge state. -/
structure BridgeSt where
  /-- tokens missing from each entry's bucket (R312) -/
  spent : Tbl Nat
  /-- egress queues of all buses and priorities, oldest first -/
  queue : List BrMsg
  /-- CAN receive FIFO entries, oldest first -/
  canRx : Tbl (List Nat)
  /-- UART receive FIFO entries, oldest first -/
  uartRx : Tbl (List Nat)
  /-- index of I2C target reads -/
  i2cIdx : Tbl Nat
  /-- buses held under HOLD -/
  holds : Tbl Triple
  /-- read-aheads kept, by context (R320) -/
  aheads : Tbl ReadAhead
  /-- scheduled outputs (R323) -/
  sched : List Sched
  /-- last SEQ of each ISO context served (R314) -/
  lastSeq : Tbl Nat
  /-- the transfer of the transfer window (R329) -/
  xfer : Option Xfer
  /-- retracted packets that will be sent again: context, under the same SEQ, packet (R327) -/
  retracted : List (Nat × Bool × Pkt)
  /-- characters of a UART message that has not ended (R322) -/
  uartPart : Tbl (List Nat)
  /-- the tick, as State.uptime counts, until which a UART drives DE (R322) -/
  deUntil : Tbl Nat
deriving DecidableEq, Repr

-- Chapter 12 ---------------------------------------------------------------------------------------------------------

/-- A contract-channel message (R344): type and objects. -/
structure CtpMsg where
  /-- TYPE -/
  typ : Nat
  /-- its objects -/
  objs : List Nat
  /-- it came from the TX window -/
  tx : Bool
deriving DecidableEq, Repr

/-- Reading of a CFG wire (R334). -/
inductive CfgRead where
  /-- no usable sample yet -/
  | unread
  /-- source, below 0.15 V -/
  | short
  /-- source, 0.15 V to 1.6 V -/
  | pulldown
  /-- source, above 2.0 V -/
  | opened
  /-- sink, below 0.2 V (NONE) -/
  | absent
  /-- sink, 0.2 V to 0.6 V -/
  | mayStart
  /-- sink, 0.6 V to 1.6 V -/
  | starting
deriving DecidableEq, Repr

/-- One contract port beyond its registers. -/
structure CtpPort where
  /-- the active wire: 0 none, 1 CFG1, 2 CFG2 (R337) -/
  active : Nat
  /-- the last reading of CFG1 (R334) -/
  cfg1 : CfgRead
  /-- the last reading of CFG2 (R334) -/
  cfg2 : CfgRead
  /-- MSG_ID of the next new message (R345) -/
  msgId : Nat
  /-- MSG_ID of the message that waits for its ACK (R345) -/
  sendId : Nat
  /-- MSG_ID of the INFO not yet acknowledged, which its repeats keep (R345, R347) -/
  infoId : Option Nat
  /-- MSG_ID and TYPE of the last message accepted (R345) -/
  lastRx : Option (Nat × Nat)
  /-- the message that waits for its ACK (R345) -/
  sending : Option CtpMsg
  /-- its repeats so far (R345) -/
  tries : Nat
  /-- messages that the hardware sends after it -/
  next : List CtpMsg
  /-- this end's INFO has been acknowledged (R346) -/
  infoAcked : Bool
  /-- this end speaks version 1 (R346) -/
  v1 : Bool
  /-- the sequence that runs: 0 none, 2 Contract, 3 Ask, 4 Swap (R348) -/
  seq : Nat
  /-- an answer in that sequence is awaited (R348) -/
  await : Bool
  /-- the awaited answer did not come within 500 ms: it is discarded when it does (R349) -/
  late : Bool
  /-- the first message of a sequence that waits for the 10 ms of the level (R348) -/
  starts : Option CtpMsg
  /-- the offers last sent (R350) -/
  offers : List Nat
  /-- the partner's last offers (R350) -/
  partner : List Nat
  /-- VOLT and CURRENT of the contract requested (R351, R352) -/
  req : Option (Nat × Nat)
  /-- the supply has been set to the new level of a transition (Table 12.8a) -/
  levelSet : Bool
  /-- step of a swap: 0 none, 1 ACCEPT acknowledged, 2 old source's READY, 3 the new source's (Table 12.9) -/
  swap : Nat
  /-- the role before the swap (Table 12.9) -/
  roleBefore : Nat
  /-- a WIRED_ROLE write that waits for detach (R330) -/
  wired : Option Nat
  /-- messages since the transition began, each answered with WAIT after it (R353) -/
  owedWait : Nat
  /-- the source applies a contract (R342, R372) -/
  applying : Bool
  /-- the base contract waits for the end of the cool-down (R341), or for VCABLE below 5 V in a swap (Table 12.9) -/
  baseWait : Bool
  /-- uptime at which detach is judged by terminations again after a swap (R358) -/
  handEnd : Nat
  /-- the port supply: 0 off, 1 12 V, 2 24 V, 3 48 V (R331) -/
  supply : Nat
  /-- the port drives LOADSHED_N low (R352) -/
  shed : Bool
deriving DecidableEq, Repr

structure CtpSt where
  /-- the four contract ports (R330) -/
  ports : Vector CtpPort 4
  /-- LOCAL_PG has been high for 10 ms (R367) -/
  localPg : Bool
  /-- the rails come from the dead-battery start path (R365 to R367) -/
  dbPath : Bool
deriving DecidableEq, Repr

-- Chapter 13 ---------------------------------------------------------------------------------------------------------

/-- One channel of the Eyelet beyond its registers. -/
structure ChanSt where
  /-- commanded on (R372) -/
  on : Bool
  /-- latched off by a trip (R382) -/
  latched : Bool
  /-- ON has been written 0 since the trip (R382) -/
  zeroed : Bool
  /-- curve timers of the eight points and the backstop, µs (R376) -/
  timers : List Nat
  /-- first rise of the thermal model, K (R380) -/
  dt1 : Rat
  /-- second rise of the thermal model, K (R380) -/
  dt2 : Rat
  /-- T_USED, the temperature that the model rests on (R380) -/
  tUsed : Rat
  /-- energy of the ramp, J (R374) -/
  energy : Rat
  /-- what is left of the cool-down's 1 s, in steps of 10 µs (R382) -/
  coolLeft : Nat
  /-- OVERTEMP_WARN may be raised again (R380) -/
  warnArmed : Bool
  /-- VCABLE of a port channel is being discharged through DSCn (R339, R360) -/
  dis : Bool
  /-- uptime at the trips of the last 60 s, oldest first (Table 13.6) -/
  tripAts : List Nat
deriving DecidableEq, Repr

/-- The states of the test access port's controller (IEEE 1149.1, R489). -/
inductive TapState where
  | testLogicReset
  | runTestIdle
  | selectDr
  | captureDr
  | shiftDr
  | exit1Dr
  | pauseDr
  | exit2Dr
  | updateDr
  | selectIr
  | captureIr
  | shiftIr
  | exit1Ir
  | pauseIr
  | exit2Ir
  | updateIr
deriving DecidableEq, Repr

/-- The instructions that R489 names, and any other by its code. -/
inductive TapInstr where
  | bypass
  | idcode
  | samplePreload
  | extest
  | other (code : Nat)
deriving DecidableEq, Repr

/-- The test access port on DBG_TCK, DBG_TMS, DBG_TDI, DBG_TDO and DBG_TRST_N (R489). -/
structure TapSt where
  /-- state of the controller -/
  ctrl : TapState
  /-- instruction in force -/
  instr : TapInstr
  /-- the register being shifted, the bit next to DBG_TDO first -/
  shift : List Bool
  /-- update latches of the boundary register, one for each low-voltage signal ball -/
  latch : List Bool
deriving DecidableEq, Repr

structure EyeSt where
  /-- the six channels of the Eyelet (R370) -/
  chans : Vector ChanSt 6
  /-- PFAIL_N is held low for a cause of the hub's own or for a followed warning (R387, R388) -/
  warning : Bool
  /-- uptime at that assertion (R388) -/
  warnAt : Nat
deriving DecidableEq, Repr

-- Chapters 15 and 16 ------------------------------------------------------------------------------------------------

/-- An image slot of the boot flash (R444, R453): header, key block, and the chunks programmed so far. Empty lists are erased
blocks. -/
structure ImgSlot where
  /-- header, empty when erased -/
  header : List Byte
  /-- key block, empty when erased -/
  keyBlk : List Byte
  /-- chunks programmed, by number -/
  chunks : Tbl (List Byte)
deriving DecidableEq, Repr

/-- The boot flash (Table 16.5): two helper record copies, two bank record copies (bank and sequence number), the settings
record (schema, sequence number, contents), helper records kept for flashless children, and the banks' slots, slot 3 b + k
of kind k in bank b. -/
structure FlashSt where
  /-- a boot flash is fitted (R453) -/
  fitted : Bool
  /-- the two helper record copies (Table 16.5) -/
  helper : List (List Byte)
  /-- the two bank record copies: bank and sequence number (Table 16.5) -/
  records : List (Option (Nat × Nat))
  /-- the settings record: schema, sequence number, contents (Table 16.5) -/
  settings : Option (Nat × Nat × List Byte)
  /-- helper records kept for flashless children (R425, R461) -/
  foreign : List (List Byte)
  /-- the image slots: kind k of bank b at 3 b + k (R444, R453) -/
  slots : Vector ImgSlot 6
deriving DecidableEq, Repr

/-- What keeps its contents without power: the fuse array's bytes that are not zero (R417) and the boot flash. -/
structure NvSt where
  /-- bytes of the fuse array that are not zero (R417) -/
  fuse : Tbl Nat
  /-- the boot flash (Table 16.5) -/
  flash : FlashSt
deriving DecidableEq, Repr

/-- A crypto operation whose result is still to be written (R437): tag, status, result bytes, CRY_OUT bytes. -/
structure CryRes where
  /-- TAG -/
  tag : Nat
  /-- STATUS -/
  status : Nat
  /-- result bytes -/
  res : List Byte
  /-- CRY_OUT bytes -/
  out : List Byte
deriving DecidableEq, Repr

/-- A flashless boot's fetch (R415, R461): what is fetched (0 base, 1 policy, 3 helper record), the chunk and part asked for,
the parts of that chunk so far, and the array start-ups that will decode. -/
structure FetchSt where
  /-- 0 base, 1 policy, 3 helper record -/
  kind : Nat
  /-- the chunk asked for -/
  chunk : Nat
  /-- the part asked for -/
  part : Nat
  /-- parts of that chunk so far -/
  got : List Byte
  /-- array start-ups that will decode -/
  good : Nat
deriving DecidableEq, Repr

/-- Boot and key state beyond the registers (chapter 15). -/
structure SecSt where
  /-- the root key latch in AON -/
  root : Option (List Byte)
  /-- regeneration is disabled until power-on (R435) -/
  regenOff : Bool
  /-- slots 1 and 3 stay empty until power-on (R435) -/
  slotsGone : Bool
  /-- key values of the slots that hold one -/
  values : Tbl (List Byte)
  /-- the copy of the active base image's chunk-table hash in AON (R400) -/
  tableHash : List Byte
  /-- KEY_DBG_NONCE holds a nonce that may be answered (R438) -/
  nonce : Bool
  /-- time, in ticks since power-on, at which the next password attempt is taken -/
  pwdUntil : Nat
  /-- debug was opened by a key path -/
  keyPath : Bool
  /-- RETURN has been authorised by the owner's answer (R440) -/
  returnAuth : Bool
  /-- slot operations done whose result is still to be written: tag and status -/
  keyDone : List (Nat × Nat)
  /-- the crypto operation done whose result is still to be written (R437) -/
  cryDone : Option CryRes
  /-- header of the running base image, empty without one -/
  runBase : List Byte
  /-- header of the running policy image, empty without one -/
  runPolicy : List Byte
  /-- the boot has stopped (Table 15.2) -/
  halted : Bool
  /-- the fetch of a flashless boot (R415, R461) -/
  fetch : Option FetchSt
  /-- images fetched by a flashless boot, by kind -/
  ram : Vector ImgSlot 3
deriving DecidableEq, Repr

/-- A child that the image is forwarded to (R450): port, hub id, chunks sent and chunks answered. -/
structure Kid where
  /-- its port -/
  port : Nat
  /-- its hub id -/
  hub : Nat
  /-- chunks sent -/
  sent : Nat
  /-- chunks answered -/
  acked : Nat
deriving DecidableEq, Repr

/-- An update session (R448 to R452). -/
structure Sess where
  /-- the image's header (R444) -/
  header : List Byte
  /-- its key block (R444) -/
  keyBlk : List Byte
  /-- the target map (R448) -/
  targets : List Byte
  /-- the Root's image in host memory, from its body on -/
  src : List Byte
  /-- this hub writes the image -/
  target : Bool
  /-- the chunk table received (R444) -/
  table : List Byte
  /-- segments of chunks not yet complete, by 8 × chunk + part -/
  parts : Tbl (List Byte)
  /-- LAST segments that wait for a place: port and request -/
  waits : List (Nat × CtlPkt)
  /-- chunks in the staging buffer -/
  buffer : Tbl (List Byte)
  /-- chunks taken into the staging buffer so far -/
  taken : Nat
  /-- chunks written to the flash so far -/
  written : Nat
  /-- the image is staged (R451) -/
  staged : Bool
  /-- the children it is forwarded to (R450) -/
  kids : List Kid
deriving DecidableEq, Repr

structure UpdSt where
  /-- the update session (R448 to R452) -/
  sess : Option Sess
deriving DecidableEq, Repr


-- Chapter 14 ---------------------------------------------------------------------------------------------------------

/-- Power of the chip beyond the PWRD registers (chapters 14 and 19). -/
structure ChipSt where
  /-- 0 unpowered, 1 Shelf, 2 rails raised and RAIL_PG awaited, 3 main die on -/
  power : Nat
  /-- power-ups tried since the wake (R494) -/
  attempts : Nat
  /-- the wake that started an exit or waits for the end of an entry: source and CFG port (R407) -/
  wake : Option (Nat × Nat)
  /-- sources seen during the entry or the exit -/
  seen : Nat
  /-- the exit begins by replay -/
  replay : Bool
  /-- domains that were on at entry (R400, R403) -/
  domains : Nat
  /-- chain time at entry (R400, R403) -/
  t0 : Nat
  /-- VDD, VSRAM and bias at entry (Table 14.6) -/
  avs : Nat × Nat × Nat
  /-- SRAM assist in force, mV: wordline underdrive on reads, negative bitline on writes (Table 14.9) -/
  assist : Nat × Nat
  /-- SRAM assist at entry (Table 14.6) -/
  assistAt : Nat × Nat
  /-- a regulator did not acknowledge (R492) -/
  avsNack : Bool
  /-- the fabric clock is gated (R396) -/
  gated : Bool
  /-- the tick, as State.uptime counts, at which PWRD_TIMER expires; 0 disarmed -/
  timerAt : Nat
  /-- domains being switched off: the tick, likewise, at which each is isolated (R392) -/
  offAt : Tbl Nat
deriving DecidableEq, Repr

-- Chapter 17 ---------------------------------------------------------------------------------------------------------

/-- Counter state: totals per source, the total each counter started from, PENDING per unit (R463 to R472). -/
structure CntSt where
  /-- totals per source since power-on (R463, R465) -/
  raw : Tbl Nat
  /-- the total each counter started from (R463, R472) -/
  base : Tbl Nat
  /-- PENDING per unit (R467) -/
  pend : Tbl Nat
  /-- selection words in force, by counter 8 g + k, where they differ from reset -/
  sel : Tbl Nat
  /-- selections written and not yet applied -/
  selPend : Tbl Nat
  /-- armed AT time and its tag (R470) -/
  armed : Option (Nat × Nat)
  /-- tag of a GO that waits for the next tick (R470) -/
  go : Option Nat
  /-- causes that wait for the 1,600 ticks: CAUSE bits and tag -/
  deferred : Option (Nat × Nat)
  /-- a CLEAR waits for the next tick (R472) -/
  clearing : Bool
  /-- the next record says CLEARED (R472) -/
  cleared : Bool
  /-- groups whose source domain was off during the interval (R471) -/
  dark : Nat
  /-- the next record says GAP: time passed without counting (R471) -/
  gap : Bool
  /-- slots each attachment unit has carried ahead of its fabric cycles (R467) -/
  lead : Tbl Nat
  /-- ring pointers restart at the next record -/
  ringRestart : Bool
  /-- the record being written -/
  record : Option (List Byte)
deriving DecidableEq, Repr

/-- The hub. -/
structure State where
  /-- register fields that differ from their value after power-on, by bit address -/
  regs : Tbl Nat
  /-- frame-store bytes that are not zero, by window offset (R278) -/
  mem : List Host.Cell
  /-- commands that wait, first in first out -/
  pending : List Instr
  /-- HUB_IDENT of this hub, 16 bytes, all zero without a root key (Table 04.6, R413) -/
  hubIdent : List Byte
  /-- the private identity key, empty without a root key -/
  identKey : List Byte
  /-- outputs so far, newest last (log entry 4) -/
  out : List Emit
  /-- free values drawn so far (log entry 2) -/
  freeCtr : Nat
  chain : ChainSt
  clk : ClkSt
  time : TimeSt
  lanes : Vector LanePort 4
  links : Vector LinkPort 4
  flows : FlowSt
  wheel : WheelsSt
  integ : IntegritySt
  ctl : CtlSt
  cnt : CntSt
  host : HostSt
  disp : DispSt
  bridge : BridgeSt
  ctp : CtpSt
  eye : EyeSt
  nv : NvSt
  sec : SecSt
  fw : UpdSt
  /-- lineage ticks since the last power-on, for the waits that no chain time measures (log entry 5) -/
  uptime : Nat
  chip : ChipSt
  /-- the debug port (R489) -/
  tap : TapSt

deriving DecidableEq, Repr

/-- A port's lanes after power-on. -/
def LanePort.reset : LanePort :=
  { attach := false, partnerV1 := false, ready := 0, sentState := 0, rcvState := 0, rcvMask := 0, rcvPreset := 0, presetSeq := 0,
    alignSeq := 0, resolved := 0, compatLock := 0, stored := [], dfe := [0, 0, 0, 0], tackSending := false, tackLatched := false,
    sleepEntering := false, fails := [], enabled := 15, narrow := none, nums := [4, 4, 4, 4], presetAt := 0, alignTx := 0,
    gen := [1, 2, 3, 4], since := 0, hist := [], scr := [0, 0, 0, 0], rd := 0, framed := 0 }

/-- A port's link after power-on. -/
def LinkPort.reset : LinkPort :=
  { fseq := 0, replay := [], replayAt := none, failSeq := 0, failures := 0, ackBack := 15, ackSlot := 0, txq := [],
    openMsg := none, openAt := none, sent := [0, 0, 0, 0], credTx := [0, 0, 0, 0], txLpn := 0, clearLpn := 0, outs := [],
    poison := [], fillCount := 0, fillNext := false, txc := 0, widthNext := false, ackSeq := 0xFFFF, nak := false, lastRpl := 0,
    flightBad := false, fillIn := false, rxLpn := 0, rxLpnStart := 0, rxOpen := 0, wireOpen := 0, current := [],
    leadIn := false, rxBack := 15, rxSlot := 0, pendLpn := [], discLpn := [], freed := [0, 0, 0, 0], again := [], paid := [],
    initCred := [0, 0, 0, 0], rxTxc := 0, tagTimes := [], partial_ := [], lastMsg := none, ownCap := [],
    capSent := false, capRcvd := false, capRooted := false, capDoneSent := none, capDoneRcvd := none,
    encAgreed := false, eph := [], shareRcvd := none, transcript := [], authOk := false, kxDoneSent := false,
    kxDoneRcvd := false, keys := [], prevIdent := 0, prevResume := false, capInTime := false, capAt := 0, lstateTx := 0,
    lstateAt := 0, agreed := none, hushLapse := 0, hushOwes := false, idleFlights := 0, sleepWant := false,
    noResume := false, farPort := 0, prevFar := 0, pseqTx := 0, pseqRx := 0xFFF, frames := [] }

def ChainSt.reset : ChainSt :=
  { reports := [], hubs := [], binds := [], heldReports := [], hold0 := false, parentIdent := 0, refused := none, asked := none,
    paths := [] }

def ClkSt.reset : ClkSt :=
  { refin := false, pll := .off, slew := false, ratioRun := false, everLocked := false, relocked := false,
    rejoin := false }

def TimeSt.reset : TimeSt :=
  { ticks := 0, phase := 0, run := false, freeze := 0, pend := none, exch := 0, waiting := none, offs := [], dels := [],
    align := none, avgValid := false, avgD := 0, avgO := 0, slew := 0, stepSeqNo := 0 }

/-- Partition sizes in force after power-on, KiB (Table 05.9). -/
def partsReset : List Nat :=
  let welt := [0x20, 0x80, 0x100, 0x100, 0x20, 0x40, 0x80, 0x80]
  let other := [0x10, 0x40, 0x70, 0x40, 0x10, 0x40, 0x70, 0x40]
  welt ++ welt ++ welt ++ welt ++ other ++ other ++ other ++ other

def FlowSt.reset : FlowSt :=
  { waiting := [], admitted := [], rlbIn := [], rlbOut := [], held := [], parts := partsReset, seqOut := [], backlog := [], netq := [], number := 0, command := none, late := 0 }

def WheelSt.reset : WheelSt :=
  { owed := [], floorOwed := 0, use := [], sent := [], last := [], served := [], turn := 0, turns := [], pool := 0 }

def WheelsSt.reset : WheelsSt :=
  { wheels := Vector.replicate 8 WheelSt.reset, commits := [], engines := [], budget := [], homes := [] }

def IntegritySt.reset : IntegritySt := { rehome := [], awlDown := false }

def CtlSt.reset : CtlSt :=
  { cache := [], reqs := [], nextTag := 0, pdq := [], pdReads := [], mbxQueue := [], awlLog := [],
    evLog := [], spent := [], timers := [], armings := [], raised := [], locked := [] }

def CntSt.reset : CntSt :=
  { raw := [], base := [], pend := [], sel := [], selPend := [], armed := none, go := none, deferred := none,
    clearing := false, cleared := false, dark := 0, gap := false, lead := [], ringRestart := false, record := none }


def HostSt.reset : HostSt :=
  { ends := [], ports := [], msix := [], msixOn := false, msixFMask := false, bar0 := 4, bar2 := 4, memOn := false, queue := [], ptpWritten := [0, 0, 0, 0, 0, 0],
    ptpStaged := none }

def HeadSt.reset (h : Nat) : HeadSt :=
  { surfs := [⟨4096 * h, false, 1920, 1920, 1080⟩, ⟨4096 * h + 2048, false, 1920, 1920, 1080⟩],
    raster := ⟨2200, 1920, 1125, 1080, 2 ^ 31 + 2 ^ 16 * 44 + 2008, 2 ^ 31 + 2 ^ 16 * 5 + 1084, 6666667, 0⟩,
    waits := [], busy := none, counts := [], pend := none, restart := none, porch := 0, trim := 0, asked := 0, begun := 0, lines := [],
    underLines := 0, underPix := 0, perrA := 0, perrB := 0, perrPix := 0,
    lost := 0, training := (0, 0), trained := none, aux := (0, 0, []), defers := 0 }

def DispSt.reset : DispSt := { heads := #v[HeadSt.reset 0, HeadSt.reset 1], initWait := [], early := [] }

def BridgeSt.reset : BridgeSt :=
  { spent := [], queue := [], canRx := [], uartRx := [], i2cIdx := [], holds := [], aheads := [], sched := [], lastSeq := [],
    xfer := none, retracted := [], uartPart := [], deUntil := [] }

def CtpPort.reset : CtpPort :=
  { active := 0, cfg1 := .unread, cfg2 := .unread, msgId := 0, sendId := 0, infoId := none, lastRx := none, sending := none, tries := 0, next := [], infoAcked := false, v1 := false,
    seq := 0, await := false, late := false, starts := none, offers := [], partner := [], req := none, levelSet := false, swap := 0,
    roleBefore := 0, wired := none, owedWait := 0, applying := false, baseWait := false, handEnd := 0, supply := 0,
    shed := false }

def CtpSt.reset : CtpSt := { ports := Vector.replicate 4 CtpPort.reset, localPg := false, dbPath := false }

def ChanSt.reset : ChanSt :=
  { on := false, latched := false, zeroed := false, timers := List.replicate 9 0, dt1 := 0, dt2 := 0, tUsed := 0,
    energy := 0, coolLeft := 0, warnArmed := true, dis := false, tripAts := [] }

def EyeSt.reset : EyeSt := { chans := Vector.replicate 6 ChanSt.reset, warning := false, warnAt := 0 }

def TapSt.reset : TapSt := { ctrl := .testLogicReset, instr := .idcode, shift := [], latch := [] }

def ImgSlot.reset : ImgSlot := { header := [], keyBlk := [], chunks := [] }

/-- Blank fuses and an erased flash. -/
def NvSt.reset : NvSt :=
  { fuse := [], flash := { fitted := true, helper := [[], []], records := [none, none], settings := none, foreign := [],
                           slots := Vector.replicate 6 ImgSlot.reset } }

def SecSt.reset : SecSt :=
  { root := none, regenOff := false, slotsGone := false, values := [], tableHash := [], nonce := false, pwdUntil := 0,
    keyPath := false, returnAuth := false, keyDone := [], cryDone := none, runBase := [], runPolicy := [], halted := false,
    fetch := none, ram := Vector.replicate 3 ImgSlot.reset }

def UpdSt.reset : UpdSt := { sess := none }

def ChipSt.reset : ChipSt :=
  { power := 3, attempts := 0, wake := none, seen := 0, replay := false, domains := 0xFFFF, t0 := 0, avs := (0, 0, 0),
    assist := (0, 0), assistAt := (0, 0), avsNack := false, gated := false, timerAt := 0, offAt := [] }

/-- The hub right after power-on: every register at its value of Tables 18.2 to 18.10 with the straps open (R12: a
spoke), memory with nothing listed, no command waiting. -/
def State.reset : State :=
  { regs := [], mem := [], pending := [], hubIdent := List.replicate 16 0, identKey := [], out := [], freeCtr := 0, chain := ChainSt.reset, clk := ClkSt.reset,
    time := TimeSt.reset, lanes := Vector.replicate 4 LanePort.reset, links := Vector.replicate 4 LinkPort.reset,
    flows := FlowSt.reset, wheel := WheelsSt.reset, integ := IntegritySt.reset, ctl := CtlSt.reset,
    cnt := CntSt.reset, host := HostSt.reset,
    disp := DispSt.reset,
    bridge := BridgeSt.reset,
    ctp := CtpSt.reset, eye := EyeSt.reset,
    nv := NvSt.reset, sec := SecSt.reset, fw := UpdSt.reset, uptime := 0,
    chip := ChipSt.reset, tap := TapSt.reset }

end Sys2Proof.Machine
end

