-- ==== Sys2Proof/Machine/Ops.lean ====
section
/-!
DEFINITION. Sys2Proof/Machine/Ops.lean: the named operations over the state: register fields, frame-store bytes, events,
counters, outputs, chain time, ports. Every meaning is written over these.
-/
namespace Sys2Proof.Machine

/-- The answer type of every meaning. -/
abbrev Out := Host.Outcome State Fault Refusal

-- Register fields ----------------------------------------------------------------------------------------------------

/-- The value of a register field (R7). -/
def State.get (s : State) (f : Fld) : Nat := s.regs.getD f.key f.rst

/-- The field takes v, cut to its width. -/
def State.set (s : State) (f : Fld) (v : Nat) : State :=
  { s with regs := s.regs.setD f.key f.rst (v % 2 ^ f.w) }

/-- A one-bit field as a truth value. -/
def State.flag (s : State) (f : Fld) : Bool := s.get f != 0

/-- A one-bit field takes a truth value. -/
def State.setFlag (s : State) (f : Fld) (b : Bool) : State := s.set f (b2n b)

/-- A saturating count gains n. -/
def State.incSat (s : State) (f : Fld) (n : Nat := 1) : State := s.set f (satAdd f.w (s.get f) n)

/-- A wrapping count gains one. -/
def State.inc (s : State) (f : Fld) : State := s.set f (s.get f + 1)

/-- Bit i of a field takes b. -/
def State.setBitOf (s : State) (f : Fld) (i : Nat) (b : Bool) : State :=
  s.set f (if b then setBit (s.get f) i else clrBit (s.get f) i)

/-- f when b holds, else nothing. -/
def State.when (s : State) (b : Bool) (f : State → State) : State := if b then f s else s

/-- The 64-bit number of a LO and a HI word. -/
def State.get64 (s : State) (lo hi : Fld) : Nat := s.get lo + 2 ^ 32 * s.get hi

/-- A LO and a HI word take a 64-bit number. -/
def State.set64 (s : State) (lo hi : Fld) (v : Nat) : State := (s.set lo v).set hi (v / 2 ^ 32)

/-- A field's value after power-on in the hub's role (R9). -/
def State.isRoot (s : State) : Bool := s.get CHIP_ROLE.ROLE == 0
/-- That value; ON of E0 is 0 after a dead-battery start (R365, Table 18.9). -/
def State.rstOf (s : State) (f : Fld) : Nat :=
  if s.ctp.dbPath ∧ f.key = (EYE_CH_CTRL.ON 0).key then 0 else if s.isRoot then f.rstRoot else f.rst
def State.resetFld (s : State) (f : Fld) : State := s.set f (s.rstOf f)
def State.resetFlds (s : State) (fs : List Fld) : State := fs.foldl State.resetFld s

/-- This hub's id (CHIP_HUB_ID). -/
def State.hubId (s : State) : Nat := s.get CHIP_HUB_ID.HUB_ID

/-- The writable fields of a word take their bits of v (R7): RW only; the other types act in their own rules. -/
def State.writeRw (s : State) (fs : List Fld) (v : Nat) : State :=
  fs.foldl (fun t f => if f.acc == .rw then t.set f (bits v f.lo f.w) else t) s

/-- The word that a list of fields reads as (R5). -/
def State.wordOf (s : State) (fs : List Fld) : Nat :=
  fs.foldl (fun a f => a + if f.acc == .wo then 0 else s.get f * 2 ^ f.lo) 0

/-- A write's effect and the status of Table 08.5 it would answer: 0 OK, 5 BAD_ADDR, 6 DARK, 7 LOCKED, 8 CLASS_NOT_ALLOWED. -/
abbrev WRes := State × Nat

/-- The write of a list of 32-bit words into consecutive windows. -/
def State.setWords (s : State) (f : Nat → Fld) : Nat → List Nat → State
  | _, [] => s
  | i, v :: t => State.setWords (s.set (f i) v) f (i + 1) t

/-- Bytes as little-endian 32-bit words, n of them, zero beyond the end. -/
def words32 (n : Nat) (l : List Byte) : List Nat := (List.range n).map fun i => leNat (byteSlice l (4 * i) 4)

/-- The bytes of n consecutive window words. -/
def State.windowBytes (s : State) (f : Nat → Fld) (n : Nat) : List Byte :=
  (List.range n).flatMap fun i => leBytes 4 (s.get (f i))

-- Frame-store bytes --------------------------------------------------------------------------------------------------

/-- The frame-store byte at window offset a; an unlisted byte reads 0 (R278). -/
def State.byte (s : State) (a : Nat) : Byte := Tbl.getD s.mem a 0

/-- Memory with the byte at a replaced; the canonical form is kept. -/
def Memory.set (m : List Host.Cell) (a : Nat) (b : Byte) : List Host.Cell := Tbl.setD m a 0 b

/-- The canonical form: rising addresses, no byte equal to what an unlisted one reads as. -/
def Memory.wf (m : List Host.Cell) : Bool := Tbl.sorted m && m.all fun c => c.2 != 0

def State.setByte (s : State) (a : Nat) (b : Byte) : State := { s with mem := Memory.set s.mem a b }

/-- The bytes l from address a on. -/
def State.setBytes (s : State) (a : Nat) : List Byte → State
  | [] => s
  | b :: t => State.setBytes (s.setByte a b) (a + 1) t

-- Outputs, free values -----------------------------------------------------------------------------------------------

/-- The hub sends e. -/
def State.emit (s : State) (e : Emit) : State := { s with out := s.out ++ [e] }

def State.emits (s : State) (es : List Emit) : State := { s with out := s.out ++ es }

/-- The next free value (log entry 2). -/
def State.free (s : State) : Nat := Config.freeNat s.freeCtr
def State.useFree (s : State) : State := { s with freeCtr := s.freeCtr + 1 }

-- Ports and heads ----------------------------------------------------------------------------------------------------

def State.lane (s : State) (n : Port) : LanePort := s.lanes[n]
def State.modLane (s : State) (n : Port) (f : LanePort → LanePort) : State :=
  { s with lanes := upd s.lanes n (f s.lanes[n]) }
def State.link (s : State) (n : Port) : LinkPort := s.links[n]
def State.modLink (s : State) (n : Port) (f : LinkPort → LinkPort) : State :=
  { s with links := upd s.links n (f s.links[n]) }

-- Counters (R463 to R468) --------------------------------------------------------------------------------------------

/-- Source codes of the counter totals: events, group signals, slot categories, occupancy of one counter. -/
def srcEvent (e : Nat) : Nat := e
def srcSignal (g c : Nat) : Nat := 0x1000 + 64 * g + c
def srcSlots (u c : Nat) : Nat := 0x2000 + 4 * u + c
def srcOcc (i : Nat) : Nat := 0x3000 + i

/-- n more of source c, while the collector runs (CNT_CTRL.RUN). -/
def State.count (s : State) (c n : Nat) : State :=
  if s.flag CNT_CTRL.RUN then { s with cnt := { s.cnt with raw := s.cnt.raw.setD c 0 (s.cnt.raw.getD c 0 + n) } }
  else s

/-- Unit numbers of Table 17.5. -/
def unitTx (n : Nat) : Nat := 2 * n
def unitRx (n : Nat) : Nat := 2 * n + 1
def unitIn (a : Nat) : Nat := 8 + 2 * a
def unitOut (a : Nat) : Nat := 8 + 2 * a + 1

/-- n slots with contents pass an attachment unit: as many of its fabric cycles are taken (R467). -/
def State.pass (s : State) (u n : Nat) : State :=
  if u < 8 then s else { s with cnt := { s.cnt with lead := s.cnt.lead.setD u 0 (s.cnt.lead.getD u 0 + n) } }

/-- n slots of unit u go into a category: 0 RETIRED, 1 WASTED, 2 STARVED_FRONT, 3 STARVED_BACK (Table 17.2). -/
def State.slots (s : State) (u c n : Nat) : State := (s.pass u n).count (srcSlots u c) n

/-- n slots of unit u become pending (R468). -/
def State.pendSlots (s0 : State) (u n : Nat) : State :=
  let s := s0.pass u n
  { s with cnt := { s.cnt with pend := s.cnt.pend.setD u 0 (s.cnt.pend.getD u 0 + n) } }

/-- n pending slots of unit u are decided into a category (R468). -/
def State.decideSlots (s : State) (u c n : Nat) : State :=
  let p := s.cnt.pend.getD u 0
  ({ s with cnt := { s.cnt with pend := s.cnt.pend.setD u 0 (p - n) } }).count (srcSlots u c) (min p n)

-- Chain time ---------------------------------------------------------------------------------------------------------

/-- Chain time, ticks. -/
def State.now (s : State) : Nat := s.time.ticks
/-- Chain time [31:0]. -/
def State.now32 (s : State) : Nat := s.time.ticks % 2 ^ 32
/-- The epoch of chain time (Table 00.4). -/
def State.epochNow (s : State) : Nat := s.time.ticks / 51200
/-- Chain time stands still (R46): the value it holds is reached only when counting resumes (R49). -/
def State.frozen (s : State) : Bool := s.flag CTM_STAT.FREEZE
def State.stamp (s : State) : Stamp := ⟨s.time.ticks, s.time.phase⟩

-- Events (R240 to R242) ----------------------------------------------------------------------------------------------

/-- The coalescing interval of vector v, µs (R241). -/
def State.coalesce (s : State) (v : Nat) : Nat := min (s.get (EVC_COAL.US v)) 1000

/-- An arming of vector v without coalescing counts: each is delivered (R241). -/
def State.countArming (s : State) (v : Nat) : State :=
  let n := s.ctl.armings.getD v 0 + b2n (s.coalesce v == 0)
  { s with ctl := { s.ctl with armings := s.ctl.armings.setD v 0 n } }

/-- Vector v is armed (R241). -/
def State.arm (s : State) (v : Nat) : State := (s.countArming v).setBitOf EVC_ARMED.ARMED v true

/-- Event number e has been raised since its vector's last delivery (R241). -/
def State.noteNew (s : State) (e : Nat) : State :=
  { s with ctl := { s.ctl with raised := if s.ctl.raised.contains e then s.ctl.raised else s.ctl.raised ++ [e] } }

/-- The event's record of raises gains one (R242): it starts afresh when the RAW bit was 0. -/
def State.noteRaise (s : State) (e : Ev) : State :=
  let l := s.ctl.evLog.getD e.num ⟨0, 0⟩
  let fresh := !bit (s.get (EVT_RAW e.page)) e.bit || l.count == 0
  let l' : EvLog := if fresh then ⟨1, s.now32⟩ else ⟨min (l.count + 1) 255, l.first⟩
  { s with ctl := { s.ctl with evLog := s.ctl.evLog.put e.num l' } }.noteNew e.num

/-- Domain d is powered. -/
def State.domainOn (s : State) (d : Nat) : Bool := bit (s.get PWRD_DOMAIN_STAT.POWERED) d

/-- The domain of page p is powered. -/
def State.pageOn (s : State) (p : Nat) : Bool :=
  match pageInfo p with
  | some i => s.domainOn i.domain
  | none => true

/-- Event e is raised (R240): its RAW bit is set, its record and counter gain one, and with EN set its vector is armed.
An event of a page whose domain is off is not raised (R234). -/
def State.raise (s : State) (e : Ev) : State :=
  if !s.pageOn e.page then s else
  let s1 := ((s.noteRaise e).count (srcEvent e.num) 1).setBitOf (EVT_RAW e.page) e.bit true
  s1.when (bit (s.get (EVT_EN e.page)) e.bit) fun t => t.arm (t.get (EVC_MAP.VECTOR e.num))

-- Logs (R199, Table 07.7) --------------------------------------------------------------------------------------------

/-- One entry into the error log of page 0x30 and its debug copy (R481). -/
def State.logErr (s : State) (cause unit index : Nat) : State :=
  let e := s.get LST_ERR_HEAD.NEXT
  let d := s.get DBG_LOG_HEAD.NEXT
  s |>.set (LST_ERR_LOG0.CAUSE e) cause |>.set (LST_ERR_LOG0.UNIT e) unit |>.set (LST_ERR_LOG0.INDEX e) index
    |>.set (LST_ERR_LOG1.TIME e) s.now32 |>.set LST_ERR_HEAD.NEXT (e + 1) |>.incSat LST_ERR_HEAD.TOTAL
    |>.set (DBG_LOG0.CAUSE d) cause |>.set (DBG_LOG0.UNIT d) unit |>.set (DBG_LOG0.INDEX d) index
    |>.set (DBG_LOG1.TIME d) s.now32 |>.set DBG_LOG_HEAD.NEXT (d + 1) |>.incSat DBG_LOG_HEAD.TOTAL

-- Domains and access errors (R227, R233) -----------------------------------------------------------------------------

/-- The requester code of CHIP_ACCESS: hub id, or 0xFE for the local host. The Awl counts as this hub (log entry 9). -/
def State.srcCode (s : State) : Src → Nat
  | .host => 0xFE
  | .hub id _ => id
  | _ => s.hubId

/-- ACCESS_ERR at window offset a (R227). -/
def State.accessErr (s : State) (src : Src) (a : Nat) : State :=
  (s.set CHIP_ACCESS.ERR_SRC (s.srcCode src) |>.set CHIP_ACCESS.ERR_PAGE (a / 1024)).raise EV.accessErr

/-- WRITE_TO_DARK at window offset a (R233). -/
def State.writeToDark (s : State) (src : Src) (a : Nat) : State :=
  (s.set CHIP_ACCESS.DARK_SRC (s.srcCode src) |>.set CHIP_DARK_ADDR.OFFSET a).raise EV.writeToDark

/-- A write to page p by src acts as act when the page's domain is on; else it is a dark write (R233). -/
def State.guardPage (s : State) (src : Src) (p o : Nat) (act : State → State) : State :=
  match pageInfo p with
  | none => s.accessErr src (p * 0x1000 + o)
  | some i => if s.domainOn i.domain then act s else s.writeToDark src (p * 0x1000 + o)

/-- A locked page (R231). -/
def State.locked (s : State) (p : Nat) : Bool := s.flag (PAGE_LOCK.LOCKED p)

/-- A write of an RWL field: dropped with LOCKED_WRITE in a locked page (R232). -/
def State.setRwl (s : State) (p : Nat) (f : Fld) (v : Nat) : State :=
  if s.locked p then s.raise EV.lockedWrite else s.set f v

-- Result windows (R249) ----------------------------------------------------------------------------------------------

/-- A result window's four word-0 fields. -/
structure ResWin where
  seq : Fld
  tag : Fld
  valid : Fld
  status : Fld

def resCTM : ResWin := ⟨CTM_RES0.SEQ, CTM_RES0.TAG, CTM_RES0.VALID, CTM_RES0.STATUS⟩
def resMBX : ResWin := ⟨MBX_RES0.SEQ, MBX_RES0.TAG, MBX_RES0.VALID, MBX_RES0.STATUS⟩
def resWHL : ResWin := ⟨WHL_RES0.SEQ, WHL_RES0.TAG, WHL_RES0.VALID, WHL_RES0.STATUS⟩
def resKEY : ResWin := ⟨KEY_RES0.SEQ, KEY_RES0.TAG, KEY_RES0.VALID, KEY_RES0.STATUS⟩
def resCRY : ResWin := ⟨CRY_RES0.SEQ, CRY_RES0.TAG, CRY_RES0.VALID, CRY_RES0.STATUS⟩
def resXFER : ResWin := ⟨BRT_XRES0.SEQ, BRT_XRES0.TAG, BRT_XRES0.VALID, BRT_XRES0.STATUS⟩

/-- Acceptance of a request clears RESULT_VALID only. -/
def State.resAccept (s : State) (w : ResWin) : State := s.set w.valid 0

/-- Word 0 of a completed result: SEQ + 1, the tag, VALID, the status. -/
def State.resDone (s : State) (w : ResWin) (tag status : Nat) : State :=
  s.inc w.seq |>.set w.tag tag |>.set w.valid 1 |>.set w.status status

end Sys2Proof.Machine
end

