-- ==== Sys2Proof/Machine/Operands.lean ====
section
/-!
DEFINITION. Sys2Proof/Machine/Operands.lean: the layouts of what crosses a cable (slots, seals, capability and control
messages, alignment blocks), their check codes, and how a port reads and builds them.
-/
namespace Sys2Proof

-- Check codes --------------------------------------------------------------------------------------------------------

/-- k times one bit of a CRC that shifts left, width w, polynomial p. -/
def crcLeft (w p : Nat) : Nat → Nat → Nat
  | 0, c => c
  | k + 1, c => crcLeft w p k ((if c.testBit (w - 1) then (c * 2) ^^^ p else c * 2) % 2 ^ w)

/-- k times one bit of a reflected CRC with reflected polynomial p. -/
def crcRight (p : Nat) : Nat → Nat → Nat
  | 0, c => c
  | k + 1, c => crcRight p k (if c.testBit 0 then (c / 2) ^^^ p else c / 2)

/-- CRC-8 of an alignment block: x^8 + x^2 + x + 1, initial 0 (Table 03.3). -/
def crc8 (l : List Byte) : Nat := l.foldl (fun c b => crcLeft 8 0x07 8 (c ^^^ b.toNat)) 0

/-- HCHK: CRC-16, polynomial 0x1021, initial 0xFFFF, most significant bit first (R136). -/
def crc16 (l : List Byte) : Nat := l.foldl (fun c b => crcLeft 16 0x1021 8 (c ^^^ (b.toNat * 256))) 0xFFFF

/-- The flight CRC-32: 0x04C1_1DB7 reflected, initial and final 0xFFFF_FFFF (R93). -/
def crc32 (l : List Byte) : Nat :=
  (l.foldl (fun c b => crcRight 0xEDB88320 8 (c ^^^ b.toNat)) 0xFFFFFFFF) ^^^ 0xFFFFFFFF

/-- The flow seal's CRC-32C: 0x1EDC_6F41 reflected, initial and final 0xFFFF_FFFF (R207). -/
def crc32c (l : List Byte) : Nat :=
  (l.foldl (fun c b => crcRight 0x82F63B78 8 (c ^^^ b.toNat)) 0xFFFFFFFF) ^^^ 0xFFFFFFFF

-- Header slots (R135, R136) ------------------------------------------------------------------------------------------

/-- Bytes 0–29 of a header slot. -/
def Hdr.bytes30 (h : Hdr) : List Byte :=
  leBytes 4 (h.flow % 2048 + 2 ^ 11 * (h.cls % 4) + 2 ^ 13 * (h.len % 512) + 2 ^ 22 * b2n h.first + 2 ^ 23 * b2n h.last
    + 2 ^ 24 * b2n h.poison + 2 ^ 25 * b2n h.sealed + 2 ^ 26 * b2n h.held + 2 ^ 27 * (h.mx % 32))
  ++ leBytes 2 h.seq ++ leBytes 4 h.ttag ++ byteSlice h.info 0 20

/-- A header slot with its HCHK, 32 bytes. -/
def Hdr.slot (h : Hdr) : List Byte := h.bytes30 ++ leBytes 2 (crc16 h.bytes30)

/-- The header check of a slot is good (R136): HCHK matches, and LEN is at most 320 in a header slot. -/
def slotCheckGood (l : List Byte) : Bool :=
  let w := leNat (byteSlice l 0 4)
  crc16 (byteSlice l 0 30) == leNat (byteSlice l 30 2) && (bits w 0 11 == 0x7FF || decide (bits w 13 9 ≤ 320))

/-- The header that a slot's bytes hold. -/
def Hdr.ofSlot (l : List Byte) : Hdr :=
  let w := leNat (byteSlice l 0 4)
  { flow := bits w 0 11, cls := bits w 11 2, len := bits w 13 9, first := bit w 22, last := bit w 23,
    poison := bit w 24, sealed := bit w 25, held := bit w 26, mx := bits w 27 5, seq := leNat (byteSlice l 4 2),
    ttag := leNat (byteSlice l 6 4), info := byteSlice l 10 20 }

/-- The slots of a packet: its header slot and LEN data slots of 32 bytes. -/
def Pkt.slots (p : Pkt) : List (List Byte) :=
  p.hdr.slot :: (List.range p.hdr.len).map fun k => byteSlice p.data (32 * k) 32

/-- Slots a packet takes: 1 + LEN. -/
def Pkt.n (p : Pkt) : Nat := 1 + p.hdr.len

/-- The bytes the flow seal covers (R207): header bytes 0–29 with FLOW as zero, then the data slots but the seal. -/
def Pkt.sealCover (p : Pkt) : List Byte :=
  (Hdr.bytes30 { p.hdr with flow := 0 }) ++ byteSlice p.data 0 (32 * p.hdr.len - 4)

/-- The flow seal carried in the last four bytes of the last data slot (R206). -/
def Pkt.sealIn (p : Pkt) : Nat := leNat (byteSlice p.data (32 * p.hdr.len - 4) 4)

/-- The seal of a sealed packet is good (R208). -/
def Pkt.sealGood (p : Pkt) : Bool := p.hdr.len != 0 && crc32c p.sealCover == p.sealIn

/-- A packet with its payload sealed (R206, R207): LEN covers payload and seal. -/
def Pkt.addSeal (p : Pkt) : Pkt :=
  let len := ceilDiv (p.data.length + 4) 32
  let q : Pkt := ⟨{ p.hdr with sealed := true, len := len }, byteSlice p.data 0 (32 * len)⟩
  ⟨q.hdr, byteSlice q.data 0 (32 * len - 4) ++ leBytes 4 (crc32c q.sealCover)⟩

/-- A packet without its flow seal (R208). -/
def Pkt.bare (p : Pkt) : Pkt := if p.hdr.sealed then ⟨p.hdr, p.data.take (32 * p.hdr.len - 4)⟩ else p

/-- A flow-control packet of reliable bulk (R159), and on other flows one that every adapter ignores: MX 0x1F with LEN 0 has no other
use (R160). -/
def isFlowControl (p : Pkt) : Bool := p.hdr.mx == 0x1F && p.hdr.len == 0

-- TLPs as packets (R262) ---------------------------------------------------------------------------------------------

/-- Words of a TLP, from its header: Length (PCI Express; PRESUMED, log entry 87). -/
def tlpWords (t : Tlp) : Nat :=
  let n := byteAt t.header 2 % 4 * 256 + byteAt t.header 3
  if n = 0 then 1024 else n

/-- The TLP that a packet of a storage tunnel carries (R262, Table 05.12), its kind read from Fmt and Type (PCI Express; PRESUMED, log
entry 87). -/
def Pkt.toTlp (p : Pkt) : Tlp :=
  let h := byteSlice p.hdr.info 0 (if bit p.hdr.mx 0 then 16 else 12)
  let typ := byteAt h 0 % 32
  let x : Tlp :=
    { posted := (bit (byteAt h 0) 6 && typ == 0) || decide (16 ≤ typ ∧ typ < 24), completion := decide (typ = 10 ∨ typ = 11),
      cfg := none, addr := none, bus := none, pmeTurnOff := false, intx := false, hasPrefix := false, header := h,
      ecrc := if bit p.hdr.mx 1 then some (byteSlice p.hdr.info 16 4) else none, ep := bit p.hdr.mx 2, payload := [] }
  { x with payload := if bit (byteAt h 0) 6 then p.data.take (4 * tlpWords x) else [] }

/-- The TLP's bytes on a PCI Express link. -/
def Tlp.bytes (t : Tlp) : List Byte := t.header ++ t.payload ++ t.ecrc.getD []

/-- A Malformed TLP: one with a prefix, or with more than the 512 bytes of payload that the hub supports (Table 09.1). -/
def Tlp.malformed (t : Tlp) : Bool := t.hasPrefix || decide (512 < t.payload.length)

/-- An I/O request, by its Type (PCI Express; PRESUMED, log entry 87). -/
def Tlp.isIo (t : Tlp) : Bool := byteAt t.header 0 % 32 == 2

/-- The queue of a TLP at a HOST egress (R263): posted 0, non-posted 1, completion 2. -/
def Tlp.kind (t : Tlp) : Nat := if t.completion then 2 else if t.posted then 0 else 1

-- Link slots (Table 04.2) --------------------------------------------------------------------------------------------

/-- A link slot: message type (0: IDLE), segment, segments minus 1, 26 bytes of data. -/
def linkSlot (msg seg segs : Nat) (d : List Byte) : List Byte :=
  let b := leBytes 2 (0x7FF + 2 ^ 11 * (if msg = 0 then 0 else 1)) ++ [BitVec.ofNat 8 msg, BitVec.ofNat 8 (16 * seg + segs)]
    ++ byteSlice d 0 26
  b ++ leBytes 2 (crc16 b)

def idleSlot : List Byte := linkSlot 0 0 0 []

/-- The segments of a link message (R91). -/
def msgSlots (msg segs : Nat) (d : List Byte) : List (List Byte) :=
  (List.range segs).map fun k => linkSlot msg k (segs - 1) (byteSlice d (26 * k) 26)

-- Capability messages (Table 04.6) -----------------------------------------------------------------------------------

/-- The 52 bytes of a CAP message. -/
def Cap.bytes (c : Cap) : List Byte :=
  [BitVec.ofNat 8 (16 * c.majorMax + c.majorMin), BitVec.ofNat 8 c.minor,
   BitVec.ofNat 8 (b2n c.upFacing + 2 * b2n c.rooted + 4 * b2n c.encWanted + 8 * b2n c.encMandatory),
   BitVec.ofNat 8 (c.cls % 4 + 4 * b2n c.classKnown + 16 * c.rxMask), BitVec.ofNat 8 c.hubId, BitVec.ofNat 8 c.depth]
  ++ leBytes 2 c.features ++ byteSlice c.ident 0 16
  ++ (List.range 4).flatMap (fun k => leBytes 2 (c.initCred.getD k 0)) ++ leBytes 2 c.part ++ byteSlice [] 0 18

/-- The hub identity a CAP carries, as a number. -/
def Cap.identNat (c : Cap) : Nat := leNat (byteSlice c.ident 0 16)

-- Seals (Table 04.4) -------------------------------------------------------------------------------------------------

/-- Seal bytes 0–27; enc puts TXC_LO in place of POISON2 and POISON3 (R92). -/
def Seal.bytes28 (x : Seal) (encrypted : Bool) : List Byte :=
  leBytes 2 x.fseq ++ leBytes 2 x.ackSeq
  ++ [BitVec.ofNat 8 (128 * b2n x.nak + 32 * (x.rplId % 4) + 16 * b2n x.lock + 8 * b2n x.fillNext + 4 * b2n x.pwarn
        + 2 * b2n x.enc + b2n x.widthNext),
      BitVec.ofNat 8 (16 * x.resumeBack + x.rxMask % 16), BitVec.ofNat 8 (32 * x.lstate + x.resumeSlot % 32),
      BitVec.ofNat 8 x.lstateAt]
  ++ (List.range 4).flatMap (fun k => leBytes 2 (x.cred.getD k 0)) ++ leBytes 2 x.clearLpn
  ++ [BitVec.ofNat 8 (min x.poison.length (if encrypted then 2 else 4)), BitVec.ofNat 8 (b2n x.empty)]
  ++ (if encrypted then (List.range 2).flatMap (fun k => leBytes 2 (x.poison.getD k 0)) ++ leBytes 4 x.txcLo
      else (List.range 4).flatMap (fun k => leBytes 2 (x.poison.getD k 0)))

/-- The CRC-32 of a flight: its payload slots, a seal-fill slot left out, then seal bytes 0–27 (R93). -/
def flightCrc (slots : List (List Byte)) (fill : Bool) (b28 : List Byte) : Nat :=
  crc32 ((if fill then slots.drop 1 else slots).flatten ++ b28)

-- Alignment blocks (Table 03.3) --------------------------------------------------------------------------------------

/-- CHECK of an alignment block is good: CRC-8 over bytes 0–6 (Table 03.3). -/
def alignGood (b : AlignBlock) : Bool := crc8 (byteSlice b 0 7) == byteAt b 7

/-- An alignment block as sent. -/
def alignBlock (typ lane cls state mask preset seq : Nat) : AlignBlock :=
  let b := [BitVec.ofNat 8 typ, BitVec.ofNat 8 (64 * lane + 16 * cls), BitVec.ofNat 8 state,
    BitVec.ofNat 8 (16 * mask + preset % 16)] ++ leBytes 2 seq ++ [0]
  b ++ [BitVec.ofNat 8 (crc8 b)]

-- Control packets (Table 05.14) --------------------------------------------------------------------------------------

/-- The RESPONSE to a control request (R162, R238): same TAG, with STATUS and data; HOPS starts afresh at 33. -/
def CtlPkt.answer (q : CtlPkt) (me status : Nat) (d : List Byte) : CtlPkt :=
  { op := 2, dst := q.src, src := me, tag := q.tag, offset := q.offset, bytes := q.bytes, status := status, hops := 33,
    viaId := 0, viaPort := 0, via := false, opdata := q.opdata, data := d }

/-- An ASSIGN_ID (Table 01.8). -/
def assignPkt (dst viaId viaPort : Nat) (via : Bool) (id depth parent port : Nat) (reassign : Bool) : CtlPkt :=
  { op := 4, dst := dst, src := 0, tag := 0, offset := 0, bytes := 0, status := 0, hops := 33, viaId := viaId,
    viaPort := viaPort, via := via,
    opdata := [BitVec.ofNat 8 id, BitVec.ofNat 8 depth, BitVec.ofNat 8 parent,
      BitVec.ofNat 8 (port % 4 + 128 * b2n reassign), 0, 0], data := [] }

/-- The META bytes of a control packet (Table 05.14). -/
def CtlPkt.metaBytes (p : CtlPkt) : List Byte :=
  [BitVec.ofNat 8 p.dst, BitVec.ofNat 8 p.src] ++ leBytes 2 p.tag ++ leBytes 4 (p.offset % 2 ^ 26) ++ leBytes 2 p.bytes
  ++ [BitVec.ofNat 8 p.status, BitVec.ofNat 8 p.hops, BitVec.ofNat 8 p.viaId,
      BitVec.ofNat 8 (p.viaPort % 4 + 128 * b2n p.via)] ++ byteSlice p.opdata 0 6

/-- The packet of a control operation: label 0x000, class CTL, MX its operation (R140, R162). One passed on keeps its header slot but for
HOPS. -/
def CtlPkt.toPkt (p : CtlPkt) (now : Nat) : Pkt :=
  let len := ceilDiv p.data.length 32
  let fresh : Hdr := ⟨0, 0, len, true, true, p.poison, false, false, p.op, 0, now, p.metaBytes⟩
  ⟨match p.hdr with
    | some h => { h with flow := 0, poison := p.poison, info := p.metaBytes }
    | none => fresh, byteSlice p.data 0 (32 * len)⟩

/-- The control operation that a packet on label 0x000 carries. -/
def Pkt.toCtl (p : Pkt) : CtlPkt :=
  let m := p.hdr.info
  { op := p.hdr.mx, dst := byteAt m 0, src := byteAt m 1, tag := leNat (byteSlice m 2 2),
    offset := leNat (byteSlice m 4 4) % 2 ^ 26, bytes := leNat (byteSlice m 8 2), status := byteAt m 10,
    hops := byteAt m 11, viaId := byteAt m 12, viaPort := byteAt m 13 % 4, via := bit (byteAt m 13) 7,
    opdata := byteSlice m 14 6, data := p.data, poison := p.hdr.poison,
    hdr := some p.hdr }

/-- A time message (Table 05.15): label 0x001, class CTL, LEN 0. -/
def timePkt (mx now : Nat) (info : List Byte) : Pkt :=
  { hdr := { flow := 1, cls := 0, len := 0, first := true, last := true, poison := false, sealed := false,
             held := false, mx := mx, seq := 0, ttag := now, info := byteSlice info 0 20 },
    data := [] }

/-- A stamp as sub-ticks. -/
def Stamp.sub (t : Stamp) : Int := (t.ticks * 256 + t.phase : Nat)

/-- A stamp as its 9 bytes (Table 05.15). -/
def Stamp.bytes (t : Stamp) : List Byte := leBytes 8 t.ticks ++ leBytes 1 t.phase

/-- A STEP_NOTICE's META bytes (Table 05.15). -/
def StepNote.bytes (n : StepNote) : List Byte :=
  leBytes 2 n.id ++ leBytes 8 n.apply ++ leBytes 8 (ofInt 64 n.d) ++ leBytes 1 (b2n n.freeAfter)

/-- An EVENT packet (R242). -/
def eventPkt (me num count first : Nat) : CtlPkt :=
  { op := 3, dst := 0, src := me, tag := 0, offset := 0, bytes := 0, status := 0, hops := 33, viaId := 0, viaPort := 0,
    via := false, opdata := [BitVec.ofNat 8 num, BitVec.ofNat 8 count] ++ leBytes 4 first, data := [] }

/-- A control READ or WRITE request. -/
def reqPkt (op dst me offset bytes : Nat) (d : List Byte) : CtlPkt :=
  { op := op, dst := dst, src := me, tag := 0, offset := offset, bytes := bytes, status := 0, hops := 33, viaId := 0,
    viaPort := 0, via := false, opdata := [], data := d }

end Sys2Proof

namespace Sys2Proof.Machine

/-- The port a control packet for hub id leaves by (R22): the chain route entry; UP in a spoke whose entry reads NONE;
none in a Root whose entry reads NONE, and for the hub itself. -/
def State.routeTo (s : State) (id : Nat) : Option Nat :=
  let r := s.get (ROUTE.ROUTE id)
  if 4 ≤ r then some (r - 4)
  else if r = 1 then none
  else if s.isRoot then none else some 0

/-- The oldest packets on the fixed labels that wait in LOCAL's CTL ingress partition enter the Last as the CTL egress of their ports has
room; each port's in order (R151, R162). -/
def State.admitFixed (s : State) : State :=
  let go (t : FlowSt) (p : FlowPkt) : FlowSt :=
    let full : Bool := decide (32 * t.parts.getD (8 * p.outAtt + 4) 0
      < (((t.admitted.filter fun q => q.outAtt == p.outAtt && q.pkt.hdr.cls == 0).map fun q => q.pkt.n).sum + p.pkt.n))
    if full || (t.waiting.takeWhile fun q => q != p).any (fun q => q.ctx == 2048 && q.outAtt == p.outAtt) then t
    else { t with waiting := t.waiting.erase p, admitted := t.admitted ++ [p] }
  { s with flows := (s.flows.waiting.filter fun p => p.ctx == 2048).foldl go s.flows }

/-- A packet on a fixed label waits for its Welt port (R140, R162): it enters the port's CTL egress, or waits for room there (R151). -/
def State.queueFixed (s : State) (n : Nat) (p : Pkt) : State :=
  let w : FlowPkt := ⟨p, 2048, 7, s.flows.number % 65536, true, false, n, p.hdr.flow, false⟩
  State.admitFixed
    { s with flows := { s.flows with waiting := s.flows.waiting ++ [w], number := s.flows.number + 1 } }

/-- A control packet leaves by Welt port n: only an admitted link carries packets (R115). -/
def State.ctlOut (s : State) (n : Nat) (p : CtlPkt) : State :=
  if s.flag (WLT_LINK_STAT.ADMITTED n) then (s.emit (.ctl n p)).queueFixed n (p.toPkt s.now32) else s

/-- A time message leaves by Welt port n: a DELAY_REQ or DELAY_RESP is sent when its header slot leaves, with its stamp of
departure (R163). Time tunnels do not cross a 1.x link: there the two are coarse messages outside any tunnel, and no
STEP_NOTICE crosses (R24, log entry 75). -/
def State.timeOut (s : State) (n mx : Nat) (info : List Byte) : State :=
  if !s.flag (WLT_LINK_STAT.ADMITTED n) then s
  else if s.flag (WLT_PCS_STAT.COMPAT n) then s.when (mx != 2) fun t => t.emit (.time n mx info)
  else (s.when (mx == 2) fun t => t.emit (.time n mx info)).queueFixed n (timePkt mx s.now32 info)

/-- A control packet goes out towards its target: on VIA_PORT when this hub is VIA_ID, else by the route table (R162). -/
def State.sendCtl (s : State) (p : CtlPkt) : State :=
  let way := if p.via then (if p.viaId = s.hubId then some p.viaPort else s.routeTo p.viaId) else s.routeTo p.dst
  match way with
  | some n => s.ctlOut n p
  | none => s

/-- The TAG of the next request (R238): the next in turn that no request without an answer and none answered less than 2 s ago has. -/
def State.freshTag (s : State) : Nat :=
  let taken (t : Nat) : Bool := (s.ctl.reqs.find? t).isSome || s.ctl.spent.any fun x => x.1 == t && decide (s.uptime < x.2)
  (((List.range (s.ctl.reqs.length + s.ctl.spent.length + 1)).map fun i => (s.ctl.nextTag + i) % 65536).find? fun t => !taken t).getD
    s.ctl.nextTag

/-- A request as this hub's control endpoint sends it: SRC_HUB, TAG and HOPS filled, a header slot of its own. -/
def State.asRequest (s : State) (p : CtlPkt) : CtlPkt :=
  { p with src := s.hubId, tag := s.freshTag, hops := 33, hdr := none }

/-- A request that has been sent is kept for re-sending (R238). -/
def State.keepRequest (s : State) (p : CtlPkt) (purpose : Nat) : State :=
  { s with ctl := { s.ctl with reqs := s.ctl.reqs.put p.tag ⟨p, 0, purpose⟩, nextTag := (p.tag + 1) % 65536 } }

/-- A request of this hub's own control endpoint goes out (R238, R508). -/
def State.request (s : State) (p : CtlPkt) (purpose : Nat) : State :=
  (s.sendCtl (s.asRequest p)).keepRequest (s.asRequest p) purpose

/-- The EVENT packet of an event goes to hub 0 (R242): raises and first time since the last one, which start afresh. One for which no
admitted link leads on is lost, its raises with it (DESIGN CHOICE, log entry 104). -/
def State.sendEvent (s : State) (e : Ev) : State :=
  let l := s.ctl.evLog.getD e.num ⟨0, 0⟩
  let s1 := s.sendCtl (eventPkt s.hubId e.num l.count l.first)
  { s1 with ctl := { s1.ctl with evLog := s1.ctl.evLog.put e.num ⟨0, 0⟩ } }

/-- A port's LINK_UP or LINK_DOWN is reported (R17, R243): to the Root's own queue, by an EVENT packet, or held while the
spoke has no id, where a LINK_DOWN cancels a LINK_UP still held; port 0's are held as the others are (DEDUCED, log entry 104). -/
def State.report (s : State) (n : Nat) (up : Bool) : State :=
  if s.isRoot then { s with chain := { s.chain with reports := s.chain.reports ++ [⟨0, n, up⟩] } }
  else if s.hubId ≠ 255 then s.sendEvent (if up then EV.linkUp n else EV.linkDown n)
  else
    let h := s.chain.heldReports
    if !up && h.contains ⟨255, n, true⟩ then
      { s with chain := { s.chain with heldReports := h.erase ⟨255, n, true⟩ } }
    else { s with chain := { s.chain with heldReports := h ++ [⟨255, n, up⟩] } }

end Sys2Proof.Machine
end

