-- ==== Sys2Proof/Machine/Coding.lean ====
section
/-!
DEFINITION. Sys2Proof/Machine/Coding.lean: the lane coding that crosses the cable (chapter 03): 66-bit blocks, the map of a slot's
bytes to lanes, the scrambler, the PRBS generators, and the 8b/10b code groups of the compatibility mode.
-/
namespace Sys2Proof

-- Blocks and slots (R58, R60, R61) -----------------------------------------------------------------------------------

/-- The sync header of a data block: 0 is sent first, then 1 (R58). -/
def hdrData : Nat := 2
/-- The sync header of a control block: 1, then 0. -/
def hdrControl : Nat := 1
/-- A header of a known kind (R58). -/
def Block.valid (b : Block) : Bool := b.header == hdrData || b.header == hdrControl

/-- A block with every bit inverted. -/
def Block.inverted (b : Block) : Block := ⟨3 - b.header, 2 ^ 64 - 1 - b.payload⟩

/-- The block that carries byte group g of a slot, 8 g to 8 g + 7, least significant bit first (R58). -/
def groupBlock (control : Bool) (slot : List Byte) (g : Nat) : Block :=
  ⟨if control then hdrControl else hdrData, leNat (byteSlice slot (8 * g) 8)⟩

/-- The blocks of one slot at width w, 4, 2 or 1, lane by lane from the lowest active lane (R58, R61): group g goes to active
lane g mod w in block time g / w. -/
def slotBlocks (w : Nat) (control : Bool) (slot : List Byte) : List (List Block) :=
  (List.range w).map fun k => (List.range (4 / w)).map fun t => groupBlock control slot (t * w + k)

/-- The 32 bytes of a slot from its blocks at width w (R58, R61). -/
def blocksSlot (w : Nat) (l : List (List Block)) : List Byte :=
  (List.range 4).flatMap fun g => leBytes 8 (((l.getD (g % w) []).getD (g / w) ⟨0, 0⟩).payload)

/-- The blocks of a flight on each active lane: 31 payload slots with data headers, the seal with control headers (R60). -/
def flightBlocks (w : Nat) (slots : List (List Byte)) (last : List Byte) : List (List Block) :=
  let all := slots.map (slotBlocks w false) ++ [slotBlocks w true last]
  (List.range w).map fun k => all.flatMap fun b => b.getD k []

-- Scrambler (R59) ----------------------------------------------------------------------------------------------------

/-- Thirty-two bits through a self-synchronous scrambler x^58 + x^39 + 1: state s holds the last 58 scrambled bits, bit 0 the
previous one; word x has its first bit lowest. The bits 39 and 58 back of each of the 32 are all in s. -/
def scramble32 (s x : Nat) : Nat × Nat :=
  let tap (back : Nat) : Nat := (List.range 32).foldl (fun a j => a + (if s.testBit (back - 1 - j) then 2 ^ j else 0)) 0
  let out := (x % 2 ^ 32) ^^^ tap 39 ^^^ tap 58
  let rev := (List.range 32).foldl (fun a j => a + (if out.testBit j then 2 ^ (31 - j) else 0)) 0
  ((s * 2 ^ 32 + rev) % 2 ^ 58, out)

/-- One scrambled block; the sync header is not scrambled. -/
def scrambleBlock (s : Nat) (b : Block) : Nat × Block :=
  let a := scramble32 s (b.payload % 2 ^ 32)
  let c := scramble32 a.1 (b.payload / 2 ^ 32)
  (c.1, ⟨b.header, a.2 + c.2 * 2 ^ 32⟩)

/-- A run of blocks through a lane's scrambler: its state after, and the blocks sent. -/
def scrambleRun : Nat → List Block → Nat × List Block
  | s, [] => (s, [])
  | s, b :: t =>
    let x := scrambleBlock s b
    let r := scrambleRun x.1 t
    (r.1, x.2 :: r.2)

/-- One bit through the descrambler (R59): in = rx ^ r[38] ^ r[57]. -/
def descrambleBit (r : Nat) (rx : Bool) : Nat × Bool :=
  ((2 * r + b2n rx) % 2 ^ 58, rx ^^ r.testBit 38 ^^ r.testBit 57)

/-- k bits of a word through the descrambler, first bit lowest, from bit i on. -/
def descramble : Nat → Nat → Nat → Nat → Nat × Nat
  | 0, _, r, _ => (r, 0)
  | k + 1, i, r, x =>
    let a := descrambleBit r (x.testBit i)
    let b := descramble k (i + 1) a.1 x
    (b.1, b2n a.2 * 2 ^ i + b.2)

/-- A received block in the clear. -/
def descrambleBlock (r : Nat) (b : Block) : Nat × Block :=
  let a := descramble 64 0 r b.payload
  (a.1, ⟨b.header, a.2⟩)

-- Patterns (R65, R84, Table 03.10) -----------------------------------------------------------------------------------

/-- Degree and second tap of a PRBS pattern code: x^n + x^m + 1. -/
def prbsTaps : Nat → Nat × Nat
  | 0 => (7, 6)
  | 1 => (9, 5)
  | 2 => (15, 14)
  | 3 => (23, 18)
  | _ => (31, 28)

/-- k bits of pattern code c from a generator state that holds the last bits, bit 0 the newest; the bits, first lowest. -/
def prbsBits (c : Nat) : Nat → Nat → Nat × Nat
  | 0, s => (s, 0)
  | k + 1, s =>
    let t := prbsTaps c
    let b := s.testBit (t.1 - 1) ^^ s.testBit (t.2 - 1)
    let r := prbsBits c k ((2 * s + b2n b) % 2 ^ t.1)
    (r.1, b2n b + 2 * r.2)

/-- The first k bits that a lane's generator sends for pattern code c (Table 03.10), first lowest: PRBS from the lane's seed, the
clock 0b10 repeated, or the square of 32 ones and 32 zeros. Code 7, the training pattern, is PRBS31 up to its first alignment block
(R65). -/
def patternBits (c seed k : Nat) : Nat :=
  if c = 5 then (List.range k).foldl (fun a j => a + if j % 2 = 0 then 2 ^ j else 0) 0
  else if c = 6 then (List.range k).foldl (fun a j => a + if j % 64 < 32 then 2 ^ j else 0) 0
  else (prbsBits c k seed).2

/-- The seed of lane k's PRBS31 generator: each lane has another (R65, log entry 77). -/
def prbsSeed (k : Nat) : Nat := k + 1

-- Block lock (R71) ---------------------------------------------------------------------------------------------------

/-- 64 consecutive valid headers declare block lock; the newest is first. -/
def declaresLock (l : List Block) : Bool := decide (64 ≤ l.length) && (l.take 64).all Block.valid
/-- 16 invalid headers of the last 64 lose it; the newest is first, true an invalid one. -/
def losesLock (l : List Bool) : Bool := decide (16 ≤ (l.take 64).countP id)

/-- The headers of one active lane over k slots and the seal slot after them, the oldest first, in flights already framed: of a wrong
kind are data headers where a seal is due and control headers elsewhere (R60). Each slot takes b blocks of the lane. -/
def wrongHeaders (k b : Nat) : List Bool :=
  (List.range k).flatMap (fun i => List.replicate b (i % 32 == 31)) ++ List.replicate b (k % 32 != 31)

-- 8b/10b (R73 to R75, log entry 78) ----------------------------------------------------------------------------------

/-- The six-bit sub-block of D.x at negative running disparity, first bit highest. -/
def sixTable : List Nat :=
  [0b100111, 0b011101, 0b101101, 0b110001, 0b110101, 0b101001, 0b011001, 0b111000,
   0b111001, 0b100101, 0b010101, 0b110100, 0b001101, 0b101100, 0b011100, 0b010111,
   0b011011, 0b100011, 0b010011, 0b110010, 0b001011, 0b101010, 0b011010, 0b111010,
   0b110011, 0b100110, 0b010110, 0b110110, 0b001110, 0b101110, 0b011110, 0b101011]

/-- The four-bit sub-block of D.x.y at negative running disparity. -/
def fourTable : List Nat := [0b1011, 0b1001, 0b0101, 0b1100, 0b1101, 0b1010, 0b0110, 0b1110]

/-- The four-bit sub-block of K28.y after its six bits at negative running disparity. -/
def fourTableK : List Nat := [0b0100, 0b1001, 0b0101, 0b0011, 0b0010, 0b1010, 0b0110, 0b1000]

/-- A sub-block of w bits at running disparity rd (true: positive), complemented where its form depends on it. -/
def subBlock (w c : Nat) (depends rd : Bool) : Nat := if depends && rd then 2 ^ w - 1 - c else c

/-- Running disparity after a sub-block of w bits. -/
def nextRd (w c : Nat) (rd : Bool) : Bool := if 2 * popCount w c = w then rd else !rd

/-- The ten bits of a data byte, abcdei fghj with a highest, and the running disparity after it. -/
def codeData (b : Nat) (rd : Bool) : Nat × Bool :=
  let x := b % 32
  let y := b / 32 % 8
  let s0 := sixTable.getD x 0
  let s := subBlock 6 s0 (2 * popCount 6 s0 != 6 || x == 7) rd
  let r1 := nextRd 6 s rd
  let alt := y == 7 && (if r1 then [11, 13, 14].contains x else [17, 18, 20].contains x)
  let f0 := if alt then 0b0111 else fourTable.getD y 0
  let f := subBlock 4 f0 (2 * popCount 4 f0 != 4 || y == 3) r1
  (s * 16 + f, nextRd 4 f r1)

/-- The ten bits of a special code: K28.y, and K27.7, K29.7, K30.7. -/
def codeSpecial (x y : Nat) (rd : Bool) : Nat × Bool :=
  let six := if x = 28 then 0b001111 else sixTable.getD x 0
  let four := if x = 28 then fourTableK.getD y 0 else 0b1000
  let c := six * 16 + four
  let out := if rd then 1023 - c else c
  (out, nextRd 10 out rd)

/-- A symbol before coding: a data byte, or the special code Kx.y. -/
inductive Symbol where
  | data (b : Nat)
  | special (x y : Nat)
deriving DecidableEq, Repr

def Symbol.code (rd : Bool) : Symbol → Nat × Bool
  | .data b => codeData b rd
  | .special x y => codeSpecial x y rd

/-- The code groups of a run of symbols from a running disparity, and the disparity after them. -/
def codeRun : Bool → List Symbol → List Nat × Bool
  | rd, [] => ([], rd)
  | rd, x :: t =>
    let c := x.code rd
    let r := codeRun c.2 t
    (c.1 :: r.1, r.2)

/-- The compatibility training sequence of lane k (R74): K28.5, the lane number as Dk.0, D21.5 twice. -/
def trainSequence (k : Nat) : List Symbol := [.special 28 5, .data k, .data (21 + 32 * 5), .data (21 + 32 * 5)]

/-- A skip set (R75): K28.5 and three K28.0. -/
def skipSet : List Symbol := [.special 28 5, .special 28 0, .special 28 0, .special 28 0]

/-- A skip set after the receiver's elastic buffer (R75): one K28.0 dropped or added, or none. -/
def elasticSkip (drop add : Bool) : List Symbol :=
  .special 28 5 :: List.replicate (3 - b2n drop + b2n add) (.special 28 0)

/-- A frame between K27.7 and K29.7, or K30.7 when it is bad (R133). -/
def Frame1x.symbols (f : Frame1x) : List Symbol :=
  .special 27 7 :: ((leBytes 4 f.word ++ f.body ++ leBytes 4 f.crc).map fun b => .data b.toNat)
    ++ [.special (if f.badEnd then 30 else 29) 7]

/-- Symbols striped across w active lanes in turn, from lane 0 on; K28.3 fills up the last turn (R74, chapter 04). -/
def stripe (w : Nat) (l : List Symbol) : List (List Symbol) :=
  (List.range w).map fun k => (List.range (ceilDiv l.length w)).map fun t => l.getD (t * w + k) (.special 28 3)

/-- A frame as a sender builds it (Table 04.10): KIND, PSEQ, the low half of its word, its body, and whether it is known bad. -/
def Frame1x.build (kind pseq low : Nat) (body : List Byte) (bad : Bool := false) : Frame1x :=
  let w := kind * 2 ^ 28 + pseq % 4096 * 2 ^ 16 + low % 65536
  ⟨w, body, crc32 (leBytes 4 w ++ body), bad⟩

/-- A lane has symbol lock after four commas at one alignment, lane lock after eight valid training sequences, and loses lock after 4
invalid code groups in any 16 (R74); the newest is first. -/
def laneLocks (commas sequences : List Bool) : Bool :=
  decide (4 ≤ commas.length) && (commas.take 4).all id && decide (8 ≤ sequences.length) && (sequences.take 8).all id
def laneLockLost (groups : List Bool) : Bool := decide (4 ≤ (groups.take 16).countP fun g => !g)

end Sys2Proof
end

