-- ==== Sys2Proof/Machine/Flags.lean ====
section
/-!
DEFINITION. Sys2Proof/Machine/Flags.lean: what is computed from the state and never stored: INT_N, the rooted condition, the
FREE condition, width codes, available credit, counter values and occupancies.
-/
namespace Sys2Proof.Machine

/-- INT_N is driven low (Table 08.7): INT_EN is set and some event with EN and PIN set has its RAW bit set; those of a page whose domain
is off read 0 (R234). -/
def State.intLow (s : State) : Bool :=
  s.flag EVC_CTRL.INT_EN && evPages.any fun (p, n) =>
    s.pageOn p && (List.range n).any fun b => bit (s.get (EVT_RAW p)) b && bit (s.get (EVT_EN p)) b &&
      s.flag (EVC_MAP.PIN (evFirst p + b))

/-- The lineage of a spoke comes from its own REFIN (R24): its upstream link runs in compatibility mode. -/
def State.refinLineage (s : State) : Bool := !s.isRoot && s.flag (WLT_PCS_STAT.COMPAT 0)

/-- The hub is rooted (R14): a spoke learns from its partner's CAP whether the partner is (Table 04.6). -/
def State.rooted (s : State) : Bool :=
  s.isRoot
    || (s.flag CLK_STAT.LOCKED && s.clk.pll == .upstream && (s.link 0).capRooted)
    || (s.hubId != 255 && (s.flag CLK_STAT.HOLDOVER || s.refinLineage))

/-- A port faces upstream (R11). -/
def State.facesUp (s : State) (n : Nat) : Bool := !s.isRoot && n == 0

/-- Lanes used for a ready mask (R69): 4, 2, 1 or none. -/
def maskWidth (m : Nat) : Nat :=
  match popCount 4 m with
  | 0 => 0
  | 1 => 1
  | 4 => 4
  | _ => 2

/-- WIDTH code of a lane count (Table of WLTn_LINK_STAT). -/
def widthCode (w : Nat) : Nat := if w = 4 then 3 else if w = 2 then 2 else if w = 1 then 1 else 0

/-- The lanes of a width: code to lanes. -/
def codeLanes (c : Nat) : Nat := if c = 3 then 4 else if c = 2 then 2 else if c = 1 then 1 else 0

/-- The active set of a mask (R61): its lowest-numbered lanes. -/
def activeSet (m : Nat) : Nat :=
  let w := maskWidth m
  ((List.range 4).foldl (fun (a : Nat × Nat) k =>
    if bit m k && decide (a.2 < w) then (setBit a.1 k, a.2 + 1) else a) (0, 0)).1

/-- Available credit of a class: CRED − sent, modulo 65,536 (R103). -/
def LinkPort.avail (l : LinkPort) (c : Nat) : Nat :=
  (l.credTx.getD c 0 + 65536 - l.sent.getD c 0 % 65536) % 65536

/-- The CRED value sent for a class: initial credit plus slots freed since admission, modulo 65,536 (R103). -/
def LinkPort.credOut (l : LinkPort) (c : Nat) : Nat := (l.initCred.getD c 0 + l.freed.getD c 0) % 65536

/-- a lies before b, modulo 2^w, within a half window. -/
def before (w a b : Nat) : Bool :=
  let d := (b + 2 ^ w - a % 2 ^ w) % 2 ^ w
  decide (0 < d ∧ d < 2 ^ (w - 1))

/-- Ingress-partition slots of the packets waiting from attachment a in class c. -/
def State.ingressFill (s : State) (a c : Nat) : Nat :=
  ((s.flows.waiting.filter fun p => p.inAtt == a && p.pkt.hdr.cls == c).map fun p => p.pkt.n).sum

/-- Slots of the operations that wait at the display heads: they stay in the DISP egress partition (R286). -/
def State.displayFill (s : State) (c : Nat) : Nat :=
  (((s.disp.heads.toList.flatMap fun d => d.waits).filter fun o => o.pkt.hdr.cls == c).map fun o => o.pkt.n).sum

/-- Egress-partition slots of the packets admitted towards attachment a in class c. -/
def State.egressFill (s : State) (a c : Nat) : Nat :=
  (((s.flows.admitted ++ s.flows.held ++ s.flows.netq).filter fun p => p.outAtt == a && p.pkt.hdr.cls == c).map fun p => p.pkt.n).sum
    + (if a = 6 then s.displayFill c else 0)
    + if a = 4 ∧ c = 2 then (s.host.queue.map fun x => 1 + ceilDiv x.2.payload.length 32).sum else 0

/-- The applied partition of attachment a, direction d (0 ingress, 1 egress), class c, in slots (R150). -/
def State.partSlots (s : State) (a d c : Nat) : Nat := 32 * s.flows.parts.getD (8 * a + 4 * d + c) 0

/-- Slots of the packets that attachment a keeps for retransmission: they stay in its RLB ingress partition (R158). -/
def State.keptAt (s : State) (a : Nat) : Nat :=
  ((s.flows.rlbIn.filter fun (x : Nat × RlbIn) => s.get (CTX0.IN_ATT x.1) == a).map fun x => (x.2.kept.map Pkt.n).sum).sum

/-- Slots of class c that attachment a's ingress partition holds. -/
def State.inHeld (s : State) (a c : Nat) : Nat := if c = 2 then max (s.keptAt a) (s.ingressFill a c) else s.ingressFill a c

/-- Under the Yield plan the LOCAL ingress and egress partitions of a class form one pool (R326). -/
def State.pooled (s : State) (a : Nat) : Bool := a == 7 && s.get LST_BUF_PLAN.PLAN == 0

/-- The ingress partition of attachment a and class c, or the pool, has room for n more slots (R326). -/
def State.inRoom (s : State) (a c n : Nat) : Bool :=
  if s.pooled a then decide (s.egressFill a c + s.inHeld a c + n ≤ s.partSlots a 0 c + s.partSlots a 1 c)
  else decide (s.inHeld a c + n ≤ s.partSlots a 0 c)

/-- The egress partition of attachment a and class c, or the pool, has room for n more slots; own are slots that leave the pool's ingress
side with them. -/
def State.outRoom (s : State) (a c n own : Nat) : Bool :=
  if s.pooled a then decide (s.egressFill a c + s.inHeld a c + n ≤ s.partSlots a 0 c + s.partSlots a 1 c + own)
  else decide (s.egressFill a c + n ≤ s.partSlots a 1 c)

/-- The flows homed on engine e: contexts that are ACTIVE, DRAINING or HELD with HOME e. -/
def State.ctxLive (s : State) (i : Nat) : Bool :=
  s.flag (CTX5.ACTIVE i) || s.flag (CTX5.DRAINING i) || s.flag (CTX5.HELD i)

end Sys2Proof.Machine
end

