-- ==== Sys2Proof/Machine/LaneOut.lean ====
section
/-!
DEFINITION. Sys2Proof/Machine/LaneOut.lean: what leaves the lanes of a Welt port: scrambled blocks, alignment blocks, code groups,
1.x frames (chapters 03 and 04).
-/
namespace Sys2Proof.Machine

def laneList : List Nat := [0, 1, 2, 3]

/-- The lanes of a mask, lowest first. -/
def lanesIn (m : Nat) : List Nat := laneList.filter fun k => bit m k

/-- Blocks leave logical lane k (R58, R59): scrambled, and inverted with TX_INV. -/
def State.sendBlocks (s : State) (n : Port) (k : Nat) (l : List Block) : State :=
  let x := scrambleRun ((s.lane n).scr.getD k 0) l
  (s.modLane n fun y => { y with scr := y.scr.set k x.1 }).emit
    (.blocks n k (if s.flag (WLT_LANE_CTRL.TX_INV n k) then x.2.map Block.inverted else x.2))

/-- Symbols leave compatibility lane k (R73): coded with its running disparity. -/
def State.sendSymbols (s : State) (n : Port) (k : Nat) (l : List Symbol) : State :=
  let x := codeRun (bit (s.lane n).rd k) l
  (s.modLane n fun y => { y with rd := if x.2 then setBit y.rd k else clrBit y.rd k }).emit (.symbols n k x.1)

/-- Symbols leave all active lanes of a compatibility port, striped across them in turn (R74). -/
def State.sendStriped (s : State) (n : Port) (l : List Symbol) : State :=
  let a := lanesIn (s.get (WLT_PCS_STAT.TX_MASK n))
  (a.zip (stripe a.length l)).foldl (fun t x => t.sendSymbols n x.1 x.2) s

/-- A 1.x frame leaves port n (R133). -/
def State.sendFrame (s : State) (n : Port) (f : Frame1x) : State := (s.emit (.frame n f)).sendStriped n f.symbols

/-- The alignment block of lane k with TYPE typ and STATE st: RX_MASK and PRESET_SEQ as they stand (R65, R69, Table 03.3). -/
def State.alignOf (s : State) (n : Port) (typ st k : Nat) : AlignBlock :=
  alignBlock typ k (s.get (WLT_PCS_STAT.CLASS_USED n)) st (s.lane n).ready (s.lane n).presetSeq (s.lane n).alignTx

/-- An alignment or WAKE block leaves every lane of a mask as a control block; ALIGN_SEQ counts it (R65, Table 03.3). -/
def State.sendAlignOn (s : State) (n : Port) (mask typ st : Nat) : State :=
  ((lanesIn mask).foldl (fun t k => t.sendBlocks n k [⟨hdrControl, leNat (s.alignOf n typ st k)⟩]) s).modLane n fun l =>
    { l with alignTx := (l.alignTx + 1) % 65536, since := 0 }

/-- STATE st goes out on every enabled lane (R69): the command that changes it stands at the alignment block that carries it (log entry
98). -/
def State.sendAlign (s : State) (n : Port) (st : Nat) : State := s.sendAlignOn n (s.lane n).enabled 0xA5 st

/-- A data block of the training pattern leaves every lane of a mask: the next word of its PRBS31 generator (R65). -/
def State.sendPattern (s : State) (n : Port) (mask : Nat) : State :=
  (lanesIn mask).foldl (fun t k =>
    let x := prbsBits 4 64 ((t.lane n).gen.getD k 1)
    (t.modLane n fun l => { l with gen := l.gen.set k x.1 }).sendBlocks n k [⟨hdrData, x.2⟩])
    (s.modLane n fun l => { l with since := min 255 (l.since + 1) })

/-- One block time of the training pattern on the lanes of a mask (R65): every 256th block is an alignment block, on which the
generators do not advance. -/
def State.trainStep (s : State) (n : Port) (mask : Nat) : State :=
  if (s.lane n).since = 255 then s.sendAlignOn n mask 0xA5 (s.lane n).sentState else s.sendPattern n mask

/-- The training pattern begins on the lanes of a mask (R64): its first block leaves; the others follow at the ticks (log entry 98). -/
def State.startPattern (s : State) (n : Port) (mask : Nat) : State :=
  (s.modLane n fun l => { l with since := 0 }).sendPattern n mask

/-- Enabled native lanes outside the transmit active set (R120). -/
def State.outside (s : State) (n : Port) : Nat :=
  (lanesIn (s.lane n).enabled).foldl (fun m k => if bit (s.get (WLT_PCS_STAT.TX_MASK n)) k then m else setBit m k) 0

/-- During a flight of k block times the lanes outside the active set carry the training pattern (R120). Its alignment block stands in
the block times of the active lanes' seal, in the last of them (DESIGN CHOICE, log entry 108), once 255 blocks have passed. -/
def State.trainOutside (s : State) (n : Port) (k : Nat) : State :=
  let m := s.outside n
  if m = 0 then s else
  let s1 := (List.range (k - 1)).foldl (fun t _ => t.sendPattern n m) s
  s1.trainStep n m

/-- Slots freed from a Welt ingress partition give credit (R103); on a 1.x link a CREDIT frame carries it (Table 04.10), one at each freeing
(DESIGN CHOICE, log entry 111). -/
def State.freeCredit (s : State) (n : Port) (c k : Nat) : State :=
  let s1 := s.modLink n fun l => { l with freed := l.freed.set c (l.freed.getD c 0 + k) }
  s1.when (s.flag (WLT_PCS_STAT.COMPAT n)) fun t =>
    t.sendFrame n (Frame1x.build 3 0 (4096 * (c % 4) + (t.link n).credOut c % 4096) [])

/-- Packet lpn of port n leaves its ingress partition, k slots of a class (R103): a packet whose first copy failed and that a replay has
brought again (R99) frees its slots once, as its sender counts them once (DEDUCED, log entry 112). -/
def State.freePacket (s : State) (n : Port) (c k lpn : Nat) : State :=
  let l := s.link n
  let more := l.again.contains lpn
  let paid := l.paid.contains lpn
  (s.modLink n fun x =>
    { x with again := x.again.erase lpn, paid := if more then lpn :: x.paid.erase lpn else x.paid.erase lpn }).when (!paid)
    fun t => t.freeCredit n c k

/-- A packet on a fixed label that came in by an admitted port frees its k CTL slots at once (R103, R162): LOCAL takes it. -/
def State.freeFixed (s : State) (n : Port) (k : Nat) : State :=
  s.when (s.flag (WLT_LINK_STAT.ADMITTED n)) fun t => t.freeCredit n 0 k

/-- A time message on port n frees its slot; on a 1.x link it is outside any tunnel and takes none (R24). -/
def State.freeTime (s : State) (n : Port) : State :=
  s.when (!s.flag (WLT_PCS_STAT.COMPAT n)) fun t => t.freeFixed n 1

end Sys2Proof.Machine
end

