-- ==== Sys2Proof/Machine/Ctx.lean ====
section
/-!
DEFINITION. Sys2Proof/Machine/Ctx.lean: what several chapters do to flow contexts: tear down, hold, resume; discard of a
flow's packets; homing on engines (R125, R141 to R152).
-/
namespace Sys2Proof.Machine

/-- All contexts by index. -/
def ctxRange : List Nat := List.range 2048

/-- The egresses of context i, attachment and label: OUT_ATT and OUT_LABEL, or with MCAST its valid fan-out entries, those that
name IN_ATT only where it is LOCAL (R157). -/
def State.ctxOuts (s : State) (i : Nat) : List (Nat × Nat) :=
  if s.flag (CTX0.MCAST i) then
    (List.range 8).filterMap fun j =>
      let a := s.get (CTX_FAN.ATT i j)
      if s.flag (CTX_FAN.VALID i j) && (a != s.get (CTX0.IN_ATT i) || a == 7) then some (a, s.get (CTX_FAN.LABEL i j)) else none
  else [(s.get (CTX1.OUT_ATT i), s.get (CTX1.OUT_LABEL i))]

/-- Context i enters or leaves by attachment a (R125, R148). -/
def State.ctxOn (s : State) (a i : Nat) : Bool :=
  s.get (CTX0.IN_ATT i) == a || (s.ctxOuts i).any fun o => o.1 == a

/-- Flows homed on engine e. -/
def State.homed (s : State) (e : Nat) : Nat := s.get (FE_STAT.HOMED e)

/-- One flow fewer at context i's engine. -/
def State.unhome (s : State) (i : Nat) : State :=
  let e := s.get (CTX0.HOME i)
  s.set (FE_STAT.HOMED e) (s.homed e - 1)

/-- Context i is homed on engine e. -/
def State.homeOn (s : State) (i e : Nat) : State := (s.set (CTX0.HOME i) e).set (FE_STAT.HOMED e) (s.homed e + 1)

/-- The unfenced engine homing the fewest flows, lowest number on a tie, when one homes fewer than 128 (R152). -/
def State.bestEngine (s : State) : Option Nat :=
  ((List.range 16).foldl (fun (b : Option (Nat × Nat)) e =>
    if s.flag (FE_STAT.FENCED e) || decide (128 ≤ s.homed e) then b else
      match b with
      | none => some (e, s.homed e)
      | some (f, h) => if s.homed e < h then some (e, s.homed e) else some (f, h)) none).map Prod.fst

/-- Slots of context i held in the cell buffer (R142). -/
def State.occ (s : State) (i : Nat) : Nat := s.get (CTX6.OCCUPANCY i)

/-- A packet leaves the cell buffer: the slots of its context fall, and a Welt ingress partition frees credit (R103). -/
def State.freeIngress (s : State) (p : FlowPkt) : State :=
  if h : p.inAtt < 4 then
    s.freePacket ⟨p.inAtt, h⟩ p.pkt.hdr.cls p.pkt.n p.lpn
  else s

/-- The slots of a waiting packet are discarded: WASTED at its ingress attachment and at its Welt receive unit. -/
def State.wasteWaiting (s : State) (p : FlowPkt) : State := 
  ((s.freeIngress p).slots (unitIn p.inAtt) 1 p.pkt.n).count (srcSignal (4 + p.inAtt) 2) 1

/-- p is the last copy of its packet in the Last (R157). -/
def State.lastCopy (s : State) (p : FlowPkt) : Bool :=
  let f := s.flows
  !((f.admitted.erase p ++ f.held.erase p ++ f.netq.erase p).any fun q =>
    q.ctx == p.ctx && q.pkt == p.pkt && q.inAtt == p.inAtt && q.lpn == p.lpn)

/-- A copy leaves the Last: OCCUPANCY falls when it was the last copy, and the packet's slots are decided at its ingress
attachment, good or not, unless its fate is still open (R157, R468). QUOTA_DRAINED follows from R190 with its own command. -/
def State.leaveAs (s : State) (fate : Option Bool) (p : FlowPkt) : State :=
  let f := { s.flows with admitted := s.flows.admitted.erase p, held := s.flows.held.erase p, netq := s.flows.netq.erase p }
  let s1 := { s with flows := f }
  if p.ctx = 2048 then s1.admitFixed else if !s.lastCopy p then s1 else
  let s2 := match fate with
    | some ok => s1.decideSlots (unitIn p.inAtt) (if ok then 0 else 1) p.pkt.n
    | none => s1
  s2.set (CTX6.OCCUPANCY p.ctx) (s.occ p.ctx - p.pkt.n)
    |>.set (CTXP3.ADMITTED_OCC p.ctx) (s.get (CTXP3.ADMITTED_OCC p.ctx) - p.pkt.n)

def State.leave (s : State) (ok : Bool) (p : FlowPkt) : State := s.leaveAs (some ok) p

/-- An admitted copy is discarded at its egress: WASTED there (R107, R157). -/
def State.wasteAdmitted (s : State) (p : FlowPkt) : State := 
  ((s.leave false p).slots (unitOut p.outAtt) 1 p.pkt.n).count (srcSignal (4 + p.outAtt) 2) 1

/-- The packet that port n is sending from attachment and number ends poisoned (R107): its data slots still to go are zeros,
CLEAR_LPN will list it, and its slots are WASTED at the attachment's egress (R468). -/
def State.poisonBegun (s : State) (p : FlowPkt) : State :=
  if h : p.outAtt < 4 then
    let n : Port := ⟨p.outAtt, h⟩
    match (s.link n).outs.find? fun r => !r.sentAll && r.inAtt == p.inAtt && r.inLpn == p.lpn with
    | none => s
    | some r =>
      (s.decideSlots (unitOut n) 1 r.held).modLink n fun l =>
        { l with outs := l.outs.map fun x => if x.lpn = r.lpn then { x with decided := true, bad := true, held := 0 } else x,
                 txq := l.txq.map fun x =>
                   if x.lpn == r.lpn && x.cls != 4 && !x.head then { x with bytes := List.replicate 32 0 } else x }
  else s

/-- The operations of context i that wait at a display head are discarded, a pending flip with them: WASTED in the DISP egress
partition (R147, R286). -/
def State.dropOps (s : State) (i : Nat) : State :=
  let n := ((s.disp.heads.toList.flatMap fun d => d.waits).filter fun o => o.ctx == i).map fun o => o.pkt.n
  let flips (h : Nat) : Bool := (s.disp.heads.toList[h]?.bind HeadSt.pend).any fun p => p.ctx == i
  let s1 := [0, 1].foldl (fun t h => t.when (flips h) fun u => u.set (DSP_STAT.FLIP_PENDING h) 0) s
  let drop (d : HeadSt) : HeadSt :=
    { d with waits := d.waits.filter fun o => o.ctx != i, pend := if d.pend.any (fun p => p.ctx == i) then none else d.pend }
  ({ s1 with disp := { s1.disp with heads := s1.disp.heads.map drop } }).slots (unitOut 6) 1 n.sum

/-- Every packet of context i in the cell buffer and the ingress partitions is discarded, its slots WASTED (R147). A
packet whose header has left a port is ended there (R107), and leaves the store with its last slot; a message left open on a link
ends. -/
def State.dropFlow (s : State) (i : Nat) : State :=
  let w := s.flows.waiting.filter fun (p : FlowPkt) => p.ctx == i
  let a := s.flows.admitted.filter fun (p : FlowPkt) => p.ctx == i && !p.begun
  let h := (s.flows.held ++ s.flows.netq).filter fun (p : FlowPkt) => p.ctx == i
  let b := s.flows.admitted.filter fun (p : FlowPkt) => p.ctx == i && p.begun
  let s0 := ((a ++ h).foldl State.wasteAdmitted (w.foldl State.wasteWaiting s)).dropOps i
  let once := (b.map fun (p : FlowPkt) => (p.inAtt, p.lpn, p.pkt.n)).eraseDups
  let s1 := once.foldl (fun t x => t.decideSlots (unitIn x.1) 1 x.2.2) (b.foldl State.poisonBegun s0)
  ({ s1 with
      links := s1.links.map fun (l : LinkPort) => { l with openMsg := if l.openMsg = some i then none else l.openMsg },
      flows := { s1.flows with
      waiting := s1.flows.waiting.filter (fun (p : FlowPkt) => p.ctx != i),
      admitted := (s1.flows.admitted.filter fun (p : FlowPkt) => p.ctx != i || p.begun).map fun (p : FlowPkt) =>
        if p.ctx == i then { p with ctx := 2048, decided := true, bad := true } else p,
      held := s1.flows.held.filter (fun (p : FlowPkt) => p.ctx != i), netq := s1.flows.netq.filter (fun (p : FlowPkt) => p.ctx != i),
      rlbIn := s1.flows.rlbIn.del i, rlbOut := s1.flows.rlbOut.del i,
      seqOut := s1.flows.seqOut.del i, backlog := s1.flows.backlog.filter fun b => b.2.1 != i } }).set (CTX6.OCCUPANCY i) 0 |>.set (CTXP3.ADMITTED_OCC i) 0

-- Poison (R106, R107, R110) -------------------------------------------------------------------------------------------

/-- The fate of packet lpn that came by attachment a becomes known at this hub (R106): waiting and admitted copies carry
it, and so do the records of the ports it is leaving by; with bad, data slots still to be sent are zero-filled (R107). -/
def State.decidePacket (s : State) (a lpn : Nat) (bad : Bool) : State :=
  let mark (p : FlowPkt) : FlowPkt :=
    if p.inAtt == a && p.lpn == lpn && !p.decided then { p with decided := true, bad := bad } else p
  let open_ (r : OutRec) : Bool := r.inAtt == a && r.inLpn == lpn && !r.decided
  let fix (l : LinkPort) : LinkPort :=
    let hit := l.outs.filter open_
    { l with
      outs := l.outs.map fun r => if open_ r then { r with decided := true, bad := bad, held := 0, heldIn := 0 } else r,
      txq := if bad then l.txq.map fun x =>
        if hit.any (fun r => r.lpn == x.lpn) && x.cls != 4 && !x.head then { x with bytes := List.replicate 32 0 } else x
        else l.txq
      frames := if bad then l.frames.map fun x => if x.inAtt = a ∧ x.inLpn = lpn then { x with bad := true } else x else l.frames }
  let here := s.links.toList.zipIdx.flatMap fun x => (x.1.outs.filter open_).map fun r => (x.2, r)
  let f := { s.flows with
    waiting := s.flows.waiting.map mark, admitted := s.flows.admitted.map mark, held := s.flows.held.map mark }
  here.foldl (fun t x => (t.decideSlots (unitOut x.1) (b2n bad) x.2.held).decideSlots (unitIn a) (b2n bad) x.2.heldIn)
    { s with flows := f, links := s.links.map fix }

/-- Poisoned packets whose header has not left are dropped by their egress, their slots WASTED (R107); those for an end
adapter wait for its decision (R110). -/
def State.dropPoisoned (s : State) : State :=
  let gone := s.flows.admitted.filter fun p => p.decided && p.bad && !p.begun && decide (p.outAtt < 4)
  let s1 := gone.foldl State.wasteAdmitted s
  let w := s1.flows.waiting.filter fun p => p.decided && p.bad
  w.foldl (fun t p => { t.wasteWaiting p with flows := { t.flows with waiting := t.flows.waiting.erase p } }) s1

-- Semaphores (R324, R325), which go with the holder's context -----------------------------------------------------------

def State.modBridge (s : State) (f : BridgeSt → BridgeSt) : State := { s with bridge := f s.bridge }

/-- The holder of semaphore k. -/
def State.semTriple (s : State) (k : Nat) : Triple := ⟨s.get (SEM0.HUB k), s.get (SEM1.CTX k), s.get (SEM0.TAG k)⟩

/-- The HELD bit of a bus that HOLD can hold. -/
def busHeld (b : Nat) : Fld := if b < 6 then I2C_STAT.HELD (b - 4) else SPI_CTRL.HELD (b - 6)

/-- A bus held under HOLD is released: I2C with a STOP, SPI by deasserting the chip select. -/
def State.freeBus (s : State) (b : Nat) : State :=
  if (s.bridge.holds.find? b).isNone then s
  else (s.modBridge fun r => { r with holds := r.holds.del b }).set (busHeld b) 0 |>.emit (.bus b 0 [])

/-- The semaphore that bus b binds. -/
def State.boundSem (s : State) (b : Nat) : Option Nat :=
  if b < 4 then (if s.flag (CAN_CTRL.SEM_EN b) then some (s.get (CAN_CTRL.SEM b)) else none)
  else if b < 6 then (if s.flag (I2C_CTRL.SEM_EN (b - 4)) then some (s.get (I2C_CTRL.SEM (b - 4))) else none)
  else if b < 8 then (if s.flag (SPI_CTRL.SEM_EN (b - 6)) then some (s.get (SPI_CTRL.SEM (b - 6))) else none)
  else none

/-- Every bus held under semaphore k by its triple is released (R324, R325). -/
def State.freeBuses (s : State) (k : Nat) : State :=
  (s.bridge.holds.filter fun (x : Nat × Triple) => x.2 == s.semTriple k && s.boundSem x.1 == some k).foldl (fun u x => u.freeBus x.1) s

/-- Semaphore k is freed. -/
def State.semFree (s : State) (k : Nat) : State :=
  (s.freeBuses k).set (SEM0.HELD k) 0 |>.set (SEM0.HUB k) 0 |>.set (SEM0.TAG k) 0 |>.set (SEM1.CTX k) 0

/-- Semaphore k is broken (R325). -/
def State.semBreak (s : State) (k : Nat) : State :=
  if s.flag (SEM0.HELD k) then ((s.semFree k).incSat (SEM3.BROKEN k)).raise EV.semBroken else s

/-- The semaphores whose holder's context is i are broken (R325). -/
def State.semsOf (s : State) (i : Nat) : State :=
  ((List.range 32).filter fun k => s.flag (SEM0.HELD k) && s.get (SEM1.CTX k) == i).foldl State.semBreak s

/-- Context i goes idle with a cause (Table 05.5). -/
def State.ctxIdle (s : State) (i cause : Nat) : State :=
  let s1 := (((s.unhome i).dropFlow i).semsOf i).when (s.flag (CTX5.UNDERFED i)) fun t =>
    t.set WHL_UNDERFED.COUNT (t.get WHL_UNDERFED.COUNT - 1)
  s1 |>.set (CTX5.ACTIVE i) 0 |>.set (CTX5.WARMING i) 0 |>.set (CTX5.OVER_QUOTA i) 0 |>.set (CTX5.HELD i) 0
    |>.set (CTX5.UNDERFED i) 0 |>.set (CTX5.DRAINING i) 0 |>.set (CTX5.WARM_LEFT i) 0 |>.set (CTX5.LAST_CAUSE i) cause

/-- FLOW_TORN (R148): the contexts of the list are torn down with the cause, and the event carries the port or ALL. -/
def State.flowTorn0 (s : State) (l : List Nat) (cause att : Nat) (all : Bool) : State :=
  (l.foldl (fun t i => t.ctxIdle i cause) s) |>.set LST_FLOW_TORN.COUNT l.length |>.set LST_FLOW_TORN.ALL (b2n all)
    |>.set LST_FLOW_TORN.ATT (if all then 0 else att) |>.raise EV.flowTorn

-- Presence of end ports (R257) ----------------------------------------------------------------------------------------

/-- End port v, or group port g of VDP v, as one number. -/
def endNo (v : Nat) (g : Option Nat) : Nat := match g with
  | none => v
  | some g => 16 + 16 * v + g

def State.endBind (s : State) (e : Nat) : Bool :=
  if e < 16 then s.flag (PCIE_VDP.BIND e) && !s.flag (PCIE_VDP.GROUP_ACTIVE e)
  else s.flag (PCIE_GRP.BIND ((e - 16) / 16) (e % 16)) && s.flag (PCIE_VDP.GROUP_ACTIVE ((e - 16) / 16))
def State.endCtx (s : State) (e : Nat) : Nat :=
  if e < 16 then s.get (PCIE_VDP.FWD_CTX e) else s.get (PCIE_GRP.FWD_CTX ((e - 16) / 16) (e % 16))
def endPresent (e : Nat) : Fld := if e < 16 then PCIE_VDP.PRESENT e else PCIE_GRP.PRESENT ((e - 16) / 16) (e % 16)

/-- The end port can carry TLPs (R257): bound, its forward context ACTIVE and not HELD, its root port's link up. -/
def State.endReady (s : State) (e : Nat) : Bool :=
  let i := s.endCtx e
  s.endBind e && s.flag (CTX5.ACTIVE i) && !s.flag (CTX5.HELD i) &&
    (match s.host.ends.find? e with
     | some l => l.up
     | none => false)

/-- The hot-plug interrupt of end port e: the message of its own MSI capability, where software has enabled that (R257). -/
def State.hotPlug (s : State) (e : Nat) : State :=
  match (s.host.ports.find? e).bind PortCfg.msi with
  | some m => s.emit (.hotPlug (if e < 16 then e else (e - 16) / 16) (if e < 16 then none else some (e % 16)) m.1 m.2)
  | none => s

/-- Presence of end port e follows; a change raises PORT_PRESENCE and a hot-plug interrupt (R257). -/
def State.refreshEnd (s : State) (e : Nat) : State :=
  if s.endReady e = s.flag (endPresent e) then s
  else ((s.setFlag (endPresent e) (s.endReady e)).raise EV.portPresence).hotPlug e

/-- A path passes hub h by attachment a, or at all. -/
def passes (h : Nat) (a : Option Nat) (p : List Hop) : Bool :=
  p.any fun x => x.hub == h && (match a with
    | some k => x.inAtt == k || x.outAtt == k
    | none => true)

/-- The Root's base firmware tears down the remaining hops of each path that it built through attachment a of hub h (R148): its own at
once, those of other hubs by control WRITEs of LST_CTX_CMD. -/
def State.tearRest (s : State) (h : Nat) (a : Option Nat) : State :=
  let gone := s.chain.paths.filter fun (p : Nat × List Hop) => passes h a p.2
  let s1 := { s with chain := { s.chain with paths := s.chain.paths.filter fun (p : Nat × List Hop) => !passes h a p.2 } }
  (gone.flatMap fun (p : Nat × List Hop) => p.2.filter fun x => x.hub != h).foldl (fun t x =>
    if x.hub = t.hubId then t.when (t.ctxLive x.ctx) fun u => u.ctxIdle x.ctx 1
    else t.request (reqPkt 1 x.hub t.hubId 0x30044 4 (leBytes 4 (3 * 2 ^ 24 + x.ctx))) 0) s1

/-- Presence of every end port of the Root follows. -/
def State.refreshEnds (s : State) : State :=
  if s.isRoot then (List.range 272).foldl State.refreshEnd s else s

def State.flowTorn (s : State) (l : List Nat) (cause att : Nat) (all : Bool) : State :=
  ((s.flowTorn0 l cause att all).when s.isRoot fun t => t.tearRest 0 (if all then none else some att)).refreshEnds

/-- Teardown of every context of port a, cause 4 (R148). -/
def State.tearPort (s : State) (a : Nat) : State :=
  s.flowTorn (ctxRange.filter fun i => s.ctxLive i && s.ctxOn a i) 4 a false

/-- Teardown of every context of the hub, cause 5 (R20, R148). -/
def State.tearAll (s : State) : State := s.flowTorn (ctxRange.filter fun i => s.ctxLive i) 5 0 true

/-- A hold of port a holds context i (R125). A branch of a multicast flow does not: its copies are dropped alone and the others go
on (R157, log entry 71). -/
def State.heldBy (s : State) (a i : Nat) : Bool :=
  s.get (CTX0.IN_ATT i) == a || (!s.flag (CTX0.MCAST i) && s.get (CTX1.OUT_ATT i) == a)

/-- Every flow of port a is HELD (R125). -/
def State.holdPort (s : State) (a : Nat) : State :=
  ((ctxRange.filter fun i => s.ctxLive i && s.heldBy a i).foldl (fun t i => t.set (CTX5.HELD i) 1) s).refreshEnds

/-- A flow of port a is no longer HELD, unless another of its ports still holds. -/
def State.resumePort (s : State) (a : Nat) : State :=
  ((ctxRange.filter fun i => s.flag (CTX5.HELD i) && s.heldBy a i).foldl (fun t i =>
    t.setFlag (CTX5.HELD i) ((List.range 4).any fun b => b != a && t.heldBy b i && t.flag (WLT_LINK_STAT.HELD b))) s).refreshEnds

/-- The classes each tunnel type allows (Table 01.3): 1 ISO, 2 RLB, 3 BE. -/
def classAllowed (ttype cls : Nat) : Bool :=
  match ttype with
  | 0 => cls == 2
  | 1 => cls == 3 || cls == 2 || cls == 1
  | 2 => cls == 1 || cls == 2
  | 3 => cls == 1
  | 4 => cls == 1 || cls == 2
  | _ => false

/-- A packet counted in a context: 48-bit packet and slot counts (Table 05.4). -/
def State.countCtx (s : State) (i slots : Nat) : State :=
  let p := s.get (CTXC.PKTS_LO i) + 2 ^ 32 * s.get (CTXD.PKTS_HI i) + 1
  let n := s.get (CTXE.SLOTS_LO i) + 2 ^ 32 * s.get (CTXF.SLOTS_HI i) + slots
  (s.set64 (CTXC.PKTS_LO i) (CTXD.PKTS_HI i) p).set64 (CTXE.SLOTS_LO i) (CTXF.SLOTS_HI i) n

end Sys2Proof.Machine
end

