-- ==== Sys2Proof/Machine/Maps.lean ====
section
/-!
DEFINITION. Sys2Proof/Machine/Maps.lean: wheel maps, their size and expansion, owed counts, the lend pool, the choice of a
packet at a boundary, and admission into the Last (chapter 06, R151).
-/
namespace Sys2Proof.Machine

def State.wh (s : State) (w : WheelNo) : WheelSt := s.wheel.wheels[w]
def State.modWh (s : State) (w : WheelNo) (f : WheelSt → WheelSt) : State :=
  { s with wheel := { s.wheel with wheels := upd s.wheel.wheels w (f s.wheel.wheels[w]) } }

/-- The Welt port of a wheel (Table 06.1). -/
def wheelPort (w : Nat) : Nat := w % 4
/-- A TX wheel (Table 06.1). -/
def wheelTx (w : Nat) : Bool := decide (w < 4)

/-- A map entry (Table 06.4). -/
structure Ent where
  ctx : Nat
  cls : Nat
  quota : Nat
  decl : Nat
  share : Nat
deriving DecidableEq, Repr

def State.activeMap (s : State) (w : Nat) : List Ent :=
  (List.range (min (s.get (MAPA_HDR.COUNT w)) 1023)).map fun e =>
    ⟨s.get (MAPA0.CTX w e), s.get (MAPA0.CLASS w e), s.get (MAPA0.QUOTA w e), s.get (MAPA1.DECLARED w e),
      s.get (MAPA1.SHARE w e)⟩

def State.shadowMap (s : State) (w : Nat) : List Ent :=
  (List.range (min (s.get (MAPS_HDR.COUNT w)) 1023)).map fun e =>
    ⟨s.get (MAPS0.CTX w e), s.get (MAPS0.CLASS w e), s.get (MAPS0.QUOTA w e), s.get (MAPS1.DECLARED w e),
      s.get (MAPS1.SHARE w e)⟩

/-- Bit addresses of wheel w's active map; its shadow follows (R172). -/
def mapLo (w : Nat) : Nat := (0x01C0000 + 0x4000 * w) * 8
def mapLen : Nat := 0x2000 * 8

/-- Active and shadow map of wheel w change places (R183). -/
def State.swapMaps (s : State) (w : Nat) : State :=
  let a := mapLo w
  let b := a + mapLen
  let c := b + mapLen
  { s with regs := (s.regs.filter fun r => r.1 < a)
      ++ ((s.regs.filter fun r => b ≤ r.1 && r.1 < c).map fun r => (r.1 - mapLen, r.2))
      ++ ((s.regs.filter fun r => a ≤ r.1 && r.1 < b).map fun r => (r.1 + mapLen, r.2))
      ++ (s.regs.filter fun r => c ≤ r.1) }

/-- The active map of wheel w is copied into its shadow (R185). -/
def State.copyMap (s : State) (w : Nat) : State :=
  let a := mapLo w
  let b := a + mapLen
  let c := b + mapLen
  let act := s.regs.filter fun r => a ≤ r.1 && r.1 < b
  { s with regs := (s.regs.filter fun r => r.1 < b) ++ (act.map fun r => (r.1 + mapLen, r.2))
      ++ (s.regs.filter fun r => c ≤ r.1) }

def isoSum (es : List Ent) (q : Ent → Nat) : Nat := ((es.filter fun e => e.cls == 1).map q).sum
def bulkSum (es : List Ent) (q : Ent → Nat) : Nat := ((es.filter fun e => e.cls != 1).map q).sum

/-- The effective quota of an entry for wheel size p (R192). -/
def effQuota (es : List Ent) (p : Nat) (e : Ent) : Nat :=
  let i := isoSum es Ent.quota
  let b := bulkSum es Ent.quota
  if 500 + i ≤ p then
    if e.cls == 1 ∨ b ≤ p - 500 - i then e.quota else e.quota * (p - 500 - i) / b
  else if e.cls == 1 then e.quota * (p - 500) / i else 0

-- Expansion (R173) ---------------------------------------------------------------------------------------------------

/-- The next free position from q on, counting upward and wrapping at p. -/
def nextFree (p : Nat) (taken : Tbl Nat) : Nat → Nat → Nat
  | 0, q => q
  | n + 1, q => if (taken.find? q).isSome then nextFree p taken n ((q + 1) % p) else q

/-- The CTL floor's positions: owner 0. -/
def floorTable (p : Nat) : Tbl Nat := (List.range 500).foldl (fun t k => Tbl.put t (k * p / 500) 0) []

/-- The pinned positions of a map at size p: position to owner, 0 the floor and k + 1 the k-th entry. -/
def expand (p : Nat) (es : List Ent) : Tbl Nat :=
  (es.zipIdx.filter fun x => x.1.cls == 1).foldl (fun t x =>
    let q := effQuota es p x.1
    (List.range q).foldl (fun u k => Tbl.put u (nextFree p u p ((x.1.share + k * p / q) % p)) (x.2 + 1)) t)
    (floorTable p)

/-- How often owner k of the expansion is reached from position a up to b. -/
def reached (t : Tbl Nat) (k a b : Nat) : Nat := (t.filter fun r => a ≤ r.1 && r.1 < b && r.2 == k).length

/-- Virtual positions of an RLB or BE quota q from a up to b (R174). -/
def virtual (p q a b : Nat) : Nat := ceilDiv (b * q) p - ceilDiv (a * q) p

-- Size (R169, R170, R192) --------------------------------------------------------------------------------------------

/-- The basis for a flight kind (R170). -/
def basisOf (encrypted : Bool) : Nat := if encrypted then 48000 else 49600

/-- Seal-fill slots are sent on port n (R95): a spoke upstream while SLIP, a parent while PORT_SLIP. -/
def State.fillOn (s : State) (n : Nat) : Bool :=
  if s.facesUp n then s.flag CLK_STAT.SLIP else bit (s.get CLK_STAT.PORT_SLIP) n

/-- Wheel size from width, flight kind and seal-fill (Table 06.2). -/
def sizeOf (lanes : Nat) (encrypted fill : Bool) : Nat := (basisOf encrypted - (if fill then 100 else 0)) * lanes / 4

/-- The size wheel w has now: 0 while its port has no native admitted link. -/
def State.sizeNow (s : State) (w : Nat) : Nat :=
  let n := wheelPort w
  if s.flag (WLT_LINK_STAT.ADMITTED n) && !s.flag (WLT_PCS_STAT.COMPAT n) then
    let l := codeLanes (if wheelTx w then s.get (WLT_LINK_STAT.WIDTH_TX n) else s.get (WLT_LINK_STAT.WIDTH_RX n))
    sizeOf l (s.flag (WLT_LINK_STAT.ENC n)) (s.fillOn n)
  else 0

/-- Effective quotas of wheel w's owners and its RESERVED count (R192, R193): QUOTA stays. -/
def State.applyEff (s : State) (w p : Nat) : State :=
  let es := s.activeMap w
  let s1 := es.foldl (fun t e =>
    if t.get (CTXP6.QWHEEL e.ctx) == w then
      t.set (CTXP1.EFF_QUOTA e.ctx) (effQuota es p e) else t) s
  s1.set (WHLw_RES.RESERVED w) (500 + (es.map (effQuota es p)).sum) |>.set (WHLw_RES.ENTRIES w) es.length

/-- The payload position that chain time names in an epoch of p positions, ⌊k × P ÷ 51,200⌋ at tick k (R50, R192). -/
def State.posNow (s : State) (p : Nat) : Nat := s.now % 51200 * p / 51200

/-- Wheel w takes its present size (R192). A change re-expands it: positions are renumbered and served unreserved until
REEXPANSION_DONE, and WHL_RESCALED is raised. In a freeze every slot stays unreserved (R50). -/
def State.rescale (s : State) (w : Nat) : State :=
  let p := s.sizeNow w
  if p = s.get (WHLw_SIZE.P w) then s else
  let s1 := (if p = 0 then s.set (WHLw_SIZE.P w) 0 else (s.set (WHLw_SIZE.P w) p).applyEff w p)
    |>.set (WHLw_POS.POSITION w) (s.posNow p)
  if p = 0 then s1.set (WHLw_POS.EXPANDING w) 0 |>.setFlag (WHLw_POS.UNRESERVED w) s.frozen
  else s1.set (WHLw_POS.EXPANDING w) 1 |>.set (WHLw_POS.UNRESERVED w) 1 |>.raise EV.whlRescaled

/-- Both wheels of port n are rescaled. -/
def State.rescalePort (s : State) (n : Nat) : State := (s.rescale n).rescale (n + 4)

/-- The wheels of port n at its native admission (R170, R186): the basis follows the flight kind; a size other than the
one the maps were checked against re-expands them. -/
def State.admitWheels (s : State) (n : Nat) : State :=
  let b := basisOf (s.flag (WLT_LINK_STAT.ENC n))
  [n, n + 4].foldl (fun t w =>
    let t1 := t.set (WHLw_SIZE.BASIS w) b
    if t1.sizeNow w = t.get (WHLw_SIZE.BASIS w) then
      (t1.set (WHLw_SIZE.P w) (t1.sizeNow w)).applyEff w (t1.sizeNow w) |>.set (WHLw_POS.POSITION w) (t1.posNow b)
    else t1.rescale w) s

-- Prediction and pools (R177, R180) ----------------------------------------------------------------------------------

/-- ⌈D⌉ of context i. -/
def State.demand (s : State) (i : Nat) : Nat := ceilDiv (s.get (CTXP0.PRED_X16 i)) 16

/-- The wheel a context's prediction and quota come from (R180, R183): the TX wheel of its lowest Welt egress, else the RX
wheel of its Welt ingress. -/
def State.ownWheel (s : State) (i : Nat) : Option Nat :=
  match ((s.ctxOuts i).map Prod.fst).filter (fun a => decide (a < 4)) with
  | a :: t => some (t.foldl min a)
  | [] => if s.get (CTX0.IN_ATT i) < 4 then some (4 + s.get (CTX0.IN_ATT i)) else none

/-- What an owner of quota q is expected to leave (R177). -/
def State.slack (s : State) (q i : Nat) : Nat :=
  if !s.flag (CTX5.ACTIVE i) then q else if s.flag (CTX5.WARMING i) then 0 else q - s.demand i

/-- The lend pool of wheel w (R177): QUOTA is the committed one, so that a rescaled wheel may have nothing to lend. -/
def State.lendPool (s : State) (w : Nat) : Nat :=
  let es := s.activeMap w
  let p := s.get (WHLw_SIZE.P w)
  if p = 0 then 0 else p + (es.map fun e => s.slack e.quota e.ctx).sum - (500 + (es.map Ent.quota).sum)

/-- Pool, SLACK and SHORT of wheel w for the epoch that starts. -/
def State.poolStart (s : State) (w : WheelNo) : State :=
  let l := s.lendPool w
  let es := s.activeMap w
  let s1 := es.foldl (fun t e =>
    if t.get (CTXP6.QWHEEL e.ctx) == w.val then
      t.set (CTXP5.SLACK e.ctx) (t.slack e.quota e.ctx) else t) s
  (s1.modWh w fun x => { x with pool := l, served := [] }) |>.set (WHLw_LEND.POOL w) (min l 65535)
    |>.set (WHLw_LEND.SHORT w) 0

/-- UNDERFED of an ISO context (R191): set with its event while ⌈D⌉ exceeds the effective quota; clear says whether this
moment may clear it. -/
def State.checkUnderfed (s : State) (clear : Bool) (i : Nat) : State :=
  if s.get (CTX0.CLASS i) = 1 ∧ s.flag (CTX5.ACTIVE i) then
    let under := decide (s.get (CTXP1.EFF_QUOTA i) < s.demand i)
    if under && !s.flag (CTX5.UNDERFED i) then
      s.set (CTX5.UNDERFED i) 1 |>.set WHL_UNDERFED.COUNT (s.get WHL_UNDERFED.COUNT + 1)
        |>.set WHL_UNDERFED.LAST_CTX i |>.raise EV.flowUnderfed
    else if !under && clear && s.flag (CTX5.UNDERFED i) then
      s.set (CTX5.UNDERFED i) 0 |>.set WHL_UNDERFED.COUNT (s.get WHL_UNDERFED.COUNT - 1)
    else s
  else s

-- Admission into the Last (R151) -------------------------------------------------------------------------------------

/-- The packet has room: its flow is not OVER_QUOTA, its buffer quota and the egress partitions hold it (R151). -/
def State.roomFor (s : State) (p : FlowPkt) (outs : List (Nat × Nat)) : Bool :=
  let i := p.ctx
  (i == 2048 || (!s.flag (CTX5.OVER_QUOTA i)
    && (s.get (CTX3.BUF_QUOTA i) == 0 || decide (s.occ i + p.pkt.n ≤ s.get (CTX3.BUF_QUOTA i)))))
  && outs.all fun o => s.outRoom o.1 p.pkt.hdr.cls p.pkt.n (if p.inAtt = 7 ∧ p.pkt.hdr.cls ≠ 2 then p.pkt.n else 0)

/-- The engine that this epoch's budget counts context i on: its home, but for one re-homed in this epoch (R179). -/
def State.budgetEngine (s : State) (i : Nat) : Nat := (s.wheel.homes.find? i).getD (s.get (CTX0.HOME i))

/-- Slots processed by the home engine (R152, R179). -/
def State.engineWork (s : State) (i n : Nat) : State :=
  let e := s.get (CTX0.HOME i)
  let b := s.budgetEngine i
  { s with wheel := { s.wheel with engines := s.wheel.engines.setD e 0 (s.wheel.engines.getD e 0 + n),
                                   budget := s.wheel.budget.setD b 0 (s.wheel.budget.getD b 0 + n) } }
    |>.count (srcSignal (12 + e / 4) (e % 4)) n |>.count (srcSignal (12 + e / 4) (e % 4 + 4)) 1

/-- A transfer of the transfer window ends (R329): word 0, RETRACTS, the bytes returned, the data. -/
def State.xferEnd (s : State) (x : Xfer) (status : Nat) (d : List Byte) : State :=
  let n := min d.length 56
  (((s.resDone resXFER x.tag status).setWords BRT_XRES.DATA 0
    (words32 15 ([BitVec.ofNat 8 x.retracts, 0] ++ leBytes 2 n ++ d.take 56))).set BRT_XFER_STAT.BUSY 0).modBridge
    fun b => { b with xfer := none }

/-- The transfer that this packet carries and that expects no RESP completes as the packet is admitted (R329). -/
def State.xferAdmitted (s : State) (p : FlowPkt) : State :=
  match s.bridge.xfer with
  | some x =>
    if !x.resp && p.inAtt == 7 && p.ctx == x.ctx && byteAt p.pkt.hdr.info 2 == 13 && byteAt p.pkt.hdr.info 18 == x.tag then
      s.xferEnd x 0 []
    else s
  | none => s

/-- The packet is admitted: one copy for each egress, the context's counts rise (R151, R157). -/
def State.admitPkt (s0 : State) (p : FlowPkt) : State :=
  let s := s0.xferAdmitted p
  let outs := s.ctxOuts p.ctx
  let n := p.pkt.n
  let copies := outs.map fun o => { p with outAtt := o.1, outLabel := o.2 }
  let s0 := s.freeIngress p
  let f := { s0.flows with waiting := s0.flows.waiting.erase p, admitted := s0.flows.admitted ++ copies }
  let s1 := ({ s0 with flows := f }).pendSlots (unitIn p.inAtt) n
  (s1.engineWork p.ctx n).countCtx p.ctx n |>.set (CTX6.OCCUPANCY p.ctx) (s.occ p.ctx + n)
    |>.set (CTXP3.ADMITTED_OCC p.ctx) (s.get (CTXP3.ADMITTED_OCC p.ctx) + n)

-- Service (R174 to R179, Table 06.5) ---------------------------------------------------------------------------------

/-- The queue a packet waits in: its flow's, or its fixed label's, NBR_CTL or TIME (R140, Table 06.5). -/
def FlowPkt.queue (p : FlowPkt) : Nat := if p.ctx = 2048 then 2048 + p.pkt.hdr.flow % 2 else p.ctx

/-- The first waiting packet of each queue, in order. -/
def firstOfFlow : List FlowPkt → List Nat → List FlowPkt
  | [], _ => []
  | p :: t, seen => if seen.contains p.queue then firstOfFlow t seen else p :: firstOfFlow t (p.queue :: seen)

/-- A line-fetch packet marked urgent, or one with a later urgent packet of its flow waiting (R304 and order 4). -/
def State.urgent (s : State) (l : List FlowPkt) (p : FlowPkt) : Bool :=
  p.ctx != 2048 && s.get (CTX0.TTYPE p.ctx) == 3 && l.any fun q => q.ctx == p.ctx && bit (byteAt q.pkt.hdr.info 1) 0

/-- The packets that wait for wheel w. -/
def State.wheelQueue (s : State) (w : WheelNo) : List FlowPkt :=
  if w.val < 4 then s.flows.admitted.filter fun p => p.outAtt == w.val && !p.begun
  else s.flows.waiting.filter fun p => p.inAtt == w.val - 4

/-- Packet p would not stand inside another flow's message on the link (R139; control packets: log entry 85). -/
def LinkPort.opens (l : LinkPort) (p : FlowPkt) : Bool := p.ctx == 2048 || l.openMsg.isNone || l.openMsg == some p.ctx

/-- The packets wheel w may start, the first of each flow: whole packets with credit at the TX wheel (R103) that break no other flow's
message (R139), or with room at the RX wheel and an engine that is not fenced (R151, R216). -/
def State.wheelCands (s : State) (w : WheelNo) : List FlowPkt :=
  (firstOfFlow (s.wheelQueue w) []).filter fun p =>
    if w.val < 4 then
      let l := s.link ⟨w.val % 4, Nat.mod_lt _ (by decide)⟩
      decide (p.pkt.n ≤ l.avail p.pkt.hdr.cls) && l.opens p
    else !s.flag (FE_STAT.FENCED (s.get (CTX0.HOME p.ctx))) && s.roomFor p (s.ctxOuts p.ctx)

/-- The owed count of an owner on wheel w. -/
def WheelSt.owedOf (x : WheelSt) (i : Nat) : Int := x.owed.getD i 0

/-- The best element of a list under a strict order, the first on a tie. -/
def bestOf {α : Type} (better : α → α → Bool) : List α → Option α
  | [] => none
  | a :: t => some (t.foldl (fun b c => if better c b then c else b) a)

/-- A choice at a packet boundary: the packet and the order of Table 06.5 it is served in. -/
structure Pick where
  pkt : FlowPkt
  order : Nat
deriving DecidableEq, Repr

/-- The weight of a borrower (order 6): its entry's, or 1 when no entry names it. -/
def weightOf (es : List Ent) (i : Nat) : Nat :=
  match es.find? fun e => e.ctx == i && e.cls != 1 with
  | some e => e.share
  | none => 1

/-- Where the turn of context i begins in the weighted round robin of order 6 (R175): where its last one ended, or, after a pause, where
the robin stands. -/
def WheelSt.turnOf (x : WheelSt) (i : Nat) : Rat := max (x.turns.getD i 0) x.turn

/-- Positions of WARMING owners on wheel w from a up to b (R178). -/
def State.warmPositions (s : State) (w : WheelNo) (a b : Nat) : Nat :=
  let p := s.get (WHLw_SIZE.P w)
  let es := s.activeMap w
  ((es.zipIdx.filter fun x => s.flag (CTX5.WARMING x.1.ctx)).map fun x =>
    if x.1.cls == 1 then reached (expand p es) (x.2 + 1) a b else virtual p (effQuota es p x.1) a b).sum

/-- A packet of n slots may be lent the present position (R178): at a floor position only when short, at a position of a WARMING
owner never; any while positions are unreserved (R192). The packet may run on over later ones (DEDUCED, log entry 99). -/
def State.lendable (s : State) (w : WheelNo) (n : Nat) : Bool :=
  s.flag (WHLw_POS.UNRESERVED w) ||
  (let p := s.get (WHLw_SIZE.P w)
   let pos := s.get (WHLw_POS.POSITION w)
   let floorAt := decide (0 < ceilDiv ((pos + 1) * 500) p - ceilDiv (pos * 500) p)
   s.warmPositions w pos (pos + 1) == 0 && (!floorAt || decide (n ≤ s.get WHL_CTRL.BORROW_SHORT)))

/-- A borrower of orders 5 and 6 may take n slots: within the pool, or short (R177), at a position that may be lent. -/
def State.mayBorrow (s : State) (w : WheelNo) (n : Nat) : Bool :=
  s.lendable w n && (s.flag (WHLw_POS.UNRESERVED w)
    || decide (n ≤ (s.wh w).pool) || decide (n ≤ s.get WHL_CTRL.BORROW_SHORT))

/-- The first eligible candidate in the order of Table 06.5 (R175). -/
def State.pick (s : State) (w : WheelNo) : Option Pick :=
  let c := s.wheelCands w
  let q := s.wheelQueue w
  let x := s.wh w
  let es := s.activeMap w
  let p := s.get (WHLw_SIZE.P w)
  let pos := s.get (WHLw_POS.POSITION w)
  let un := s.flag (WHLw_POS.UNRESERVED w)
  let ctl := c.filter fun a => a.pkt.hdr.cls == 0
  let owned := c.filter fun a => es.any fun e => e.ctx == a.ctx && e.cls == a.pkt.hdr.cls
  let due := owned.filter fun a => decide (1 ≤ x.owedOf a.ctx)
  let tbl := expand p es
  let oldest (a : FlowPkt) : Nat :=
    let k := es.findIdx (fun e => e.ctx == a.ctx) + 1
    ((tbl.filter fun r => r.2 == k && r.1 ≤ pos).reverse.map Prod.fst).getD ((x.owedOf a.ctx).toNat - 1) 0
  let iso := bestOf (fun a b => decide (oldest a < oldest b) || (oldest a == oldest b && decide (a.ctx < b.ctx)))
    (due.filter fun a => a.pkt.hdr.cls == 1)
  let bulk := bestOf (fun a b => decide (x.owedOf b.ctx < x.owedOf a.ctx)
      || (x.owedOf a.ctx == x.owedOf b.ctx && decide (a.ctx < b.ctx))) (due.filter fun a => a.pkt.hdr.cls != 1)
  let idleEngine (a : FlowPkt) : Bool := decide (s.wheel.budget.getD (s.budgetEngine a.ctx) 0 < 76800)
  let urg := bestOf (fun a b => decide (a.ctx < b.ctx)) (c.filter fun a => s.urgent q a && idleEngine a && s.lendable w a.pkt.n)
  let ctlB := ctl.find? fun a => s.mayBorrow w a.pkt.n
  let more := bestOf (fun a b => decide (x.turnOf a.ctx < x.turnOf b.ctx))
    (c.filter fun a => decide (2 ≤ a.pkt.hdr.cls) && !s.flag (CTX5.WARMING a.ctx) && idleEngine a
      && s.mayBorrow w a.pkt.n)
  let first := if un then none else
    if 1 ≤ x.floorOwed then ctl.head?.map (Pick.mk · 1) else none
  let own := if un then none else (iso.map (Pick.mk · 2)).or (bulk.map (Pick.mk · 3))
  ((first.or own).or (urg.map (Pick.mk · 4))).or ((ctlB.map (Pick.mk · 5)).or (more.map (Pick.mk · 6)))

/-- The wheel's own quota words in a context are shown when wheel w set its quota (Table 06.8). -/
def State.showCtx (s : State) (w : WheelNo) (i : Nat) : State :=
  if s.ownWheel i = some w.val then
    s.set (CTXP4.OWED i) (ofInt 17 ((s.wh w).owedOf i)) |>.set (CTXP1.OWN_USE i) ((s.wh w).use.getD i 0)
      |>.set (CTXP2.BORROWED i) ((s.wh w).served.getD i 0) |>.set (CTX7.EPOCH_USE i) ((s.wh w).sent.getD i 0)
  else s

/-- A started packet of n slots is charged (R174, R177): to its owner's owed count, or to the pool, which a packet that starts
short beyond it leaves alone. -/
def State.charge (s : State) (w : WheelNo) (k : Pick) : State :=
  let n := k.pkt.pkt.n
  let i := k.pkt.ctx
  let beyond := decide ((s.wh w).pool < n)
  let un := s.flag (WHLw_POS.UNRESERVED w)
  let s1 := s.modWh w fun x =>
    let x1 := { x with sent := x.sent.setD i 0 (x.sent.getD i 0 + n) }
    if k.order = 1 then { x1 with floorOwed := x1.floorOwed - n }
    else if k.order ≤ 3 then
      { x1 with owed := x1.owed.setD i 0 (x1.owedOf i - n), use := x1.use.setD i 0 (x1.use.getD i 0 + n) }
    else { x1 with pool := if un || (beyond && k.order != 4) then x1.pool else x1.pool - n,
                   served := x1.served.setD i 0 (x1.served.getD i 0 + n),
                   turn := if k.order = 6 then x1.turnOf i else x1.turn,
                   turns := if k.order = 6 then
                     x1.turns.put i (x1.turnOf i + (n : Rat) / (max 1 (weightOf (s.activeMap w) i) : Nat)) else x1.turns }
  let kind := if k.order ≤ 3 then 0 else if k.order = 4 then 3 else if beyond then 2 else 1
  let s2 := s1.count (srcSignal 16 (w.val + 8 * kind)) n
  let s3 := if 4 ≤ k.order ∧ k.order ≠ 4 ∧ beyond ∧ !un then s2.incSat (WHLw_LEND.SHORT w) n else s2
  if i = 2048 then s3 else s3.showCtx w i

/-- Positions from a up to b are reached on wheel w (R174): the owed counts of their owners rise. -/
def State.reachPositions (s : State) (w : WheelNo) (a b : Nat) : State :=
  let es := s.activeMap w
  let p := s.get (WHLw_SIZE.P w)
  let t := expand p es
  s.modWh w fun x =>
    es.zipIdx.foldl (fun y e =>
      let d : Int := if e.1.cls == 1 then reached t (e.2 + 1) a b else virtual p (effQuota es p e.1) a b
      if d = 0 then y else { y with owed := y.owed.setD e.1.ctx 0 (y.owedOf e.1.ctx + d) })
      { x with floorOwed := x.floorOwed + reached t 0 a b }

/-- adv payload positions pass on wheel w (R169, R174): owed counts rise as pinned and virtual positions are reached, unless positions
are unreserved; in a freeze no position is numbered (R50). -/
def State.passPositions (s : State) (w : WheelNo) (adv : Nat) : State :=
  let es := s.activeMap w
  let p := s.get (WHLw_SIZE.P w)
  let a := s.get (WHLw_POS.POSITION w)
  let b := min (a + adv) p
  if s.flag CTM_STAT.FREEZE ∨ p = 0 then s else
  let s1 := s.set (WHLw_POS.POSITION w) b
  if s.flag (WHLw_POS.UNRESERVED w) then s1 else
  es.foldl (fun u e => u.showCtx w e.ctx) (s1.reachPositions w (a + 1) (min (b + 1) p))

end Sys2Proof.Machine
end

