-- ==== Sys2Proof/Machine/Ports.lean ====
section
/-!
DEFINITION. Sys2Proof/Machine/Ports.lean: what several chapters do to a Welt port and to the lineage: chain time, holdover and
rejoin; training from step 1, lanes off; loss of a link, the session hold (chapters 02 to 04).
-/
namespace Sys2Proof.Machine

-- Lineage (chapter 02) -----------------------------------------------------------------------------------------------

/-- A hub's downstream Welt ports (R11). -/
def State.downPorts (s : State) : List Nat := if s.isRoot then [0, 1, 2, 3] else [1, 2, 3]

/-- Port n sends Power Warnings (R388): an admitted downstream-facing one, while PFAIL_N is held for the hub's own cause or for a
followed warning and PWARN_EN is set. -/
def State.warns (s : State) (n : Nat) : Bool :=
  s.eye.warning && s.flag EYE_WARN_CTRL.PWARN_EN && s.downPorts.contains n && s.flag (WLT_LINK_STAT.ADMITTED n)

/-- FE_SLIP of port n (R83): the far-end loop runs on a link whose frequency the port does not share, a compatibility link or one whose
lineage is not locked (log entry 79). -/
def State.showFarEnd (s : State) (n : Nat) : State :=
  s.setFlag (WLT_TEST_CTRL.FE_SLIP n) (s.flag (WLT_PCS_CTRL.TEST n) && s.get (WLT_TEST_CTRL.LOOP n) == 3
    && (!s.flag CLK_STAT.LOCKED || s.flag (WLT_PCS_STAT.COMPAT n)))

/-- FE_SLIP follows the lineage's lock. -/
def State.farEnds (s : State) : State := [0, 1, 2, 3].foldl State.showFarEnd s

/-- Chain time starts at 0 (R41, R42). -/
def State.startTime (s : State) : State := { s with time := { s.time with ticks := 0, phase := 0, run := true } }

/-- A pending step is forgotten (R40). -/
def State.dropStep (s : State) : State :=
  { s with time := { s.time with pend := none } }.set CTM_STAT.STEP_PENDING 0

/-- REFIN is fitted (Table 02.1). -/
def State.refFitted (s : State) : Bool := s.get CLK_STAT.REFSEL != 3

/-- What the PLL follows in holdover: with REFIN present REFIN × HOLD_RATIO, or the nominal ratio while RATIO_VALID is clear
(R33, R34); else its last control word (R36, R505). -/
def State.holdMode (s : State) : PllMode :=
  if !(s.refFitted && s.clk.refin) then .held else if s.flag CLK_STAT.RATIO_VALID then .ratio else .nominal

/-- The rejoin elastic path of an admitted native upstream link is in use while the lineage is not locked (R52); the wheels
follow its seal-fill slots (R192). -/
def State.unlockedSlip (s : State) : State :=
  let s1 := s.setFlag CLK_STAT.SLIP
    (!s.isRoot && s.flag (WLT_LINK_STAT.ADMITTED 0) && !s.flag (WLT_PCS_STAT.COMPAT 0))
  if s1.fillOn 0 = s.fillOn 0 then s1 else s1.rescalePort 0

/-- A rejoin in progress is abandoned (R40): the spoke returns to holdover from its present frequency, a step still
pending is not applied, and neither slewing nor the exchanges so far go on (R44, Table 02.3). -/
def State.abandonRejoin (s : State) : State :=
  let s1 := s.dropStep.unlockedSlip
  { s1 with clk := { s1.clk with rejoin := false, relocked := false, slew := false,
                                 pll := if s1.flag CLK_STAT.HOLDOVER then s1.holdMode else s1.clk.pll },
            time := { s1.time with align := none, waiting := none, offs := [], dels := [], slew := 0 } }
    |>.when (s1.flag CLK_STAT.HOLDOVER) fun t => t.set CLK_STAT.LOCKED 0 |>.set CLK_STAT.SSC_SEEN 0 |>.farEnds

/-- A locked spoke goes into holdover (R33 to R36): the PLL leaves the upstream port, HOLDOVER and FREE are set,
LINEAGE_LOST is raised; a spoke without REFIN records NO_LOCAL_REF. -/
def State.enterHoldover (s : State) : State :=
  if s.flag CLK_STAT.HOLDOVER then s.abandonRejoin else
  let s0 := s.abandonRejoin
  { s0 with clk := { s0.clk with pll := s0.holdMode, ratioRun := false } }
    |>.set CLK_STAT.LOCKED 0 |>.set CLK_STAT.HOLDOVER 1 |>.set CTM_STAT.FREE 1 |>.set CLK_STAT.SSC_SEEN 0
    |>.when (!s.refFitted) (fun t => t.set CLK_STAT.NO_LOCAL_REF 1)
    |>.raise EV.lineageLost |>.farEnds

/-- The spoke begins to follow its recovered clock through the rejoin elastic path (Table 02.3 step 1, R507). -/
def State.beginRejoin (s : State) : State :=
  { s with clk := { s.clk with rejoin := s.flag CLK_STAT.HOLDOVER, relocked := false, slew := true } }
    |>.set CLK_STAT.SLIP 1

/-- The saturating count of seal-fill slots dropped or repeated on port n. -/
def slipCnt (n : Nat) : Fld :=
  if n = 0 then CLK_SLIP_CNT.PORT0 else if n = 1 then CLK_SLIP_CNT.PORT1 else
  if n = 2 then CLK_SLIP_CNT.PORT2 else CLK_SLIP_CNT.PORT3

-- Training (chapter 03) ----------------------------------------------------------------------------------------------

/-- PRE and POST of a preset: class codes 0 to 3, 4 for CP (Table 03.4). -/
def presetTaps (c : Nat) : Nat × Nat :=
  match c with
  | 0 => (0, 4)
  | 1 => (2, 8)
  | 2 => (4, 12)
  | 3 => (6, 16)
  | _ => (0, 8)

/-- The preset of port n: CP in compatibility mode, the partner's class, or C2 (R66, R73). -/
def State.presetOf (s : State) (n : Nat) : Nat :=
  if s.flag (WLT_PCS_STAT.COMPAT n) then 4
  else if s.flag (WLT_PCS_STAT.CLASS_KNOWN n) then s.get (WLT_PCS_STAT.PARTNER_CLASS n) else 2

/-- The taps lane k of port n uses (R66, R67): the preset, or the override held to its range. -/
def State.tapsOf (s : State) (n k : Nat) : Nat × Nat :=
  if s.flag (WLT_LANE_CTRL.TX_OVR n k) then
    (min (s.get (WLT_LANE_CTRL.PRE n k)) 10, min (s.get (WLT_LANE_CTRL.POST n k)) 20)
  else presetTaps (s.presetOf n)

def State.applyTaps (s : State) (n k : Nat) : State :=
  s.set (WLT_LANE_STAT.PRE_USED n k) (s.tapsOf n k).1 |>.set (WLT_LANE_STAT.POST_USED n k) (s.tapsOf n k).2

/-- CLAMPED of lane k as the override stands (R67). -/
def State.showClamp (s : State) (n k : Nat) : State :=
  s.setFlag (WLT_LANE_STAT.CLAMPED n k) (s.flag (WLT_LANE_CTRL.TX_OVR n k) &&
    (decide (10 < s.get (WLT_LANE_CTRL.PRE n k)) || decide (20 < s.get (WLT_LANE_CTRL.POST n k))))

/-- Block lock of lane k, in the port's and the lane's register. -/
def State.setLock (s : State) (n k : Nat) (b : Bool) : State :=
  s.setBitOf (WLT_PCS_STAT.BLOCK_LOCK n) k b |>.setFlag (WLT_LANE_STAT.BLOCK_LOCK n k) b

/-- A running eye scan of lane k ends early (R85). -/
def State.eyeAbort (s : State) (n : Nat) (k : Nat) : State :=
  if s.flag (WLT_EYE_STAT.BUSY n) && s.get (WLT_EYE_CTRL.LANE n) == k then
    s.set (WLT_EYE_STAT.BUSY n) 0 |>.set (WLT_EYE_STAT.DONE n) 1 |>.set (WLT_EYE_STAT.ABORT n) 1
      |>.raise (EV.eyeDone n)
  else s

/-- The lanes of port n hold nothing: no lock, no masks, no deskew, nothing adapted; a scan ends (R85). -/
def State.clearLanes (s : State) (n : Nat) : State :=
  let s1 := laneList.foldl (fun t k => ((t.eyeAbort n k).setLock n k false).set (WLT_LANE_STAT.ADAPT_DONE n k) 0) s
  s1.set (WLT_PCS_STAT.RX_MASK n) 0 |>.set (WLT_PCS_STAT.TX_MASK n) 0 |>.set (WLT_PCS_STAT.DESKEWED n) 0

/-- What leaves lane k under TEST (R82, Table 03.9): unscrambled bits without sync headers (R84). -/
def State.testOut (s : State) (n k : Nat) : Emit :=
  let l := s.get (WLT_TEST_CTRL.LOOP n)
  let c := s.get (WLT_TEST_CTRL.PATTERN n)
  let kind := if l = 3 then (if s.flag (WLT_TEST_CTRL.FE_SLIP n) then 3 else 2)
    else if l = 2 ∨ (l = 1 ∧ s.flag (WLT_TEST_CTRL.TX_MUTE n)) ∨ !bit (s.get (WLT_TEST_CTRL.GEN_EN n)) k then 0 else 1
  if kind = 1 then .test n k 1 c (patternBits c (prbsSeed k) 64) (s.flag (WLT_PCS_STAT.COMPAT n))
  else .test n k kind 0 0 (s.flag (WLT_PCS_STAT.COMPAT n))

/-- Lane k's checker sees its own generator: a near-end loop under TEST (R82, Table 03.9). -/
def State.looped (s : State) (n : Nat) : Bool :=
  s.flag (WLT_PCS_CTRL.TEST n) && (s.get (WLT_TEST_CTRL.LOOP n) == 1 || s.get (WLT_TEST_CTRL.LOOP n) == 2)

/-- Lane k's checker starts afresh (R84): its counter clears; in a near-end loop it finds the pattern where the lane's generator runs,
else as the operand says. -/
def State.checkerOn (s : State) (n k : Nat) (sync : Bool) : State :=
  s.set (WLT_PRBS_ERR.ERRORS n k) 0
    |>.setFlag (WLT_PRBS_ERR.SYNC n k) (if s.looped n then bit (s.get (WLT_TEST_CTRL.GEN_EN n)) k else sync)

/-- In a near-end loop a checker that is on synchronises itself once the lane's generator runs (R82, R84). -/
def State.checkersLoop (s : State) (n : Nat) : State :=
  laneList.foldl (fun t k =>
    if t.looped n && bit (t.get (WLT_TEST_CTRL.CHK_EN n)) k && bit (t.get (WLT_TEST_CTRL.GEN_EN n)) k
    then t.set (WLT_PRBS_ERR.SYNC n k) 1 else t) s

/-- The lanes of a port under TEST send what its controls ask for. -/
def State.showTest (s : State) (n : Nat) : State :=
  let s1 := s.showFarEnd n
  s1.when (s.flag (WLT_PCS_CTRL.TEST n)) fun t => (t.checkersLoop n).emits (laneList.map (t.testOut n))

/-- The port's domain is on (Table 18.1). -/
def State.portOn (s : State) (n : Nat) : Bool := s.domainOn (6 + n)

/-- Port n may send (R14, R25, R28): the Root once its PLL has locked, a spoke's port 0 always, its other ports while it is
rooted. -/
def State.mayTrain (s : State) (n : Nat) : Bool :=
  if s.isRoot then s.clk.everLocked && s.refFitted
  else n == 0 || (s.rooted && !(s.refinLineage && s.flag CLK_STAT.NO_LOCAL_REF))

/-- Training from step 1 (R64, Table 03.5), or in compatibility mode (R73): every enabled lane sends the training pattern
with its preset; PRESET_SEQ counts a change of the taps (R65, R66). COMPAT_ENTERED is raised when the port enters that mode, not at a retraining within it (log entry 80). -/
def State.startTraining (s : State) (n : Port) (compat : Bool) : State :=
  let wasCompat := s.flag (WLT_PCS_STAT.COMPAT n)
  let s1 := (s.clearLanes n).setFlag (WLT_PCS_STAT.COMPAT n) compat |>.set (WLT_PCS_STAT.LANE_STATE n) 0
    |>.set (WLT_PCS_STAT.TRAIN_STATE n) (if compat then 8 else 1)
    |>.when (!compat) fun t => t.set (WLT_PCS_STAT.CLASS_USED n) (t.presetOf n)
  let moved := laneList.any fun k => s1.tapsOf n k != (s1.get (WLT_LANE_STAT.PRE_USED n k), s1.get (WLT_LANE_STAT.POST_USED n k))
  let s2 := laneList.foldl (fun t k => t.applyTaps n k) s1
  let s3 := (s2.modLane n fun l =>
    { l with ready := 0, sentState := 1, rcvState := 0, rcvMask := 0, resolved := 0, compatLock := 0,
             tackSending := false, tackLatched := false, sleepEntering := false, fails := [], nums := [4, 4, 4, 4],
             presetSeq := if moved && !compat then (l.presetSeq + 1) % 16 else l.presetSeq,
             presetAt := 0, framed := 0, hist := [], enabled := s.get (WLT_PCS_CTRL.LANE_EN n), narrow := none })
    |>.when (compat && !wasCompat) (fun t => t.raise (EV.compatEntered n))
  let en := s.get (WLT_PCS_CTRL.LANE_EN n)
  if compat then (lanesIn en).foldl (fun t k => t.sendSymbols n k (trainSequence k)) s3
  else s3.startPattern n en

/-- A port that should train does, natively or in compatibility mode, when it is attached, powered, out of test and may
send (R64, R70, R73, R82). -/
def State.bringUp (s : State) (n : Port) : State :=
  if (s.lane n).attach && s.portOn n && s.mayTrain n && !s.flag (WLT_PCS_CTRL.TEST n) then
    s.startTraining n (s.flag (WLT_PCS_CTRL.FORCE_COMPAT n) || (s.lane n).partnerV1)
  else s

/-- All ports that are OFF are brought up (R14, R28). -/
def State.bringUpOff (s : State) : State :=
  ([0, 1, 2, 3] : List Port).foldl (fun t (n : Port) =>
    if t.get (WLT_PCS_STAT.TRAIN_STATE n) = 0 then t.bringUp n else t) s

/-- Every lane of port n is turned off (R70). -/
def State.lanesOff (s : State) (n : Port) : State :=
  (s.clearLanes n).set (WLT_PCS_STAT.TRAIN_STATE n) 0 |>.set (WLT_PCS_STAT.LANE_STATE n) 3
    |>.set (WLT_PCS_STAT.COMPAT n) 0
    |>.modLane n fun l => { l with ready := 0, sentState := 0, rcvState := 0, compatLock := 0 }

-- Links (chapter 04) -------------------------------------------------------------------------------------------------

/-- Features in use, Table 04.7. -/
def State.feature (s : State) (n b : Nat) : Bool := bit (s.get (WLT_LINK_STAT.FEATURES n)) b

/-- The link protocol starts afresh at GO (R105, R112): numbers from zero, buffers empty; what the session hold compares is
kept. -/
def LinkPort.fresh (l : LinkPort) : LinkPort :=
  { LinkPort.reset with
    prevIdent := l.prevIdent, prevFar := l.prevFar, prevResume := l.prevResume, capInTime := l.capInTime, capAt := l.capAt,
    noResume := l.noResume }

/-- Pending slots of port n's units are WASTED at once (R468). -/
def State.wastePending (s : State) (n : Nat) : State :=
  let s1 := s.decideSlots (unitTx n) 1 (s.cnt.pend.getD (unitTx n) 0)
  s1.decideSlots (unitRx n) 1 (s1.cnt.pend.getD (unitRx n) 0)

/-- What a lost link takes with it: packets it was sending, and undecided packets it brought, which nothing clears any
more (R106, R117). -/
def State.losePackets (s : State) (n : Port) : State :=
  let gone := s.flows.admitted.filter fun (p : FlowPkt) => p.outAtt == n.val && (p.begun || p.ctx == 2048)
  let recs := (s.link n).outs
  let s1 := gone.foldl (State.leave · true)
    { s with flows := { s.flows with waiting := s.flows.waiting.filter fun (p : FlowPkt) => !(p.ctx == 2048 && p.outAtt == n.val) } }
  let s2 := recs.foldl (fun t r =>
    (t.decideSlots (unitOut n) (b2n (r.bad || !r.decided)) r.held).decideSlots (unitIn r.inAtt) 1 r.heldIn) s1
  let s3 := s2.modLink n fun l => { l with outs := [] }
  let open_ := ((s3.flows.waiting ++ s3.flows.admitted).filter fun (p : FlowPkt) => p.inAtt == n.val && !p.decided).map FlowPkt.lpn
    ++ ((s3.links.toList.flatMap LinkPort.outs).filter fun r => r.inAtt == n.val && !r.decided).map OutRec.inLpn
  (open_.eraseDups.foldl (fun t k => t.decidePacket n k true) s3).dropPoisoned

/-- SESSION_EXPIRED of port n (R126, R148): its flows are torn down. -/
def State.expireSession (s : State) (n : Port) : State :=
  (((s.set (WLT_LINK_STAT.HELD n) 0).raise (EV.sessionExpired n)).tearPort n).modLink n fun l =>
    { l with capInTime := false }

/-- The parts of a link's loss that do not train again (R117, R125): LINK_DOWN with its reason, replay buffer and pending
slots gone, flows HELD with RESUME in use, else torn down at once. -/
def State.dropLink (s : State) (n : Port) (reason : DownReason) : State :=
  let resume := s.feature n 5
  let s1 := (s.wastePending n).losePackets n |>.set (WLT_LINK_STAT.ADMITTED n) 0
    |>.set (WLT_LINK_STAT.DOWN_REASON n) reason |>.set (WLT_LINK_STAT.ENC n) 0
    |>.set (WLT_LINK_STAT.WIDTH_TX n) 0 |>.set (WLT_LINK_STAT.WIDTH_RX n) 0
    |>.set (WLT_REPLAY_STAT.STORED n) 0
    |>.resetFlds [SLOT0.VALID (5 + n), SLOT0.TYPE (5 + n), SLOT0.MASTERS (5 + n), SLOT0.LCS (5 + n), SLOT0.USES (5 + n)]
    |>.modLink n (fun l => { l.fresh with prevResume := resume, capInTime := false })
    |>.raise (EV.linkDown n)
  let s2 := if resume then (s1.holdPort n).set (WLT_LINK_STAT.HELD n) 1 else s1.expireSession n
  let s3 := if s.facesUp n then
      ({ s2 with chain := { s2.chain with hold0 := true } }).when (s2.clk.rejoin || s2.time.pend.isSome)
        State.abandonRejoin |>.set CLK_STAT.SLIP 0
    else s2.setBitOf CLK_STAT.PORT_SLIP n false
  (s3.rescalePort n).report n false

/-- A port under TEST: out of service, nothing trained (R82). A compatibility port, or one that would train as such, is tested at 8.0
Gbaud (R73, R76). -/
def State.testState (s : State) (n : Port) : State :=
  let compat := s.flag (WLT_PCS_STAT.COMPAT n) || s.flag (WLT_PCS_CTRL.FORCE_COMPAT n) || (s.lane n).partnerV1
  ((s.lanesOff n).set (WLT_PCS_STAT.TRAIN_STATE n) 10 |>.set (WLT_PCS_STAT.LANE_STATE n) 0
    |>.setFlag (WLT_PCS_STAT.COMPAT n) compat).showTest n

/-- An admission that fails ends the hold that its CAP kept (R126). -/
def State.failHeld (s : State) (n : Port) : State :=
  s.when (s.flag (WLT_LINK_STAT.HELD n) && (s.link n).capInTime) fun t => t.expireSession n

/-- A link goes down (R117), or an admission fails, at which held flows expire (R126). Then the port trains again while it is
attached, except after DETACH and while TEST is set; after VERSION in compatibility mode (R114). -/
def State.linkDown (s : State) (n : Port) (reason : DownReason) : State :=
  let s1 := if s.flag (WLT_LINK_STAT.ADMITTED n) then s.dropLink n reason
    else ((s.set (WLT_LINK_STAT.DOWN_REASON n) reason).failHeld n).modLink n LinkPort.fresh
  if reason = 1 then s1.lanesOff n
  else if s1.flag (WLT_PCS_CTRL.TEST n) then s1.testState n
  else if reason = 5 then (if (s1.lane n).attach then s1.startTraining n true else s1.lanesOff n)
  else if (s1.lane n).attach && s1.portOn n && s1.mayTrain n then s1.bringUp n else s1.lanesOff n

/-- A spoke that is no longer rooted sends no lineage: its downstream ports turn off, admitted links going down with reason
LANES (R14, log entry 67). -/
def State.gateDown (s : State) : State :=
  if s.isRoot || s.rooted then s else
  ([1, 2, 3] : List Port).foldl (fun t (n : Port) =>
    if t.get (WLT_PCS_STAT.TRAIN_STATE n) = 0 ∨ t.get (WLT_PCS_STAT.TRAIN_STATE n) = 10 then t else t.linkDown n 2) s

end Sys2Proof.Machine
end

