-- ==== Sys2Proof/Machine/Clock.lean ====
section
/-!
DEFINITION. Sys2Proof/Machine/Clock.lean: the commands of chapter 02: REFIN, spread, holdover, rejoin, time messages and
captures. The steps of chain time themselves stand in Steps.lean.
-/
namespace Sys2Proof.Machine

/-- The Root's PLL locks for the first time: chain time starts and the ports come up (R28, R41). -/
def State.rootLock (s : State) : State :=
  (({ s with clk := { s.clk with pll := .refin, everLocked := true } }).set CLK_STAT.LOCKED 1).farEnds.startTime.bringUpOff

/-- REFIN has become present (R28, R29, R505). -/
def execRefinPresent (s : State) : Out :=
  if !s.refFitted then .next s else
  let s1 := ({ s with clk := { s.clk with refin := true } }).set CLK_STAT.REF_LOST 0 |>.set CLK_STAT.NO_LOCAL_REF 0
  .next <|
    if s.isRoot then
      if !s.clk.everLocked then s1.rootLock
      else if s.clk.pll = .held then { s1 with clk := { s1.clk with pll := .refin, slew := true } } else s1
    else if s.refinLineage && s.clk.pll == .off then
      (({ s1 with clk := { s1.clk with pll := .refin, everLocked := true } }).startTime).bringUpOff
    else if s.clk.pll = .held then
      { s1 with clk := { s1.clk with pll := if s.refinLineage then .refin else s1.holdMode, slew := true } }
    else { s1 with clk := { s1.clk with ratioRun := s.flag CLK_STAT.LOCKED } }

/-- The Root has lost REFIN (R29). -/
def execRefinLoss (s : State) : Out :=
  if !s.isRoot then .next s else
  let s1 := { s with clk := { s.clk with refin := false } }
  .next <|
    if s.clk.everLocked && s.clk.refin then
      ({ s1 with clk := { s1.clk with pll := .held, slew := false } }).set CLK_STAT.LOCKED 0
        |>.set CLK_STAT.REF_LOST 1 |>.set CTM_STAT.FREE 1 |>.raise EV.lineageLost |>.farEnds
    else s1

/-- A spoke has lost its fitted REFIN (R505). -/
def execSpokeRefinLoss (s : State) : Out :=
  if s.isRoot || !s.refFitted then .next s else
  let s1 := ({ s with clk := { s.clk with refin := false } }).set CLK_STAT.REF_LOST 1
    |>.set CLK_STAT.NO_LOCAL_REF 1 |>.raise EV.noLocalRef
  .next <|
    if s.flag CLK_STAT.LOCKED then
      ({ s1 with clk := { s1.clk with ratioRun := false } }).set CLK_STAT.RATIO_VALID 0
    else if s.flag CLK_STAT.HOLDOVER || s.refinLineage then
      { s1 with clk := { s1.clk with pll := .held, slew := false } }
    else s1

/-- The slew back to REFIN has ended (R29): the Root is locked and FREE clears. -/
def execLineageSlewDone (s : State) : Out :=
  if !s.clk.slew then .next s else
  let s1 := { s with clk := { s.clk with slew := false } }
  .next (if s.isRoot then s1.set CLK_STAT.LOCKED 1 |>.set CTM_STAT.FREE 0 |>.farEnds else s1)

/-- Every Welt port is OFF (R30). -/
def State.allOff (s : State) : Bool := [0, 1, 2, 3].all fun n => s.get (WLT_PCS_STAT.TRAIN_STATE n) == 0

/-- A write of SSC_EN by the Root's software (R30): the modulator follows only while every port is OFF. A spoke ignores
it. -/
def State.writeSsc (s : State) (v : Bool) : State :=
  if s.isRoot then
    let s1 := s.setRwl 0x02 CLK_CTRL.SSC_EN (b2n v)
    if s1.allOff then s1.set CLK_STAT.SSC_ACTIVE (s1.get CLK_CTRL.SSC_EN) else s1
  else s

def execSscEnWrite (v : Bool) (s : State) : Out := .next (s.writeSsc v)

/-- All four ports have become OFF: the modulator takes SSC_EN's value (R30). -/
def execSscApply (s : State) : Out :=
  .next (if s.isRoot && s.allOff then s.set CLK_STAT.SSC_ACTIVE (s.get CLK_CTRL.SSC_EN) else s)

/-- The receive active set of port n (R69): after a lane's failure the one its NAK asks for (R118). -/
def State.rxActive (s : State) (n : Port) : Nat := (s.lane n).narrow.elim (s.get (WLT_PCS_STAT.RX_MASK n)) activeSet

/-- The port has not reached GO, in training or in its way out of Sleep (Tables 03.5 and 03.8). -/
def State.beforeGo (s : State) (n : Nat) : Bool :=
  let st := s.get (WLT_PCS_STAT.TRAIN_STATE n)
  st != 4 && st != 5 && st != 9

/-- Upstream lane k counts under R31: any lane before GO, those of the receive active set from GO on. -/
def State.laneCounts (s : State) (k : Nat) : Bool := s.beforeGo 0 || bit (s.rxActive 0) k

/-- Some counted upstream lane holds block lock. -/
def State.upstreamLocked (s : State) : Bool :=
  laneList.any fun k => s.laneCounts k && s.flag (WLT_LANE_STAT.BLOCK_LOCK 0 k)

/-- The recovered clock comes from the lowest counted lane with block lock before GO, and moves to it from GO on when its own
has gone (R31). -/
def State.moveRclk (s : State) : State :=
  let ok k := s.laneCounts k && s.flag (WLT_LANE_STAT.BLOCK_LOCK 0 k)
  if s.isRoot || (!s.beforeGo 0 && ok (s.get CLK_STAT.RCLK_LANE)) then s else
  match laneList.find? ok with
  | some k => s.set CLK_STAT.RCLK_LANE k
  | none => s

/-- No counted upstream RX lane holds block lock (R33). With `above` the link of a hub above is the one lost: a step still
pending is cleared and not applied (R40, log entry 69). -/
def execHoldoverEntry (above : Bool) (s : State) : Out :=
  .next (if above then s.dropStep
    else if !s.isRoot && (s.flag CLK_STAT.LOCKED || s.clk.rejoin) && !s.upstreamLocked then s.enterHoldover.gateDown else s)

/-- A write of FORCE_HOLD (R33, CLK_CTRL): a spoke goes into holdover, or begins its rejoin over an admitted link. -/
def State.writeForceHold (s : State) (v : Bool) : State :=
  let s1 := s.setFlag CLK_CTRL.FORCE_HOLD v
  if s.isRoot then s1
  else if v then (if s.flag CLK_STAT.LOCKED || s.clk.rejoin then s1.enterHoldover.gateDown else s1)
  else if s.flag CLK_CTRL.FORCE_HOLD && s.flag CLK_STAT.HOLDOVER && s.flag (WLT_LINK_STAT.ADMITTED 0)
    && !s.flag (WLT_PCS_STAT.COMPAT 0) then s1.beginRejoin.rescalePort 0
  else s1

def execForceHoldWrite (v : Bool) (s : State) : Out := .next (s.writeForceHold v)

/-- 64 ms of locked measurement have passed (R34): the ratio in units of 0.01 ppm. -/
def execRatioValidSet (ppm : Int) (s : State) : Out :=
  .next (if !s.isRoot && s.flag CLK_STAT.LOCKED && s.refFitted && s.clk.refin && s.clk.ratioRun then
    s.set CLK_HOLD_RATIO.PPM_X100 (ofInt 32 ppm) |>.set CLK_STAT.RATIO_VALID 1 else s)

/-- The spoke's PLL locks to its recovered clock (Table 02.3 step 2, R507); spread says whether the upstream port carries
it. At the first lock chain time starts at 0, not VALID (R42). A spoke that is now rooted brings its ports up (R14). -/
def execLineagePllLock (spread : Bool) (s : State) : Out :=
  if s.isRoot || s.refinLineage || !s.flag (WLT_LINK_STAT.ADMITTED 0) || s.flag CLK_CTRL.FORCE_HOLD
    || s.flag CLK_STAT.LOCKED then .next s else
  let s1 := ({ s with clk := { s.clk with pll := .upstream, slew := false, relocked := true, everLocked := true,
                                            ratioRun := s.refFitted && s.clk.refin } }).set CLK_STAT.LOCKED 1
    |>.setFlag CLK_STAT.SSC_SEEN spread |>.farEnds
  .next (if s.clk.everLocked then s1 else s1.startTime).bringUpOff

/-- A port's elastic paths are bypassed (R38, Table 02.3 step 3): the parent's PORT_SLIP clears, or the child's SLIP and
HOLDOVER clear, LINEAGE_LOCKED is raised and its eight exchanges begin; the wheels take their size without seal-fill. -/
def execLineageLocked (n : Port) (s : State) : Out :=
  if s.facesUp n then
    if !(s.clk.relocked && s.flag CLK_STAT.LOCKED) then .next s else
    .next <| (({ s with clk := { s.clk with relocked := false },
                        time := { s.time with align := some 0, offs := [], dels := [], waiting := none } }).set CLK_STAT.SLIP 0
      |>.set CLK_STAT.HOLDOVER 0 |>.raise EV.lineageLocked).rescalePort n
  else .next ((s.setBitOf CLK_STAT.PORT_SLIP n false).rescalePort n)

/-- The stamp of a time message on port n: whole ticks for the coarse messages of a 1.x link (R24, log entry 75). -/
def State.stampAt (s : State) (n : Nat) : Stamp :=
  if s.flag (WLT_PCS_STAT.COMPAT n) then ⟨s.time.ticks, 0⟩ else s.stamp

/-- The child of an admitted upstream link exchanges time messages once its lineage is locked and its elastic path bypassed, from
step 4 of Table 02.3 on, or on its own REFIN below a UH3200 (R24, log entry 75). -/
def State.mayExchange (s : State) : Bool :=
  !s.isRoot && s.flag (WLT_LINK_STAT.ADMITTED 0)
    && (if s.refinLineage then s.time.run else s.flag CLK_STAT.LOCKED && !s.clk.relocked)

/-- The exchange interval of a child is over (R43): DELAY_REQ goes out. T3 is its departure (R163), which a packet has when its
header slot leaves, and a coarse message at once. -/
def execDelayReqTimer (s : State) : Out :=
  if !s.mayExchange then .next s else
  let e := (s.time.exch + 1) % 65536
  let t := s.stampAt 0
  .next <| ({ s with time := { s.time with
    exch := e, waiting := if s.flag (WLT_PCS_STAT.COMPAT 0) then some t else none } }).timeOut 0 0 (leBytes 2 e ++ t.bytes)

/-- A parent has received DELAY_REQ on port n (R43, R163), in no failed flight (R90): while its chain time is VALID it answers with T4, its arrival,
and T1, the answer's departure. -/
def execDelayReqRx (n : Port) (exch : Nat) (s : State) : Out :=
  if (s.link n).flightBad then .next s else
  let s1 := s.freeTime n
  .next (if s.flag CTM_STAT.VALID && !s.facesUp n then
    s1.timeOut n 1 (leBytes 2 exch ++ (s.stampAt n).bytes ++ (s.stampAt n).bytes) else s1)

/-- A STEP_NOTICE goes to each child (R46, R164). -/
def State.sendNotice (s : State) (n : StepNote) : State :=
  s.downPorts.foldl (fun t p => t.timeOut p 2 n.bytes) s

/-- The spoke names a step of D sub-ticks for its subtree: the apply tick is the fourth epoch boundary of its present
chain time, as Table 02.3 step 5 has it for a rejoin (R44, R46; DESIGN CHOICE for a step in steady state, log entry 105). -/
def State.nameStep (s : State) (d : Int) (freeAfter : Bool) : State :=
  let n : StepNote := ⟨s.time.stepSeqNo % 65536, (s.epochNow + 4) * 51200, d, freeAfter⟩
  let s1 := { s with time := { s.time with pend := some n, stepSeqNo := s.time.stepSeqNo + 1 } }
  (s1.set CTM_STAT.STEP_PENDING 1).sendNotice n

/-- Chain time is set to a number of sub-ticks. -/
def State.setTime (s : State) (z : Int) : State :=
  let v := ofInt 72 z
  { s with time := { s.time with ticks := v / 256 % 2 ^ 64, phase := v % 256 } }

def sumInt (l : List Int) : Int := l.foldl (· + ·) 0

/-- FREE of a spoke (R45): in holdover, with its lineage from REFIN, or while its parent is FREE. -/
def State.freeNow (s : State) (parentFree : Bool) : Bool := s.flag CLK_STAT.HOLDOVER || s.refinLineage || parentFree

/-- One exchange is complete (R43): hop delay d and offset o from the four stamps, averaged once there are eight. -/
def State.exchange (s : State) (t3 t4 t1 t2 : Stamp) : State :=
  let asym := toInt 16 (s.get CTM_ASYM.ASYM)
  let d := ((t4.sub - t1.sub) - (t3.sub - t2.sub)).tdiv 2
  let o := (t2.sub - t1.sub) - d - asym
  let offs := (o :: s.time.offs).take 8
  let dels := (d :: s.time.dels).take 8
  let full := offs.length == 8
  { s with time := { s.time with
      waiting := none, offs := offs, dels := dels, align := s.time.align.map (· + 1),
      avgValid := s.time.avgValid || full, avgO := if full then (sumInt offs).tdiv 8 else s.time.avgO,
      avgD := if full then (sumInt dels).tdiv 8 else s.time.avgD } }

/-- A STEP_NOTICE has arrived from the parent (R164), in no failed flight (R90): the hub's own notice goes to each child. -/
def execStepNoticeRx (n : StepNote) (s : State) : Out :=
  if s.isRoot || (s.link 0).flightBad then .next s else
  let s1 := s.freeTime 0
  .next ((({ s1 with time := { s1.time with pend := some n } }).set CTM_STAT.STEP_PENDING 1).sendNotice n)

/-- The result window of CTM is written whole: status, two words, and the capture's flags (R53, R249). -/
def State.ctmResult (s : State) (tag status lo hi last : Nat) : State :=
  (s.resAccept resCTM).resDone resCTM tag status |>.set (CTM_RES.DATA 0) lo |>.set (CTM_RES.DATA 1) hi
    |>.set (CTM_RES.DATA 2) last

/-- Chain time is captured at this tick (R53). -/
def State.ctmCapture (s : State) (tag : Nat) : State :=
  s.ctmResult tag (if s.flag CTM_STAT.VALID then 0 else 1) s.now32 (s.now / 2 ^ 32)
    (s.time.phase + 256 * s.get CTM_STAT.FREE + 512 * s.get CTM_STAT.FREEZE)

/-- The last averaged hop delay and offset are reported (R53). PHASE is stated for a capture only, and
the words of a failed request not at all: free values (log entry 2). Where two failures fit at once the model answers 3, then 2, then 1
(DESIGN CHOICE, log entry 106). -/
def State.ctmHop (s : State) (tag port : Nat) : State :=
  let status := if s.isRoot || port != 0 then 3 else if !s.flag (WLT_LINK_STAT.ADMITTED 0) then 2
    else if s.time.avgValid && s.flag CTM_STAT.VALID then 0 else 1
  let s1 := s.useFree.useFree.useFree
  let last := s.free % 256 + 256 * s.get CTM_STAT.FREE + 512 * s.get CTM_STAT.FREEZE
  if status = 0 then s1.ctmResult tag 0 (ofInt 32 s.time.avgD) (ofInt 32 s.time.avgO) last
  else s1.ctmResult tag status s.useFree.free s.useFree.useFree.free last

def execCtmCapture (tag : Nat) (s : State) : Out := .next (s.ctmCapture tag)
def execCtmHopReport (tag port : Nat) (s : State) : Out := .next (s.ctmHop tag port)

end Sys2Proof.Machine
end

