-- ==== Sys2Proof/Machine/LinkOps.lean ====
section
/-!
DEFINITION. Sys2Proof/Machine/LinkOps.lean: link messages, the capability message a port sends, and the start of flights at
GO (R91, R112, Table 04.6).
-/
namespace Sys2Proof.Machine

/-- A link message waits to be sent: its segments as link slots, or one MSG frame per segment on a 1.x link (R91, R133). -/
def State.sendMsg (s : State) (n : Port) (msg segs : Nat) (d : List Byte) : State :=
  if s.flag (WLT_PCS_STAT.COMPAT n) then
    (msgSlots msg segs d).foldl (fun t b => t.sendFrame n (Frame1x.build 4 0 0 (byteSlice b 2 28))) s
  else s.modLink n fun l =>
    { l with txq := l.txq ++ (msgSlots msg segs d).map fun b => ⟨b, 4, 0, false, false⟩ }

/-- The initial credit of each class: the ingress partition in slots, at most 32,767 (R150). -/
def State.initCreds (s : State) (n : Nat) : List Nat := (List.range 4).map fun c => min (s.partSlots n 0 c) 32767

/-- The CAP message of this port (Table 04.6): RESUME is not advertised at the first admission after Hold or Shelf (R404), nor ENC
without a root key (Table 15.2). -/
def State.ownCap (s : State) (n : Port) : Cap :=
  { majorMax := 2, majorMin := 1, minor := 1, upFacing := s.facesUp n, rooted := s.rooted,
    encWanted := s.flag (WLT_ENC_CTRL.ENC_EN n), encMandatory := s.flag (WLT_ENC_STAT.MANDATORY n),
    cls := s.get (WLT_CABLE.CLASS n), classKnown := s.flag (WLT_CABLE.CLASS_SET n), rxMask := (s.lane n).ready,
    hubId := s.hubId, depth := s.get CHIP_ROLE.DEPTH,
    features := 0xFF - (if (s.link n).noResume then 0x20 else 0) - (if s.sec.root.isNone then 0x80 else 0), ident := s.hubIdent,
    initCred := s.initCreds n, part := 0x9640 }

/-- The link starts afresh and CAP goes out first (R112). -/
def State.startLink (s : State) (n : Port) : State :=
  let c := s.ownCap n
  ((s.modLink n fun l => { l.fresh with initCred := c.initCred, capSent := true, ownCap := c.bytes }).set (WLT_REPLAY_STAT.STORED n) 0).set
    (WLT_REPLAY_STAT.RPL_ID n) 0 |>.sendMsg n 1 2 c.bytes

/-- The receive direction uses the ready lanes of a mask (R61, R69): RX_MASK, WIDTH_RX. -/
def State.useRxMask (s : State) (n : Port) (m : Nat) : State :=
  let a := activeSet m
  s.set (WLT_PCS_STAT.RX_MASK n) a |>.set (WLT_LINK_STAT.WIDTH_RX n) (widthCode (popCount 4 a))
    |>.modLane n fun l => { l with narrow := none }

/-- The receive direction uses all its ready lanes. -/
def State.useRx (s : State) (n : Port) : State := s.useRxMask n (s.lane n).ready

/-- The transmit direction uses the lanes of the partner's mask (R69). Enabled native lanes outside this set carry the training pattern
beside the flights (R120, State.trainOutside). -/
def State.useTx (s : State) (n : Port) : State :=
  let a := activeSet (s.lane n).rcvMask
  s.set (WLT_PCS_STAT.TX_MASK n) a |>.set (WLT_LINK_STAT.WIDTH_TX n) (widthCode (popCount 4 a))

/-- TRAIN_DONE of port n: attempt, error and parking records are cleared (WLTn_PCS_STAT, WLTn_PCS_ERR, R120). -/
def State.trainDone (s : State) (n : Port) : State :=
  s.set (WLT_PCS_STAT.TRAIN_ATTEMPTS n) 0 |>.set (WLT_PCS_ERR.BAD_HDR n) 0 |>.set (WLT_PCS_ERR.LOCK_LOSS n) 0
    |>.set (WLT_PCS_ERR.DESKEW_ERR n) 0 |>.set (WLT_LANE_HEALTH.LANE_PARKED n) 0 |>.raise (EV.trainDone n)

/-- The width of a direction has changed (R119): the event and the rescale of its wheel. -/
def State.widthChanged (s : State) (n : Port) (w : Nat) : State := (s.raise (EV.widthChanged n)).rescale w

/-- A receive lane leaves the ready mask in operation (R118): the flight in progress fails and NAK goes out with the new
mask, which the receiver uses from the first flight of the replay on; with no lane left the link goes down for LANES. A lane that
was not ready changes nothing. -/
def State.degradeRx (s : State) (n : Port) (k : Nat) : State :=
  let s1 := s.modLane n fun l => { l with ready := clrBit l.ready k }
  if !bit (s.rxActive n) k && !bit (s.lane n).ready k then s1
  else if (s1.lane n).ready = 0 then s1.linkDown n 2
  else (s1.modLane n fun l => { l with narrow := some l.ready }).modLink n fun l => { l with flightBad := true, nak := true }

/-- The first flight at the new width (R118, R119): RX_MASK and WIDTH_RX take it, WIDTH_CHANGED when the width changes. -/
def State.reframe (s : State) (n : Port) : State :=
  match (s.lane n).narrow with
  | none => s
  | some m =>
    let s1 := s.useRxMask n m
    if s1.get (WLT_LINK_STAT.WIDTH_RX n) = s.get (WLT_LINK_STAT.WIDTH_RX n) then s1 else s1.widthChanged n (n + 4)

/-- A lane fails in operation (R71, R118, R120): LANE_LOST, and at its third failure within 1 s the lane is parked. -/
def State.laneFail (s : State) (n : Port) (k : Nat) : State :=
  let recent := ((s.lane n).fails.getD k []).filter fun t => decide (s.uptime < t + 400000000)
  let times := (s.uptime :: recent).take 3
  let s1 := s.modLane n fun l =>
    { l with fails := (List.range 4).map fun j => if j = k then times else l.fails.getD j [] }
  let s2 := (s1.raise (EV.laneLost n)).when (decide (3 ≤ times.length)) fun t =>
    t.setBitOf (WLT_LANE_HEALTH.LANE_PARKED n) k true
  s2.degradeRx n k

/-- The training state after RX_READY when a lane drops out before GO (R69); in the exit from Sleep the state stays WAKE (R81). -/
def State.dropReady (s : State) (n : Port) (k : Nat) : State :=
  let s1 := s.modLane n fun l => { l with ready := clrBit l.ready k }
  if (s1.lane n).sentState = 2 then
    if (s1.lane n).ready = 0 then
      (s1.modLane n fun l => { l with sentState := 1 }).when (s.get (WLT_PCS_STAT.TRAIN_STATE n) != 7)
        (fun t => t.set (WLT_PCS_STAT.TRAIN_STATE n) 1) |>.sendAlign n 1
    else s1.sendAlign n 2
  else s1

/-- Lane k of port n loses block lock (R71): its number is to be resolved afresh (R63); in operation it fails, before GO it leaves the
mask; the recovered clock moves (R31) and a scan of the lane ends (R85). -/
def State.loseLock (s : State) (n : Port) (k : Nat) : State :=
  let s1 := (((s.setLock n k false).incSat (WLT_PCS_ERR.LOCK_LOSS n)).eyeAbort n k).modLane n fun l =>
    { l with resolved := clrBit l.resolved k }
  let run := s.get (WLT_PCS_STAT.TRAIN_STATE n)
  let s2 := if run = 4 ∨ run = 5 then s1.laneFail n k else s1.dropReady n k
  if n.val = 0 then s2.moveRclk else s2

end Sys2Proof.Machine
end

