-- ==== Sys2Proof/Machine/Lanes.lean ====
section
/-!
DEFINITION. Sys2Proof/Machine/Lanes.lean: the commands of chapter 03: training, block lock, compatibility training, Hush, Sleep
and Tack, tests and eye scans.
-/
namespace Sys2Proof.Machine

/-- CFG debounce has ended or the port's domain has come up (R64). -/
def execTrainingStart (n : Port) (s : State) : Out :=
  .next (if s.get (WLT_PCS_STAT.TRAIN_STATE n) = 0 then s.bringUp n else s)

/-- A block whose type byte arrives as 0x5A is inverted (R63). -/
def upright (b : AlignBlock) : AlignBlock := if byteAt b 0 = 0x5A then b.map (fun x => ~~~x) else b

/-- The logical lane that physical lane k stands for (R63). -/
def State.mapLane (s : State) (n k : Nat) : Nat := if s.flag (WLT_PCS_STAT.FLIPPED n) then 3 - k else k

/-- Logical lane p is held not ready (R63): its physical lane carries another number, or another lane carries its number too. -/
def State.laneClash (s : State) (n : Port) (p : Nat) : Bool :=
  let nums := (s.lane n).nums
  let own := nums.getD (s.mapLane n p) 4
  own != 4 && (own != p || decide (1 < nums.countP (· == p)))

/-- The lanes of port n that R63 holds not ready leave the resolved and the ready ones. -/
def State.holdClashes (s : State) (n : Port) : State :=
  laneList.foldl (fun t p =>
    if t.laneClash n p && (bit (t.lane n).resolved p || bit (t.lane n).ready p) then
      (t.modLane n fun x => { x with resolved := clrBit x.resolved p }).dropReady n p
    else t) s

/-- An alignment block on physical lane k (R63, R65, R72): ignored when CHECK fails or its TYPE is reserved. skew is the
lane's distance from the earliest lane in UI, as WLTn_LANE_STAT.SKEW has it; beyond 96 the lane counts as a deskew error (DESIGN CHOICE:
R72 measures from the latest lane and speaks of seal slots; which lane is blamed in training is the model's, log entry 109). A change of the partner's PRESET_SEQ
is noted for R68. -/
def execAlignBlockRx (n : Port) (k : Lane) (b : AlignBlock) (skew : Nat) (s : State) : Out :=
  let u := upright b
  let l := byteAt u 1 / 64
  if !alignGood u || byteAt u 0 != 0xA5 then .next s else
  let s1 := (s.modLane n fun x => { x with nums := x.nums.set k l }).holdClashes n
  if s1.laneClash n (s.mapLane n k) then .next s1
  else if 96 < skew then .next ((s1.incSat (WLT_PCS_ERR.DESKEW_ERR n)).loseLock n l)
  else
    let st := byteAt u 2
    let p := byteAt u 3 % 16
    let first := (s.lane n).nums.all (· == 4)
    let s2 := s1.modLane n fun x =>
      { x with resolved := setBit x.resolved l, rcvState := if 1 ≤ st ∧ st ≤ 3 then st else x.rcvState,
               rcvMask := byteAt u 3 / 16, rcvPreset := p, alignSeq := leNat (byteSlice u 4 2),
               presetAt := if !first && p != x.rcvPreset then s.uptime + 1 else x.presetAt }
    .next (s2.set (WLT_LANE_STAT.PHYS n l) k |>.setFlag (WLT_LANE_STAT.POL_INV n l) (decide (byteAt b 0 = 0x5A))
      |>.set (WLT_LANE_STAT.SKEW n l) skew)

/-- Taps in waiting take effect at the next alignment block in training or flight boundary in operation (R66, R67): the
override of lane k, and on all lanes without one a new preset. In training PRESET_SEQ counts the change, and the alignment block
carries it. A class that arrives in RUN changes the taps at a flight boundary, without PRESET_SEQ (DESIGN CHOICE, log entry 93). -/
def execTxOverrideApply (n : Port) (k : Lane) (s : State) : Out :=
  if s.get (WLT_PCS_STAT.TRAIN_STATE n) = 0 then .next s else
  let native := !s.flag (WLT_PCS_STAT.COMPAT n)
  let preset := native && s.get (WLT_PCS_STAT.CLASS_USED n) != s.presetOf n
  let stale (j : Nat) : Bool := s.tapsOf n j != (s.get (WLT_LANE_STAT.PRE_USED n j), s.get (WLT_LANE_STAT.POST_USED n j))
  let moved := laneList.filter fun j => (j == k.val || (preset && !s.flag (WLT_LANE_CTRL.TX_OVR n j))) && stale j
  let s1 := (moved.foldl (fun t j => t.applyTaps n j) s).when native fun t => t.set (WLT_PCS_STAT.CLASS_USED n) (t.presetOf n)
  .next (s1.when (!moved.isEmpty && decide (s.get (WLT_PCS_STAT.TRAIN_STATE n) < 4)) fun t =>
    (t.modLane n fun l => { l with presetSeq := (l.presetSeq + 1) % 16 }).sendAlign n (t.lane n).sentState)

/-- Lane k has adapted: its CTLE setting, frozen until the port trains again (R68), and its DFE value, which no state names: a free
value (log entry 2). -/
def State.adapted (s : State) (n : Port) (ctle k : Nat) : State :=
  (s.useFree.set (WLT_LANE_STAT.CTLE n k) ctle |>.set (WLT_LANE_STAT.ADAPT_DONE n k) 1).modLane n fun l =>
    { l with dfe := l.dfe.set k s.free }

/-- The lanes of a mask are ready (R68, R69): adaptation results, and RX_READY goes out with the mask. -/
def State.sendReady (s : State) (n : Port) (mask : Nat) (ctle : List Nat) : State :=
  let s1 := (lanesIn mask).foldl (fun t k => t.adapted n (ctle.getD k 0) k) s
  ((s1.modLane n fun l => { l with ready := mask, sentState := 2 }).set (WLT_PCS_STAT.DESKEWED n) 1
    |>.set (WLT_PCS_STAT.TRAIN_STATE n) 2).sendAlign n 2

/-- Lanes that may be ready (R68): enabled, locked, resolved and deskewed, and 2 ms have passed since the partner's taps last
changed. That their adaptation has settled and PRBS31 is clean is what the command that names them says. -/
def State.couldBeReady (s : State) (n : Port) : Nat :=
  let at_ := (s.lane n).presetAt
  if at_ ≠ 0 ∧ s.uptime + 1 < at_ + 800000 then 0 else
  laneList.foldl (fun m k =>
    if bit (s.lane n).enabled k && s.flag (WLT_LANE_STAT.BLOCK_LOCK n k) && bit (s.lane n).resolved k
    then setBit m k else m) 0

/-- All enabled receive lanes are ready (R69). -/
def execSendRxReady (n : Port) (ctle : List Nat) (s : State) : Out :=
  let m := (s.lane n).enabled
  .next (if s.get (WLT_PCS_STAT.TRAIN_STATE n) = 1 ∧ m ≠ 0 ∧ s.couldBeReady n = m then s.sendReady n m ctle else s)

/-- 20 ms after training began the lanes of the mask are ready, not all of those enabled (R69). -/
def execPartialReadyTimer (n : Port) (mask : Nat) (ctle : List Nat) (s : State) : Out :=
  let m := mask &&& s.couldBeReady n
  .next (if s.get (WLT_PCS_STAT.TRAIN_STATE n) = 1 ∧ m ≠ 0 then s.sendReady n m ctle else s)

/-- The partner has sent RX_READY with lanes (R69). -/
def LanePort.partnerReady (l : LanePort) : Bool := decide (2 ≤ l.rcvState) && l.rcvMask % 16 != 0

/-- GO leaves, and each direction takes its lanes; framing starts (R60, R69). -/
def State.go (s : State) (n : Port) : State :=
  let s1 := (s.modLane n fun x => { x with sentState := 3, framed := 0, hist := [] }).sendAlign n 3
  (s1.useRx n).useTx n |>.set (WLT_PCS_STAT.TRAIN_STATE n) 4

/-- GO after Sleep (R81, R124, Table 03.8): the port runs again without a new admission; the slip FIFO and the elastic path are in
use, and the child's rejoin goes on. -/
def State.sleepGo (s : State) (n : Port) : State :=
  let old := (s.get (WLT_LINK_STAT.WIDTH_RX n), s.get (WLT_LINK_STAT.WIDTH_TX n))
  let s2 := ((s.go n).modLane n fun l => { l with tackSending := false }).set (WLT_PCS_STAT.LANE_STATE n) 0
  let s3 := if s.facesUp n then s2.moveRclk.beginRejoin else s2
  let s4 := if old = (s3.get (WLT_LINK_STAT.WIDTH_RX n), s3.get (WLT_LINK_STAT.WIDTH_TX n)) then s3
    else s3.raise (EV.widthChanged n)
  s4.rescalePort n

/-- RX_READY was sent and received (R69): GO goes out, each direction takes its width, TRAIN_DONE is raised and the first
flight carries CAP (R112); after Sleep the link goes on. -/
def execSendGo (n : Port) (s : State) : Out :=
  let l := s.lane n
  let st := s.get (WLT_PCS_STAT.TRAIN_STATE n)
  if !l.partnerReady then .next s
  else if st = 2 then
    let s2 := s.go n
    .next (((if n.val = 0 then s2.moveRclk else s2).trainDone n).startLink n)
  else if st = 7 ∧ l.sentState = 2 then .next (s.sleepGo n)
  else .next s

/-- No RX_READY was sent 50 ms after training began (R70). -/
def execTrainTimeout (n : Port) (s : State) : Out :=
  .next (if s.get (WLT_PCS_STAT.TRAIN_STATE n) = 1 ∧ (s.lane n).attach then
    ((s.raise (EV.trainTimeout n)).incSat (WLT_PCS_STAT.TRAIN_ATTEMPTS n)).startTraining n false else s)

/-- A lane has seen 64 valid headers (R71), or in compatibility training four commas at one alignment: symbol lock (R74). -/
def execBlockLockAcquired (n : Port) (k : Lane) (s : State) : Out :=
  let st := s.get (WLT_PCS_STAT.TRAIN_STATE n)
  if (1 ≤ st ∧ st ≤ 8 ∨ st = 10) ∧ bit (s.lane n).enabled k then
    let s1 := s.setLock n k true
    .next (if n.val = 0 ∧ st ≠ 8 then s1.moveRclk else s1)
  else .next s

/-- 16 of a lane's last 64 headers were invalid (R71); bad is how many invalid headers the PCS has counted. -/
def execBlockLockLost (n : Port) (k : Lane) (bad : Nat) (s : State) : Out :=
  .next (if s.flag (WLT_LANE_STAT.BLOCK_LOCK n k) then (s.incSat (WLT_PCS_ERR.BAD_HDR n) bad).loseLock n k else s)

/-- The partner speaks contract version 1, or FORCE_COMPAT is set: the port trains in compatibility mode (R73). -/
def execCompatEntry (n : Port) (s : State) : Out :=
  .next (if (s.lane n).attach && s.portOn n && decide (s.get (WLT_PCS_STAT.TRAIN_STATE n) < 4)
      && ((s.lane n).partnerV1 || s.flag (WLT_PCS_CTRL.FORCE_COMPAT n)) then s.startTraining n true else s)

/-- A compatibility lane has lane lock (R74); with all enabled lanes the port runs at their width and sends CAP. -/
def execCompatLaneLock (n : Port) (k : Lane) (s : State) : Out :=
  if s.get (WLT_PCS_STAT.TRAIN_STATE n) ≠ 8 then .next s else
  let s1 := (s.setLock n k true).modLane n fun l => { l with compatLock := setBit l.compatLock k }
  let en := (s.lane n).enabled
  if (s1.lane n).compatLock &&& en = en then
    let s2 := s1.modLane n fun l => { l with ready := en, rcvMask := en }
    .next (((s2.useRx n).useTx n |>.set (WLT_PCS_STAT.TRAIN_STATE n) 9 |>.set (WLT_PCS_STAT.DESKEWED n) 1).trainDone n |>.startLink n)
  else .next s1

/-- A compatibility lane has lost lock (R74, R134): the link goes down for LANES. -/
def execCompatLockLoss (n : Port) (k : Lane) (s : State) : Out :=
  let st := s.get (WLT_PCS_STAT.TRAIN_STATE n)
  if st = 8 ∨ st = 9 then
    let s1 := ((s.setLock n k false).incSat (WLT_PCS_ERR.LOCK_LOSS n)).eyeAbort n k |>.modLane n fun l =>
      { l with compatLock := clrBit l.compatLock k }
    .next (if st = 9 then s1.linkDown n 2 else s1)
  else .next s

/-- A skip set on each compatibility lane (R75). -/
def execSkipSetSend (n : Port) (s : State) : Out :=
  let st := s.get (WLT_PCS_STAT.TRAIN_STATE n)
  .next (if st = 8 ∨ st = 9 then (lanesIn (s.lane n).enabled).foldl (fun t k => t.sendSymbols n k skipSet) s else s)

/-- Hush begins at the agreed boundary (R77): the child's transmitter goes idle; a scan of the parent's receive lanes
ends. -/
def execHushEntry (n : Port) (s : State) : Out :=
  match (s.link n).agreed with
  | some (1, _) =>
    let s1 := (s.set (WLT_PCS_STAT.TRAIN_STATE n) 5).set (WLT_PCS_STAT.LANE_STATE n) 1
    .next (if s.facesUp n then s1 else laneList.foldl (fun t k => t.eyeAbort n k) s1)
  | _ => .next s

/-- The child leaves Hush (R77, R122): a run of 24 to 55 WAKE blocks on each active lane, to the flight boundary, then flights; ALIGN_SEQ
steps with each. How long the run is no state names: a free value (log entry 2). -/
def State.hushExit (s : State) (n : Port) : State :=
  if s.get (WLT_PCS_STAT.TRAIN_STATE n) = 5 ∧ s.facesUp n then
    (List.range (24 + s.free % 32)).foldl
        (fun (t : State) _ => t.sendAlignOn n (s.get (WLT_PCS_STAT.TX_MASK n)) 0x96 (s.lane n).sentState)
        ((s.useFree.set (WLT_PCS_STAT.TRAIN_STATE n) 4).set (WLT_PCS_STAT.LANE_STATE n) 0)
      |>.modLink n fun l => { l with agreed := none, hushOwes := false, idleFlights := 0, lstateTx := 0, hushLapse := 0 }
  else s

def execHushExit (n : Port) (s : State) : Out := .next (s.hushExit n)

/-- A WAKE run has ended at the parent (R77): good holds the active lanes whose last 8 blocks were valid; the others count
as having lost block lock. -/
def execWakeBlocksRx (n : Port) (good : Nat) (s : State) : Out :=
  if s.get (WLT_PCS_STAT.TRAIN_STATE n) = 5 then
    let s1 := (s.set (WLT_PCS_STAT.TRAIN_STATE n) 4).set (WLT_PCS_STAT.LANE_STATE n) 0
      |>.modLink n fun l => { l with agreed := none }
    .next (laneList.foldl (fun t k =>
      if bit (s.get (WLT_PCS_STAT.RX_MASK n)) k && !bit good k then t.loseLock n k else t) s1)
  else .next s

/-- The stored taps and CTLE of lane k are loaded; its DFE value has stayed where it was (R78, Table 03.8 step 4). -/
def State.loadStored (s : State) (n : Port) (k : Nat) : State :=
  match (s.lane n).stored[k]? with
  | some [pre, post, ctle] =>
    s.set (WLT_LANE_STAT.PRE_USED n k) pre |>.set (WLT_LANE_STAT.POST_USED n k) post |>.set (WLT_LANE_STAT.CTLE n k) ctle
  | _ => s

/-- A reason to leave Sleep (R79, Table 03.8): the lanes' PLLs start, and the training pattern goes out with the stored taps, the
receivers take their stored settings, and a parent's slip FIFO is in use. Lock, numbers and polarity are found afresh. -/
def State.wakeLanes (s : State) (n : Port) : State :=
  let s1 := ((laneList.foldl (fun t k => t.loadStored n k) s).set (WLT_PCS_STAT.TRAIN_STATE n) 7).modLane n fun l =>
    { l with sentState := 1, rcvState := 0, rcvMask := 0, ready := 0, resolved := 0, nums := [4, 4, 4, 4], presetAt := 0 }
  (s1.when (!s.facesUp n) fun t => t.setBitOf CLK_STAT.PORT_SLIP n true).startPattern n (s.lane n).enabled

/-- Sleep begins at the agreed boundary (R78): settings stored, lanes idle; the child's recovered clock is gone and it goes
into holdover; dfe holds what each lane's DFE has adapted to, unless DFE_FREEZE has held it (R68). A Tack latched meanwhile starts the exit (R80). -/
def execSleepEntry (n : Port) (dfe : List Nat) (s : State) : Out :=
  match (s.link n).agreed with
  | some (2, _) =>
    let kept := laneList.map fun k =>
      [s.get (WLT_LANE_STAT.PRE_USED n k), s.get (WLT_LANE_STAT.POST_USED n k), s.get (WLT_LANE_STAT.CTLE n k)]
    let s1 := laneList.foldl (fun t k => (t.eyeAbort n k).setLock n k false) s
    let s2 := (s1.set (WLT_PCS_STAT.TRAIN_STATE n) 6).set (WLT_PCS_STAT.LANE_STATE n) 2
      |>.modLane n (fun l => { l with
        stored := kept, sleepEntering := false, tackSending := false,
        dfe := laneList.map fun k => if s.flag (WLT_LANE_CTRL.DFE_FREEZE n k) then l.dfe.getD k 0
          else dfe.getD k 0 })
      |>.modLink n fun l => { l with agreed := none, lstateTx := 0 }
    let s3 := if s.facesUp n && s2.flag CLK_STAT.LOCKED then s2.enterHoldover.gateDown else s2
    .next (if (s.lane n).tackLatched then
      ((s3.modLane n fun l => { l with tackLatched := false }).wakeLanes n).raise (EV.tackSeen n) else s3)
  | _ => .next s

/-- The Tack pattern (R79): eight bursts of 32 UI high and 32 UI low, each followed by 320 ns of electrical idle. -/
def tackBursts : List (Nat × Nat × Nat) := List.replicate 8 (32, 32, 320)

/-- A sleeping hub wakes its partner (R79): the Tack pattern, and its lane PLLs start. -/
def State.sendTack (s : State) (n : Port) : State :=
  if s.get (WLT_PCS_STAT.TRAIN_STATE n) = 6 then
    ((s.modLane n fun l => { l with tackSending := true }).emit (.tack n tackBursts)).wakeLanes n
  else s

def execTackSend (n : Port) (s : State) : Out := .next (s.sendTack n)

/-- After Sleep exit the lanes of the mask are ready (R63, R68, R81, Table 03.8), those of them that hold lock and are resolved: RX_READY
goes out, and GO follows once the partner has sent its own; a late lane adapts afresh (R81) and is re-admitted (R120). -/
def execSleepExitLanesReady (n : Port) (mask : Nat) (s : State) : Out :=
  let m := mask &&& s.couldBeReady n
  if s.get (WLT_PCS_STAT.TRAIN_STATE n) ≠ 7 ∨ m = 0 then .next s else
  let s1 := ((lanesIn (s.lane n).enabled).filter fun k => !bit m k).foldl (fun t k => t.set (WLT_LANE_STAT.ADAPT_DONE n k) 0) s
  let s2 := (s1.modLane n fun l => { l with ready := m, sentState := 2 }).sendAlign n 2
  .next (if (s.lane n).partnerReady then s2.sleepGo n else s2)

/-- No lane was ready 50 ms after Sleep exit began (R81): the link goes down and trains from the start. -/
def execSleepExitFallback (n : Port) (s : State) : Out :=
  .next (if s.get (WLT_PCS_STAT.TRAIN_STATE n) = 7 then s.linkDown n 8 else s)

/-- A write of TEST (R82, R117): the port goes out of service as a lost link, or trains again. -/
def State.writeTest (s : State) (n : Port) (v : Bool) : State :=
  let s1 := s.setFlag (WLT_PCS_CTRL.TEST n) v
  if v && !s.flag (WLT_PCS_CTRL.TEST n) then
    if s.flag (WLT_LINK_STAT.ADMITTED n) then s1.linkDown n 7 else (s1.failHeld n).testState n
  else if !v && s.flag (WLT_PCS_CTRL.TEST n) then
    let s2 := (s1.lanesOff n).showTest n
    s2.bringUp n
  else s1

def execTestWrite (n : Port) (v : Bool) (s : State) : Out := .next (s.writeTest n v)

/-- A write of RETRAIN (R117): the link goes down, or training restarts from step 1. -/
def State.retrain (s : State) (n : Port) : State :=
  if s.flag (WLT_LINK_STAT.ADMITTED n) then s.linkDown n 7
  else if s.get (WLT_PCS_STAT.TRAIN_STATE n) = 0 ∨ s.flag (WLT_PCS_CTRL.TEST n) then s else (s.failHeld n).bringUp n

def execRetrain (n : Port) (s : State) : Out := .next (s.retrain n)

/-- A lane's checker is turned on (R84): its counter clears; outside a near-end loop sync says whether it finds the pattern. -/
def execPrbsCheckerEnable (n : Port) (k : Lane) (sync : Bool) (s : State) : Out :=
  .next (if bit (s.get (WLT_TEST_CTRL.CHK_EN n)) k then s else
    (s.setBitOf (WLT_TEST_CTRL.CHK_EN n) k true).checkerOn n k sync)

/-- A margin scan starts (R85): DONE and ABORT clear, the count starts at 0; on a port that is not in the Active state it
ends at once. -/
def State.eyeGo (s : State) (n : Port) : State :=
  let k := s.get (WLT_EYE_CTRL.LANE n)
  let s1 := s.set (WLT_EYE_STAT.DONE n) 0 |>.set (WLT_EYE_STAT.ABORT n) 0 |>.set (WLT_EYE_STAT.BUSY n) 1
    |>.set (WLT_EYE_STAT.MISMATCH n) 0
  if s.get (WLT_PCS_STAT.LANE_STATE n) = 0 then s1 else s1.eyeAbort n k

def execEyeScanGo (n : Port) (s : State) : Out := .next (s.eyeGo n)

/-- The scan has covered its bits (R85). -/
def execEyeScanDone (n : Port) (mismatch : Nat) (s : State) : Out :=
  .next (if s.flag (WLT_EYE_STAT.BUSY n) then
    s.set (WLT_EYE_STAT.BUSY n) 0 |>.set (WLT_EYE_STAT.DONE n) 1
      |>.set (WLT_EYE_STAT.MISMATCH n) (min mismatch (2 ^ 29 - 1)) |>.raise (EV.eyeDone n) else s)

end Sys2Proof.Machine
end

