-- ==== Sys2Proof/Machine/Link.lean ====
section
/-!
DEFINITION. Sys2Proof/Machine/Link.lean: flights and seals: sending, receiving, acknowledgement and replay, credits, poison
and clearance, width degrade, Hush and Sleep agreement (chapter 04, R87 to R111, R117 to R123).
-/
namespace Sys2Proof.Machine

/-- The CRED_AVAIL registers show the available credit of each class (R103). -/
def State.showCred (s : State) (n : Port) : State :=
  let l := s.link n
  s.set (WLT_CRED_AVAIL.LO n 0) (l.avail 0) |>.set (WLT_CRED_AVAIL.HI n 0) (l.avail 1)
    |>.set (WLT_CRED_AVAIL.LO n 1) (l.avail 2) |>.set (WLT_CRED_AVAIL.HI n 1) (l.avail 3)

/-- The replay buffer as the registers show it. -/
def State.showReplay (s : State) (n : Port) : State := s.set (WLT_REPLAY_STAT.STORED n) (s.link n).replay.length

-- Packets start (R88, R103, R105, R154) ------------------------------------------------------------------------------

/-- The slots of a packet for a link, with its label there (R136, R140). -/
def FlowPkt.txSlots (p : FlowPkt) (lpn : Nat) : List TxSlot :=
  let q : Pkt := ⟨{ p.pkt.hdr with flow := p.outLabel }, p.pkt.data⟩
  q.slots.zipIdx.map fun x => ⟨x.1, p.pkt.hdr.cls, lpn, x.2 == 0, x.2 == p.pkt.hdr.len⟩

/-- The flow whose message stands open on a link after packet p (R139): control packets on the fixed labels and flow-control packets
of reliable bulk open and close none (log entry 85). -/
def nextOpen (o : Option Nat) (p : FlowPkt) : Option Nat :=
  if p.ctx = 2048 ∨ isFlowControl p.pkt then o else if p.pkt.hdr.last then none else some p.ctx

/-- A packet starts on a Welt port: on a native link its slots go out in consecutive positions under the next link packet
number; a 1.x link sends it as one frame and forgets it when acknowledged. -/
def State.startPacket (s : State) (n : Port) (p : FlowPkt) : State :=
  let l := s.link n
  let sent := l.sent.set p.pkt.hdr.cls (l.sent.getD p.pkt.hdr.cls 0 + p.pkt.n)
  let compat := s.flag (WLT_PCS_STAT.COMPAT n)
  let s0 := if compat then s.slots (unitOut n) (b2n p.bad) p.pkt.n else s.pendSlots (unitOut n) p.pkt.n
  let s1 := s0.count (srcSignal (4 + n) 1) 1
  if compat then
    let body := (p.txSlots 0).flatMap TxSlot.bytes
    ((s1.modLink n fun x =>
      { x with sent := sent, pseqTx := (x.pseqTx + 1) % 4096, frames := x.frames ++ [⟨x.pseqTx, body, p.inAtt, p.lpn, p.bad⟩],
               openMsg := nextOpen x.openMsg p }).sendFrame n (Frame1x.build 0 l.pseqTx 0 body p.bad)).leave true p |>.showCred n
  else
    let s2 := s1.modLink n fun x =>
      { x with txq := x.txq ++ p.txSlots x.txLpn, txLpn := (x.txLpn + 1) % 65536, sent := sent, idleFlights := 0,
               outs := x.outs ++ [⟨x.txLpn, p.inAtt, p.lpn, p.decided, p.bad, false, p.pkt.n, 0⟩],
               openMsg := nextOpen x.openMsg p }
    ({ s2 with flows := { s2.flows with
        admitted := s2.flows.admitted.map fun q => if q = p then { q with begun := true } else q } }).showCred n

-- Poison (R106 to R110) ----------------------------------------------------------------------------------------------

/-- The accepted slots of packet lpn that port n brought are decided (R468). -/
def State.decideRx (s : State) (n : Port) (bad : Bool) (lpn : Nat) : State :=
  (s.decideSlots (unitRx n) (if bad then 1 else 0) ((s.link n).pendLpn.getD lpn 0)).modLink n fun l =>
    { l with pendLpn := l.pendLpn.del lpn, discLpn := l.discLpn.erase lpn }

/-- CLEAR_LPN advances past packets wholly sent and decided; each poisoned one is listed, at most four at a time, two on an
encrypted link (R92, R108). -/
def LinkPort.advance (cap fseq : Nat) : Nat → LinkPort → LinkPort
  | 0, l => l
  | k + 1, l =>
    match l.outs with
    | [] => l
    | r :: t =>
      if !(r.sentAll && r.decided) then l
      else if r.bad then
        if cap ≤ l.poison.length then l
        else LinkPort.advance cap fseq k
          { l with outs := t, clearLpn := (r.lpn + 1) % 65536, poison := l.poison ++ [(r.lpn, fseq)] }
      else LinkPort.advance cap fseq k { l with outs := t, clearLpn := (r.lpn + 1) % 65536 }

-- Sending flights (R95, R98, R100, R131) -----------------------------------------------------------------------------

/-- What of the transmit queue fills k payload positions from position pos on: slots taken, the position of the header of
the packet open at the end, and the numbers of packets wholly sent. -/
def takeSlots (fseq : Nat) : Nat → Nat → List TxSlot → Option (Nat × Nat) → List TxSlot × Option (Nat × Nat)
  | 0, _, _, o => ([], o)
  | _ + 1, _, [], o => ([], o)
  | k + 1, pos, x :: t, o =>
    let o1 := if x.cls = 4 then o else if x.last then none else if x.head then some (fseq, pos) else o
    let r := takeSlots fseq k (pos + 1) t o1
    (x :: r.1, r.2)

/-- The GCM nonce of a direction: its salt and the transmit count (R131), lowest byte first (DESIGN CHOICE, log entry 94). -/
def gcmIv (keys : List Byte) (down : Bool) (txc : Nat) : List Byte :=
  byteSlice keys (if down then 64 else 68) 4 ++ leBytes 8 txc
def gcmKey (keys : List Byte) (down : Bool) : List Byte := byteSlice keys (if down then 0 else 32) 32

/-- A packet is queued for port n (R121). -/
def State.waits (s : State) (n : Port) : Bool :=
  !(s.link n).txq.isEmpty || s.flows.admitted.any fun p => p.outAtt == n.val

/-- A flight leaves with a fresh seal (R98): its payload slots as stored, under AES-256-GCM when it is an encrypted one (R131), then
as blocks on the active lanes (R58 to R61). TXC counts it once the first encrypted flight has gone, encrypted or not (R131). announce is
FILL_NEXT. A Sleep request that a queued packet overtakes is put off (R123). -/
def State.emitFlight (s : State) (n : Port) (fseq : Nat) (payload : List (List Byte)) (fill empty enc announce : Bool)
    (back slot : Nat) : State :=
  let l := s.link n
  let txc := l.txc + 1
  let again := l.lstateTx == 3 && s.waits n
  let lstate := if again then 0 else l.lstateTx
  let x : Seal :=
    { fseq := fseq, ackSeq := l.ackSeq, nak := l.nak,
      rplId := if l.nak then l.lastRpl else s.get (WLT_REPLAY_STAT.RPL_ID n),
      lock := s.facesUp n && s.flag CLK_STAT.LOCKED, fillNext := announce,
      pwarn := s.warns n, enc := enc, widthNext := l.widthNext, resumeBack := back,
      rxMask := (s.lane n).ready, lstate := lstate, resumeSlot := slot, lstateAt := l.lstateAt,
      cred := (List.range 4).map l.credOut, clearLpn := l.clearLpn, poison := l.poison.map Prod.fst, empty := empty,
      txcLo := txc % 2 ^ 32 }
  let b28 := x.bytes28 enc
  let fillSlot := if fill then [idleSlot] else []
  let body :=
    if enc then
      let c := Config.gcmSeal (gcmKey l.keys (!s.facesUp n)) (gcmIv l.keys (!s.facesUp n) txc) b28 payload.flatten
      fillSlot ++ (List.range payload.length).map (fun k => byteSlice c (32 * k) 32)
        ++ [byteSlice c (32 * payload.length) 16 ++ List.replicate 16 0]
    else fillSlot ++ payload
  let tail := b28 ++ leBytes 4 (flightCrc body fill b28)
  let active := lanesIn (s.get (WLT_PCS_STAT.TX_MASK n))
  let s0 := (active.zip (flightBlocks active.length body tail)).foldl (fun t y => t.sendBlocks n y.1 y.2) (s.emit (.flight n body tail))
  let s1 := (s0.trainOutside n (32 * (4 / max 1 active.length))).modLink n fun y =>
    { y with txc := if enc || 0 < y.txc then txc else y.txc, lstateTx := if lstate = 3 then 3 else 0, fillNext := announce,
             sleepWant := y.sleepWant || again, hushLapse := y.hushLapse - 1, widthNext := false, hushOwes := false }
  let s2 := s1.count (srcSignal n 0) 1 |>.when l.nak (fun t => t.count (srcSignal n 4) 1)
    |>.when empty (fun t => t.count (srcSignal n 5) 1)
  if l.widthNext then
    let old := s2.get (WLT_LINK_STAT.WIDTH_TX n)
    let s3 := s2.useTx n
    if s3.get (WLT_LINK_STAT.WIDTH_TX n) = old then s3 else s3.widthChanged n n
  else s2

/-- The count of flights since the last seal-fill slot after a flight with or without one (R95): at 16 the next new flight has
one. -/
def State.nextFill (s : State) (n : Port) (fill : Bool) : Nat :=
  if !s.fillOn n then 0 else if fill then 1 else min 16 ((s.link n).fillCount + 1)

/-- Payload positions of a flight: 31, less a seal-fill and a tag slot. -/
def roomOf (fill enc : Bool) : Nat := 31 - b2n fill - b2n enc

/-- CLEAR_LPN and the poison listing as the seal of flight fseq carries them (R98, R108): a listing counts for the earliest flight
that carries it. Seals of replayed and EMPTY flights advance it too (DEDUCED, log entry 97). -/
def State.clearFor (s : State) (n : Port) (fseq : Nat) (enc : Bool) : State :=
  let old := (s.link n).poison.length
  let s1 := s.modLink n fun x =>
    ({ x with poison := x.poison.map fun (q : Nat × Nat) => (q.1, if before 16 fseq q.2 then fseq else q.2) }).advance (if enc then 2 else 4) fseq 65536
  let listed := (s1.link n).poison.length - old
  (s1.incSat (WLT_POISON_CNT.TX_LISTED n) listed).count (srcSignal n 7) listed

/-- Whole packets wait for port n for want of credit (R469). -/
def State.creditStarved (s : State) (n : Port) : Bool :=
  s.flows.admitted.any fun p => p.outAtt == n.val && !p.begun && decide ((s.link n).avail p.pkt.hdr.cls < p.pkt.n)

/-- Port n's record of packet number lpn there changes. -/
def State.modRec (s : State) (n : Port) (lpn : Nat) (f : OutRec → OutRec) : State :=
  s.modLink n fun l => { l with outs := l.outs.map fun r => if r.lpn = lpn then f r else r }

/-- A packet wholly sent leaves the store (R142, R157). Its slots are decided there when its fate is, at once or later (R468). -/
def State.sentRec (s : State) (n : Port) (r : OutRec) : State :=
  let s1 := match s.flows.admitted.find? fun p => p.outAtt == n.val && p.begun && p.inAtt == r.inAtt && p.lpn == r.inLpn with
    | some p =>
      if r.decided then s.leave (!r.bad) p
      else (s.leaveAs none p).modRec n r.lpn fun x => { x with heldIn := if p.ctx != 2048 && s.lastCopy p then p.pkt.n else 0 }
    | none => s
  if r.decided then (s1.decideSlots (unitOut n) (b2n r.bad) r.held).modRec n r.lpn fun x => { x with sentAll := true, held := 0 }
  else s1.modRec n r.lpn fun x => { x with sentAll := true }

/-- Packets wholly sent by this flight leave the store. -/
def State.sentOff (s : State) (n : Port) (lpns : List Nat) : State :=
  ((s.link n).outs.filter fun r => lpns.contains r.lpn).foldl (State.sentRec · n) s

/-- The conditions of R121 at one end: no unacknowledged flight stored, no packet queued for the port. -/
def State.quiet (s : State) (n : Port) : Bool := (s.link n).replay.isEmpty && !s.waits n

/-- A Sleep request goes into the next seals when the port is native, may sleep and is quiet (R123). -/
def State.trySleep (s : State) (n : Port) : State :=
  if (s.link n).sleepWant && s.quiet n && s.flag (WLT_PCS_CTRL.ALLOW_SLEEP n) && s.feature n 6
      && s.flag (WLT_LINK_STAT.ADMITTED n) && s.get (WLT_PCS_STAT.TRAIN_STATE n) == 4 then
    s.modLink n fun l => { l with sleepWant := false, lstateTx := 3, lstateAt := (l.fseq + 4) % 256 }
  else s

/-- When the slot at a position of a flight that starts now leaves (R43, R163): four lanes send one slot a tick. -/
def State.departure (s : State) (n pos : Nat) : Stamp :=
  let z := s.time.ticks * 256 + s.time.phase + pos * 1024 / max 1 (codeLanes (s.get (WLT_LINK_STAT.WIDTH_TX n)))
  ⟨z / 256 % 2 ^ 64, z % 256⟩

/-- MX of the DELAY_REQ or DELAY_RESP whose header slot this is (Table 05.15). -/
def TxSlot.delayMsg (x : TxSlot) : Option Nat :=
  let h := Hdr.ofSlot x.bytes
  if x.head && h.flow == 1 && decide (h.mx < 2) then some h.mx else none

/-- Its slot with the stamp of its departure: T3 or T1 (R163, Table 05.15). -/
def TxSlot.stamped (x : TxSlot) (t : Stamp) : TxSlot :=
  match x.delayMsg with
  | some mx =>
    let h := Hdr.ofSlot x.bytes
    { x with bytes := Hdr.slot { h with info := byteSlice (h.info.take (if mx = 0 then 2 else 11) ++ t.bytes) 0 20 } }
  | none => x

/-- A DELAY_REQ or DELAY_RESP has left (R163): the departure of the latest request is what its answer is measured from. -/
def State.timeLeft (s : State) (n : Nat) (x : TxSlot × Nat) : State :=
  match x.1.delayMsg with
  | some mx =>
    let h := Hdr.ofSlot x.1.bytes
    let s1 := s.emit (.time n mx h.info)
    if mx = 0 ∧ leNat (byteSlice h.info 0 2) = s.time.exch then
      { s1 with time := { s1.time with waiting := some (s.departure n x.2) } } else s1
  | none => s

/-- RESUME_BACK and RESUME_SLOT of flight fseq's seal for the packet open at its end (Table 04.4). -/
def resumePoint (fseq : Nat) : Option (Nat × Nat) → Nat × Nat
  | some (f, p) => (min ((fseq + 65536 - f) % 65536) 11, p)
  | none => (15, 0)

/-- A slot of the message KX_DONE (Table 04.3). -/
def TxSlot.kxDone (x : TxSlot) : Bool := x.cls == 4 && byteAt x.bytes 2 == 0x12

/-- A new flight takes what waits (R87, R98, R100): idle link slots fill the rest; it is stored, and its slots stay pending
until the partner accepts it (R468). Idle slots count as STARVED_BACK while a packet waits for credit, but for the positions of WARMING
owners among those that the wheel has passed last (R178, R469). Flights after the one that carries KX_DONE are encrypted (R130). -/
def State.newFlight (s : State) (n : Port) : State :=
  let l := s.link n
  let fill := l.fillNext
  let enc := l.kxDoneSent
  let room := roomOf fill enc
  let taken := takeSlots l.fseq room (b2n fill) l.txq l.openAt
  let got := taken.1.zipIdx.map fun x => x.1.stamped (s.departure n (b2n fill + x.2))
  let k := got.length
  let payload := got.map TxSlot.bytes ++ List.replicate (room - k) idleSlot
  let (back, slot) := resumePoint l.fseq taken.2
  let whole := (got.filter fun x => x.last && x.cls != 4).map TxSlot.lpn
  let s0 := (got.zipIdx (b2n fill)).foldl (State.timeLeft · n) s
  let s1 := (s0.modLink n fun x => { x with txq := x.txq.drop k, openAt := taken.2 }).sentOff n whole
  let count := s.nextFill n fill
  let s3 := (s1.clearFor n l.fseq enc).modLink n fun x =>
    { x with fillCount := count, fseq := (x.fseq + 1) % 65536,
             replay := x.replay ++ [⟨l.fseq, payload, back, slot, k, false, fill, enc,
               (got.filter fun y => y.cls != 4).map TxSlot.lpn⟩],
             idleFlights := if k = 0 then x.idleFlights + 1 else 0 }
  let s5 := (s3.emitFlight n l.fseq payload fill false enc (count == 16) back slot).when (got.any TxSlot.kxDone) fun t =>
    t.modLink n fun x => { x with kxDoneSent := true, txc := 0 }
  let s6 := if s.flag (WLT_LINK_STAT.ADMITTED n) then
      let idle := room - k
      let w : WheelNo := ⟨n.val, by omega⟩
      let pos := s.get (WHLw_POS.POSITION w)
      let warm := min idle (s.warmPositions w (pos - idle) pos)
      let back := if s.creditStarved n then idle - warm else 0
      (s5.pendSlots (unitTx n) k).slots (unitTx n) 3 back |>.slots (unitTx n) 2 (idle - back + b2n fill)
    else s5
  s6.showReplay n

/-- With the replay buffer full an EMPTY flight repeats the last FSEQ and is not stored (R100). Its seal announces whether the flight
that follows has a seal-fill slot. -/
def State.emptyFlight (s : State) (n : Port) (next : Option Flight) : State :=
  let l := s.link n
  let count := s.nextFill n l.fillNext
  let announce := match next with
    | some f => f.fill
    | none => count == 16
  let fseq := (l.fseq + 65535) % 65536
  let (back, slot) := resumePoint fseq l.openAt
  let room := roomOf l.fillNext l.kxDoneSent
  let s1 := (s.clearFor n l.fseq l.kxDoneSent).modLink n fun x => { x with fillCount := count }
  (s1.emitFlight n fseq (List.replicate room idleSlot) l.fillNext true l.kxDoneSent announce back slot).when
    (s.flag (WLT_LINK_STAT.ADMITTED n)) fun t => (t.slots (unitTx n) 3 room).slots (unitTx n) 2 (b2n l.fillNext)

/-- A stored flight goes out again (R98): its payload unchanged in its positions (R99), its seal built afresh. What a lead-in's seal lists
counts for the first flight that is not acknowledged (R108). -/
def State.replayFlight (s : State) (n : Port) (f : Flight) : State :=
  let l := s.link n
  let next := (f.fseq + 1) % 65536
  let count := s.nextFill n f.fill
  let announce := match l.replay.find? fun g => g.fseq == next with
    | some g => g.fill
    | none => count == 16
  let open_ := ((l.replay.find? fun g => !g.acked).map Flight.fseq).getD l.fseq
  let s1 := (s.clearFor n (if f.acked then open_ else f.fseq) f.enc).modLink n fun x =>
    { x with fillCount := count, replayAt := if next = x.fseq then none else some next }
  (s1.emitFlight n f.fseq f.slots f.fill false f.enc announce f.resumeBack f.resumeSlot).when
    (s.flag (WLT_LINK_STAT.ADMITTED n)) fun t => (t.pendSlots (unitTx n) f.used).slots (unitTx n) 2 (b2n f.fill)

/-- A flight boundary of the transmitter (R98): the parent of a hushed child goes on sending (R77). A replay whose first flight does
not have slot 0 as the last seal announced it begins after one EMPTY flight (log entry 81). -/
def State.sendFlight (s : State) (n : Port) : State :=
  let s1 := s.trySleep n
  let l := s1.link n
  match l.replayAt with
  | some f =>
    match l.replay.find? fun x => x.fseq == f with
    | some x => if x.fill == l.fillNext then s1.replayFlight n x else s1.emptyFlight n (some x)
    | none => (s1.modLink n fun y => { y with replayAt := none }).newFlight n
  | none => if 256 ≤ l.replay.length then s1.emptyFlight n none else s1.newFlight n

-- Receiving flights (R87 to R104) ------------------------------------------------------------------------------------

/-- A header or link slot has arrived (R90, R97, R105): a failed check fails the flight at once, and seals go out with NAK. lead says that it stands before
the resume point of a replay, where it is checked and discarded (R99). -/
def execHeaderSlotRx (n : Port) (b : List Byte) (lead : Bool) (s : State) : Out :=
  if (s.link n).flightBad then .next s
  else if !slotCheckGood b then
    .next ((s.modLink n fun l => { l with flightBad := true, nak := true }).incSat (WLT_FLIGHT_ERR.HDR_FAIL n))
  else if lead || (Hdr.ofSlot b).flow == 0x7FF then .next s
  else .next (s.modLink n fun l =>
    { l with rxLpn := (l.rxLpn + 1) % 65536, current := l.current ++ [l.rxLpn] })

/-- A segment of a link message has arrived (R91): SEG 0 discards an earlier partial copy, the last segment completes it. Nothing
more of a failed flight goes on (R90). -/
def execLinkMessageRx (n : Port) (b : List Byte) (s : State) : Out :=
  if (s.link n).flightBad then .next s else
  let msg := byteAt b 2
  let seg := byteAt b 3 / 16
  let segs := byteAt b 3 % 16
  let d := byteSlice b 4 26
  .next <| s.modLink n fun l =>
    let old := match l.partial_.find? fun p => p.1 == msg with
      | some p => p.2
      | none => []
    let parts := if seg = 0 then [d] else if old.length = seg then old ++ [d] else old
    let rest := l.partial_.filter fun p => p.1 != msg
    if parts.length = segs + 1 then { l with partial_ := rest, lastMsg := some (msg, parts.flatten) }
    else { l with partial_ := rest ++ [(msg, parts)] }

/-- A seal's fields (Table 04.4); with enc its POISON2 and POISON3 are TXC_LO. -/
def Seal.ofBytes (b : List Byte) : Seal :=
  let f := byteAt b 4
  let enc := bit f 1
  let pn := min (byteAt b 18 % 8) (if enc then 2 else 4)
  { fseq := leNat (byteSlice b 0 2), ackSeq := leNat (byteSlice b 2 2), nak := bit f 7, rplId := bits f 5 2,
    lock := bit f 4, fillNext := bit f 3, pwarn := bit f 2, enc := enc, widthNext := bit f 0,
    resumeBack := byteAt b 5 / 16, rxMask := byteAt b 5 % 16, lstate := byteAt b 6 / 32, resumeSlot := byteAt b 6 % 32,
    lstateAt := byteAt b 7, cred := (List.range 4).map fun k => leNat (byteSlice b (8 + 2 * k) 2),
    clearLpn := leNat (byteSlice b 16 2), poison := (List.range pn).map fun k => leNat (byteSlice b (20 + 2 * k) 2),
    empty := bit (byteAt b 19) 0, txcLo := if enc then leNat (byteSlice b 24 4) else 0 }

/-- The transmit count nearest to the own count with these low 32 bits (R131). -/
def nearestTxc (own lo : Nat) : Nat :=
  let c := own / 2 ^ 32 * 2 ^ 32 + lo
  if c + 2 ^ 31 < own then c + 2 ^ 32 else if own + 2 ^ 31 < c then c - 2 ^ 32 else c

/-- What a flight's payload slots carry (Table 04.1): idle link slots, message slots, the slots of each packet in order (the
first is the one open before, if any), and data slots still to come. -/
structure SlotCount where
  idle : Nat
  msg : Nat
  packs : List Nat
  left : Nat

def classify : List (List Byte) → Nat → SlotCount → SlotCount
  | [], o, r => { r with left := o }
  | _ :: t, o + 1, r => classify t o { r with packs := r.packs.dropLast ++ [r.packs.getLastD 0 + 1] }
  | b :: t, 0, r =>
    let w := leNat (byteSlice b 0 4)
    if bits w 0 11 = 0x7FF then
      classify t 0 (if bits w 11 5 = 0 then { r with idle := r.idle + 1 } else { r with msg := r.msg + 1 })
    else classify t (bits w 13 9) { r with packs := r.packs ++ [1] }

def SlotCount.ofSlots (l : List (List Byte)) (o : Nat) : SlotCount := classify l o ⟨0, 0, [0], 0⟩
def SlotCount.data (c : SlotCount) : Nat := c.packs.sum

/-- The payload of a received flight in the clear: none when its tag is bad (R131). -/
def State.openFlight (s : State) (n : Port) (slots : List (List Byte)) (x : Seal) (b28 : List Byte)
    : Option (List (List Byte)) :=
  let l := s.link n
  let p := if l.fillIn then slots.drop 1 else slots
  if !x.enc then some p else
  let down := s.facesUp n
  let body := p.dropLast
  let tag := byteSlice (p.getLastD []) 0 16
  match Config.gcmOpen (gcmKey l.keys down) (gcmIv l.keys down (nearestTxc l.rxTxc x.txcLo)) b28 (body.flatten ++ tag) with
  | some d => some ((List.range body.length).map fun k => byteSlice d (32 * k) 32)
  | none => none

/-- Where a replay would begin were flight g the failed one (R99): RESUME_BACK of flight g − 1, stored or gone, names it. -/
def LinkPort.replayStart (l : LinkPort) (g : Nat) : Nat :=
  let b := match l.replay.find? fun x => x.fseq == (g + 65535) % 65536 with
    | some x => x.resumeBack
    | none => l.ackBack
  if b = 15 then g else (g + 65535 - b) % 65536

/-- Flights up to ack are acknowledged (R100): a stored flight leaves once no replay of a flight not acknowledged, the next one
counted, begins at it or before it. -/
def LinkPort.acked (l : LinkPort) (ack : Nat) : LinkPort :=
  let isAcked (f : Flight) : Bool := !before 16 ack f.fseq
  let later := ((l.replay.filter fun f => !isAcked f).map Flight.fseq) ++ [l.fseq]
  let need (f : Flight) : Bool := later.any fun g => !before 16 f.fseq (l.replayStart g)
  let out := l.replay.filter fun f => isAcked f && !need f
  let l1 := match (l.replay.filter isAcked).getLast? with
    | some f => { l with ackBack := f.resumeBack, ackSlot := f.resumeSlot }
    | none => l
  { l1 with replay := l.replay.filter fun f => !isAcked f || need f, failures := if out.isEmpty then l.failures else 0,
            poison := l.poison.filter fun p => before 16 ack p.2 }

/-- A failed or discarded flight (R96, R97): its packets are poisoned here, packet numbers go back to its start, or to the
header of the packet left open before it; a replay brings these packets again (R99); left is how many data slots of the packet at its end are still to come. -/
def State.failFlight (s : State) (n : Port) (used left : Nat) : State :=
  let l := s.link n
  let openBefore := decide (0 < l.rxOpen)
  let openLpn := (l.rxLpnStart + 65535) % 65536
  let hit := if openBefore then openLpn :: l.current else l.current
  let s0 := s.modLink n fun x => { x with again := (x.again ++ hit).eraseDups }
  let s1 := hit.foldl (fun t p => (t.decidePacket n p true).decideRx n true p) s0
  (s1.dropPoisoned.modLink n fun x =>
    { x with nak := true, flightBad := false, current := [], rxOpen := 0, wireOpen := left,
             rxLpn := if openBefore then openLpn else x.rxLpnStart,
             leadIn := false, rxLpnStart := if openBefore then openLpn else x.rxLpnStart }).count (srcSignal n 2) 1
    |>.when (s.flag (WLT_LINK_STAT.ADMITTED n)) fun t => t.slots (unitRx n) 1 used

/-- The credits a seal carries (R103, R104). -/
def State.takeCred (s : State) (n : Port) (cred : List Nat) : State :=
  let l := s.link n
  let after c := (cred.getD c 0 + 65536 - l.sent.getD c 0 % 65536) % 65536
  if (List.range 4).any (fun c => decide (32767 < after c)) then s.incSat (WLT_FLIGHT_ERR.CRED_ERR n)
  else (s.modLink n fun x => { x with credTx := cred }).showCred n

/-- Packets whose numbers lie before CLEAR_LPN are decided (R109): poisoned when listed, else cleared. -/
def State.takeClear (s : State) (n : Port) (x : Seal) : State :=
  let from_ (l : List FlowPkt) := (l.filter fun p => p.inAtt == n.val && !p.decided && before 16 p.lpn x.clearLpn).map FlowPkt.lpn
  let recs := (s.links.toList.flatMap LinkPort.outs).filter fun r =>
    r.inAtt == n.val && !r.decided && before 16 r.inLpn x.clearLpn
  let all := (from_ s.flows.waiting ++ from_ s.flows.admitted ++ recs.map OutRec.inLpn).eraseDups
  let bad := (all.filter fun p => x.poison.contains p).length
  let s1 := all.foldl (fun t p => t.decidePacket n p (x.poison.contains p)) s
  let s2 := (((s.link n).pendLpn.map Prod.fst).filter fun p => before 16 p x.clearLpn).foldl (fun t p =>
    t.decideRx n (x.poison.contains p || (t.link n).discLpn.contains p) p) s1
  let s3 := s2.dropPoisoned.modLink n fun l =>
    { l with again := l.again.filter fun p => !before 16 p x.clearLpn, paid := l.paid.filter fun p => !before 16 p x.clearLpn }
  s3.incSat (WLT_POISON_CNT.RX_POISONED n) bad

/-- The fields of an accepted seal (R94): acknowledgement (RETIRED, but for the slots of packets poisoned at this hub, R468), credits,
clearance, lanes, Sleep answers. NAK, requests and
warnings in it come as their own commands (log entry 13). -/
def State.takeSeal (s : State) (n : Port) (x : Seal) : State :=
  let l := s.link n
  let done := l.replay.filter fun f => !before 16 x.ackSeq f.fseq && !f.acked
  let poisoned (k : Nat) : Bool := l.outs.any (fun r => r.lpn == k && r.bad) || l.poison.any fun q => q.1 == k
  let bad := (done.flatMap Flight.lpns).countP poisoned
  let s1 := ((s.decideSlots (unitTx n) 1 bad).decideSlots (unitTx n) 0 ((done.map Flight.used).sum - bad)).modLink n fun y =>
    let z := y.acked x.ackSeq
    { z with replay := z.replay.map fun f => if before 16 x.ackSeq f.fseq then f else { f with acked := true } }
  let s2 := ((s1.takeCred n x.cred).takeClear n x).showReplay n
  let wider := decide (maskWidth (s.lane n).rcvMask < maskWidth x.rxMask)
  let s3 := if x.rxMask % 16 = 0 then s2 else
    (s2.modLane n fun y => { y with rcvMask := x.rxMask }).modLink n fun y => { y with widthNext := y.widthNext || wider }
  let s4 := if x.widthNext then
      let old := s3.get (WLT_LINK_STAT.WIDTH_RX n)
      let u := s3.useRx n
      let t := if n.val = 0 then u.moveRclk else u
      if t.get (WLT_LINK_STAT.WIDTH_RX n) = old then t else t.widthChanged n (n + 4)
    else s3
  if x.lstate = 4 ∧ (s4.link n).lstateTx = 3 then
    (s4.modLink n fun y => { y with agreed := some (2, x.lstateAt), lstateTx := 0 }).modLane n fun y =>
      { y with sleepEntering := true }
  else if x.lstate = 5 then s4.modLink n fun y => { y with lstateTx := 0 }
  else s4

/-- Lane k's seal control header stands more than 96 UI from the latest lane, or one or more blocks of 66 UI out of step with most
of the other active lanes, against the skew that training found (R72). skews holds each lane's distance from the latest in UI. Of two
lanes that disagree both are blamed (DESIGN CHOICE, log entry 109). -/
def State.deskewBad (s : State) (n : Port) (skews : List Nat) (k : Nat) : Bool :=
  let dev (j : Nat) : Int := (skews.getD j 0 : Int) + s.get (WLT_LANE_STAT.SKEW n j)
  let others := (lanesIn (s.rxActive n)).filter fun j => j != k
  decide (96 < skews.getD k 0) || decide (others.length < 2 * others.countP fun j => decide (66 ≤ (dev k - dev j).natAbs))

/-- The check of the lanes' alignment on a seal slot (R72): a deskew error, handled as a lost block lock. -/
def State.checkDeskew (s : State) (n : Port) (skews : List Nat) : State :=
  ((lanesIn (s.rxActive n)).filter fun k => s.flag (WLT_LANE_STAT.BLOCK_LOCK n k) && s.deskewBad n skews k).foldl
    (fun t k => (t.incSat (WLT_PCS_ERR.DESKEW_ERR n)).loseLock n k) s

/-- A seal-fill slot of the flight that ends (R38, R94): STARVED_FRONT. Where the elastic path is in use it may have been dropped or
repeated, as its free value says (log entry 10). -/
def State.takeFill (s : State) (n : Port) : State :=
  if !(s.link n).fillIn then s else
  let s1 := s.when (s.flag (WLT_LINK_STAT.ADMITTED n)) fun t => t.slots (unitRx n) 2 1
  if s.fillOn n then s1.useFree.when (s.free % 2 == 1) fun t => (t.incSat (slipCnt n)).count (srcSignal n 6) 1 else s1

/-- The headers of a run of slots up to a seal's control headers (R60): flights of 31 slots make the framing; once it is declared, headers
of a wrong kind count as invalid on every active lane, and 16 of a lane's last 64 take its lock (R71). -/
def State.frameCheck (s : State) (n : Port) (len : Nat) : State :=
  if (s.lane n).framed < 4 then
    s.modLane n fun l => { l with framed := if len = 31 then l.framed + 1 else 0, hist := [] }
  else
    let active := (lanesIn (s.rxActive n)).filter fun k => s.flag (WLT_LANE_STAT.BLOCK_LOCK n k)
    let wrong := wrongHeaders len (4 / max 1 (popCount 4 (s.rxActive n)))
    let hist := (wrong.reverse ++ (s.lane n).hist).take 64
    let s1 := (s.modLane n fun l => { l with hist := if losesLock hist then [] else hist }).incSat (WLT_PCS_ERR.BAD_HDR n)
      (wrong.countP id * active.length)
    if losesLock hist then active.foldl (fun t k => t.loseLock n k) s1 else s1

/-- A flight with a good CRC and a bad tag fails (R132): TAG_FAIL, and at the sixteenth within 1 s the link goes down. -/
def State.tagFailed (s : State) (n : Port) (used left : Nat) : State :=
  let times := (s.uptime :: (s.link n).tagTimes.filter fun t => decide (s.uptime < t + 400000000)).take 16
  let s1 := ((s.failFlight n used left).incSat (WLT_ENC_STAT.TAG_FAIL n)).raise (EV.tagFail n) |>.modLink n fun l =>
    { l with tagTimes := times }
  if times.length = 16 then s1.linkDown n 4 else s1

/-- An accepted flight (R96, R97, R99, R468), which the RPL_ID of a later NAK is that of, unless it carried NAK itself (log entry 83):
the slots of link messages are RETIRED, packet slots stay pending under their packet's number, idle ones are starved; skip slots of a
replay's lead-in are WASTED. -/
def State.acceptFlight (s : State) (n : Port) (x : Seal) (c : SlotCount) (skip : Nat) (lead : Bool) : State :=
  let l := s.link n
  let newRpl := !x.nak && x.rplId != l.lastRpl
  let first := (l.rxLpnStart + 65535) % 65536
  let pend := c.packs.zipIdx.foldl (fun (t : Tbl Nat) k =>
    let q := (first + k.2) % 65536
    t.setD q 0 (t.getD q 0 + k.1)) l.pendLpn
  let s1 := s.modLink n fun y =>
    { y with ackSeq := if lead then y.ackSeq else x.fseq, nak := y.nak && !newRpl, leadIn := lead,
             rxBack := if lead then y.rxBack else x.resumeBack, rxSlot := if lead then y.rxSlot else x.resumeSlot,
             pendLpn := pend,
             lastRpl := if x.nak then y.lastRpl else x.rplId, flightBad := false, current := [], rxLpnStart := y.rxLpn,
             rxOpen := c.left, wireOpen := c.left, rxTxc := if x.enc then nearestTxc y.rxTxc x.txcLo else y.rxTxc,
             hushOwes := y.hushOwes || decide (0 < c.data) }
  let low := (List.range 4).any fun k => decide (l.credOut k < 321)
  let s2 := (s1.count (srcSignal n 1) 1).when (s.flag (WLT_LINK_STAT.ADMITTED n)) fun t =>
    ((t.pendSlots (unitRx n) c.data).slots (unitRx n) 0 c.msg).slots (unitRx n) (if low then 3 else 2) c.idle
      |>.slots (unitRx n) 1 skip
  s2.takeSeal n x

/-- A seal has arrived (R93): slots are the flight's payload slots as they stood on the link, b the seal slot, skews the
lanes' arrival. The flight is accepted when CRC, tag and header checks are good and its FSEQ is next, or it is a lead-in of a replay (R96,
R99); it fails, or is discarded, otherwise, an EMPTY one too (log entry 82). While NAK goes out, flights up to the one asked for come in a
replay only, also where their seals carry NAK and so another RPL_ID (R97). In framed flights a seal's control headers in another slot
than 31 are invalid headers (R60). -/
def execSealRx (n : Port) (slots : List (List Byte)) (b : List Byte) (skews : List Nat) (s : State) : Out :=
  let st := s.get (WLT_PCS_STAT.TRAIN_STATE n)
  if st ≠ 4 ∧ st ≠ 5 then .next s
  else if 4 ≤ (s.lane n).framed ∧ slots.length ≠ 31 then .next (s.frameCheck n slots.length) else
  let s1 := ((s.frameCheck n slots.length).checkDeskew n skews).takeFill n
  let l := s1.link n
  let x := Seal.ofBytes b
  let b28 := byteSlice b 0 28
  let crcOk := flightCrc slots l.fillIn b28 == leNat (byteSlice b 28 4)
  let known := !before 16 l.ackSeq x.fseq && !x.empty
  let inOrder := x.fseq == (l.ackSeq + 1) % 65536 && !x.empty
  let newRpl := l.nak && !x.nak && x.rplId != l.lastRpl
  let replay := newRpl || l.leadIn || (l.nak && x.nak)
  let s0 := s1.when (crcOk && (newRpl || (l.nak && x.nak && (known || inOrder)))) fun t => t.reframe n
  let next (t : State) : State := t.modLink n fun y => { y with fillIn := x.fillNext }
  let plain := s0.openFlight n slots x b28
  let lead := replay && known
  let skip := if lead && x.fseq == (l.ackSeq + 65536 - l.rxBack) % 65536 then l.rxSlot - b2n l.fillIn else 0
  let all := plain.getD []
  let c := SlotCount.ofSlots (all.drop skip) (if lead || newRpl || (l.nak && inOrder) then l.rxOpen else l.wireOpen)
  let used := c.msg + c.data
  if !crcOk then .next (next ((s0.incSat (WLT_FLIGHT_ERR.CRC_FAIL n)).failFlight n used c.left))
  else if plain.isNone then .next (next (s0.useFree.tagFailed n used (if x.resumeBack = 15 then 0 else s0.free % 512)))
  else if l.flightBad || (l.kxDoneRcvd && !x.enc) then .next (next (s0.failFlight n used c.left))
  else if inOrder || lead then .next (next (s0.acceptFlight n x c skip lead))
  else .next (next ((s0.modLink n fun y => { y with current := [], rxLpn := y.rxLpnStart, wireOpen := c.left }).when
    (s.flag (WLT_LINK_STAT.ADMITTED n)) fun t => t.slots (unitRx n) 1 c.data))

/-- The transmitter takes the lanes of the mask that came with a NAK (R118): WIDTH_CHANGED when the width changes. -/
def State.takeMask (s : State) (n : Port) (mask : Nat) : State :=
  if mask % 16 = 0 then s else
  let t := (s.modLane n fun x => { x with rcvMask := mask % 16 }).useTx n
  if t.get (WLT_LINK_STAT.WIDTH_TX n) = s.get (WLT_LINK_STAT.WIDTH_TX n) then t else t.widthChanged n n

/-- A NAK has arrived (R97 to R101, R118): the transmitter takes the mask that came with it. With the current RPL_ID it starts a replay
from the resume point of the failed flight; a flight that has failed nine times takes the link down. -/
def execNakRx (n : Port) (ack rpl mask : Nat) (s : State) : Out :=
  let l := s.link n
  if !s.flag (WLT_LINK_STAT.ADMITTED n) && s.get (WLT_PCS_STAT.TRAIN_STATE n) != 4 then .next s
  else if rpl ≠ s.get (WLT_REPLAY_STAT.RPL_ID n) then .next (s.takeMask n mask) else
  let f := (ack + 1) % 65536
  let fails := if l.failSeq = f then l.failures + 1 else 1
  if 9 ≤ fails then .next ((s.raise (EV.replayExhausted n)).linkDown n 3) else
  let start := l.replayStart f
  let lost := ((l.replay.filter fun x => !before 16 x.fseq f).map Flight.used).sum
  .next (((s.modLink n fun x => { x with failSeq := f, failures := fails, replayAt := some start }).inc
    (WLT_REPLAY_STAT.RPL_ID n) |>.incSat (WLT_REPLAY_STAT.REPLAYS n) |>.count (srcSignal n 3) 1
    |>.decideSlots (unitTx n) 1 lost).takeMask n mask)

/-- 64 µs have passed since a NAK was first sent with no flight accepted (R101). -/
def execNakTimeout (n : Port) (s : State) : Out :=
  .next (if (s.link n).nak then (s.raise (EV.replayExhausted n)).linkDown n 3 else s)

/-- Packet lpn that came by attachment a is found poisoned (R107). -/
def execPacketPoisoned (a lpn : Nat) (s : State) : Out :=
  let s1 := (s.decidePacket a lpn true).dropPoisoned
  .next (if h : a < 4 then s1.modLink ⟨a, h⟩ fun l => { l with discLpn := lpn % 65536 :: l.discLpn } else s1)

/-- A lane outside the active set is ready (R68, R120): the receiver adds it to the mask its seals carry, and in training to that of
its alignment blocks (R69); a parked lane stays out. One that has adapted afresh since it left shows it: which CTLE setting that gave is
a free value (log entry 2). -/
def execLaneReadmit (n : Port) (k : Lane) (s : State) : Out :=
  let st := s.get (WLT_PCS_STAT.TRAIN_STATE n)
  if (st = 1 ∨ st = 2) ∧ bit (s.couldBeReady n) k then
    .next ((s.modLane n fun l => { l with ready := setBit l.ready k }).sendAlign n (s.lane n).sentState)
  else if st = 4 ∧ bit (s.couldBeReady n) k ∧ !bit (s.get (WLT_LANE_HEALTH.LANE_PARKED n)) k ∧ !s.flag (WLT_PCS_STAT.COMPAT n) then
    let s1 := (s.when (!s.flag (WLT_LANE_STAT.ADAPT_DONE n k)) fun t => t.useFree.adapted n (t.free % 16) k).modLane n fun l =>
      { l with ready := setBit l.ready k }
    .next (if n.val = 0 then s1.moveRclk else s1)
  else .next s

-- Hush and Sleep (R121 to R123) --------------------------------------------------------------------------------------

/-- A child that has been idle asks for Hush (R77, R121): LSTATE_AT four flights ahead; unless it is answered in time the request
lapses at that flight's end, and the child asks again 64 flights later. In Doze HUSH_IDLE does not bound it
(R396). -/
def execHushRequest (n : Port) (s : State) : Out :=
  let doze := s.get PWRD_STATE.STATE == 1
  let idle := s.get (WLT_LINK_CTRL.HUSH_IDLE n)
  let l := s.link n
  .next (if s.facesUp n && s.flag (WLT_LINK_STAT.ADMITTED n) && s.get (WLT_PCS_STAT.TRAIN_STATE n) == 4 && s.feature n 4
      && s.flag (WLT_PCS_CTRL.ALLOW_HUSH n) && !s.fillOn n && (doze || (idle != 0 && decide (idle ≤ l.idleFlights))) && s.quiet n
      && l.hushLapse == 0 then
    s.modLink n fun x => { x with lstateTx := 1, lstateAt := (x.fseq + 4) % 256, hushLapse := 69 } else s)

/-- A parent is asked for Hush (R121): it agrees unless its slip FIFO is in use or Hush is not allowed (Table 03.7). -/
def execHushReqRx (n : Port) (at_ : Nat) (s : State) : Out :=
  if s.facesUp n then .next s else
  .next (if s.fillOn n || !s.flag (WLT_PCS_CTRL.ALLOW_HUSH n) || !s.feature n 4 || s.flag (WLT_PCS_STAT.COMPAT n) then
    s.modLink n fun l => { l with lstateTx := 0 }
  else s.modLink n fun l => { l with lstateTx := 2, lstateAt := at_ % 256, agreed := some (1, at_ % 256) })

/-- The parent's HUSH_ACK has been accepted (R121): in time for the named flight it is agreed, else the request has lapsed, and the 64
flights count from the named one. -/
def execHushAckRx (n : Port) (at_ : Nat) (s : State) : Out :=
  let l := s.link n
  if l.lstateAt ≠ at_ % 256 ∨ !s.facesUp n then .next s else
  let inTime := before 8 (l.fseq + 255) at_ || (l.fseq + 255) % 256 == at_ % 256
  .next (s.modLink n fun x =>
    if inTime then { x with agreed := some (1, at_ % 256), lstateTx := 0, hushLapse := 0 }
    else { x with lstateTx := 0 })

/-- 32 flights have passed since a hushed child first accepted a packet slot it has not acknowledged (R122). -/
def execHushExitTimer (n : Port) (s : State) : Out := .next (if (s.link n).hushOwes then s.hushExit n else s)

/-- A packet is queued for a hushed port (R122). -/
def execHushExitPacket (n : Port) (s : State) : Out :=
  .next (if s.flows.admitted.any (fun p => p.outAtt == n.val) || !(s.link n).txq.isEmpty then s.hushExit n else s)

/-- A write of SLEEP_REQ (R123): it stays pending until the conditions of R121 hold (DEDUCED, log entry 89). -/
def State.writeSleepReq (s : State) (n : Port) : State :=
  if s.flag (WLT_LINK_STAT.ADMITTED n) && !s.flag (WLT_PCS_STAT.COMPAT n) then
    (s.modLink n fun l => { l with sleepWant := true }).trySleep n
  else s

def execSleepRequestWrite (n : Port) (s : State) : Out := .next (s.writeSleepReq n)

/-- A SLEEP_REQ has arrived (R123): SLEEP_ACK when this end is quiet and may sleep, else SLEEP_NAK; of two requests in the
same flight, the own one still unanswered, the lower boundary applies: the smaller number, also where FSEQ [7:0] wraps between them
(DESIGN CHOICE, log entry 110). -/
def execSleepReqRx (n : Port) (at_ : Nat) (s : State) : Out :=
  let l := s.link n
  if (s.quiet n || (l.lstateTx == 3 && !s.waits n)) && s.flag (WLT_PCS_CTRL.ALLOW_SLEEP n) && s.feature n 6 && !s.flag (WLT_PCS_STAT.COMPAT n) then
    let b := if l.lstateTx = 3 then min l.lstateAt (at_ % 256) else at_ % 256
    .next ((s.modLink n fun x => { x with lstateTx := 4, lstateAt := b, agreed := some (2, b) }).modLane n fun x =>
      { x with sleepEntering := true })
  else .next (s.modLink n fun x => { x with lstateTx := 5, lstateAt := at_ % 256 })

end Sys2Proof.Machine
end

