-- ==== Sys2Proof/Machine/Admit.lean ====
section
/-!
DEFINITION. Sys2Proof/Machine/Admit.lean: capability messages, admission, loss and resumption of a session, key exchange, and
1.x framing (chapter 04, R112 to R117, R124 to R134).
-/
namespace Sys2Proof.Machine

/-- CAP_DONE goes out with a value (Table 04.3). -/
def State.sendCapDone (s : State) (n : Port) (v : Nat) : State :=
  (s.modLink n fun l => { l with capDoneSent := some v }).sendMsg n 2 1 [BitVec.ofNat 8 v]

/-- HUB_ID returns to 255 (R20, R22): depth and parent are unknown, every route entry reads NONE; in holdover the hub is
no longer rooted (R14). -/
def State.loseId (s : State) : State :=
  let s1 := s.set CHIP_HUB_ID.HUB_ID 255 |>.set CHIP_ROLE.DEPTH 255 |>.set CHIP_HUB_ID.PARENT_ID 255
    |>.set CHIP_HUB_ID.PARENT_PORT 0
  ((List.range 256).foldl (fun t i => (t.set (ROUTE.ROUTE i) 0).set (ROUTE.DEPTH i) 0) s1).gateDown

/-- The lineage of a spoke whose upstream link runs in compatibility mode comes from its own REFIN (R24, R25): chain time
runs FREE; without REFIN it records NO_LOCAL_REF. -/
def State.takeRefin (s : State) : State :=
  let has := s.refFitted && s.clk.refin
  let s1 := if s.clk.everLocked || !has then s else s.startTime
  let s2 := { s1 with clk := { s1.clk with
    pll := if has then .refin else if s1.clk.everLocked then .held else .off, everLocked := s1.clk.everLocked || has } }
  s2.set CTM_STAT.FREE 1 |>.when (!has) (fun t => t.set CLK_STAT.NO_LOCAL_REF 1)

/-- The partner is the one of the session before, and RESUME and the time of its CAP allow the flows back (R126). -/
def State.mayResume (s : State) (n : Port) (ident : Nat) : Bool :=
  let l := s.link n
  l.capInTime && ident == l.prevIdent && ident != 0 && (!s.facesUp n || l.farPort == l.prevFar) && l.prevResume && s.feature n 5

/-- The partner's HUB_IDENT as the registers hold it. -/
def State.partnerIdent (s : State) (n : Nat) : Nat :=
  (List.range 4).foldl (fun a i => a + s.get (WLT_PARTNER_IDENT.IDENT n i) * 2 ^ (32 * i)) 0

/-- An admission at which a child finds another parent, one without identity, or another port of it, costs it its id (R20). -/
def State.checkParent (s : State) (n : Port) (ident : Nat) : State :=
  if s.facesUp n then
    let s1 := if s.hubId ≠ 255 ∧ (ident = 0 ∨ ident ≠ s.chain.parentIdent
        ∨ (s.link n).farPort ≠ s.get CHIP_HUB_ID.PARENT_PORT) then s.loseId else s
    { s1 with chain := { s1.chain with parentIdent := ident, hold0 := false } }
  else s

/-- The flows of a held port at its admission (R126): resumed, or its session expires. -/
def State.settleSession (s : State) (n : Port) (ident : Nat) : State :=
  if s.flag (WLT_LINK_STAT.HELD n) then
    if s.mayResume n ident then
      ((s.set (WLT_LINK_STAT.HELD n) 0).resumePort n).raise (EV.sessionResumed n)
    else s.expireSession n
  else s

/-- The elastic paths at an admission (Table 02.3 step 1, R507): the parent's slip FIFO and the child's elastic path are in
use; over a 1.x link none is. -/
def State.startLineage (s : State) (n : Port) : State :=
  let s0 := s.set (slipCnt n) 0
  if s.flag (WLT_PCS_STAT.COMPAT n) then (if s.facesUp n then s0.takeRefin.bringUpOff else s0)
  else if s.facesUp n then s0.beginRejoin
  else s0.setBitOf CLK_STAT.PORT_SLIP n true

/-- The link is admitted (R115): counts clear, flows are settled, the wheels take their size, LINK_UP is raised and
reported. -/
def State.admitLink (s : State) (n : Port) : State :=
  let ident := s.partnerIdent n
  let s1 := s.set (WLT_LINK_STAT.ADMITTED n) 1 |>.set (WLT_LINK_STAT.FACING_MISMATCH n) 0
    |>.setFlag (WLT_LINK_STAT.ENC n) (s.link n).encAgreed |>.set (WLT_REPLAY_STAT.REPLAYS n) 0
    |>.set (WLT_FLIGHT_ERR.CRC_FAIL n) 0 |>.set (WLT_FLIGHT_ERR.HDR_FAIL n) 0 |>.set (WLT_FLIGHT_ERR.CRED_ERR n) 0
    |>.set (WLT_ENC_STAT.TAG_FAIL n) 0 |>.set (WLT_POISON_CNT.TX_LISTED n) 0 |>.set (WLT_POISON_CNT.RX_POISONED n) 0
  let s2 := ((s1.checkParent n ident).settleSession n ident).modLink n fun l =>
    { l with prevIdent := ident, prevFar := l.farPort, capInTime := false, noResume := false, sent := [0, 0, 0, 0], freed := [0, 0, 0, 0], again := [], paid := [], txLpn := 0, clearLpn := 0, rxLpn := 0, rxLpnStart := 0 }
  let s3 := (s2.showCred n).startLineage n
  let s4 := if s.flag (WLT_PCS_STAT.COMPAT n) then s3 else s3.admitWheels n
  (s4.raise (EV.linkUp n)).report n true

/-- Admission once every condition of R115 holds. -/
def State.tryAdmit (s : State) (n : Port) : State :=
  let l := s.link n
  if !s.flag (WLT_LINK_STAT.ADMITTED n) && l.capSent && l.capRcvd && l.capDoneSent == some 1 && l.capDoneRcvd == some 1
      && (!l.encAgreed || (l.kxDoneSent && l.kxDoneRcvd)) then s.admitLink n
  else s

/-- The version two ends agree (R113): none when it lies below either minimum. -/
def agreeVersion (c : Cap) : Option (Nat × Nat) :=
  let major := min 2 c.majorMax
  if major < 1 ∨ major < c.majorMin then none
  else some (major, if c.majorMax = 2 then min 1 c.minor else if major = 2 then 1 else c.minor)

/-- The features two ends use (R114, Table 04.7): those that both CAPs advertise and the version reaches. -/
def agreeFeatures (own : Nat) (c : Cap) (v : Nat × Nat) : Nat :=
  let f := (c.features &&& own) % 256
  if v.1 < 2 then 0 else if v.2 < 1 then f % 64 else f

/-- A random byte string of n bytes from the generator. -/
def State.random (s : State) (n : Nat) : List Byte := (List.range n).map fun k => Config.drbg (s.freeCtr + k)
def State.useRandom (s : State) (n : Nat) : State := { s with freeCtr := s.freeCtr + n }

/-- Key exchange begins (R128): an ephemeral key pair, and its share goes out. -/
def State.startKx (s : State) (n : Port) : State :=
  let e := s.random 48
  ((s.useRandom 48).modLink n fun l => { l with encAgreed := true, eph := e }).set (WLT_ENC_STAT.KX_STATE n) 1
    |>.sendMsg n 0x10 4 (Config.p384Public e)

/-- The registers take a received CAP (WLTn_PARTNER_CAP, WLTn_PARTNER_IDENT). -/
def State.storeCap (s : State) (n : Port) (c : Cap) (far : Nat) : State :=
  let s1 := s.setWords (fun i => WLT_PARTNER_CAP.DATA n i) 0 (words32 13 c.bytes)
  (s1.setWords (fun i => WLT_PARTNER_IDENT.IDENT n i) 0 (words32 4 (byteSlice c.ident 0 16))).modLink n fun l =>
    { l with capRcvd := true, capAt := s.uptime, farPort := far, capRooted := c.rooted, credTx := (List.range 4).map fun k => c.initCred.getD k 0 }

/-- A CAP has arrived (R13, R113, R114, R126, R127): two ends that face alike stay unadmitted with FACING; versions and
encryption that do not meet take the link down; else CAP_DONE 1 answers and key exchange starts where encryption is
agreed, by what both CAPs say. An admitted link is not re-keyed (R132). far is the partner's port at the other end of the cable, which no message carries (log entry 68). -/
def execCapRx (n : Port) (c : Cap) (far : Port) (s : State) : Out :=
  let st := s.get (WLT_PCS_STAT.TRAIN_STATE n)
  if st ≠ 4 ∧ st ≠ 9 ∨ s.flag (WLT_LINK_STAT.ADMITTED n) then .next s else
  let s1 := s.storeCap n c far
  let own := (s.link n).ownCap
  let fail (t : State) : State := t.when (t.flag (WLT_LINK_STAT.HELD n)) fun u => u.expireSession n
  if c.upFacing == s.facesUp n then .next (fail ((s1.set (WLT_LINK_STAT.FACING_MISMATCH n) 1).sendCapDone n 10)) else
  let refuse (t : State) (code : Nat) : State := (fail (t.sendCapDone n code)).linkDown n code
  let native := st = 4
  match agreeVersion c with
  | none => .next (refuse (s1.raise (EV.versionMismatch n)) 5)
  | some v =>
    if native ∧ v.1 ≠ 2 then .next (refuse (s1.raise (EV.versionMismatch n)) 5) else
    let f := agreeFeatures (leNat (byteSlice own 6 2)) c (if native then v else (1, v.2))
    let must := c.encMandatory || bit (byteAt own 2) 3
    let s2 := s1.set (WLT_LINK_STAT.MAJOR n) v.1 |>.set (WLT_LINK_STAT.MINOR n) v.2 |>.set (WLT_LINK_STAT.FEATURES n) f
      |>.set (WLT_LINK_STAT.FACING_MISMATCH n) 0
    if must && !bit f 7 then .next (refuse s2 6) else
    let s3 := (s2.modLink n fun l => { l with capInTime := s.flag (WLT_LINK_STAT.HELD n) }).sendCapDone n 1
    let enc := bit f 7 && (must || c.encWanted || bit (byteAt own 2) 2)
    .next (if enc then s3.startKx n else s3.tryAdmit n)

/-- CAP_DONE has arrived (R115): 1 lets the link be admitted; a refusal for the version or for encryption takes it down,
one for facing leaves it unadmitted. -/
def execCapDoneRx (n : Port) (v : Nat) (s : State) : Out :=
  let st := s.get (WLT_PCS_STAT.TRAIN_STATE n)
  if st ≠ 4 ∧ st ≠ 9 then .next s else
  let s1 := s.modLink n fun l => { l with capDoneRcvd := some v }
  .next (if v = 1 then s1.tryAdmit n else if v = 10 then
    (s1.set (WLT_LINK_STAT.FACING_MISMATCH n) 1).when (s1.flag (WLT_LINK_STAT.HELD n)) fun t => t.expireSession n else s1.linkDown n v)

/-- An admitted link goes down for a listed reason (R117, Table 04.8). -/
def execLinkDown (n : Port) (reason : DownReason) (s : State) : Out :=
  .next (if s.flag (WLT_LINK_STAT.ADMITTED n) then s.linkDown n reason else s)

/-- 2 s have passed since LINK_DOWN with no valid CAP; one at this very tick came late (R126). -/
def execSessionExpiry (n : Port) (s : State) : Out :=
  .next (if s.flag (WLT_LINK_STAT.HELD n) && (!(s.link n).capInTime || (s.link n).capAt == s.uptime) then s.expireSession n else s)

-- Encryption (R128 to R131) ------------------------------------------------------------------------------------------

/-- "WELT-LINK" (R128). -/
def weltLink : List Byte := [0x57, 0x45, 0x4C, 0x54, 0x2D, 0x4C, 0x49, 0x4E, 0x4B]

/-- The transcript T (R128): the downstream-facing end's CAP and share come first. -/
def State.transcriptOf (s : State) (n : Port) (share : List Byte) : List Byte :=
  let mine := (s.link n).ownCap
  let theirs := s.windowBytes (fun i => WLT_PARTNER_CAP.DATA n i) 13
  let own := Config.p384Public (s.link n).eph
  Config.sha384 (if s.facesUp n then theirs ++ mine ++ share ++ own else mine ++ theirs ++ own ++ share)

/-- The partner's key share has arrived (R128): KX_AUTH goes out, signed with the identity key over "WELT-LINK" and T. -/
def execKxShareRx (n : Port) (share : List Byte) (s : State) : Out :=
  if !(s.link n).encAgreed || s.flag (WLT_LINK_STAT.ADMITTED n) then .next s else
  let t := s.transcriptOf n share
  let sig := Config.ecdsaSign s.identKey (weltLink ++ t)
  .next ((s.modLink n fun l => { l with shareRcvd := some share, transcript := t }).sendMsg n 0x11 8
    (byteSlice (Config.p384Public s.identKey) 0 97 ++ byteSlice sig 0 96))

/-- KX_AUTH has arrived (R129, R130): identity hash and signature are checked, the owner policy answers policyOk, and the
link keys are derived; a failure takes the link down. -/
def execKxAuthRx (n : Port) (pub sig : List Byte) (policyOk : Bool) (s : State) : Out :=
  let l := s.link n
  if s.flag (WLT_LINK_STAT.ADMITTED n) then .next s else
  match l.shareRcvd with
  | none => .next s
  | some share =>
    let good := byteSlice (Config.sha384 pub) 0 16 == s.windowBytes (fun i => WLT_PARTNER_IDENT.IDENT n i) 4
      && Config.ecdsaVerify pub (weltLink ++ l.transcript) sig
    match Config.ecdh l.eph share with
    | none => .next (s.linkDown n 4)
    | some z =>
      if !good then .next (s.linkDown n 4)
      else if !policyOk then .next (s.linkDown n 9)
      else
        let keys := Config.kdf z [0x57, 0x45, 0x4C, 0x54] l.transcript 72
        .next ((s.modLink n fun x => { x with authOk := true, keys := keys }).set (WLT_ENC_STAT.KX_STATE n) 2)

/-- Slot 5 + n holds the keys of port n's link (Table 15.8). -/
def State.linkSlotLoad (s : State) (n : Nat) : State :=
  s.set (SLOT0.VALID (5 + n)) 1 |>.set (SLOT0.TYPE (5 + n)) 4 |>.set (SLOT0.ORIGIN (5 + n)) 0 |>.set (SLOT0.MASTERS (5 + n)) 16
    |>.set (SLOT0.LCS (5 + n)) 30 |>.set (SLOT0.USES (5 + n)) 32

/-- The link keys stand in their slot (R130): KX_DONE goes out, once; the flight that carries it is the last one in the clear. -/
def execKeysInstalled (n : Port) (s : State) : Out :=
  .next (if (s.link n).authOk && !s.flag (WLT_LINK_STAT.ADMITTED n) && s.get (WLT_ENC_STAT.KX_STATE n) != 3 then
    ((s.linkSlotLoad n).sendMsg n 0x12 1 []).set (WLT_ENC_STAT.KX_STATE n) 3 else s)

/-- A flight boundary (R98). The flight that carries KX_DONE may be what the admission waited for (R115). -/
def execFlightSend (n : Port) (s : State) : Out :=
  let st := s.get (WLT_PCS_STAT.TRAIN_STATE n)
  if st ≠ 4 ∧ (st ≠ 5 ∨ s.facesUp n) then .next s else
  let t := s.sendFlight n
  .next (if (t.link n).kxDoneSent && !(s.link n).kxDoneSent then t.tryAdmit n else t)

/-- The partner's KX_DONE has arrived in the exchange before admission (R131, R132). -/
def execKxDoneRx (n : Port) (s : State) : Out :=
  .next (if (s.link n).encAgreed && !s.flag (WLT_LINK_STAT.ADMITTED n) then
    (s.modLink n fun l => { l with kxDoneRcvd := true, rxTxc := 0 }).tryAdmit n else s)

-- 1.x framing (R133, R134) -------------------------------------------------------------------------------------------

/-- A frame of 1.x has arrived (R133): discarded when its CRC is bad or it ended in K30.7. A PACKET in order is accepted,
each one out of order, a repeat too, answered with NAK (log entry 84); ACK frees frames, NAK sends again from the one after it, a frame known bad by now with K30.7, CREDIT
raises a class's credit; a MSG and a PWARN act by their own commands (log entry 13). -/
def execCompatFrameRx (n : Port) (f : Frame1x) (s : State) : Out :=
  let l := s.link n
  let low := bits f.word 0 12
  if s.get (WLT_PCS_STAT.TRAIN_STATE n) ≠ 9 ∨ f.badEnd ∨ crc32 (leBytes 4 f.word ++ f.body) ≠ f.crc then .next s else
  let ackTo (m : Nat) (x : LinkPort) : LinkPort := { x with frames := x.frames.filter fun y => before 12 m y.pseq }
  match f.word / 2 ^ 28 with
  | 0 =>
    if bits f.word 16 12 = (l.pseqRx + 1) % 4096 then
      .next (s.modLink n fun x => { x with pseqRx := (x.pseqRx + 1) % 4096, rxLpn := (x.rxLpn + 1) % 65536 })
    else .next (s.sendFrame n (Frame1x.build 2 0 l.pseqRx []))
  | 1 => .next (s.modLink n (ackTo low))
  | 2 =>
    let s1 := s.modLink n (ackTo low)
    .next ((s1.link n).frames.foldl (fun t x => t.sendFrame n (Frame1x.build 0 x.pseq 0 x.body x.bad))
      ((s1.inc (WLT_REPLAY_STAT.RPL_ID n)).incSat (WLT_REPLAY_STAT.REPLAYS n)))
  | 3 =>
    let c := bits f.word 12 2
    let have_ := l.credTx.getD c 0
    let gain := (low + 4096 - have_ % 4096) % 4096
    .next ((s.modLink n fun x => { x with credTx := x.credTx.set c ((have_ + gain) % 65536) }).showCred n)
  | _ => .next s

/-- A compatibility end acknowledges what it has accepted (R134). -/
def execCompatAckTimer (n : Port) (s : State) : Out :=
  .next (if s.get (WLT_PCS_STAT.TRAIN_STATE n) = 9 then s.sendFrame n (Frame1x.build 1 0 (s.link n).pseqRx []) else s)

end Sys2Proof.Machine
end

