-- ==== Sys2Proof/Machine/Flows.lean ====
section
/-!
DEFINITION. Sys2Proof/Machine/Flows.lean: flow contexts and their commands, the way of a packet through the hub, reliable
bulk, and the end adapters' decision (chapter 05, R205 to R210).
-/
namespace Sys2Proof.Machine

-- Contexts (R143 to R148) --------------------------------------------------------------------------------------------

/-- A write of word o of context i (R143): words without RW fields take nothing; dropped while the context is in use, and when it sets CLASS CTL or one that its TTYPE
does not allow. A reserved TTYPE is stored; ACTIVATE refuses it. -/
def State.writeCtx (s : State) (i o v : Nat) : WRes :=
  if !(ctxWord i o).any fun f => f.acc == .rw then (s, 0)
  else if s.ctxLive i then (s.set LST_CTX_STAT.CTX_BUSY 1, 0)
  else if o = 0 ∧ (bits v 4 2 = 0 ∨ (bits v 6 4 ≤ 4 ∧ !classAllowed (bits v 6 4) (bits v 4 2))) then (s.set LST_CTX_STAT.STATUS 1, 8)
  else (s.writeRw (ctxWord i o) v, 0)

def execContextWrite (i : CtxNo) (o v : Nat) (s : State) : Out := .next (s.writeCtx i (o / 4 * 4 % 256) v).1

/-- A context command has completed (R144): status and index stand, CTX_BUSY clears, CTX_CMD_DONE is raised. -/
def State.ctxDone (s : State) (i status : Nat) : State :=
  s.set LST_CTX_STAT.INDEX i |>.set LST_CTX_STAT.STATUS status |>.set LST_CTX_STAT.CTX_BUSY 0
    |>.count (srcSignal 17 2) 1 |>.raise EV.ctxCmdDone

/-- The context ends a reliable-bulk tunnel at this hub: one of its sides is an end adapter. -/
def State.rlbEnd (s : State) (i : Nat) : Bool :=
  s.get (CTX0.CLASS i) == 2 && (decide (4 ≤ s.get (CTX0.IN_ATT i)) || (s.ctxOuts i).any fun o => decide (4 ≤ o.1))

/-- The engine a context would be homed on at activation (R152); none is ENGINE_FULL. -/
def State.homeFor (s : State) (i : Nat) : Option Nat :=
  if s.flag (CTX0.HOME_AUTO i) then s.bestEngine
  else if s.homed (s.get (CTX0.HOME i)) < 128 then some (s.get (CTX0.HOME i)) else none

/-- The status of ACTIVATE (Table 05.7), checks in order. Every attachment exists in both roles (Table 01.1). -/
def State.activateStatus (s : State) (i : Nat) : Nat :=
  if !classAllowed (s.get (CTX0.TTYPE i)) (s.get (CTX0.CLASS i)) then 1
  else if s.flag (CTX0.MCAST i) && s.get (CTX0.CLASS i) != 1 then 3
  else if s.rlbEnd i && !s.flag (CTX0.PAIR_VALID i) then 4
  else if !s.flag (CTX0.HOME_AUTO i) && s.flag (FE_STAT.FENCED (s.get (CTX0.HOME i))) then 5
  else if (s.homeFor i).isNone then 6
  else 0

/-- The active map of the wheel that set context i's quota still names it. -/
def State.quotaMapped (s : State) (i : Nat) : Bool := (s.activeMap (s.get (CTXP6.QWHEEL i))).any fun e => e.ctx == i

/-- ACTIVATE of context i (R144, R145, R152, R165): WARM_LEFT 16 reads as 0 in its four bits; DECLARED seeds the
prediction. A context in use cannot be activated; what status that leaves is not stated (log entry 2). -/
def State.activate (s : State) (i : Nat) : State :=
  let s0 := s.set LST_BUF_PLAN.LATCHED 1
  if s.ctxLive i then s0.useFree.ctxDone i s.free
  else
    let st := s.activateStatus i
    if st ≠ 0 then s0.ctxDone i st else
    let s1 := match s.homeFor i with
      | some e => s0.homeOn i e
      | none => s0
    s1 |>.set (CTX5.ACTIVE i) 1 |>.set (CTX5.WARMING i) 1 |>.set (CTX5.WARM_LEFT i) 16 |>.set (CTX5.REHOMED i) 0
      |>.set (CTXP0.PRED_X16 i) (16 * s.get (CTX2.DECLARED i))
      |>.when (!s.quotaMapped i) (fun t => t.set (CTXP1.EFF_QUOTA i) (s.get (CTX2.QUOTA i)))
      |>.checkUnderfed false i |>.refreshEnds |>.ctxDone i 0

def execActivate (i : CtxNo) (s : State) : Out := .next (s.activate i)

/-- DRAIN of context i (R147). -/
def State.drain (s : State) (i : Nat) : State :=
  if s.flag (CTX5.ACTIVE i) && !s.flag (CTX5.DRAINING i) then (s.set (CTX5.DRAINING i) 1).ctxDone i 0 else s.ctxDone i 7

def execDrain (i : CtxNo) (s : State) : Out := .next (s.drain i)

/-- Nothing of flow i is left at this hub: no packet stored or waiting, at a display head neither, none kept for
retransmission (R147). -/
def State.drained (s : State) (i : Nat) : Bool :=
  s.occ i == 0 && !(s.flows.waiting.any fun p => p.ctx == i)
    && (match s.flows.rlbIn.find? i with
        | some r => r.kept.isEmpty
        | none => true)
    && s.disp.heads.toList.all fun d => d.waits.all fun o => o.ctx != i

def execDrainComplete (i : CtxNo) (s : State) : Out :=
  .next (if s.flag (CTX5.DRAINING i) && s.drained i then (s.ctxIdle i 2).refreshEnds else s)

def execDrainTimeout (i : CtxNo) (s : State) : Out := .next (if s.flag (CTX5.DRAINING i) then (s.ctxIdle i 3).refreshEnds else s)

/-- TEAR_DOWN of context i (R147). -/
def State.tearDown (s : State) (i : Nat) : State :=
  if s.ctxLive i then (s.ctxIdle i 1).refreshEnds.ctxDone i 0 else s.ctxDone i 7

def execTearDown (i : CtxNo) (s : State) : Out := .next (s.tearDown i)

/-- MOVE of context i to engine e (Table 05.7, R152): packets pass the engine whole in this model, so that every moment is a
packet boundary. -/
def State.move (s : State) (i e : Nat) : State :=
  if !(s.flag (CTX5.ACTIVE i) && !s.flag (CTX5.DRAINING i)) then s.ctxDone i 7
  else if s.flag (FE_STAT.FENCED e) then s.ctxDone i 5
  else if 128 ≤ s.homed e then s.ctxDone i 6
  else ((s.unhome i).homeOn i e).ctxDone i 0

def execMove (i : CtxNo) (e : Engine) (s : State) : Out := .next (s.move i e)

/-- The written command v of LST_CTX_CMD is carried out. What a reserved operation answers is not stated (log entry 2). -/
def State.ctxCarry (s : State) (v : Nat) : State :=
  let i := bits v 0 11
  match bits v 24 4 with
  | 0 => s
  | 1 => s.activate i
  | 2 => s.drain i
  | 3 => s.tearDown i
  | 4 => s.move i (bits v 16 4)
  | _ => s.useFree.ctxDone i s.free

/-- A written context command that runs completes (R144): BUSY clears. -/
def State.commandRun (s : State) : State :=
  match s.flows.command with
  | some v => ({ s with flows := { s.flows with command := none } }.set LST_CTX_STAT.BUSY 0).ctxCarry v
  | none => s

/-- A write of LST_CTX_CMD (R144): the command runs, with BUSY set, until the next tick (log entry 22); while one runs another is dropped
and counted. -/
def State.ctxCmd (s : State) (v : Nat) : State :=
  if bits v 24 4 = 0 then s
  else if s.flows.command.isSome then s.incSat LST_CTX_STAT.LOST
  else { s with flows := { s.flows with command := some v } }.set LST_CTX_STAT.BUSY 1

-- Arrival and admission (R141, R151, R153) ---------------------------------------------------------------------------

/-- A packet that arrived by attachment a is discarded before it enters the Last: WASTED, its space freed. -/
def State.discardArrival (s : State) (a cls lpn n : Nat) : State :=
  if h : a < 4 then
    ((s.freePacket ⟨a, h⟩ cls n (lpn % 65536)).modLink ⟨a, h⟩ fun l => { l with discLpn := lpn % 65536 :: l.discLpn }).when
      (s.flag (WLT_PCS_STAT.COMPAT a)) fun t => t.slots (unitRx a) 1 n
  else (s.slots (unitIn a) 1 n).count (srcSignal (4 + a) 2) 1

/-- SEQ compared with NEXT_SEQ (R153). -/
def State.checkSeq (s : State) (i seq : Nat) : State :=
  let next := s.get (CTX4.NEXT_SEQ i)
  if before 16 next seq then
    let e := s.get (CTX0.HOME i)
    (s.incSat (CTX4.GAPS i)).set (CTX4.NEXT_SEQ i) (seq + 1) |>.count (srcSignal (12 + e / 4) (e % 4 + 8)) 1
  else if seq % 65536 = next then s.set (CTX4.NEXT_SEQ i) (seq + 1) else s

/-- A packet reaches the engine of context i from attachment a (R141, R216): discarded as NO_CTX, MISROUTE, HELD or on an
engine that stays fenced; else its SEQ is compared and it waits for admission. Packets of the other attachments are numbered by the hub. -/
def State.arrive (s0 : State) (a i lpn : Nat) (decided : Bool) (p : Pkt) : State :=
  let s1 := s0.count (srcSignal (4 + a) 0) 1
  let s := if a < 4 then s1 else { s1 with flows := { s1.flows with number := s1.flows.number + 1 } }
  let no := if a < 4 then lpn else s1.flows.number % 65536
  let n := p.n
  let drop (t : State) : State := (t.incSat (CTX7.DISCARDS i)).discardArrival a p.hdr.cls lpn n
  let e := s.get (CTX0.HOME i)
  if !(s.flag (CTX5.ACTIVE i) || s.flag (CTX5.DRAINING i)) then drop (s.incSat LST_DISCARD.NO_CTX)
  else if a ≠ s.get (CTX0.IN_ATT i) ∨ p.hdr.cls ≠ s.get (CTX0.CLASS i) then drop (s.incSat LST_DISCARD.MISROUTE)
  else if s.flag (CTX5.HELD i) then drop s
  else if s.flag (FE_STAT.FENCED e) && !s.integ.rehome.contains e then drop s
  else
    let s1 := s.checkSeq i p.hdr.seq
    { s1 with flows := { s1.flows with
        waiting := s1.flows.waiting ++ [⟨p, i, a, no, decided, false, 0, 0, false⟩] } }

/-- An end adapter's packet as it enters the chain (R137, R138, R205): label, class, SEQ, the tick of TTAG, and the flow seal
where the context asks for one. -/
def State.adapterPkt (s : State) (i seq : Nat) (p : Pkt) : Pkt :=
  let cls := s.get (CTX0.CLASS i)
  let h := { p.hdr with flow := i, cls := cls, seq := seq % 65536, ttag := if p.hdr.held then p.hdr.ttag else s.now32 }
  if s.flag (CTX0.SEAL i) && decide (2 ≤ cls) then Pkt.addSeal ⟨h, p.data⟩
  else
    let len := ceilDiv p.data.length 32
    ⟨{ h with len := len, sealed := false }, byteSlice p.data 0 (32 * len)⟩

def State.rlbInOf (s : State) (i : Nat) : RlbIn := (s.flows.rlbIn.find? i).getD ⟨0, [], 100⟩
def State.putRlbIn (s : State) (i : Nat) (r : RlbIn) : State :=
  { s with flows := { s.flows with rlbIn := s.flows.rlbIn.put i r } }
def State.rlbOutOf (s : State) (i : Nat) : RlbOut := (s.flows.rlbOut.find? i).getD ⟨0xFFFF, 0, none⟩
def State.putRlbOut (s : State) (i : Nat) (r : RlbOut) : State :=
  { s with flows := { s.flows with rlbOut := s.flows.rlbOut.put i r } }

/-- Room for one more unacknowledged RLB packet of n slots (R158): 4,096 of the flow, BUF_QUOTA, the RLB ingress partition. -/
def State.rlbRoom (s : State) (i n : Nat) : Bool :=
  let r := s.rlbInOf i
  let a := s.get (CTX0.IN_ATT i)
  decide (r.kept.length < 4096) && (s.get (CTX3.BUF_QUOTA i) == 0
    || decide ((r.kept.map Pkt.n).sum + n ≤ s.get (CTX3.BUF_QUOTA i)))
  && (if s.pooled a then decide (s.egressFill a 2 + s.keptAt a + n ≤ s.partSlots a 0 2 + s.partSlots a 1 2)
      else decide (s.keptAt a + n ≤ s.partSlots a 0 2))

/-- The end adapter of attachment a takes packets: its domain is on, and no entry into Retain has stopped it (R392, R398). -/
def State.adapterOn (s : State) (a : Nat) : Bool := s.domainOn (a + 6) && !s.flag PWRD_STATE.ENTERING

/-- An end adapter sends a packet on context i (R147, R158): while the context drains it sends nothing new; an RLB packet
takes the next SEQ and is kept until it is acknowledged, and waits at the adapter while the flow may keep no more, or behind one of its
flow that waits there (R139). An ISO packet of a bridge waits for the LOCAL ingress partition or pool to hold it (R326). An adapter that
is off takes none. -/
def State.adapterSend (s : State) (a i : Nat) (p : Pkt) : State :=
  let rlb := s.get (CTX0.CLASS i) == 2
  let n := (s.adapterPkt i 0 p).n
  if !s.adapterOn a then s else if s.flag (CTX5.DRAINING i) || (rlb && !s.rlbRoom i n) || (!rlb && a == 7 && !s.inRoom 7 (s.get (CTX0.CLASS i)) n)
      || s.flows.backlog.any (fun b => b.2.1 == i) then
    { s with flows := { s.flows with backlog := s.flows.backlog ++ [(a, i, p)] } }
  else
    let seq := s.flows.seqOut.getD i 0
    let q := s.adapterPkt i seq p
    let s1 := { s with flows := { s.flows with seqOut := s.flows.seqOut.put i ((seq + 1) % 65536) } }
    let r := s1.rlbInOf i
    let s2 := if rlb && s.flag (CTX5.ACTIVE i) then
        s1.putRlbIn i { r with nextSeq := (seq + 1) % 65536, kept := r.kept ++ [⟨{ p.hdr with seq := seq, len := q.hdr.len }, p.data⟩] }
      else s1
    s2.arrive a i 0 true q

/-- What the adapters held back for context i is tried again. -/
def State.drainBacklog (s : State) (i : Nat) : State :=
  let mine := s.flows.backlog.filter fun b => b.2.1 == i
  mine.foldl (fun t b => t.adapterSend b.1 i b.2.2)
    { s with flows := { s.flows with backlog := s.flows.backlog.filter fun b => b.2.1 != i } }

/-- A packet on a context label has reached its engine (R141): from a Welt port as it came, with its link packet number, or
from an end adapter, which gives it SEQ, TTAG and seal. The fixed labels and 0x7FF name no context there (R140), and nothing of a
flight that has failed is forwarded (R90). -/
def execFlowPacketArrival (a : Nat) (i : CtxNo) (p : Pkt) (lpn : Nat) (s : State) : Out :=
  if h : a < 4 then
    if i.val = 0 ∨ i.val = 1 ∨ i.val = 0x7FF ∨ (s.link ⟨a, h⟩).flightBad then .next s
    else .next (s.arrive a i (lpn % 65536) (s.flag (WLT_PCS_STAT.COMPAT (⟨a, h⟩ : Port))) p)
  else .next (s.adapterSend (a % 8) i p)

/-- The first waiting packet of context i is admitted, or waits, or, BE over quota, is discarded (R151). A BE packet refused for want of
room alone waits (DESIGN CHOICE, log entry 95). -/
def State.tryAdmitPkt (s : State) (p : FlowPkt) : State :=
  let i := p.ctx
  let e := s.get (CTX0.HOME i)
  let refused (t : State) : State := t.count (srcSignal (12 + e / 4) (e % 4 + 12)) 1
  if s.flag (FE_STAT.FENCED e) then refused s
  else if s.roomFor p (s.ctxOuts i) then s.admitPkt p
  else if p.pkt.hdr.cls = 3 ∧ s.flag (CTX5.OVER_QUOTA i) then
    ({ s with flows := { s.flows with waiting := s.flows.waiting.erase p } }).incSat (CTX7.DISCARDS i) |>.wasteWaiting p
  else refused s

/-- The RX wheel of a native Welt port decides which of its waiting queues is offered (R168): packet p comes in when the wheel picks it,
and is charged there; while positions still to come must pick, it waits. -/
def State.admitByWheel (s : State) (w : WheelNo) (p : FlowPkt) : State :=
  match s.pick w with
  | some k => if k.pkt = p then (s.admitPkt p).charge w k else s
  | none => if (s.wheelCands w).contains p then s else s.tryAdmitPkt p

/-- The first waiting packet of context i finds quota, buffer quota and room, or waits (R151). -/
def execPacketAdmission (i : CtxNo) (s : State) : Out :=
  match s.flows.waiting.find? fun p => p.ctx == i.val with
  | some p =>
    .next (if h : p.inAtt < 4 then
      (if s.flag (WLT_PCS_STAT.COMPAT p.inAtt) then s.tryAdmitPkt p else s.admitByWheel ⟨4 + p.inAtt, by omega⟩ p)
    else s.tryAdmitPkt p)
  | none => .next s

-- Egress (R154, R157, R171) ------------------------------------------------------------------------------------------

/-- Bytes of the frames that a 1.x port holds for replay (R134): of each its PACKET word, body and CRC (log entry 86). -/
def LinkPort.frameBytes (l : LinkPort) : Nat := (l.frames.map fun x => x.body.length + 8).sum

/-- A bridge flow without compatibility wrapping does not cross a 1.x link (R24): its packets wait (DESIGN CHOICE, log entry 95). -/
def State.unwrapped (s : State) (p : FlowPkt) : Bool :=
  p.ctx != 2048 && s.get (CTX0.TTYPE p.ctx) == 4 && !s.flag (CTX0.WRAP p.ctx)

/-- The packets a 1.x link may start, the first of each flow (R153): credit covers them (R103), no other flow's message is open (R139),
and at most 255 frames and 256 KiB of them are unacknowledged (R134). -/
def State.compatCands (s : State) (n : Port) : List FlowPkt :=
  let l := s.link n
  if 255 ≤ l.frames.length then [] else
  (firstOfFlow (s.flows.admitted.filter fun p => p.outAtt == n.val && !p.begun && !s.unwrapped p) []).filter fun p =>
    decide (p.pkt.n ≤ l.avail p.pkt.hdr.cls) && l.opens p && decide (l.frameBytes + 32 * p.pkt.n + 8 ≤ 262144)

/-- An egress Welt port starts a packet (R154): the wheel's choice on a native link, the lowest class first on a 1.x link
(R24, R171). -/
def State.egressStart (s : State) (n : Port) : State :=
  if s.flag (WLT_PCS_STAT.COMPAT n) then
    match bestOf (fun a b => decide (a.pkt.hdr.cls < b.pkt.hdr.cls)) (s.compatCands n) with
    | some p => s.startPacket n p
    | none => s
  else
    let w : WheelNo := ⟨n.val, by omega⟩
    match s.pick w with
    | some k => (s.startPacket n k.pkt).charge w k
    | none => s

def execEgressPacketStart (n : Port) (s : State) : Out :=
  .next (if s.flag (WLT_LINK_STAT.ADMITTED n) then s.egressStart n else s)

/-- A multicast copy's egress cannot take it: held, down, or without credit (R157). -/
def State.branchBlocked (s : State) (a : Nat) (p : FlowPkt) : Bool :=
  if h : a < 4 then
    s.flag (WLT_LINK_STAT.HELD a) || !s.flag (WLT_LINK_STAT.ADMITTED a)
      || decide ((s.link ⟨a, h⟩).avail p.pkt.hdr.cls < p.pkt.n)
  else false

/-- A multicast copy whose egress has been held, down or without credit beyond 1 ms is dropped alone (R157). -/
def execMulticastBranchDrop (i : CtxNo) (a : Nat) (s : State) : Out :=
  match s.flows.admitted.find? fun p => p.ctx == i.val && p.outAtt == a && !p.begun with
  | some p => .next (if s.flag (CTX0.MCAST i) && s.branchBlocked a p then s.wasteAdmitted p else s)
  | none => .next s

-- End adapters (R110, R138, R159, R208, R210) ------------------------------------------------------------------------

/-- Time T has been reached: it equals chain time [31:0] or lies up to 2^31 ticks behind (R138). The value a freeze holds is reached
at its end (R49). -/
def State.due (s : State) (ttag : Nat) : Bool :=
  let d := (s.now32 + 2 ^ 32 - ttag % 2 ^ 32) % 2 ^ 32
  decide (d ≤ 2 ^ 31) && !(s.frozen && d == 0)

/-- One display head beyond its registers. -/
def State.head (s : State) (h : Head) : HeadSt := s.disp.heads[h]
def State.modHead (s : State) (h : Head) (f : HeadSt → HeadSt) : State :=
  { s with disp := { s.disp with heads := upd s.disp.heads h (f s.disp.heads[h]) } }

/-- One more operation received on flow i at head h (R288). -/
def State.countOp (s : State) (h : Head) (i : Nat) : State :=
  s.modHead h fun d => { d with counts := d.counts.setD i 0 (d.counts.getD i 0 + 1) }

/-- The head that a DISP channel names (Table 10.1). -/
def channelHead (label : Nat) : Head := ⟨label % 2, Nat.mod_lt _ (by decide)⟩

/-- A packet with a reserved MX on a head's channel. -/
def reservedMx (p : FlowPkt) : Bool :=
  p.outAtt == 6 && !bit p.outLabel 1 && !isFlowControl p.pkt && decide (5 ≤ p.pkt.hdr.mx) && p.pkt.hdr.mx != 8 && p.pkt.hdr.mx != 9

/-- Such a packet waits, held, behind an operation of its flow, or behind a pending flip of any (R286). -/
def State.reservedWaits (s : State) (p : FlowPkt) : Bool :=
  let h := channelHead p.outLabel
  reservedMx p && byteAt p.pkt.hdr.info 0 == h.val
    && ((s.head h).pend.isSome || ((s.head h).waits.any fun o => o.ctx == p.ctx) || (p.pkt.hdr.held && !s.due p.pkt.hdr.ttag))

/-- A packet with a reserved MX on a head's channel (R284, R285): dropped in BAD_HEAD, or rejected in BAD_ARG and received, when its turn
comes. -/
def State.reservedOp (s : State) (p : FlowPkt) : State :=
  let h := channelHead p.outLabel
  if !reservedMx p then s
  else if byteAt p.pkt.hdr.info 0 ≠ h.val then s.incSat (DSP_OP_ERR.BAD_HEAD h)
  else if s.reservedWaits p then s.modHead h fun d => { d with waits := d.waits ++ [⟨p.pkt.hdr.mx, p.ctx, p.pkt.bare⟩] }
  else (s.incSat (DSP_OP_ERR.BAD_ARG h)).countOp h p.ctx

/-- A packet has left the egress partition of its attachment: RETIRED there. -/
def State.handed (s : State) (p : FlowPkt) : State :=
  ((s.leave true p).slots (unitOut p.outAtt) 0 p.pkt.n).count (srcSignal (4 + p.outAtt) 1) 1

/-- The end port (endNo: a VDP, or group port g of one) or root port that a HOST channel names (R255, Table 09.2). -/
def State.hostChannel (s : State) (label : Nat) : Nat :=
  if s.isRoot then endNo (label % 16) (if bit label 8 then some (label / 16 % 16) else none) else label % 2

/-- A request is completed with Unsupported Request when it is non-posted, and dropped otherwise; both are counted (R257,
R261). port is 16 for the host. -/
def State.refuseTlp (s : State) (port : Nat) (t : Tlp) : State :=
  if t.posted || t.completion then s.incSat PCIE_DROP.DISCARDED
  else ((s.incSat PCIE_DROP.UR_SENT).count (srcSignal 18 2) 1).emit (.unsupported port)

/-- The TLPs queued for PCI Express links that leave now (R263): in flow order, each with link credit; a posted request or a completion
passes non-posted requests that wait, and nothing else passes. -/
def State.hostLinks (s : State) : State :=
  let q := s.host.queue
  let r := q.zipIdx.foldl (fun (r : State × List (Nat × Tlp)) x =>
    let blocked := r.2.any fun y => y.1 == x.1.1 && (x.1.2.kind == 1 || y.2.kind != 1)
    if !blocked && Config.linkCredit x.1.1 x.1.2.kind x.2 s.uptime then (r.1.emit (.tlp x.1.1 x.1.2.bytes), r.2)
    else (r.1, r.2 ++ [x.1])) (s, [])
  { r.1 with host := { r.1.host with queue := r.2 } }

/-- A TLP joins the queue of its kind for a PCI Express link (R263). -/
def State.linkTlp (s : State) (port : Nat) (t : Tlp) : State :=
  State.hostLinks { s with host := { s.host with queue := s.host.queue ++ [(port, t)] } }

/-- A storage packet at a HOST egress: in the Root it has arrived for the end port that its channel names (R255); in a spoke its TLP goes
unchanged towards the link of the root port, unless that is not bound (R261). -/
def State.hostOut (s : State) (label : Nat) (d : Pkt) : State :=
  let n := s.hostChannel label
  if s.isRoot then s.emit (.host n d)
  else if !s.flag (PCIE_RP_CTX.BIND n) then s.refuseTlp n d.toTlp
  else (s.linkTlp n d.toTlp).when (bit d.hdr.mx 2) fun t => t.raise EV.tlpPoisoned

/-- The packet is handed to the attachment without its flow seal (R208). A frame stays in the NET egress partition until a port
sends it (R270). The slots of line data are counted when the fetcher takes or discards them (R303), those of a display-update
operation when it is carried out (R286). Flow-control packets of other flows are ignored (R160). -/
def State.handOver (s : State) (p : FlowPkt) : State :=
  let q := p.pkt.bare
  if isFlowControl p.pkt then s.handed p else
  let s0 := if p.outAtt = 5 then
      { s with flows := { s.flows with admitted := s.flows.admitted.erase p, netq := s.flows.netq ++ [p] } }
    else if p.outAtt = 6 ∧ (p.pkt.hdr.mx < 5 ∨ p.pkt.hdr.mx = 9 ∨ s.reservedWaits p) then (s.leave true p).count (srcSignal 10 1) 1
    else s.handed p
  let d : Pkt := ⟨{ q.hdr with flow := p.outLabel }, q.data⟩
  let s1 := if p.outAtt = 4 then s0.hostOut p.outLabel d else s0.emit (.packet p.outAtt d)
  if p.outAtt = 6 then s1.reservedOp p else s1

/-- A one-packet message of an adapter: MX, META, payload; the rest is filled in as it enters the chain (R137). -/
def message (mx : Nat) (info data : List Byte) : Pkt :=
  { hdr := { flow := 0, cls := 0, len := ceilDiv data.length 32, first := true, last := true, poison := false, sealed := false,
             held := false, mx := mx, seq := 0, ttag := 0, info := byteSlice info 0 20 },
    data := data }

/-- A held packet whose apply time lies up to 2^31 ticks back as a head or a bridge takes it is recorded as late (R138). -/
def State.recordLate (s : State) (p : FlowPkt) : State :=
  if 6 ≤ p.outAtt ∧ p.pkt.hdr.held ∧ s.due p.pkt.hdr.ttag ∧ p.pkt.hdr.ttag % 2 ^ 32 ≠ s.now32 then
    { s with flows := { s.flows with late := s.flows.late + 1 } }
  else s

/-- A good packet is delivered. A bridge packet stays in the LOCAL egress partition until its bus queue takes it (R313). -/
def State.deliver (s0 : State) (p : FlowPkt) : State :=
  let s := s0.recordLate p
  if p.outAtt == 7 && p.ctx != 2048 && !isFlowControl p.pkt then
    { s with flows := { s.flows with admitted := s.flows.admitted.erase p, held := s.flows.held ++ [p] } }
  else s.handOver p

/-- The egress adapter of context i sends ACK or NAK on its PAIR flow (R159); after an ACK no accepted packet waits for
one. It carries the SEQ of the last packet sent there (log entry 14). -/
def State.rlbReply (s0 : State) (i : Nat) (nak : Bool) : State :=
  let s := if nak then s0 else s0.putRlbOut i { s0.rlbOutOf i with unacked := 0 }
  let j := s.get (CTX0.PAIR i)
  let ack := (s.rlbOutOf i).ackSeq
  let h : Hdr := { flow := j, cls := 2, len := 0, first := false, last := false, poison := false, sealed := false,
                   held := false, mx := 0x1F, seq := 0, ttag := 0, info := byteSlice (leBytes 2 ack ++ [BitVec.ofNat 8 (b2n nak)]) 0 20 }
  let seq := (s.flows.seqOut.getD j 0 + 65535) % 65536
  if s.flag (CTX0.PAIR_VALID i) then
    s.arrive (s.get (CTX0.IN_ATT j)) j 0 true ⟨{ h with flow := j, seq := seq, ttag := s.now32 }, []⟩
  else s

/-- An RLB packet, good under R106, at its egress adapter (R159): in order it is accepted and delivered, and the sixteenth
is acknowledged; a repeat is discarded and answered with an ACK; a gap is discarded and answered with a NAK, once in 20 µs
for one ACK_SEQ. -/
def State.rlbAccept (s : State) (p : FlowPkt) : State :=
  let i := p.ctx
  let r := s.rlbOutOf i
  let seq := p.pkt.hdr.seq % 65536
  if isFlowControl p.pkt then s.leave true p |>.slots (unitOut p.outAtt) 0 p.pkt.n
  else if seq = (r.ackSeq + 1) % 65536 then
    let k := r.unacked + 1
    let s1 := (s.putRlbOut i { r with ackSeq := seq, unacked := k, nakFor := none }).deliver p
    if k = 16 then s1.rlbReply i false else s1
  else if before 16 r.ackSeq seq then
    let again := match r.nakFor with
      | some (q, t) => q != r.ackSeq || decide (t + 8000 ≤ s.now)
      | none => true
    let s1 := s.wasteAdmitted p
    if again then (s1.putRlbOut i { r with nakFor := some (r.ackSeq, s.now) }).rlbReply i true else s1
  else (s.wasteAdmitted p).rlbReply i false

/-- Bits per pixel of head h (R281); a write of FMT acts at once (DESIGN CHOICE, log entry 117). -/
def State.bpp (s : State) (h : Head) : Nat := 2 ^ s.get (DSP_CTRL.FMT h)

/-- BYTES of a line (R303). -/
def State.lineBytes (s : State) (h : Head) : Nat := ceilDiv ((s.head h).raster.hactive * s.bpp h) 8

/-- H: lines held complete ahead of the line being shown (R304). -/
def State.linesHeld (s : State) (h : Head) : Nat :=
  (s.head h).lines.countP fun l => decide ((s.head h).begun ≤ l.line ∧ s.lineBytes h ≤ l.data.length) && !l.bad

/-- WATERMARK, 0 acting as 1. -/
def State.watermark (s : State) (h : Head) : Nat := max 1 (s.get (DSP_FB_CTRL.WATERMARK h))

/-- FB_STAT.HELD and URGENT follow H. -/
def State.showHeld (s : State) (h : Head) : State :=
  s.set (DSP_FB_STAT.HELD h) (s.linesHeld h) |>.setFlag (DSP_FB_STAT.URGENT h)
    (s.flag (DSP_FB_STAT.ACTIVE h) && decide (s.linesHeld h < s.watermark h))

/-- The fate of a packet of line data is known (R211): a span that was written early is bad with it, or stays. -/
def State.settleSpan (s : State) (p : FlowPkt) (bad : Bool) : State :=
  let settle (l : LineBuf) : LineBuf := if l.waits = some (p.inAtt, p.lpn) then { l with waits := none, bad := bad } else l
  let s1 : State := { s with disp := { s.disp with heads := s.disp.heads.map fun d => { d with lines := d.lines.map settle } } }
  (s1.showHeld 0).showHeld 1

/-- The fetcher has taken this packet before it was decided; true says that it discarded it (R303). -/
def State.written (s : State) (p : FlowPkt) : Option Bool :=
  (s.disp.early.find? fun x => x.1 == p.inAtt && x.2.1 == p.lpn).map fun x => x.2.2

/-- A packet at an end adapter is decided (R110, R208, R209, R210): poisoned, also by its own flag, or with a bad seal it is
discarded; a good one goes on. No seal is checked on an ISO flow (R205). An adapter whose domain is off discards all (Table 14.2). Line
data that the fetcher took before is decided where it stands (R211). -/
def State.decideAtAdapter (s : State) (p : FlowPkt) : State :=
  if 4 ≤ p.outAtt ∧ !s.domainOn (p.outAtt + 6) then s.wasteAdmitted p
  else if let some late := s.written p then
    let bad := p.bad || p.pkt.hdr.poison
    let t := (s.when bad fun t => t.incSat LST_END_DISCARD.POISONED).settleSpan p bad
    ({ t with disp := { t.disp with early := t.disp.early.erase (p.inAtt, p.lpn, late) } }.leave (!bad) p).decideSlots (unitOut 6)
      (b2n (bad || late)) p.pkt.n
  else if p.bad || p.pkt.hdr.poison then (s.incSat LST_END_DISCARD.POISONED).wasteAdmitted p
  else if p.pkt.hdr.sealed && p.pkt.hdr.cls != 1 && !p.pkt.sealGood then
    ((s.incSat LST_END_DISCARD.SEAL_FAIL).logErr 8 p.outAtt p.ctx).raise EV.sealFail |>.wasteAdmitted p
  else if p.pkt.hdr.cls = 2 then s.rlbAccept p else s.deliver p

/-- The first decided packet on its way to attachment a. -/
def State.firstDecided (s : State) (ok : FlowPkt → Bool) : Option FlowPkt :=
  s.flows.admitted.find? fun p => p.decided && decide (4 ≤ p.outAtt) && p.ctx != 2048 && ok p

def execAdapterPacketDecided (a : Nat) (s : State) : Out :=
  match s.firstDecided fun p => p.outAtt == a with
  | some p => .next (s.decideAtAdapter p)
  | none => .next s

-- Reliable bulk (R158 to R160) ---------------------------------------------------------------------------------------

def execRlbPacketRx (i : CtxNo) (s : State) : Out :=
  match s.firstDecided fun p => p.ctx == i.val && p.pkt.hdr.cls == 2 with
  | some p => .next (s.decideAtAdapter p)
  | none => .next s

/-- 4 µs after the oldest packet not yet acknowledged (R159). -/
def execRlbAckTimer (i : CtxNo) (s : State) : Out :=
  let r := s.rlbOutOf i
  .next (if 0 < r.unacked then s.rlbReply i false else s)

/-- Everything kept for context i is sent again, with fresh TTAG and seal (R160). -/
def State.resend (s : State) (i : Nat) : State :=
  (s.rlbInOf i).kept.foldl (fun t (p : Pkt) => t.arrive (t.get (CTX0.IN_ATT i)) i 0 true (t.adapterPkt i p.hdr.seq p)) s

/-- An ACK or NAK has arrived at the ingress adapter on context i, whose PAIR is the flow it sends (R160): acknowledged
packets are freed, a NAK sends the rest again. -/
def execRlbFlowControlRx (i : CtxNo) (ack : Nat) (nak : Bool) (s : State) : Out :=
  if !s.flag (CTX0.PAIR_VALID i) ∨ s.get (CTX0.CLASS i) ≠ 2 then .next s else
  let f := s.get (CTX0.PAIR i)
  let r := s.rlbInOf f
  let rest := r.kept.filter fun p => before 16 ack p.hdr.seq
  let s1 := s.putRlbIn f { r with kept := rest, timeout := if rest.length < r.kept.length then 100 else r.timeout }
  .next ((if nak then s1.resend f else s1).drainBacklog f)

/-- No ACK has advanced for the current timeout (R160): everything outstanding goes out again and the timeout doubles, up
to 10 ms. -/
def execRlbRetransmitTimeout (i : CtxNo) (s : State) : Out :=
  let r := s.rlbInOf i
  .next (if r.kept.isEmpty || !(s.flag (CTX5.ACTIVE i) || s.flag (CTX5.DRAINING i)) then s
    else (s.putRlbIn i { r with timeout := min (2 * r.timeout) 10000 }).resend i)

-- Partitions (R166) --------------------------------------------------------------------------------------------------

/-- LST_PART_CTRL.APPLY (R166). -/
def State.applyParts (s : State) : State :=
  let sizes := (List.range 64).map fun m => s.get (LST_PART.KIB m)
  let used := ctxRange.any fun i => s.ctxLive i
  let small := (List.range 4).any fun a => (List.range 4).any fun c => decide (sizes.getD (8 * a + c) 0 < 11)
  if used || decide (6144 < sizes.sum) || small then (s.set LST_PART_CTRL.PART_ERR 1).raise EV.partErr
  else ({ s with flows := { s.flows with parts := sizes } }).set LST_PART_CTRL.PART_ERR 0
    |>.set LST_PART_CTRL.FREE_KIB (6144 - sizes.sum)

def execPartitionApply (s : State) : Out := .next s.applyParts

end Sys2Proof.Machine
end

