-- ==== Sys2Proof/Machine/Wheel.lean ====
section
/-!
DEFINITION. Sys2Proof/Machine/Wheel.lean: the Proofer: epochs, packet boundaries, commits, quota cuts, maps (chapter 06, R175
to R194).
-/
namespace Sys2Proof.Machine

-- Epochs (R174, R177, R180, R181, R191) ------------------------------------------------------------------------------

/-- Slots of the whole packets of context i that wait for wheel w. -/
def State.waitingAt (s : State) (w : WheelNo) (i : Nat) : Nat :=
  (((s.wheelQueue w).filter fun p => p.ctx == i).map fun p => p.pkt.n).sum

/-- The prediction of context i takes the epoch that ends (R180): PRED_X16 − ⌊PRED_X16 / 16⌋ + A. -/
def State.predict (s : State) (i : Nat) : State :=
  match s.ownWheel i with
  | none => s
  | some w =>
    if h : w < 8 then
      let w : WheelNo := ⟨w, h⟩
      let a := min ((s.wh w).sent.getD i 0 + s.waitingAt w i) (s.get (WHLw_SIZE.P w))
      let d := s.get (CTXP0.PRED_X16 i)
      s.set (CTXP0.PRED_X16 i) (d - d / 16 + a) |>.set (CTXP2.LAST_DEMAND i) a
    else s

/-- WARM_LEFT falls by 1; WARMING clears when it reaches 0 (R181). -/
def State.warm (s : State) (i : Nat) : State :=
  if s.flag (CTX5.WARMING i) then
    let k := (s.get (CTX5.WARM_LEFT i) + 15) % 16
    s.set (CTX5.WARM_LEFT i) k |>.when (k == 0) fun t => t.set (CTX5.WARMING i) 0
  else s

/-- Counts of the epoch start afresh: positive owed counts are reset, negative ones stay (R174). -/
def WheelSt.newEpoch (x : WheelSt) : WheelSt :=
  { x with owed := x.owed.filter fun r => decide (r.2 < 0), floorOwed := min x.floorOwed 0, use := [], sent := [],
           last := x.use, served := [] }

def wheelNos : List WheelNo := [0, 1, 2, 3, 4, 5, 6, 7]

/-- The engines' loads of the epoch that ends are shown and start afresh (FEnn_LOAD, R179). -/
def State.engineEpoch (s : State) : State :=
  let s1 := (List.range 16).foldl (fun t e => t.set (FE_LOAD.SLOTS e) (min (t.wheel.engines.getD e 0) (2 ^ 18 - 1))) s
  { s1 with wheel := { s1.wheel with engines := [], budget := [], homes := [] } }

/-- Wheel w's first position of the epoch that starts is reached, unless positions are unreserved or the wheel stands still (R174, R194). -/
def State.reachFirst (s : State) (w : WheelNo) : State :=
  let k := s.get (WHLw_POS.POSITION w)
  if s.flag (WHLw_POS.UNRESERVED w) || s.get (WHLw_SIZE.P w) == 0 then s else s.reachPositions w k (k + 1)

/-- A new epoch starts: predictions, owed counts, warming, pools and UNDERFED (R174, R177, R180, R181, R191). first is where a wheel of a
size stands: position 0, but after a step into the epoch (R194). -/
def State.newEpochFrom (s : State) (first : Nat → Nat) : State :=
  let live := ctxRange.filter fun i => s.ctxLive i
  let s1 := live.foldl State.predict s
  let s2 := wheelNos.foldl (fun t (w : WheelNo) => (t.modWh w WheelSt.newEpoch).set (WHLw_POS.POSITION w) (first (t.get (WHLw_SIZE.P w)))) s1
  let s3 := live.foldl (fun t i => ((t.set (CTXP1.OWN_USE i) 0).set (CTXP2.BORROWED i) 0).set (CTX7.EPOCH_USE i) 0 |>.warm i) s2
  let s4 := wheelNos.foldl (fun t (w : WheelNo) => (t.activeMap w).foldl (fun u e => u.showCtx w e.ctx) (t.reachFirst w)) s3
  let s5 := wheelNos.foldl State.poolStart s4.engineEpoch
  (live.foldl (State.checkUnderfed · true) s5).set WHL_EPOCH.EPOCH s5.epochNow

def State.newEpoch (s : State) : State := s.newEpochFrom fun _ => 0

def execEpochBoundary (s : State) : Out := .next s.newEpoch

-- Packet boundaries (R175) -------------------------------------------------------------------------------------------

/-- adv payload positions have passed on wheel w and a packet boundary is reached: the first eligible candidate of Table
06.5 starts, at a TX wheel on the link, at an RX wheel into the Last. -/
def execWheelPacketBoundary (w : WheelNo) (adv : Nat) (s : State) : Out :=
  let s1 := s.passPositions w adv
  if s.get (WHLw_SIZE.P w) = 0 then .next s1 else
  match s1.pick w with
  | none => .next s1
  | some k =>
    if h : w.val < 4 then .next ((s1.startPacket ⟨w.val, h⟩ k.pkt).charge w k)
    else .next ((s1.admitPkt k.pkt).charge w k)

-- Commits (R182 to R188) ---------------------------------------------------------------------------------------------

/-- The signed distance from epoch a to epoch b, modulo 2^32 (R184). -/
def epochDist (a b : Nat) : Int := toInt 32 ((b + 2 ^ 32 - a % 2 ^ 32) % 2 ^ 32)

/-- Chain time at which epoch b starts, seen from time t. -/
def epochStart (t b : Nat) : Int := ((t / 51200 : Nat) + epochDist (t / 51200) b) * 51200

/-- The WHL result window is written whole (R249): words that the spec states for no such result are free values (log entry
2). -/
def State.whlResult (s : State) (tag status : Nat) (epoch wheel entry need basis : Option Nat) : State :=
  let f k := Config.freeNat (s.freeCtr + k)
  ({ s with freeCtr := s.freeCtr + 5 }).resDone resWHL tag status |>.set WHL_RES1.EPOCH (epoch.getD (f 0))
    |>.set WHL_RES2.WHEEL (wheel.getD (f 1)) |>.set WHL_RES2.ENTRY (entry.getD (f 2))
    |>.setFlag WHL_RES2.WHEEL_VALID wheel.isSome |>.set WHL_RES3.NEED (need.getD (f 3))
    |>.set WHL_RES3.BASIS (basis.getD (f 4))

/-- WHL_STAT and WHL_STAGED_EPOCH as the staged commits stand. -/
def State.showStaged (s : State) : State :=
  let ready := s.wheel.commits.filter Commit.ready
  let mask := ready.foldl (fun m c => m ||| c.wheels) 0
  match ready.getLast? with
  | some c => s.set WHL_STAT.STAGED mask |>.setFlag WHL_STAT.AT c.atEpoch |>.set WHL_STAGED_EPOCH.EPOCH c.epoch
  | none => s.set WHL_STAT.STAGED 0 |>.set WHL_STAT.AT 0

def State.addCommit (s : State) (c : Commit) : State :=
  ({ s with wheel := { s.wheel with commits := s.wheel.commits ++ [c] } }).resAccept resWHL

/-- COMMIT_NEXT (R182): the next boundary at least 4 µs away. -/
def State.commitNext (s : State) (wheels tag : Nat) : State :=
  let e := s.epochNow + (if (s.epochNow + 1) * 51200 < s.now + 1600 then 2 else 1)
  s.addCommit ⟨wheels % 256, e % 2 ^ 32, false, tag % 256, s.now, false⟩

/-- COMMIT_AT (R182): the epoch of WHL_COMMIT_EPOCH. -/
def State.commitAt (s : State) (wheels tag : Nat) : State :=
  s.addCommit ⟨wheels % 256, s.get WHL_COMMIT_EPOCH.EPOCH, true, tag % 256, s.now, false⟩

/-- ABORT (R185): staged commits are cancelled but those whose epoch is less than 4 µs away, which are applied; an ABORT
that only comes too late writes no result of its own (log entry 15). -/
def State.commitAbort (s : State) (tag : Nat) : State :=
  let late (c : Commit) : Bool := decide (epochStart s.now c.epoch < s.now + 1600)
  let ready := s.wheel.commits.filter Commit.ready
  let gone := ready.filter fun c => !late c
  let s0 := s.resAccept resWHL
  let s1 := { s0 with wheel := { s0.wheel with commits := s0.wheel.commits.filter fun c => !c.ready || late c } }
  if !gone.isEmpty then (s1.showStaged.whlResult tag 10 none none none none none).raise EV.whlCommitRefused
  else if ready.isEmpty then (s1.whlResult tag 11 none none none none none).raise EV.whlCommitRefused
  else s1

/-- A write of WHL_COMMIT; reserved operations do nothing. -/
def State.whlCommit (s : State) (v : Nat) : State :=
  match bits v 24 4 with
  | 1 => s.commitNext (bits v 0 8) (bits v 16 8)
  | 2 => s.commitAt (bits v 0 8) (bits v 16 8)
  | 3 => s.commitAbort (bits v 16 8)
  | _ => s

def execCommitNext (wheels tag : Nat) (s : State) : Out := .next (s.commitNext wheels tag)
def execCommitAt (wheels tag : Nat) (s : State) : Out := .next (s.commitAt wheels tag)
def execCommitAbort (tag : Nat) (s : State) : Out := .next (s.commitAbort tag)

/-- What refuses a commit: code, wheel, entry, NEED and B. -/
structure Refuse where
  code : Nat
  wheel : Option Nat
  entry : Option Nat
  need : Option Nat
  basis : Option Nat
deriving DecidableEq, Repr

/-- The first element that f answers for. -/
def firstSome {α β : Type} (f : α → Option β) : List α → Option β
  | [] => none
  | a :: t => (f a).or (firstSome f t)

/-- The wheels of a mask, lowest first. -/
def maskWheels (m : Nat) : List Nat := (List.range 8).filter fun w => bit m w

/-- The first bad entry of a map checked against basis b (Table 06.6 code 5). -/
def badEntry (b : Nat) : List (Ent × Nat) → List Nat → Option Nat
  | [], _ => none
  | (e, k) :: t, seen =>
    if e.cls = 0 ∨ seen.contains e.ctx ∨ (e.cls ≠ 1 ∧ e.share = 0) ∨ (e.cls = 1 ∧ b ≤ e.share) then some k
    else badEntry b t (e.ctx :: seen)

/-- A context does not belong to wheel w (Table 06.6 code 6). -/
def State.attWrong (s : State) (w i : Nat) : Bool :=
  if wheelTx w then !((s.ctxOuts i).any fun o => o.1 == wheelPort w) else s.get (CTX0.IN_ATT i) != wheelPort w

/-- The checks of Table 06.6 on a commit, in order. -/
def State.checkCommit (s : State) (c : Commit) : Option Refuse :=
  let ws := maskWheels c.wheels
  let b w := s.get (WHLw_SIZE.BASIS w)
  let staged := s.wheel.commits.filter Commit.ready
  let d := epochDist (c.arrived / 51200) c.epoch
  let busy := (ws.find? fun w => staged.any fun k => bit k.wheels w).map fun w => (⟨1, some w, none, none, none⟩ : Refuse)
  let missed : Option Refuse := if (c.atEpoch && decide (epochStart c.arrived c.epoch < c.arrived + 1600))
      || decide (epochStart s.now c.epoch < s.now) then
    some ⟨2, none, none, none, none⟩ else none
  let far : Option Refuse := if c.atEpoch && decide (65536 < d) then some ⟨3, none, none, none, none⟩ else none
  let native := (ws.find? fun w => s.flag (WLT_PCS_STAT.COMPAT (wheelPort w))).map fun w =>
    (⟨4, some w, none, none, none⟩ : Refuse)
  let entry := firstSome (fun w =>
    if 1023 < s.get (MAPS_HDR.COUNT w) then some (⟨5, some w, none, none, some (b w)⟩ : Refuse)
    else (badEntry (b w) (s.shadowMap w).zipIdx []).map fun k => ⟨5, some w, some k, none, some (b w)⟩) ws
  let att := firstSome (fun w => ((s.shadowMap w).zipIdx.find? fun x => s.attWrong w x.1.ctx).map fun x =>
    (⟨6, some w, some x.2, none, none⟩ : Refuse)) ws
  let quota := firstSome (fun w => ((s.shadowMap w).zipIdx.find? fun x =>
      (ws.filter fun v => v < w && wheelTx v).any fun v => (s.shadowMap v).any fun y =>
        y.ctx == x.1.ctx && (y.quota != x.1.quota || y.decl != x.1.decl)).map fun x =>
    (⟨7, some w, some x.2, none, none⟩ : Refuse)) (ws.filter fun w => wheelTx w)
  let sumCheck (code : Nat) (f : List Ent → Nat) := firstSome (fun w =>
    let need := 500 + f (s.shadowMap w)
    if b w < need then some (⟨code, some w, none, some need, some (b w)⟩ : Refuse) else none) ws
  ((((busy.or missed).or far).or native).or entry).or (((att.or quota).or (sumCheck 8 fun es => isoSum es Ent.quota)).or
    (sumCheck 9 fun es => (es.map Ent.quota).sum))

/-- Within 4 µs of its write the oldest commit is checked: staged, or refused whole (R184). -/
def execCommitStaging (s : State) : Out :=
  match s.wheel.commits.find? fun c => !c.ready with
  | none => .next s
  | some c =>
    let rest := s.wheel.commits.erase c
    match s.checkCommit c with
    | some r =>
      .next ((({ s with wheel := { s.wheel with commits := rest } }).whlResult c.tag r.code
        (if c.atEpoch then some c.epoch else none) r.wheel r.entry r.need r.basis).raise EV.whlCommitRefused)
    | none =>
      let s1 := { s with wheel := { s.wheel with commits := rest ++ [{ c with ready := true }] } }
      .next ((maskWheels c.wheels).foldl (fun t w => t.set (MAPS_HDR.BASIS w) (t.get (WHLw_SIZE.BASIS w))) s1).showStaged

/-- The contexts whose QUOTA wheel w's maps set (R183): those of a TX wheel, and of an RX wheel those with no Welt egress. -/
def State.setsQuota (s : State) (w i : Nat) : Bool :=
  wheelTx w || !((s.ctxOuts i).any fun o => decide (o.1 < 4))

/-- QUOTA and DECLARED of the contexts of wheel w's new active map (R183). -/
def State.takeMap (s : State) (w : Nat) : State :=
  (s.activeMap w).zipIdx.foldl (fun t x =>
    if t.setsQuota w x.1.ctx then
      t.set (CTX2.QUOTA x.1.ctx) x.1.quota |>.set (CTX2.DECLARED x.1.ctx) x.1.decl |>.set (CTXP6.QWHEEL x.1.ctx) w
        |>.set (CTXP6.ENTRY x.1.ctx) x.2
    else t) s

/-- Wheel w's active map names context i. -/
def State.names (s : State) (w i : Nat) : Bool := (s.activeMap w).any fun e => e.ctx == i

/-- Active contexts that wheel w's old map named, and whose quota no map of this commit on the wheels ws sets, lose it (R183). -/
def State.dropOld (s : State) (ws : List Nat) (w : Nat) (old : List Ent) : State :=
  (old.filter fun e => s.setsQuota w e.ctx && s.flag (CTX5.ACTIVE e.ctx)
    && !ws.any fun v => s.setsQuota v e.ctx && s.names v e.ctx).foldl
    (fun t e => (t.set (CTX2.QUOTA e.ctx) 0).set (CTXP1.EFF_QUOTA e.ctx) 0) s

/-- IN_MAP of the contexts of a list: some active map names the context (Table 06.8). -/
def State.showInMap (s : State) (l : List Ent) : State :=
  l.foldl (fun t e => t.setFlag (CTXP6.IN_MAP e.ctx) ((List.range 8).any fun v => t.names v e.ctx)) s

/-- Both measures of R189 and R190 stand at most at quota q; use is OWN_USE of the epoch meant. -/
def State.within (s : State) (i q use : Nat) : Bool := decide (s.get (CTXP3.ADMITTED_OCC i) ≤ q) && decide (use ≤ q)

/-- OVER_QUOTA clears, with QUOTA_DRAINED (R190). -/
def State.quotaDrained (s : State) (i : Nat) : State :=
  s.set (CTX5.OVER_QUOTA i) 0 |>.set WHL_FLOW_EVT.DRAINED_CTX i |>.raise EV.quotaDrained

/-- A commit changed the quota of context i from old (R189, R190). -/
def State.quotaChanged (s : State) (i old : Nat) : State :=
  let q := s.get (CTX2.QUOTA i)
  let last := match s.ownWheel i with
    | some w => if h : w < 8 then (s.wh ⟨w, h⟩).last.getD i 0 else 0
    | none => 0
  if q < old ∧ !s.within i q last then
    s.set (CTX5.OVER_QUOTA i) 1 |>.set WHL_FLOW_EVT.OQ_CTX i |>.raise EV.overQuota
  else if old < q ∧ s.flag (CTX5.OVER_QUOTA i) ∧ s.within i q (s.get (CTXP1.OWN_USE i)) then s.quotaDrained i
  else s

/-- The named wheels' pools follow their new maps, and the virtual positions that stand at the epoch's start are those of the new
maps (R174, R177). -/
def State.startMaps (s : State) (old : State) (ws : List Nat) : State :=
  wheelNos.foldl (fun t (w : WheelNo) =>
    if !ws.contains w.val then t else
    let u := t.poolStart w
    if s.get (WHLw_POS.POSITION w) ≠ 0 ∨ s.flag (WHLw_POS.UNRESERVED w) then u else
    let first (x : State) (i : Nat) : Int :=
      b2n ((x.activeMap w).any fun e => e.ctx == i && e.cls != 1 && decide (0 < effQuota (x.activeMap w) (x.get (WHLw_SIZE.P w)) e))
    u.modWh w fun x => (old.activeMap w ++ s.activeMap w).map Ent.ctx |>.eraseDups |>.foldl (fun y i =>
      let d := first s i - first old i
      if d = 0 then y else { y with owed := y.owed.setD i 0 (y.owedOf i + d) }) x) s

/-- A staged commit is applied (R183, R189, R191). -/
def State.applyCommit (s : State) (c : Commit) : State :=
  let ws := maskWheels c.wheels
  let live := ctxRange.filter fun i => s.ctxLive i
  let olds := ws.map fun w => (w, s.activeMap w)
  let s1 := ws.foldl State.swapMaps { s with wheel := { s.wheel with commits := s.wheel.commits.erase c } }
  let s2 := ws.reverse.foldl State.takeMap s1
  let s3 := (olds.foldl (fun t o => t.dropOld ws o.1 o.2) s2).showInMap (olds.flatMap Prod.snd ++ ws.flatMap s2.activeMap)
  let s4 := ws.foldl (fun t w => t.applyEff w (if t.get (WHLw_SIZE.P w) = 0 then t.get (WHLw_SIZE.BASIS w)
    else t.get (WHLw_SIZE.P w))) s3
  let s5 := live.foldl (fun t i =>
    if t.get (CTX2.QUOTA i) = s.get (CTX2.QUOTA i) then t else t.quotaChanged i (s.get (CTX2.QUOTA i))) s4
  ((((live.foldl (State.checkUnderfed · false) s5).startMaps s ws).showStaged).whlResult c.tag 0 (some c.epoch) none none none none).raise
    EV.whlCommitDone

/-- The staged epoch starts (R183); one whose start a freeze holds waits for its end (R187). -/
def execCommitApply (s : State) : Out :=
  if s.frozen then .next s else
  match s.wheel.commits.find? fun c => c.ready && c.epoch == s.epochNow % 2 ^ 32 with
  | some c => .next (s.applyCommit c)
  | none => .next s

/-- A staged commit whose epoch a forward step skipped is refused (R49, R187); all staged commits are in a re-base (R48). -/
def State.missCommits (s : State) (all : Bool) : State :=
  (s.wheel.commits.filter fun c => c.ready && (all || decide (epochStart s.now c.epoch < s.now))).foldl (fun t c =>
    let u := { t with wheel := { t.wheel with commits := t.wheel.commits.erase c } }
    (u.showStaged.whlResult c.tag 2 (if c.atEpoch then some c.epoch else none) none none none none).raise
      EV.whlCommitRefused) s

-- Quotas, maps, sizes ------------------------------------------------------------------------------------------------

def execQuotaDrained (i : CtxNo) (s : State) : Out :=
  .next (if s.flag (CTX5.OVER_QUOTA i) && s.within i (s.get (CTX2.QUOTA i)) (s.get (CTXP1.OWN_USE i)) then
    s.quotaDrained i else s)

/-- WHL_CTRL.COPY (R185). -/
def State.copyMaps (s : State) (wheels : Nat) : State :=
  (maskWheels wheels).foldl (fun t w => if bit (t.get WHL_STAT.STAGED) w then t else t.copyMap w) s

def execMapCopy (wheels : Nat) (s : State) : Out := .next (s.copyMaps wheels)

/-- A write at offset o of wheel w's 16 KiB of maps (R172, R185): the active map drops it, a staged wheel's shadow drops and
counts it. -/
def State.writeMap (s : State) (w o v : Nat) : State :=
  if o < 0x2000 then s
  else if bit (s.get WHL_STAT.STAGED) w then s.incSat WHL_STAT.SHADOW_DROPS
  else s.writeRw (mapWord w (o / 4 * 4)) v

def execShadowMapWrite (w : WheelNo) (o v : Nat) (s : State) : Out := .next (s.writeMap w (o % 0x4000) v)

/-- Re-expansion ends (R192); in a freeze positions stay unreserved (R50). -/
def execReexpansionDone (w : WheelNo) (s : State) : Out :=
  .next (if s.flag (WHLw_POS.EXPANDING w) then
    s.set (WHLw_POS.EXPANDING w) 0 |>.set (WHLw_POS.UNRESERVED w) (s.get CTM_STAT.FREEZE) else s)

end Sys2Proof.Machine
end

