-- ==== Sys2Proof/Machine/Integrity.lean ====
section
/-!
DEFINITION. Sys2Proof/Machine/Integrity.lean: memory and parity failures, flow-engine fencing and re-homing (chapter 07, R195
to R200, R213 to R219).
-/
namespace Sys2Proof.Machine

/-- The packet that an error names: its context and SEQ, or 2048 for the fixed labels and its number at its attachment. -/
def FlowPkt.named (p : FlowPkt) (i seq : Nat) : Bool := p.ctx == i && (if i = 2048 then p.lpn else p.pkt.hdr.seq) == seq

/-- The packets that hit names are found bad inside the hub: every copy is poisoned (R107, R198). A frame that waits for its NET port is
discarded (R210). -/
def State.poisonPacket (s : State) (hit : FlowPkt → Bool) : State :=
  let mark (p : FlowPkt) : FlowPkt := if hit p then { p with decided := true, bad := true } else p
  let begun := s.flows.admitted.filter fun p => hit p && p.begun
  let sent := s.flows.netq.filter hit
  let f := { s.flows with
    waiting := s.flows.waiting.map mark, admitted := s.flows.admitted.map mark, held := s.flows.held.map mark }
  let s1 := sent.foldl (fun t p => (t.incSat LST_END_DISCARD.POISONED).wasteAdmitted p)
    (begun.foldl State.poisonBegun { s with flows := f })
  let from_ := ((s.flows.waiting ++ s.flows.admitted).filter fun p => hit p && decide (p.inAtt < 4)).map fun p =>
    (p.inAtt, p.lpn)
  (from_.eraseDups.foldl (fun t x =>
    if h : x.1 < 4 then t.modLink ⟨x.1, h⟩ fun l => { l with discLpn := x.2 :: l.discLpn } else t) s1).dropPoisoned

/-- The waiting display operation of context i with this SEQ is poisoned: it is discarded, and its frame will miss it (R210). -/
def State.poisonOp (s : State) (i seq : Nat) : State :=
  let hit (o : DispOp) : Bool := o.ctx == i && o.pkt.hdr.seq == seq
  let gone := (s.disp.heads.toList.flatMap fun d => d.waits).filter hit
  let drop (d : HeadSt) : HeadSt := { d with waits := d.waits.filter fun o => !hit o }
  if gone.isEmpty then s else
  (({ s with disp := { s.disp with heads := s.disp.heads.map drop } }).incSat LST_END_DISCARD.POISONED gone.length).slots
    (unitOut 6) 1 (gone.map fun (o : DispOp) => o.pkt.n).sum

/-- The copy of reliable bulk that its adapter keeps is poisoned: sent again, it carries POISON (R158, R198). -/
def State.poisonKept (s : State) (i seq : Nat) : State :=
  match s.flows.rlbIn.find? i with
  | some r =>
    let mark (p : Pkt) : Pkt := if p.hdr.seq = seq then { p with hdr := { p.hdr with poison := true } } else p
    s.putRlbIn i { r with kept := r.kept.map mark }
  | none => s

/-- The packet that an error names is poisoned wherever the cell buffer holds it (R198): on its way, at a display head, or kept for
retransmission. -/
def State.poisonNamed (s : State) (i seq : Nat) : State := ((s.poisonPacket (FlowPkt.named · i seq)).poisonOp i seq).poisonKept i seq

/-- The ingress attachment of the packet that an error names, where the cell buffer holds it. -/
def State.holderOf (s : State) (i seq : Nat) : Option Nat :=
  match (s.flows.waiting ++ s.flows.admitted ++ s.flows.held ++ s.flows.netq).find? fun p => p.named i seq with
  | some p => some p.inAtt
  | none =>
    if ((s.disp.heads.toList.flatMap fun d => d.waits).any fun o => o.ctx == i && o.pkt.hdr.seq == seq)
        || ((s.flows.rlbIn.find? i).any fun r => r.kept.any fun p => p.hdr.seq == seq)
    then some (s.get (CTX0.IN_ATT i)) else none

/-- A header slot fails parity at the crossing into the fabric (R197): the packet never enters the Last. -/
def execHeaderParityFail (a cls lpn n : Nat) (s : State) : Out :=
  .next ((((s.incSat LST_PARITY.INGRESS).logErr 4 a 0).count (srcSignal 17 1) 1).discardArrival a (cls % 4) lpn n)

/-- A data slot fails parity at a crossing or on a fabric bus (R195). -/
def execDataParityFail (a i seq : Nat) (egress : Bool) (s : State) : Out :=
  let s1 := if egress then (s.incSat LST_PARITY.EGRESS).logErr 5 a i else (s.incSat LST_PARITY.INGRESS).logErr 4 a i
  .next ((s1.count (srcSignal 17 1) 1).poisonNamed i seq)

/-- An uncorrectable cell-buffer word (R198): UNIT is the packet's ingress attachment. -/
def execCellBufferUncorr (i seq : Nat) (s : State) : Out :=
  match s.holderOf i seq with
  | none => .next s
  | some a => .next ((((s.incSat LST_ECC_CB.UNCORR).logErr 1 a i).raise EV.memUncorr).poisonNamed i seq)

/-- An uncorrectable context word (R199): the packet that read it and the flow are gone, LAST_CAUSE 1. -/
def execContextUncorr (i : CtxNo) (s : State) : Out :=
  let s1 := ((s.incSat LST_ECC_TBL.UNCORR).logErr 2 0 i).raise EV.memUncorr
  .next (if s1.ctxLive i then (s1.ctxIdle i 1).refreshEnds else s1)

/-- First address and length of a table memory (Table 07.7): routing, wheel maps, chain routes, palettes, semaphores, key slots; the
logs are the error log of page 0x30. -/
def tableAt (table : Nat) : Nat × Nat :=
  match table with
  | 0 => (0x0180000, 0x20000)
  | 1 => (0x01C0000, 0x20000)
  | 2 => (0x01A0000, 0x400)
  | 3 => (0x01A4000, 0x1000)
  | 4 => (0x01A8000, 0x200)
  | 5 => (0x01AC000, 0x200)
  | _ => (0x30080, 0x80)

/-- An uncorrectable word of another table memory reads as zero, the whole 64 bits that its check covers (R199, Table 07.1). -/
def execTableUncorr (table addr : Nat) (s : State) : Out :=
  let t := tableAt (table % 7)
  let a := t.1 + addr % t.2 / 8 * 8
  let s1 := ((s.incSat LST_ECC_TBL.UNCORR).logErr 3 (table % 7) 0).raise EV.memUncorr
  .next ([a, a + 4].foldl (fun u w => (if w < 0x100000 then pageWord (w / 0x1000) (w % 0x1000) else windowWord w).foldl
    (fun v f => v.set f 0) u) s1)

/-- A flight of the replay buffer holds an uncorrectable word as it is read (R200), before admission too (R91). With no flight stored none is
read. -/
def execReplayUncorr (n : Port) (s : State) : Out :=
  if (s.link n).replay.isEmpty then .next s else
  let s1 := (((s.incSat LST_ECC_CB.UNCORR).logErr 9 n 0).raise EV.memUncorr).raise (EV.replayExhausted n)
  .next (s1.linkDown n 3)

/-- A scrubber pass corrected cb words of the cell buffer and tbl of the other memories (R196). -/
def execScrubPass (cb tbl : Nat) (s : State) : Out := .next (((s.incSat LST_ECC_CB.CORR cb).incSat LST_ECC_TBL.CORR tbl).count
  (srcSignal 17 0) (cb + tbl))

-- Fencing (R213 to R219) ---------------------------------------------------------------------------------------------

/-- A packet, named by its attachment and its number there, may have slots in engine e: its context is at home there, or it is on a
fixed label. -/
def State.inEngine (s : State) (e : Nat) (x : Nat × Nat) (p : FlowPkt) : Bool :=
  p.inAtt == x.1 && p.lpn == x.2 && (p.ctx == 2048 || s.get (CTX0.HOME p.ctx) == e)

/-- A packet that lost slots in a fenced engine (R214): dropped, what waits at its ingress too, or ended by the egresses that have
begun it. -/
def State.fenceLoss (s : State) (e : Nat) (x : Nat × Nat) : State :=
  let s1 := s.poisonPacket (s.inEngine e x)
  (s1.flows.admitted.filter fun q => s1.inEngine e x q && !q.begun).foldl State.wasteAdmitted s1

/-- Engine e is fenced (R214): lost names the packets that had slots in the engine, n those slots. -/
def State.fence (s : State) (e cause : Nat) (lost : List (Nat × Nat)) (n : Nat) : State :=
  if s.flag (FE_STAT.FENCED e) then s else
  let gone := lost.eraseDups.filter fun x => (s.flows.waiting ++ s.flows.admitted).any (s.inEngine e x)
  let s1 := gone.foldl (fun t x => t.fenceLoss e x) s
  ({ s1 with integ := { s1.integ with rehome := s1.integ.rehome ++ [e] } }).set (FE_STAT.FENCED e) 1
    |>.set (FE_STAT.CAUSE e) cause |>.setBitOf LST_ENGINES.FENCED e true |>.set (FE_FENCE_TIME.TIME e) s.now32
    |>.set (FE_FENCE_LOSS.PACKETS e) gone.length |>.set (FE_FENCE_LOSS.SLOTS e) (min n 88)
    |>.set LST_REHOME.MOVED 0 |>.set LST_REHOME.NO_ROOM 0 |>.logErr 6 e 0 |>.raise EV.engineFenced
    |>.raise (EV.feFenced e)

/-- A write of FEnn_CTRL.FENCE: cause MANUAL (R213). -/
def execFence (e : Engine) (lost : List (Nat × Nat)) (n : Nat) (s : State) : Out := .next (s.fence e 4 lost n)

/-- The output re-check fails, or the staging RAM has an uncorrectable error (R213). -/
def execEngineFailureDetect (e : Engine) (ram : Bool) (lost : List (Nat × Nat)) (n : Nat) (s : State) : Out :=
  .next (s.fence e (if ram then 3 else 1) lost n)

/-- The engine has held slots for 2 µs and delivered none (R213). -/
def execEngineWatchdog (e : Engine) (lost : List (Nat × Nat)) (n : Nat) (s : State) : Out := .next (s.fence e 2 lost n)

/-- Context i leaves fenced engine e for the best engine, or stays for want of room (R215, R216). The epoch's budget counts it on
engine e to the end (R179). -/
def State.rehomeOne (s : State) (e i : Nat) : State :=
  match s.bestEngine with
  | some b =>
    let homes := if (s.wheel.homes.find? i).isSome then s.wheel.homes else s.wheel.homes.put i e
    (({ s with wheel := { s.wheel with homes := homes } }.unhome i).homeOn i b).set (CTX5.REHOMED i) 1 |>.set LST_REHOME.LAST_CTX i
      |>.set LST_REHOME.MOVED (s.get LST_REHOME.MOVED + 1) |>.raise EV.flowRehomed
  | none =>
    s.set LST_REHOME.LAST_CTX i |>.set LST_REHOME.NO_ROOM (s.get LST_REHOME.NO_ROOM + 1) |>.logErr 7 e i
      |>.raise EV.rehomeNoRoom

/-- Within 200 µs of detection the flows of engine e are re-homed in ascending order of context (R215). -/
def execRehomeComplete (e : Engine) (s : State) : Out :=
  if !s.integ.rehome.contains e.val then .next s else
  let s1 := (ctxRange.filter fun i => s.ctxLive i && s.get (CTX0.HOME i) == e.val).foldl (fun t i => t.rehomeOne e i) s
  .next { s1 with integ := { s1.integ with rehome := s1.integ.rehome.filter fun x => x != e.val } }

/-- SOFT_RESET of an engine's page ends its fence (R167, R223); a re-homing not yet done is not needed any more. -/
def State.unfence (s : State) (e : Nat) : State :=
  ({ s with integ := { s.integ with rehome := s.integ.rehome.filter fun x => x != e } }).set (FE_STAT.FENCED e) 0
    |>.set (FE_STAT.CAUSE e) 0 |>.setBitOf LST_ENGINES.FENCED e false
    |>.set (FE_FENCE_TIME.TIME e) 0 |>.set (FE_FENCE_LOSS.PACKETS e) 0 |>.set (FE_FENCE_LOSS.SLOTS e) 0

end Sys2Proof.Machine
end

