-- ==== Sys2Proof/Machine/Chain.lean ====
section
/-!
DEFINITION. Sys2Proof/Machine/Chain.lean: enumeration: reports, ids, route entries, ASSIGN_ID, the session hold of a hub
(chapter 01, R15 to R23, R508).
-/
namespace Sys2Proof.Machine

-- The Root's map -----------------------------------------------------------------------------------------------------

/-- The hubs on the way from the Root to hub id, each with the port that leads on; none where a hub of it has left. -/
def pathTo (hubs : Tbl HubRec) : Nat → Nat → Option (List (Nat × Nat))
  | 0, _ => none
  | k + 1, id =>
    if id = 0 then some [] else
    match hubs.find? id with
    | none => none
    | some r => (pathTo hubs k r.parent).map fun l => l ++ [(r.parent, r.port)]

def State.path (s : State) (id : Nat) : List (Nat × Nat) := (pathTo s.chain.hubs 17 id).getD []

/-- The ids above hub id, as far as the map holds them. -/
def idsAbove (hubs : Tbl HubRec) : Nat → Nat → List Nat
  | 0, _ => []
  | k + 1, id =>
    match hubs.find? id with
    | none => []
    | some r => r.parent :: idsAbove hubs k r.parent

/-- The hubs below hub x, nearer ones first. -/
def State.below (s : State) (x : Nat) : List Nat :=
  let far (r : Nat × HubRec) : Nat := (idsAbove s.chain.hubs 17 r.1).idxOf x
  (List.range 17).flatMap fun d => ((s.chain.hubs.filter fun (r : Nat × HubRec) =>
    (idsAbove s.chain.hubs 17 r.1).contains x && far r == d).map Prod.fst)

/-- Hub x and the hubs below it. -/
def State.subtree (s : State) (x : Nat) : List Nat := x :: s.below x

/-- Entry x of this hub's chain route table. -/
def State.setRoute (s : State) (x route depth : Nat) : State :=
  (s.set (ROUTE.ROUTE x) route).set (ROUTE.DEPTH x) depth

/-- The Root writes entry x into one hub (R508): its own, or by control WRITE. -/
def State.routeInto (s : State) (hub x route depth : Nat) : State :=
  if hub = 0 then s.setRoute x route depth
  else s.request (reqPkt 1 hub 0 (0x01A0000 + 4 * x) 4 (leBytes 4 (route + 256 * depth))) 0

/-- Entry x into every hub on the way to hub y, with depth d (R508). -/
def State.writeEntries (s : State) (y x d : Nat) : State :=
  (s.path y).foldl (fun t p => t.routeInto p.1 x (4 + p.2) d) s

/-- The route entries for hub x along its path (R508). -/
def State.writeRoutes (s : State) (x : Nat) : State :=
  let d := match s.chain.hubs.find? x with
    | some r => r.depth
    | none => 0
  s.writeEntries x x d

def State.setHubs (s : State) (h : Tbl HubRec) : State := { s with chain := { s.chain with hubs := h } }

/-- Hub x leaves (R20): HUB_LEFT, and its entry and those below it read NONE wherever the Root still reaches. The hubs below it
keep their ids, so their records stay, to be joined again with x. -/
def State.hubLeft (s : State) (x : Nat) : State :=
  let s1 := (s.subtree x).foldl (fun t y => (s.path x).foldl (fun u p => u.routeInto p.1 y 0 0) t) s
  (s1.setHubs (Tbl.del s.chain.hubs x)).raise EV.hubLeft

/-- The id of a new hub (R18): the one last bound to its identity, the lowest never bound, the lowest free. -/
def State.chooseId (s : State) (ident : Nat) : Option Nat :=
  let free (i : Nat) : Bool := (s.chain.hubs.find? i).isNone
  let ids := (List.range 254).map (· + 1)
  let bound := if ident = 0 then none else
    ((s.chain.binds.find? fun b => b.2 == ident).map Prod.fst).filter free
  (bound.or (ids.find? fun i => free i && !(s.chain.binds.any fun b => b.1 == i))).or (ids.find? free)

/-- Id x is bound to an identity (R18), the latest first. -/
def State.bind (s : State) (x ident : Nat) : State :=
  if ident = 0 then s else
  { s with chain := { s.chain with binds := (x, ident) :: s.chain.binds.filter fun b => b != (x, ident) } }

/-- ENUM_REFUSED with parent, port and reason (R16). -/
def State.enumRefused (s : State) (parent port : Nat) (count : Bool) : State :=
  ({ s with chain := { s.chain with refused := some (parent, port, count) } }).raise EV.enumRefused

/-- A hub known under another place leaves it at once (R20). -/
def State.leaveOld (s : State) (ident parent port : Nat) : State :=
  match List.find? (fun (r : Nat × HubRec) => ident != 0 && r.2.ident == ident
    && !(r.2.parent == parent && r.2.port == port)) s.chain.hubs with
  | some r => s.hubLeft r.1
  | none => s

/-- Records that stand below a free id x whose last hub is not the one of identity ident: nothing links them to it. -/
def State.strays (s : State) (x ident : Nat) : List Nat :=
  if ident != 0 && (s.chain.binds.find? fun b => b.1 == x).any fun b => b.2 == ident then [] else s.below x

/-- A new hub is enumerated (R18, Table 01.2 step 4): id, route entries, ASSIGN_ID through its parent. -/
def State.enumerate (s : State) (parent port depth ident : Nat) (old : Bool) : State :=
  if 254 ≤ s.chain.hubs.length then s.enumRefused parent port true else
  match s.chooseId ident with
  | none => s.enumRefused parent port true
  | some x =>
    let r : HubRec := ⟨parent, port, depth, ident, false, false, old, false, false⟩
    let kept := (s.strays x ident).foldl Tbl.del s.chain.hubs
    let s1 := (s.setHubs (Tbl.put kept x r)).bind x ident
    (s1.writeRoutes x).request (assignPkt 0xFF parent port true x depth parent port false) 4

/-- The hubs ys, nearer ones first, take their place under their parents again (R18, R20): depth, id, and the route entries
for the id each holds and the id it gets, written while every hub still answers to the id it holds. One that would lie below
depth 16 is refused (R16), and so is what lies below a refused one (R15). Answers old and new ids. -/
def State.replace (s : State) : List Nat → State × List (Nat × Nat)
  | [] => (s, [])
  | y :: ys =>
    match s.chain.hubs.find? y with
    | none => s.replace ys
    | some r =>
      let d := if r.parent = 0 then 1 else (s.chain.hubs.find? r.parent).elim 17 fun p => p.depth + 1
      if 17 ≤ d then ((s.setHubs (Tbl.del s.chain.hubs y)).enumRefused r.parent r.port false).replace ys
      else
        let z := if r.ident = 0 then (s.chooseId 0).getD y else y
        let r' : HubRec := { r with depth := d, joined := false }
        let s1 := (s.setHubs (Tbl.put s.chain.hubs y r')).writeEntries y y d
        let s2 := if z = y then s1 else (s1.setHubs (Tbl.put s1.chain.hubs z r')).writeEntries y z d
        let t := s2.replace ys
        (t.1, (y, z) :: t.2)

/-- Hub y is known under id z from now on, also as a parent. -/
def State.rename (s : State) (y z : Nat) : State :=
  if y = z then s else
  s.setHubs ((Tbl.del s.chain.hubs y).map fun (h : Nat × HubRec) => if h.2.parent = y then (h.1, { h.2 with parent := z }) else h)

/-- ASSIGN_ID with REASSIGN to each hub of a subtree, its routes first; the entries of an id given up go back to NONE (R20). It goes
by DST_HUB; a hub that no longer holds its id is reached by VIA (reassignAnswered; DEDUCED, log entry 96). -/
def State.reassign (s : State) (ys : List Nat) : State :=
  let t := s.replace ys
  t.2.foldl (fun u m =>
    match u.chain.hubs.find? m.2 with
    | some r =>
      let v := u.request (assignPkt m.1 0 0 false m.2 r.depth r.parent r.port true) 5
      if m.1 = m.2 then v else (v.path m.2).foldl (fun w p => w.routeInto p.1 m.1 0 0) v
    | none => u) (t.2.foldl (fun u m => u.rename m.1 m.2) t.1)

/-- The answer to an ASSIGN_ID with REASSIGN (R19, R20): OK keeps the hub in the map; a hub that does not answer to its id has lost
it, and gets the ASSIGN_ID by VIA as soon as its parent holds one (R23). -/
def State.reassignAnswered (s : State) (q : CtlPkt) (status : Nat) : State :=
  let x := byteAt q.opdata 0
  match s.chain.hubs.find? x with
  | none => s
  | some r =>
    if status = 0 then s.setHubs (s.chain.hubs.put x { r with joined := true })
    else if !q.via && (r.parent == 0 || (s.chain.hubs.find? r.parent).any fun p => p.joined) then
      s.request (assignPkt 0xFF r.parent r.port true x r.depth r.parent r.port true) 5
    else s

/-- A lost hub is back at its port (R20). -/
def State.reenumerate (s : State) (x : Nat) : State :=
  (s.setHubs (s.chain.hubs.map fun (r : Nat × HubRec) => if r.1 = x then (r.1, { r.2 with held := false }) else r)).reassign
    (s.subtree x)

/-- An ASSIGN_ID has not been answered OK: the id is not taken. -/
def State.assignAnswered (s : State) (q : CtlPkt) (status : Nat) : State :=
  let x := byteAt q.opdata 0
  match s.chain.hubs.find? x with
  | some r => if status = 0 ∨ r.joined then s else s.setHubs (Tbl.del s.chain.hubs x)
  | none => s

/-- The identity that the Root holds of hub id, its own for 0. -/
def State.identOf (s : State) (id : Nat) : Nat :=
  if id = 0 then leNat s.hubIdent else (s.chain.hubs.find? id).elim 0 HubRec.ident

/-- The Root handles a LINK_UP report of hub and port whose partner has identity ident (R16, R18, R20); old says that it is a UH3200. A
lost hub back at its place keeps its id, unless its parent has no identity. -/
def State.takeUp (s : State) (r : Report) (ident : Nat) (old : Bool) : State :=
  match if r.hub = 0 then some 1 else (s.chain.hubs.find? r.hub).map fun p => p.depth + 1 with
  | none => s
  | some d =>
    let s1 := s.leaveOld ident r.hub r.port
    if 17 ≤ d then s1.enumRefused r.hub r.port false else
    match List.find? (fun (h : Nat × HubRec) => ident != 0 && h.2.ident == ident && h.2.parent == r.hub && h.2.port == r.port)
        s1.chain.hubs with
    | some h => if s1.identOf r.hub = 0 then (s1.hubLeft h.1).enumerate r.hub r.port d ident old else s1.reenumerate h.1
    | none => s1.enumerate r.hub r.port d ident old

/-- The report at the head of the Root's queue is taken with the identity of its partner. -/
def State.nextUp (s : State) (ident : Nat) (old : Bool) : State :=
  match s.chain.reports with
  | [] => s
  | r :: rest => ({ s with chain := { s.chain with reports := rest, asked := none } }).takeUp r ident old

/-- A LINK_UP report has reached the head of the Root's queue. The Root reads the partner's identity from the parent port's
WLTn_PARTNER_IDENT (R18): its own registers, or by a control READ, whose answer goes on (identAnswered). A UH3200 as the parent has no such
register in this spec: ident is what it answers. old says that the partner is a UH3200. A report of a spoke's port 0 is about its own
upstream link and only leaves the queue. -/
def execRootLinkUpReport (ident : Nat) (old : Bool) (s : State) : Out :=
  match s.chain.reports with
  | [] => .next s
  | r :: rest =>
    if !r.up ∨ !s.isRoot ∨ s.chain.asked.isSome then .next s else
    let s0 := { s with chain := { s.chain with reports := rest } }
    if r.hub = 0 then
      .next (s0.takeUp r ((List.range 4).foldl (fun a i => a + s.get (WLT_PARTNER_IDENT.IDENT r.port i) * 2 ^ (32 * i)) 0) old)
    else if r.port = 0 then .next s0
    else match s.chain.hubs.find? r.hub with
      | none => .next s0
      | some p =>
        if p.uh3200 then .next (s0.takeUp r ident old)
        else .next (({ s with chain := { s.chain with asked := some old } }).request
          (reqPkt 0 r.hub 0 (WLT_PARTNER_IDENT.IDENT r.port 0).addr 16 []) 7)

/-- The control READ of a partner's identity is answered (R18); without an answer of OK the report is handled no further (DEDUCED, log
entry 104). -/
def State.identAnswered (s : State) (a : CtlPkt) : State :=
  match s.chain.asked with
  | none => s
  | some old =>
    if a.status = 0 then s.nextUp (leNat (byteSlice a.data 0 16)) old
    else { s with chain := { s.chain with reports := s.chain.reports.drop 1, asked := none } }

/-- The Root handles a LINK_DOWN report (R20): the 2 s hold of the hub below that port starts. -/
def execRootLinkDownReport (s : State) : Out :=
  match s.chain.reports with
  | [] => .next s
  | r :: rest =>
    if r.up ∨ !s.isRoot then .next s else
    .next (({ s with chain := { s.chain with reports := rest } }).setHubs (s.chain.hubs.map fun (h : Nat × HubRec) =>
      if h.2.parent = r.hub ∧ h.2.port = r.port ∧ !(r.hub ≠ 0 ∧ r.port = 0) then (h.1, { h.2 with held := true }) else h))

/-- The 2 s of hub id are over without a matching LINK_UP (R20). -/
def execRootHoldExpiry (id : Nat) (s : State) : Out :=
  match s.chain.hubs.find? id with
  | some r => .next (if r.held && s.isRoot then s.hubLeft id else s)
  | none => .next s

/-- The new spoke has answered its ASSIGN_ID with OK (R18, Table 01.2 step 5); hubs that it had below it when it was lost are
joined again (R20). -/
def execHubJoined (id : Nat) (s : State) : Out :=
  match s.chain.hubs.find? id with
  | some r =>
    .next (if s.isRoot then ((s.setHubs (s.chain.hubs.put id { r with joined := true })).raise EV.hubJoined).reassign
      (s.below id) else s)
  | none => .next s

-- A spoke ------------------------------------------------------------------------------------------------------------

/-- 2 s have passed since the spoke's own LINK_DOWN of port 0 (R20). -/
def execSpokeHoldExpiry (s : State) : Out :=
  .next (if !s.isRoot && s.chain.hold0 then
    ({ s with chain := { s.chain with hold0 := false } }).loseId else s)

/-- The events whose EVENT packets wait for an id (R242). -/
def State.waitingEvents (s : State) : List Ev :=
  (evPages.flatMap fun p => (List.range p.2).map fun b => (⟨p.1, b⟩ : Ev)).filter fun e =>
    bit (s.get (EVT_RAW e.page)) e.bit && bit (s.get (EVT_EN e.page)) e.bit && s.flag (EVC_MAP.MSG e.num)

/-- Reports and events held back for want of an id go out (R17, R242): the link reports in their order, then the other events. -/
def State.releaseReports (s : State) : State :=
  let held := s.chain.heldReports.map fun r => if r.up then EV.linkUp r.port else EV.linkDown r.port
  let links := (List.range 4).flatMap fun n => [EV.linkUp n, EV.linkDown n]
  let s1 := held.foldl State.sendEvent { s with chain := { s.chain with heldReports := [] } }
  ((s.waitingEvents).filter fun e => !links.contains e).foldl State.sendEvent s1

/-- The spoke takes id, depth and parent, its own route entry LOCAL, and raises ID_ASSIGNED (Table 01.2 step 5). -/
def State.takeId (s : State) (id depth parent port : Nat) : State :=
  (s.set CHIP_HUB_ID.HUB_ID id |>.set CHIP_ROLE.DEPTH depth |>.set CHIP_HUB_ID.PARENT_ID parent
    |>.set CHIP_HUB_ID.PARENT_PORT port).setRoute id 1 depth |>.raise EV.idAssigned

/-- An answer leaves by the port its request came on while the hub has no id, else by the route table (R22, R23). -/
def State.reply (s : State) (n : Nat) (wasNone : Bool) (a : CtlPkt) : State :=
  if wasNone then s.ctlOut n a else s.sendCtl a

/-- ASSIGN_ID at a spoke (R19): accepted without an id, or with REASSIGN; another id tears every flow down first. -/
def State.assignId (s : State) (p : CtlPkt) : State :=
  let b i := byteAt p.opdata i
  let id := b 0
  let none_ := s.hubId == 255
  if s.isRoot then s
  else if !none_ && !bit (b 3) 7 then s.sendCtl (p.answer s.hubId 3 [])
  else if id = s.hubId then
    let s1 := s.set CHIP_ROLE.DEPTH (b 1) |>.set CHIP_HUB_ID.PARENT_ID (b 2) |>.set CHIP_HUB_ID.PARENT_PORT (b 3 % 4)
      |>.setRoute id 1 (b 1)
    s1.sendCtl (p.answer s1.hubId 0 [])
  else
    let s1 := if none_ then s else s.tearAll.setRoute s.hubId 0 0
    let s2 := s1.takeId id (b 1) (b 2) (b 3 % 4)
    ((s2.reply 0 none_ (p.answer id 0 [])).when none_ State.releaseReports).bringUpOff

/-- A write of entry j of the chain route table (R508). -/
def State.writeRoute (s : State) (src : Src) (j v : Nat) : WRes :=
  let ok := match src with
    | .hub id port => !s.isRoot && id == 0 && port == 0
    | .awlSecure => s.isRoot
    | _ => false
  if ok then (s.setRoute j (bits v 0 3) (bits v 8 8), 0) else (s.accessErr src (0x01A0000 + 4 * j), 5)

def execChainRouteWrite (src : Src) (j v : Nat) (s : State) : Out := .next (s.writeRoute src (j % 256) v).1

end Sys2Proof.Machine
end

