-- ==== Sys2Proof/Machine/Host.lean ====
section
/-!
DEFINITION. Sys2Proof/Machine/Host.lean: the PCI Express adapter: the Root's end ports, storage tunnels, resets, MSI-X
(chapter 09, R251 to R264). What the PCI Express specification gives a port's configuration space arrives decoded.
-/
namespace Sys2Proof.Machine

def State.modHost (s : State) (f : HostSt → HostSt) : State := { s with host := f s.host }

/-- The packet with POISON set as well when its adapter finds it bad (R212). -/
def markBad (bad : Bool) (p : Pkt) : Pkt := { p with hdr := { p.hdr with poison := p.hdr.poison || bad } }

/-- The packet of a TLP (R262, Table 05.12). -/
def Tlp.toPkt (t : Tlp) : Pkt :=
  markBad t.bufBad (message (b2n (t.header.length == 16) + 2 * b2n t.ecrc.isSome + 4 * b2n t.ep)
    (byteSlice t.header 0 16 ++ byteSlice (t.ecrc.getD []) 0 4) t.payload)

/-- TLP_POISONED when a TLP with EP set passes (R262). -/
def State.seeEp (s : State) (t : Tlp) : State := s.when t.ep fun u => u.raise EV.tlpPoisoned

-- Routing in the Root (R256, R257) -----------------------------------------------------------------------------------

/-- The end ports of the layout in force: VDPs without a group, and group ports. -/
def State.endPorts (s : State) : List Nat :=
  (List.range 272).filter fun e => if e < 16 then !s.flag (PCIE_VDP.GROUP_ACTIVE e)
    else s.flag (PCIE_VDP.GROUP_ACTIVE ((e - 16) / 16))

/-- The TLP falls into the bus range or a memory window of a port. -/
def PortCfg.takes (c : PortCfg) (t : Tlp) : Bool :=
  (match t.cfg with
   | some b => decide (c.secBus ≤ b.1 ∧ b.1 ≤ c.subBus)
   | none => false)
  || (match t.addr with
      | some a => !t.isIo && (decide (c.memBase ≤ a ∧ a ≤ c.memLimit) || decide (c.prefBase ≤ a ∧ a ≤ c.prefLimit))
      | none => false)
  || (match t.bus with
      | some b => decide (c.secBus ≤ b ∧ b ≤ c.subBus)
      | none => false)

/-- Port e takes the TLP. -/
def State.portTakes (s : State) (t : Tlp) (e : Nat) : Bool :=
  match s.host.ports.find? e with
  | some c => PortCfg.takes c t
  | none => false

/-- The end port that the switch routes a TLP to; a group port's VDP takes it first (R254, R256). -/
def State.routeTlp (s : State) (t : Tlp) : Option Nat :=
  s.endPorts.find? fun e => s.portTakes t e && (decide (e < 16) || s.portTakes t ((e - 16) / 16))

/-- A request that no function of the hierarchy takes is completed with Unsupported Request, as a PCI Express switch does; PCIE_DROP does
not count it (R256). -/
def State.noTaker (s : State) (t : Tlp) : State :=
  if t.posted || t.completion then s else (s.count (srcSignal 18 2) 1).emit (.unsupported 16)

/-- A TLP enters the forward context of end port e (R256): a Type 1 configuration request for device 0 of the secondary bus
becomes Type 0; one for another device there is unsupported. -/
def State.intoEnd (s0 : State) (e : Nat) (t : Tlp) : State :=
  if !s0.endReady e then s0.refuseTlp 16 t else
  let s := s0.count (srcSignal 18 0) 1
  let sec := match s.host.ports.find? e with
    | some c => c.secBus
    | none => 0
  match t.cfg with
  | some (b, d) =>
    if b = sec ∧ d ≠ 0 then s.noTaker t
    else
      let h0 : Byte := if b = sec then BitVec.ofNat 8 (clrBit (byteAt t.header 0) 0) else BitVec.ofNat 8 (byteAt t.header 0)
      (s.seeEp t).adapterSend 4 (s.endCtx e) (Tlp.toPkt { t with header := h0 :: t.header.drop 1 })
  | none => (s.seeEp t).adapterSend 4 (s.endCtx e) (Tlp.toPkt t)

/-- A malformed TLP is an error, an INTx message is discarded (Table 09.1); PME_Turn_Off goes to every bound end port
(R259); any other is routed. -/
def State.downTlp (s : State) (t : Tlp) : State :=
  if t.malformed then (s.incSat PCIE_ERR.UNCORR).raise EV.pcieUncorr
  else if t.intx then s.incSat PCIE_DROP.DISCARDED
  else if t.pmeTurnOff then
    (s.endPorts.filter fun e => s.endReady e).foldl (fun u e => u.adapterSend 4 (u.endCtx e) (Tlp.toPkt t)) s
  else match s.routeTlp t with
    | some e => s.intoEnd e t
    | none => s.noTaker t

-- MSI-X (R253, Table 08.7) -------------------------------------------------------------------------------------------

def State.msixEnt (s : State) (v : Nat) : Msix := (s.host.msix.find? v).getD ⟨0, 0, true, false⟩

/-- Vector v's message is sent, or waits in its pending bit while it is masked. -/
def State.sendMsix (s : State) (v : Nat) : State :=
  let m := s.msixEnt v
  if !s.host.msixOn then s
  else if m.mask || s.host.msixFMask then s.modHost fun h => { h with msix := h.msix.put v { m with pending := true } }
  else s.emit (.msix v)

/-- Pending vectors that nothing masks are sent. -/
def State.flushMsix (s : State) : State :=
  (List.range 32).foldl (fun t v =>
    let m := t.msixEnt v
    if t.host.msixOn && !t.host.msixFMask && m.pending && !m.mask then
      (t.modHost fun h => { h with msix := h.msix.put v { m with pending := false } }).emit (.msix v)
    else t) s

def State.clearMsix (s : State) : State := s.modHost fun h => { h with msix := [], msixOn := false, msixFMask := false }

/-- A TLP arrives on a storage tunnel (R259): it goes to the upstream port; a completion for a request from before the last
reset of the upstream link is discarded (R260). It leaves as the order of R263 and link credit let it. -/
def execUpstreamTlp (t : Tlp) (stale : Bool) (s : State) : Out :=
  if !s.isRoot then .next s
  else if t.completion && stale then .next (s.incSat PCIE_DROP.DISCARDED)
  else .next (((s.seeEp t).count (srcSignal 18 1) 1).linkTlp 16 t)

/-- A root port receives a TLP from its link (R261). -/
def execRootPortTlpRx (n : Fin 2) (t : Tlp) (s : State) : Out :=
  if s.isRoot then .next s else
  let i := s.get (PCIE_RP_CTX.REV_CTX n)
  if t.malformed then .next ((s.incSat PCIE_ERR.UNCORR).raise EV.pcieUncorr)
  else if t.intx then .next (s.incSat PCIE_DROP.DISCARDED)
  else if s.flag (PCIE_RP_CTX.BIND n) && s.flag (CTX5.ACTIVE i) && !s.flag (CTX5.HELD i) then
    .next ((s.seeEp t).adapterSend 4 i (Tlp.toPkt t))
  else .next (s.refuseTlp n t)

-- Link control and resets (R254, R258, R260) -------------------------------------------------------------------------

/-- The word of PCIE_RPn_CTRL that carries a reset or a disable to the far root port; old is its value as last read. -/
def rpCtrlWord (old : Nat) (reset dis : Bool) : Nat := clrBit (clrBit old 4) 1 + 16 * b2n reset + 2 * b2n dis

/-- PCIE_RPn_CTRL after reset. -/
def rpCtrlReset : Nat := 13

/-- The Awl writes PCIE_RPn_CTRL of the root port behind end port e: the hub at which the tunnel's forward context ends, root port rp,
whose register last read old (R258). -/
def State.farReset (s : State) (e rp old : Nat) (reset dis : Bool) : State :=
  s.request (reqPkt 1 (s.get (CTX1.END_HUB (s.endCtx e))) 0 (0x63040 + 0x20 * (rp % 2)) 4 (leBytes 4 (rpCtrlWord old reset dis))) 0

/-- Secondary Bus Reset or Link Disable at a bound end port reaches the root port at the far end of its tunnel as a control operation
(R258). -/
def execEndPortLinkControl (e : Nat) (rp : Fin 2) (old : Nat) (reset dis : Bool) (s : State) : Out :=
  .next (if s.isRoot && s.endBind e then s.farReset e rp old reset dis else s)

/-- Link widths and rates of a PCI Express link of at most w lanes (Table 09.1). -/
def linkShape (w width speed : Nat) : Bool := [1, 2, 4, 8].contains width && decide (width ≤ w ∧ 1 ≤ speed ∧ speed ≤ 4)

/-- A root port's link changes (R258): a spoke shows it in PCIE_RPn_STAT, the Root's end port mirrors it. -/
def execRootPortLinkChange (v : Nat) (g : Option Nat) (up : Bool) (speed width : Nat) (present : Bool) (s : State) : Out :=
  if s.isRoot then
    let e := endNo (v % 16) (g.map (· % 16))
    .next (if up && !linkShape 4 width speed then s else (s.modHost fun h => { h with ends := h.ends.put e ⟨up, speed, width⟩ }).refreshEnd e)
  else
    let n := v % 2
    .next (if up && !linkShape 4 width speed then s else s.setFlag (PCIE_RP_STAT.DL_ACTIVE n) up |>.set (PCIE_RP_STAT.SPEED n) speed |>.set (PCIE_RP_STAT.WIDTH n) width
      |>.setFlag (PCIE_RP_STAT.PRESENT n) present)

/-- HOT_RESET of root port n. -/
def State.hotReset (s : State) (n : Nat) : State := s.emit (.pcieReset n)

def execHotReset (n : Fin 2) (s : State) : Out := .next (s.hotReset n)

/-- A write of PCIE_RPn_CTRL: the root port follows PERST, LINK_DIS and MAX_SPEED, and resets. -/
def State.writeRpCtrl (s : State) (n v : Nat) : State :=
  let s1 := s.set (PCIE_RP_CTRL.MAX_SPEED n) (bits v 2 2) |>.set (PCIE_RP_CTRL.LINK_DIS n) (bits v 1 1)
    |>.set (PCIE_RP_CTRL.PERST n) (bits v 0 1)
  let s2 := if bit v 1 = s.flag (PCIE_RP_CTRL.LINK_DIS n) then s1 else s1.emit (.pcieDisable n (bit v 1))
  let s3 := if bit v 0 = s.flag (PCIE_RP_CTRL.PERST n) then s2
    else s2.emit (.pin ("PCIE_RP" ++ toString n ++ "_PERST_N") (1 - bits v 0 1))
  s3.when (bit v 4) fun t => t.hotReset n

/-- PERST_N (kind 0), hot reset (1) or link-down (2) on the Root's upstream link (R260): the PCI Express state of the adapter
goes, the TLPs for the link with it; a fundamental reset takes the GROUP layout (R254). Every bound end port's root port is reset; far
tells what the Awl knows of these: end port, root port, its PCIE_RPn_CTRL as last read (RP0 and its reset value where it is not told). -/
def execPcieUpstreamReset (kind : Nat) (far : List (Nat × Nat × Nat)) (s : State) : Out :=
  if !s.isRoot then .next s else
  let s1 := (s.clearMsix.modHost fun h => { h with
      ports := [], bar0 := 4, bar2 := 4, memOn := false, queue := h.queue.filter fun x => x.1 != 16 }).set PCIE_STAT.WIDTH 0 |>.set PCIE_STAT.SPEED 0 |>.set PCIE_STAT.DL_ACTIVE 0
  let s2 := s1.when (kind == 0) fun t =>
    (List.range 16).foldl (fun u v => u.set (PCIE_VDP.GROUP_ACTIVE v) (u.get (PCIE_VDP.GROUP v))) (t.set PCIE_STAT.PERST 0)
  let s3 := (s2.raise EV.pcieReset).when (s.flag PCIE_STAT.DL_ACTIVE) fun t => t.raise EV.pcieLinkDown
  .next (((List.range 272).filter s.endBind).foldl (fun (t : State) e =>
    let f := (far.find? fun x => x.1 == e).getD (e, 0, rpCtrlReset)
    t.farReset e f.2.1 f.2.2 true (bit f.2.2 1)) s3).refreshEnds

/-- A function-level reset of the management function (R260). -/
def execFlr (s : State) : Out := .next (if s.isRoot then (s.clearMsix.modHost fun h => { h with bar0 := 4, bar2 := 4, memOn := false }).raise EV.flr else s)

/-- The upstream link trains and becomes active (R251). -/
def execPcieLinkUp (width speed : Nat) (s : State) : Out :=
  .next (if s.isRoot && linkShape 8 width speed then
    s.set PCIE_STAT.WIDTH width |>.set PCIE_STAT.SPEED speed |>.set PCIE_STAT.DL_ACTIVE 1 |>.set PCIE_STAT.PERST 1
      |>.raise EV.pcieLinkUp
  else s)

end Sys2Proof.Machine
end

