-- ==== Sys2Proof/Machine/Net.lean ====
section
/-!
DEFINITION. Sys2Proof/Machine/Net.lean: Ethernet ports and the PTP block (chapter 09, R265 to R276).
-/
namespace Sys2Proof.Machine

/-- Two bytes at place i, most significant first. -/
def be16 (f : List Byte) (i : Nat) : Nat := 256 * byteAt f i + byteAt f (i + 1)
def be16Bytes (x : Nat) : List Byte := [BitVec.ofNat 8 (x / 256), BitVec.ofNat 8 x]

/-- A VLAN tag stands at place i. -/
def tagAt (f : List Byte) (i : Nat) : Bool := be16 f i == 0x8100 || be16 f i == 0x88A8

/-- Where the EtherType stands after at most k tags. -/
def etypeAt (f : List Byte) : Nat → Nat → Nat
  | 0, i => i
  | k + 1, i => if tagAt f i then etypeAt f k (i + 4) else i

/-- The frame check sequence matches: CRC-32 over all but the last four bytes. -/
def fcsGood (f : List Byte) : Bool := crc32 (f.take (f.length - 4)) == leNat (f.drop (f.length - 4))
def withFcs (b : List Byte) : List Byte := b ++ leBytes 4 (crc32 b)

def State.maxFrame (s : State) (n : Nat) : Nat := min (s.get (ETH_CTRL.MAX_FRAME n)) 9600

-- Links and pause (R265, R271) ---------------------------------------------------------------------------------------

/-- The port's link goes down. -/
def State.ethDown (s : State) (n : Nat) : State :=
  (s.set (ETH_STAT.LINK_UP n) 0 |>.set (ETH_STAT.AN_DONE n) 0 |>.set (ETH_STAT.PAUSED n) 0).when
    (s.flag (ETH_STAT.LINK_UP n)) fun t => t.raise (EV.ethLinkDown n)

/-- A write of ETHn_CTRL: a change of MODE takes the link down (R265). -/
def State.writeEthCtrl (s : State) (n v : Nat) : State :=
  let old := s.get (ETH_CTRL.MODE n)
  (s.writeRw (ETH_CTRL.all n) v).when (old != bits v 0 3) fun t => t.ethDown n

def execEthModeWrite (n : Fin 2) (v : Nat) (s : State) : Out := .next (s.writeEthCtrl n v)

/-- An Ethernet link comes up, in a mode of Table 09.3, or goes down: only modes 3 and 4 auto-negotiate, with AN set, and only SGMII has
a speed of its own. -/
def execEthLinkChange (n : Fin 2) (up an : Bool) (speed : Nat) (s : State) : Out :=
  let m := s.get (ETH_CTRL.MODE n)
  if up then
    if m = 0 ∨ 4 < m ∨ s.flag (ETH_STAT.LINK_UP n) ∨ !s.domainOn 11 then .next s
    else .next (s.set (ETH_STAT.LINK_UP n) 1 |>.setFlag (ETH_STAT.AN_DONE n) (an && decide (3 ≤ m) && s.flag (ETH_CTRL.AN n))
      |>.set (ETH_STAT.SGMII_SPEED n) (if m = 4 then speed else 0) |>.raise (EV.ethLinkUp n))
  else .next (s.ethDown n)

def execPauseExpiry (n : Fin 2) (s : State) : Out := .next (s.set (ETH_STAT.PAUSED n) 0)

/-- Slots in the NET ingress partitions, with those that RLB keeps until they are acknowledged (R158). -/
def State.netFill (s : State) : Nat := ((List.range 4).map fun c => s.inHeld 5 c).sum

/-- The NET ingress fill has reached XOFF or fallen to XON (R271); 1 KiB is 32 slots. -/
def execPauseSend (n : Fin 2) (s : State) : Out :=
  if !s.flag (ETH_CTRL.PAUSE_EN n) then .next s
  else if 32 * s.get (ETH_PAUSE.XOFF_KIB n) ≤ s.netFill then .next (s.emit (.pause n (s.get (ETH_PAUSE.QUANTA n))))
  else if s.netFill ≤ 32 * s.get (ETH_PAUSE.XON_KIB n) then .next (s.emit (.pause n 0))
  else .next s

-- Time stamps (R272 to R276) -----------------------------------------------------------------------------------------

/-- The stamp of a frame: chain time with the port's correction in sub-ticks (R272). -/
def State.ethStamp (s : State) (adj : Nat) : Nat := ofInt 72 (s.stamp.sub + toInt 16 adj)

/-- PTP time of a stamp in sub-ticks, nanoseconds since PTP zero, under the map in force (R274), rounded down (log entry
16). The anchor's epoch number is completed near chain time. -/
def State.ptpTime (s : State) (sub : Nat) : Nat :=
  let e := (sub / 256 / 51200 : Nat) + epochDist (sub / 256 / 51200) (s.get PTP_ANCHOR_EPOCH.EPOCH)
  let d : Int := (sub : Int) - e * 51200 * 256
  let anchor : Int := ((s.get PTP_ANCHOR_SEC_LO.SEC + 2 ^ 32 * s.get PTP_ANCHOR_SEC_HI.SEC) * 1000000000
    + s.get PTP_ANCHOR_NS.NS : Nat)
  (anchor + d * 5 * (2 ^ 40 + toInt 32 (s.get PTP_ADJ.ADJ)) / (512 * 2 ^ 40)).toNat

/-- The place of an IEEE 1588 message of type 0 to 3 in a frame that PTP_CTRL recognises (R273). -/
def State.ptpAt (s : State) (f : List Byte) : Option Nat :=
  let i := etypeAt f 1 12
  let e := be16 f i
  let at_ :=
    if e = 0x88F7 then (if s.flag PTP_CTRL.L2_EN then some (i + 2) else none)
    else if !s.flag PTP_CTRL.UDP_EN then none
    else if e = 0x0800 ∧ byteAt f (i + 11) = 17 then
      let u := i + 2 + 4 * (byteAt f (i + 2) % 16)
      if be16 f (u + 2) = 319 then some (u + 8) else none
    else if e = 0x86DD ∧ byteAt f (i + 8) = 17 then
      if be16 f (i + 44) = 319 then some (i + 50) else none
    else none
  at_.filter fun p => decide (byteAt f p % 16 ≤ 3)

/-- A ring entry (R276, Table 09.8): dropped when the head would reach the tail. -/
def State.ptpEntry (s : State) (tx : Bool) (port sub : Nat) (ing : Option Nat) (f : List Byte) (p : Nat) : State :=
  let h := s.get PTP_TS_HEAD.HEAD
  if (h + 1) % 64 = s.get PTP_TS_TAIL.TAIL then (s.incSat PTP_TS_LOST.LOST).raise EV.tsOverrun else
  let t := s.ptpTime sub
  let sec := t / 1000000000
  let i := ing.getD 0
  let w0 := be16 f (p + 30) + 2 ^ 16 * byteAt f (p + 4) + 2 ^ 24 * (byteAt f p % 16) + 2 ^ 28 * s.get CTM_STAT.FREE
    + 2 ^ 29 * b2n ing.isSome + 2 ^ 30 * port + 2 ^ 31 * b2n tx
  ((s.setWords (PTP_RING.DATA h) 0
    [w0, sub / 256 % 2 ^ 32, sub / 2 ^ 40, sub % 256, t % 1000000000, sec % 2 ^ 32,
     sec / 2 ^ 32 % 2 ^ 16 + 2 ^ 16 * (i % 256), i / 256 % 2 ^ 32]).set PTP_TS_HEAD.HEAD (h + 1)).count (srcSignal 19 6) 1 |>.raise EV.tsReady

/-- PTP_MAP_CTRL.GO stages the written set (R274). -/
def State.ptpGo (s : State) : State :=
  (s.modHost fun h => { h with ptpStaged := some h.ptpWritten }).set PTP_MAP_CTRL.STAGED 1

def execPtpMapGo (s : State) : Out := .next s.ptpGo

/-- The staged set takes effect. -/
def State.ptpTake (s : State) (l : List Nat) (late : Bool) : State :=
  (s.modHost fun h => { h with ptpStaged := none }).set PTP_ANCHOR_EPOCH.EPOCH (l.getD 0 0)
    |>.set PTP_ANCHOR_NS.NS (l.getD 1 0) |>.set PTP_ANCHOR_SEC_LO.SEC (l.getD 2 0)
    |>.set PTP_ANCHOR_SEC_HI.SEC (l.getD 3 0) |>.set PTP_ADJ.ADJ (l.getD 4 0) |>.set PTP_APPLY.EPOCH (l.getD 5 0)
    |>.set PTP_MAP_CTRL.STAGED 0 |>.setFlag PTP_MAP_CTRL.LATE late

/-- The staged set where its epoch has come, late where a step has skipped that epoch's start, or always in a re-base (R48, R49). -/
def State.ptpDue (s : State) (step all : Bool) : State :=
  match s.host.ptpStaged with
  | none => s
  | some l =>
    let t := epochStart s.now (l.getD 5 0)
    if s.frozen || (!all && decide ((s.now : Int) < t)) then s
    else s.ptpTake l (all || decide (t / 51200 < s.epochNow) || (step && decide (t < s.now)))

/-- The staged set's epoch has come (R274). -/
def execPtpMapApply (s : State) : Out := .next (s.ptpDue false false)

/-- A write of word k of the map set goes to the staged copy (PTP map set registers). -/
def State.ptpWrite (s : State) (k v : Nat) : State := s.modHost fun h => { h with ptpWritten := h.ptpWritten.set k v }

-- Ingress (R266 to R268) ---------------------------------------------------------------------------------------------

/-- The leading k bits of two MAC addresses in wire order are equal. -/
def macMatch (k : Nat) (a b : List Byte) : Bool :=
  (List.range (min k 48)).all fun j => bit (byteAt a (j / 8)) (7 - j % 8) == bit (byteAt b (j / 8)) (7 - j % 8)

/-- Entry i of port n matches the frame (R268). -/
def State.clsMatch (s : State) (n : Nat) (f : List Byte) (i : Nat) : Bool :=
  let tagged := tagAt f 12
  let tci := be16 f 14
  let mac := leBytes 4 (s.get (ETH_CLS2.MAC_LO n i)) ++ leBytes 2 (s.get (ETH_CLS3.MAC_HI n i))
  s.flag (ETH_CLS0.VALID n i) && (!s.flag (ETH_CLS0.UNTAGGED n i) || !tagged)
    && (!s.flag (ETH_CLS0.M_VID n i) || (tagged && tci % 4096 == s.get (ETH_CLS1.VID n i)))
    && (!s.flag (ETH_CLS0.M_PCP n i) || (tagged && tci / 8192 == s.get (ETH_CLS1.PCP n i)))
    && (!s.flag (ETH_CLS0.M_ETYPE n i) || be16 f (etypeAt f 2 12) == s.get (ETH_CLS1.ETYPE n i))
    && macMatch (s.get (ETH_CLS0.MAC_LEN n i)) mac f

/-- The context of a frame and whether its entry asks for a stamp (Table 09.4 step 4). -/
def State.classifyFrame (s : State) (n : Nat) (f : List Byte) : Option (Nat × Bool) :=
  match (List.range 64).find? (s.clsMatch n f) with
  | some i => some (s.get (ETH_CLS0.CTX n i), s.flag (ETH_CLS0.TS n i))
  | none => if s.flag (ETH_DEFAULT.VALID n) then some (s.get (ETH_DEFAULT.CTX n), s.flag (ETH_DEFAULT.TS n)) else none

/-- A frame enters its context (Table 09.4 steps 4 to 6). -/
def State.carryFrame (s : State) (n : Nat) (f : List Byte) (bad : Bool) : State :=
  match s.classifyFrame n f with
  | none => s.incSat (ETH_DROP1.MISS n)
  | some (i, ts) =>
    if !s.flag (CTX5.ACTIVE i) || s.get (CTX0.IN_ATT i) != 5 then s.incSat (ETH_DROP1.NO_FLOW n)
    else
      let stamp := ts || s.flag (ETH_CTRL.TS_ALL n)
      let st := if stamp then leBytes 9 0 else []
      let sub := s.ethStamp (s.get (ETH_TS_ADJ.RX n))
      let info := leBytes 2 f.length ++ (if stamp then leBytes 8 (sub / 256) ++ leBytes 1 sub else st)
      s.adapterSend 5 i (message (b2n stamp + 2 * b2n bad) info f)

/-- A frame has been received (R267): the first step of Table 09.4 that applies decides. -/
def execEthFrameRx (n : Fin 2) (f : List Byte) (s0 : State) : Out :=
  let s := s0.count (srcSignal 19 n) 1
  if !s0.flag (ETH_STAT.LINK_UP n) then .next s0
  else if be16 f 12 = 0x8808 then
    .next ((s.when (be16 f 14 == 1) fun t => t.count (srcSignal 19 (4 + n)) 1).when
      (be16 f 14 == 1 && s.flag (ETH_CTRL.PAUSE_RX n)) fun t => t.setFlag (ETH_STAT.PAUSED n) (be16 f 16 != 0))
  else if f.length < 64 ∨ s.maxFrame n < f.length then .next (s.incSat (ETH_DROP0.LENGTH n))
  else
    let bad := !fcsGood f
    let s1 := s.when bad fun t => t.raise (EV.fcsBad n)
    if bad && !s.flag (ETH_CTRL.FWD_BAD n) then .next (s1.incSat (ETH_DROP0.FCS_BAD n))
    else
      let s2 := match s1.ptpAt f with
        | some p => s1.when (s1.flag PTP_CTRL.RX_RING) fun t =>
            t.ptpEntry false n (t.ethStamp (t.get (ETH_TS_ADJ.RX n))) none f p
        | none => s1
      .next (s2.carryFrame n f bad)

-- Egress (R269, R270) ------------------------------------------------------------------------------------------------

/-- The frame with its outer tag removed or inserted as the channel says, its FCS new unless it was bad (R269, R270). -/
def State.retag (s : State) (n label : Nat) (bad : Bool) (f : List Byte) : List Byte :=
  let strip := bit label 1 && tagAt f 12
  let insert := bit label 2
  if !strip && !insert then f else
  let fcs := f.drop (f.length - 4)
  let b := f.take (f.length - 4)
  let b1 := if strip then b.take 12 ++ b.drop 16 else b
  let t := bits label 3 4
  let tag := be16Bytes (s.get (ETH_VTAG.TPID n t))
    ++ be16Bytes (s.get (ETH_VTAG.VID n t) + 2 ^ 12 * s.get (ETH_VTAG.DEI n t) + 2 ^ 13 * s.get (ETH_VTAG.PCP n t))
  let b2 := if insert then b1.take 12 ++ tag ++ b1.drop 12 else b1
  let b3 := if b2.length < 60 then byteSlice b2 0 60 else b2
  if bad then b3 ++ fcs else withFcs b3

/-- The frame that port n sends next: the lowest class first, in order within it. -/
def State.nextFrame (s : State) (n : Nat) : Option FlowPkt :=
  bestOf (fun a b => decide (a.pkt.hdr.cls < b.pkt.hdr.cls)) (s.flows.netq.filter fun p => p.outLabel % 2 == n)

/-- A port sends a frame at a frame boundary (R270): one that INSERT makes too long is discarded; an event message leaves a
ring entry (R273). -/
def execEthFrameTx (n : Fin 2) (s : State) : Out :=
  if s.flag (ETH_STAT.PAUSED n) || !s.flag (ETH_STAT.LINK_UP n) then .next s else
  match s.nextFrame n with
  | none => .next s
  | some p =>
    let m := p.pkt.hdr.info
    let f := s.retag n p.outLabel (bit p.pkt.hdr.mx 1) (p.pkt.bare.data.take (leNat (byteSlice m 0 2)))
    if bit p.outLabel 2 && decide (s.maxFrame n < f.length) then .next ((s.wasteAdmitted p).incSat (ETH_DROP0.LENGTH n))
    else
      let s1 := s.handed p
      let s2 := match s1.ptpAt f with
        | some q =>
          let ing := if bit p.pkt.hdr.mx 0 then some (byteAt m 10 + 256 * leNat (byteSlice m 2 8)) else none
          s1.ptpEntry true n (s1.ethStamp (s1.get (ETH_TS_ADJ.TX n))) ing f q
        | none => s1
      .next ((s2.count (srcSignal 19 (2 + n)) 1).emit (.eth n f))

end Sys2Proof.Machine
end

