-- ==== Sys2Proof/Machine/Display.lean ====
section
/-!
DEFINITION. Sys2Proof/Machine/Display.lean: the frame store, display-update operations, flips, gen-lock, DisplayPort, and the
line-buffer fall-back (chapter 10, R277 to R305; R211, R221, R222).
-/
namespace Sys2Proof.Machine

-- The frame store (R277, R278, R233) ---------------------------------------------------------------------------------

/-- Size of the store; its first address in the control window (Table 08.1). -/
def fstBytes : Nat := 0x2000000
def fstBase : Nat := 0x1000000

/-- The bank of a frame-store address: 0 FSA, 1 FSB. -/
def bankOf (a : Nat) : Nat := a / 0x1000000

def bankOn (b : Nat) : Fld := if b = 0 then FST_STAT.FSA_ON else FST_STAT.FSB_ON
def bankFencedF (b : Nat) : Fld := if b = 0 then FST_STAT.FSA_FENCED else FST_STAT.FSB_FENCED
def bankInit (b : Nat) : Fld := if b = 0 then FST_STAT.FSA_INIT else FST_STAT.FSB_INIT
def bankPerr (b : Nat) : Fld := if b = 0 then FST_PERR.FSA else FST_PERR.FSB

/-- What a read of frame-store address A returns: zero from a bank that is off (R233) or initialising (R278). -/
def State.fstRead (s : State) (a : Nat) : Byte :=
  if s.flag (bankOn (bankOf a)) && !s.flag (bankInit (bankOf a)) then s.byte (fstBase + a) else 0

/-- A write of a byte: it waits while its bank initialises (R278); in a bank that is off, or past the store, nothing is
written. -/
def State.fstWrite (s : State) (a : Nat) (b : Byte) : State :=
  if fstBytes ≤ a ∨ !s.flag (bankOn (bankOf a)) then s
  else if s.flag (bankInit (bankOf a)) then { s with disp := { s.disp with initWait := s.disp.initWait ++ [(a, b)] } }
  else s.setByte (fstBase + a) b

/-- The bank of window byte c. -/
def cellBank (c : Host.Cell) : Nat := bankOf (c.1 - fstBase)

/-- A bank's domain comes up (R278): zeroed, unless it was retained; its fence and parity count go (R222). -/
def State.bankUp (s : State) (b : Nat) (retained : Bool) : State :=
  let s1 := s.set (bankOn b) 1
  if retained then s1 else
  ({ s1 with mem := s1.mem.filter fun c => cellBank c != b }).set (bankInit b) 1 |>.set (bankFencedF b) 0
    |>.set (bankPerr b) 0

/-- A bank's domain goes off: for the rest of the frame the heads show entry 0 for its pixels (R300). -/
def State.bankDown (s : State) (b : Nat) : State :=
  let s1 : State := { s with disp := { s.disp with
    initWait := s.disp.initWait.filter (fun w => bankOf w.1 != b),
    heads := s.disp.heads.map fun (d : HeadSt) => { d with lost := setBit d.lost b } } }
  s1.set (bankOn b) 0
    |>.set (bankInit b) 0

/-- The zeroing of bank b ends; waiting writes are applied in order (R278). -/
def execBankInitDone (b : Fin 2) (s : State) : Out :=
  if !s.flag (bankInit b) then .next s else
  let mine := s.disp.initWait.filter fun w => bankOf w.1 == b.val
  let s1 := { s with disp := { s.disp with initWait := s.disp.initWait.filter fun w => bankOf w.1 != b.val } }
  .next (mine.foldl (fun t w => t.fstWrite w.1 w.2) (s1.set (bankInit b) 0))

-- Surfaces (R279 to R281) --------------------------------------------------------------------------------------------

/-- Frame-store address of pixel (x, y) and its first bit in that byte (R279). -/
def Surf.at_ (f : Surf) (b x y : Nat) : Nat × Nat := (f.page * 4096 + y * f.stride + x * b / 8, x * b % 8)

/-- Pages a surface occupies. -/
def Surf.pages (f : Surf) : Nat := ceilDiv (f.stride * f.height) 4096
/-- Its last page. -/
def Surf.lastPage (f : Surf) : Nat := f.page + (f.pages - 1)

/-- The limits of R279. -/
def Surf.valid (f : Surf) (b : Nat) : Bool :=
  f.stride % 16 == 0 && decide (ceilDiv (f.width * b) 8 ≤ f.stride) && decide (f.width ≤ 7680)
    && decide (f.height ≤ 4320) && decide (f.page + f.pages ≤ 8192)
    && (f.span || f.page / 4096 == f.lastPage / 4096)

/-- The banks a surface lies in. -/
def Surf.banks (f : Surf) : List Nat := [f.page / 4096, f.lastPage / 4096].eraseDups

/-- The surface registers. -/
def State.regSurf (s : State) (h : Head) (k : Nat) : Surf :=
  ⟨s.get (DSP_SURF_BASE.PAGE h k), s.flag (DSP_SURF_BASE.SPAN h k), s.get (DSP_SURF_STRIDE.BYTES h k),
    s.get (DSP_SURF_SIZE.WIDTH h k), s.get (DSP_SURF_SIZE.HEIGHT h k)⟩

/-- The surface k in force. -/
def State.surf (s : State) (h : Head) (k : Nat) : Surf := (s.head h).surfs.getD k ⟨0, false, 0, 0, 0⟩

/-- The surface (palette) that FRONT or its absence names (R284). -/
def State.surfNo (s : State) (h : Head) (front : Bool) : Nat :=
  if front then s.get (DSP_STAT.FRONT_SURF h) else 1 - s.get (DSP_STAT.FRONT_SURF h)
def State.palNo (s : State) (h : Head) (front : Bool) : Nat :=
  if front then s.get (DSP_STAT.FRONT_PAL h) else 1 - s.get (DSP_STAT.FRONT_PAL h)

/-- Pixel (x, y) of a surface. -/
def State.pixel (s : State) (f : Surf) (b x y : Nat) : Nat :=
  let p := f.at_ b x y
  bits (s.fstRead p.1).toNat p.2 b

/-- The byte as writes see it: one that waits for the end of initialising counts already. -/
def State.fstSeen (s : State) (a : Nat) : Byte :=
  match (if s.flag (bankInit (bankOf a)) then s.disp.initWait.reverse else []).find? fun w => w.1 == a with
  | some w => w.2
  | none => s.fstRead a

/-- Pixel (x, y) takes v. -/
def State.setPixel (s : State) (f : Surf) (b x y v : Nat) : State :=
  let p := f.at_ b x y
  let old := (s.fstSeen p.1).toNat
  s.fstWrite p.1 (BitVec.ofNat 8 (old - bits old p.2 b * 2 ^ p.2 + v % 2 ^ b * 2 ^ p.2))

/-- The pixels of a rectangle, row by row. -/
def rectPoints (w h : Nat) : List (Nat × Nat) := (List.range h).flatMap fun y => (List.range w).map fun x => (x, y)

-- Operations (R284 to R287, Table 10.2) ------------------------------------------------------------------------------

/-- META fields of an operation. -/
def DispOp.b (o : DispOp) (k : Nat) : Nat := byteAt o.pkt.hdr.info k
def DispOp.u (o : DispOp) (k : Nat) : Nat := leNat (byteSlice o.pkt.hdr.info k 2)
def DispOp.front (o : DispOp) : Bool := bit (o.b 1) 0
/-- Bytes in the operation's data slots, without a seal. -/
def DispOp.bytes (o : DispOp) : Nat := 32 * o.pkt.hdr.len - (if o.pkt.hdr.sealed then 4 else 0)

/-- Bytes of one row of W pixels. -/
def rowBytes (w b : Nat) : Nat := ceilDiv (w * b) 8

/-- A rectangle is not empty and lies in a surface. -/
def Surf.holds (f : Surf) (x y w h : Nat) : Bool :=
  decide (0 < w) && decide (0 < h) && decide (x + w ≤ f.width) && decide (y + h ≤ f.height)

/-- The operation is not rejected (R285). COUNT of a palette load is 1 to 256. -/
def State.opGood (s : State) (h : Head) (o : DispOp) : Bool :=
  let f := s.surf h (s.surfNo h o.front)
  let g := s.surf h (s.surfNo h (bit (o.b 1) 1))
  match o.mx with
  | 0 => f.holds (o.u 2) (o.u 4) (o.u 6) (o.u 8) && decide (o.u 8 * rowBytes (o.u 6) (s.bpp h) ≤ o.bytes)
  | 1 => f.holds (o.u 2) (o.u 4) (o.u 6) (o.u 8) && g.holds (o.u 10) (o.u 12) (o.u 6) (o.u 8)
  | 2 => f.holds (o.u 2) (o.u 4) (o.u 6) (o.u 8)
  | 3 => decide (0 < o.u 3 ∧ o.b 2 + o.u 3 ≤ 256 ∧ 4 * o.u 3 ≤ o.bytes)
  | _ => false

/-- The first and last byte the operation writes. -/
def State.opSpan (s : State) (h : Head) (o : DispOp) : Nat × Nat :=
  let f := s.surf h (s.surfNo h o.front)
  ((f.at_ (s.bpp h) (o.u 2) (o.u 4)).1, (f.at_ (s.bpp h) (o.u 2 + o.u 6 - 1) (o.u 4 + o.u 8 - 1)).1)

/-- It targets a bank that is off (R287). -/
def State.opDark (s : State) (h : Head) (o : DispOp) : Bool :=
  let e := s.opSpan h o
  decide (o.mx < 3) && !(s.flag (bankOn (bankOf e.1)) && s.flag (bankOn (bankOf e.2)))

/-- WRITE_TO_DARK by an operation (R287): the source code is not stated (log entry 2). -/
def State.opToDark (s : State) (a : Nat) : State :=
  s.useFree.set CHIP_ACCESS.DARK_SRC s.free |>.set CHIP_DARK_ADDR.OFFSET (fstBase + a) |>.raise EV.writeToDark

/-- RECT_WRITE: pixel x of row r starts at bit x × b of that row's bytes. -/
def State.rectWrite (s : State) (f : Surf) (b x y w h : Nat) (d : List Byte) : State :=
  (rectPoints w h).foldl (fun t p =>
    t.setPixel f b (x + p.1) (y + p.2) (bits (byteAt d (p.2 * rowBytes w b + p.1 * b / 8)) (p.1 * b % 8) b)) s

/-- What a copy into a surface reads of its source: one whose target waits for the end of initialising reads what is written before
it (R278). -/
def State.copyPixel (s : State) (f g : Surf) (b x y : Nat) : Nat :=
  if s.flag (bankInit (f.page / 4096)) then
    let p := g.at_ b x y
    bits (s.fstSeen p.1).toNat p.2 b
  else s.pixel g b x y

/-- RECT_COPY: the whole source is read before anything is written (R286). -/
def State.rectCopy (s : State) (f g : Surf) (b x y w h sx sy : Nat) : State :=
  ((rectPoints w h).map fun p => (p, s.copyPixel f g b (sx + p.1) (sy + p.2))).foldl
    (fun t q => t.setPixel f b (x + q.1.1) (y + q.1.2) q.2) s

/-- RECT_FILL with one index. -/
def State.rectFill (s : State) (f : Surf) (b x y w h v : Nat) : State :=
  (rectPoints w h).foldl (fun t p => t.setPixel f b (x + p.1) (y + p.2) v) s

/-- PALETTE_LOAD. -/
def State.palLoad (s : State) (h : Head) (p first n : Nat) (d : List Byte) : State :=
  (List.range n).foldl (fun t k => t.set (PAL.COLOUR h p (first + k)) (leNat (byteSlice d (4 * k) 4))) s

/-- What a good operation writes. -/
def State.opWrite (s : State) (h : Head) (o : DispOp) : State :=
  let f := s.surf h (s.surfNo h o.front)
  match o.mx with
  | 0 => s.rectWrite f (s.bpp h) (o.u 2) (o.u 4) (o.u 6) (o.u 8) o.pkt.data
  | 1 => s.rectCopy f (s.surf h (s.surfNo h (bit (o.b 1) 1))) (s.bpp h) (o.u 2) (o.u 4) (o.u 6) (o.u 8) (o.u 10) (o.u 12)
  | 2 => s.rectFill f (s.bpp h) (o.u 2) (o.u 4) (o.u 6) (o.u 8) (o.b 10)
  | 3 => s.palLoad h (s.palNo h o.front) (o.b 2) (o.u 3) o.pkt.data
  | _ => s

/-- The operation is carried out: rejected, dropped at a bank that is off, or written; in each case it counts as received
(R285, R287). One that writes keeps the head busy until it is done. -/
def State.opRun (s : State) (h : Head) (o : DispOp) : State :=
  let s1 := ((s.countOp h o.ctx).slots (unitOut 6) 0 o.pkt.n).count (srcSignal 20 h) 1
  if !s.opGood h o then s1.incSat (DSP_OP_ERR.BAD_ARG h)
  else if s.opDark h o then s1.opToDark (s.opSpan h o).1
  else (s1.opWrite h o).modHead h fun d => { d with busy := some o.ctx }

/-- The next operation that may proceed (R286): those of a flow wait behind its HELD operation or FLIP, and all behind a
pending flip. -/
def nextOp (due : Nat → Bool) (pend : Option Nat) : List Nat → List DispOp → Option DispOp
  | _, [] => none
  | seen, o :: t =>
    if o.mx = 4 then (if pend == some o.ctx && !seen.contains o.ctx then none else nextOp due pend (o.ctx :: seen) t)
    else if seen.contains o.ctx then nextOp due pend seen t
    else if o.pkt.hdr.held && !due o.pkt.hdr.ttag then nextOp due pend (o.ctx :: seen) t
    else some o

/-- Waiting operations are carried out until one keeps the head busy. -/
def State.opsGo (s : State) (h : Head) : Nat → State
  | 0 => s
  | k + 1 =>
    if (s.head h).busy.isSome then s else
    match nextOp s.due ((s.head h).pend.map PendFlip.ctx) [] (s.head h).waits with
    | none => s
    | some o => ((s.modHead h fun d => { d with waits := d.waits.erase o }).opRun h o).opsGo h k

def State.proceed (s : State) (h : Head) : State := s.opsGo h (s.head h).waits.length

/-- An operation has been decided good on head h's channel (R284): one for the other head is dropped, and every one while DISP is
off (Table 14.2). -/
def State.opArrive (s : State) (h : Head) (mx i : Nat) (p : Pkt) : State :=
  if !s.domainOn 12 then s.slots (unitOut 6) 1 p.n
  else if byteAt p.hdr.info 0 ≠ h.val then (s.incSat (DSP_OP_ERR.BAD_HEAD h)).slots (unitOut 6) 0 p.n
  else (s.modHead h fun d => { d with waits := d.waits ++ [⟨mx, i, p⟩] }).proceed h

/-- A channel of context i leads to head h, or to the line server (Table 10.1). -/
def State.toHead (s : State) (i : Nat) (h : Head) : Bool :=
  (s.ctxOuts i).any fun o => o.1 == 6 && !bit o.2 1 && channelHead o.2 == h
def State.toServer (s : State) (i : Nat) : Bool := (s.ctxOuts i).any fun o => o.1 == 6 && bit o.2 1

/-- An operation of the flow of context i, where a channel of it names head h (R283). -/
def State.opFrom (s : State) (h : Head) (mx : Nat) (i : CtxNo) (p : Pkt) : State :=
  if s.toHead i h then s.opArrive h mx i p else s

def execRectWrite (h : Head) (i : CtxNo) (p : Pkt) (s : State) : Out := .next (s.opFrom h 0 i p)
def execRectCopy (h : Head) (i : CtxNo) (p : Pkt) (s : State) : Out := .next (s.opFrom h 1 i p)
def execRectFill (h : Head) (i : CtxNo) (p : Pkt) (s : State) : Out := .next (s.opFrom h 2 i p)
def execPaletteLoad (h : Head) (i : CtxNo) (p : Pkt) (s : State) : Out := .next (s.opFrom h 3 i p)
def execFlip (h : Head) (i : CtxNo) (p : Pkt) (s : State) : Out := .next (s.opFrom h 4 i p)

/-- The operation in progress is done, and the next goes on (R287). -/
def execDisplayOpDone (h : Head) (s : State) : Out := .next ((s.modHead h fun d => { d with busy := none }).proceed h)

-- Flip (R288 to R290) ------------------------------------------------------------------------------------------------

/-- The first FLIP that is due (R288): nothing of its flow is before it, and its TTAG is reached. -/
def dueFlip (due : Nat → Bool) (busy : Option Nat) : List Nat → List DispOp → Option DispOp
  | _, [] => none
  | seen, o :: t =>
    if o.mx == 4 && !seen.contains o.ctx && busy != some o.ctx && (!o.pkt.hdr.held || due o.pkt.hdr.ttag) then some o
    else dueFlip due busy (o.ctx :: seen) t

/-- A FLIP becomes due: withheld when OPS differs from the flow's count, else pending (R288). -/
def execFlipDue (h : Head) (s : State) : Out :=
  let d := s.head h
  if d.pend.isSome then .next s else
  match dueFlip s.due d.busy [] d.waits with
  | none => .next s
  | some o =>
    let n := d.counts.getD o.ctx 0
    let s1 := s.modHead h fun d => { d with counts := d.counts.del o.ctx }
    if o.u 2 ≠ n then
      .next (((((s1.modHead h fun d => { d with waits := d.waits.erase o }).slots (unitOut 6) 0 o.pkt.n).incSat (DSP_FLIP_WH.WITHHELD h)).set
        (DSP_FLIP_CHK.RECEIVED h) n |>.set (DSP_FLIP_CHK.EXPECTED h) (o.u 2) |>.raise (EV.flipWithheld h)).proceed h)
    else
      .next ((s1.modHead h fun d =>
        { d with pend := some ⟨o.ctx, s.uptime, bit (o.b 1) 1, bit (o.b 1) 0⟩ }).set (DSP_STAT.FLIP_PENDING h) 1)

/-- SYNC_BACK (R289): the new front surface is copied into the new back surface, as far as both hold. -/
def State.syncBack (s : State) (h : Head) : State :=
  let g := s.surf h (s.surfNo h true)
  let f := s.surf h (s.surfNo h false)
  let w := min f.width g.width
  let n := min f.height g.height
  if w = 0 ∨ n = 0 then s
  else if !(s.flag (bankOn (bankOf (f.at_ (s.bpp h) 0 0).1)) && s.flag (bankOn (bankOf (f.at_ (s.bpp h) (w - 1) (n - 1)).1)))
    then s.opToDark (f.at_ (s.bpp h) 0 0).1
  else (s.rectCopy f g (s.bpp h) 0 0 w n 0 0).modHead h fun d => { d with busy := some 2048 }

/-- A pending flip takes effect at a blank at least 400 ticks, which no step or freeze of chain time changes, after it became due (R289,
R290). -/
def State.flipAtBlank (s : State) (h : Head) : State :=
  match (s.head h).pend with
  | none => s
  | some p =>
    if s.uptime < p.due + 400 then s else
    let mine (o : DispOp) : Bool := o.mx == 4 && o.ctx == p.ctx
    let s1 := (s.modHead h fun d => { d with pend := none, waits := d.waits.eraseP mine }).slots (unitOut 6) 0
      (((s.head h).waits.find? mine).elim 0 fun o => o.pkt.n)
    let s2 := s1.set (DSP_STAT.FRONT_SURF h) (1 - s.get (DSP_STAT.FRONT_SURF h))
      |>.set (DSP_STAT.FRONT_PAL h) (if p.noPal then s.get (DSP_STAT.FRONT_PAL h) else 1 - s.get (DSP_STAT.FRONT_PAL h))
      |>.set64 (DSP_FLIP_TIME_LO.TIME h) (DSP_FLIP_TIME_HI.TIME h) s.now |>.set (DSP_FLIP_INFO.VALID h) 1
      |>.set (DSP_FLIP_INFO.FREE h) (s.get CTM_STAT.FREE) |>.inc (DSP_FLIP_SEQ.SEQ h)
      |>.set (DSP_STAT.FLIP_PENDING h) 0 |>.raise (EV.flipDone h)
    ((s2.count (srcSignal 20 h) 1).when p.syncBack fun t => t.syncBack h).proceed h

-- Raster and gen-lock (R291 to R295) ---------------------------------------------------------------------------------

/-- The timing registers. -/
def State.regRaster (s : State) (h : Head) : Raster :=
  ⟨s.get (DSP_HTIMING.HTOTAL h), s.get (DSP_HTIMING.HACTIVE h), s.get (DSP_VTIMING.VTOTAL h),
    s.get (DSP_VTIMING.VACTIVE h), s.wordOf (DSP_HSYNC.all h), s.wordOf (DSP_VSYNC.all h),
    s.get (DSP_PERIOD.PERIOD_TICKS h), s.get64 (DSP_ANCHOR_LO.ANCHOR h) (DSP_ANCHOR_HI.ANCHOR h)⟩

/-- Table 10.3, and f_pix between 25 and 600 MHz (R291). -/
def Raster.valid (r : Raster) : Bool :=
  decide (1 ≤ r.hactive ∧ r.hactive ≤ 7680) && decide (r.hactive + 32 ≤ r.htotal ∧ r.htotal ≤ 8191)
    && decide (1 ≤ r.vactive ∧ r.vactive ≤ 4320) && decide (r.vactive + 3 ≤ r.vtotal ∧ r.vtotal ≤ 8191)
    && decide (bits r.hsync 0 13 + bits r.hsync 16 13 ≤ r.htotal ∧ r.hactive ≤ bits r.hsync 0 13)
    && decide (bits r.vsync 0 13 + bits r.vsync 16 13 ≤ r.vtotal ∧ r.vactive ≤ bits r.vsync 0 13)
    && decide (1000000 ≤ r.period ∧ r.period ≤ 40000000)
    && decide (r.period ≤ 16 * r.htotal * r.vtotal ∧ 2 * r.htotal * r.vtotal ≤ 3 * r.period)

/-- Surfaces take effect, and SURF_ERR shows those that break R279 (R280). -/
def State.loadSurfs (s : State) (h : Head) : State :=
  let f := s.regSurf h 0
  let g := s.regSurf h 1
  (s.modHead h fun d => { d with surfs := [f, g] }).set (DSP_STAT.SURF_ERR h)
    (b2n (!f.valid (s.bpp h)) + 2 * b2n (!g.valid (s.bpp h)))

/-- Lane rate in units of 10 Mbit/s. -/
def dpRate (r : Nat) : Nat := if r = 0 then 162 else if r = 1 then 270 else if r = 2 then 540 else 810

/-- The bandwidth of a link trained at a rate and number of lanes suffices (R297): f_pix × 3 × BPC ≤ LANES × rate × 0.8. -/
def State.bwOk (s : State) (h : Head) (rate lanes : Nat) : Bool :=
  let r := (s.head h).raster
  let bpc := if s.flag (DSP_CTRL.BPC h) then 10 else 8
  decide (r.htotal * r.vtotal * 400000000 * 3 * bpc * 10 ≤ r.period * lanes * dpRate rate * 10000000 * 8)

/-- Before a head sends video on a trained link it checks the bandwidth (R297): TRAINED says that video is sent, BW_ERR that it is
not. -/
def State.checkVideo (s : State) (h : Head) : State :=
  match (s.head h).trained with
  | none => s
  | some (rate, lanes) =>
    s.setFlag (DSP_DP_STAT.TRAINED h) (s.bwOk h rate lanes) |>.setFlag (DSP_DP_STAT.BW_ERR h) (!s.bwOk h rate lanes)

/-- The main link is no longer driven (R298). -/
def State.linkOff (s : State) (h : Head) : State :=
  (s.modHead h fun d => { d with trained := none }).set (DSP_DP_STAT.TRAINED h) 0 |>.set (DSP_DP_STAT.TRAINING h) 0

/-- The raster starts, or is refused (R291). A raster that runs already takes new surfaces at its next blank (R280). -/
def State.startRaster (s : State) (h : Head) : State :=
  let r := s.regRaster h
  if r.valid then
    (((s.when (!s.flag (DSP_STAT.RUNNING h)) fun t => t.loadSurfs h).modHead h fun d =>
      { d with raster := r, asked := 0, begun := 0, lines := [] }).set
      (DSP_STAT.TIMING_ERR h) 0 |>.set (DSP_STAT.RUNNING h) 1 |>.set (DSP_STAT.PIXCLK_LOCKED h) 1).checkVideo h
  else s.set (DSP_STAT.TIMING_ERR h) 1 |>.set (DSP_STAT.RUNNING h) 0 |>.set (DSP_STAT.PIXCLK_LOCKED h) 0

/-- The first target of a raster, ANCHOR + k × PERIOD_TICKS, at t or later (R293). -/
def Raster.target (r : Raster) (t : Nat) : Nat := t + (((r.anchor : Int) - t) % r.period).toNat

/-- The gen-locked raster restarts: its first blank is on the first target at least 400,000 ticks away (R294). -/
def State.genlockRestart (s : State) (h : Head) : State :=
  (s.modHead h fun d => { d with restart := some ((s.regRaster h).target (s.now + 400000)) }).set (DSP_GL.GL_LOCKED h) 0

/-- BLK_CTRL.ENABLE of the head's first page starts and stops the raster and the main link. -/
def State.headEnable (s : State) (h : Head) (on : Bool) : State :=
  if on then
    let s1 := s.startRaster h
    s1.when (s1.flag (DSP_CTRL.GENLOCK h) && s1.flag (DSP_STAT.RUNNING h)) fun t => t.genlockRestart h
  else
    (s.modHead h fun d => { d with restart := none, porch := 0, trim := 0 }).set (DSP_STAT.RUNNING h) 0 |>.set (DSP_STAT.PIXCLK_LOCKED h) 0
      |>.set (DSP_GL.GL_LOCKED h) 0 |>.linkOff h

def State.headPage (h : Head) : Nat := 0x80 + 4 * h.val

/-- A write of DSPh_CTRL.GENLOCK (R294). -/
def State.genlock (s : State) (h : Head) (v : Bool) : State :=
  let s1 := s.setFlag (DSP_CTRL.GENLOCK h) v
  if v && !s.flag (DSP_CTRL.GENLOCK h) && s.flag (BLK_CTRL.ENABLE (State.headPage h)) then
    let s2 := s1.startRaster h
    s2.when (s2.flag (DSP_STAT.RUNNING h)) fun t => t.genlockRestart h
  else if v then s1
  else (s1.modHead h fun d => { d with restart := none, porch := 0, trim := 0 }).set (DSP_GL.GL_LOCKED h) 0

def execGenlockWrite (h : Head) (v : Bool) (s : State) : Out := .next (s.genlock h v)

/-- A blank's lateness against its nearest target, ticks (R295). -/
def Raster.late (r : Raster) (now : Nat) : Int :=
  if r.period = 0 then 0 else
  let d := ((now : Int) - r.anchor) % r.period
  if 2 * d ≤ r.period then d else d - r.period

/-- Into the range -m to m. -/
def clampInt (m x : Int) : Int := if m < x then m else if x < -m then -m else x

/-- Whole lines that the lateness e takes from the next front porch: at most m, and one line of porch stays (R295). -/
def Raster.porchLines (r : Raster) (m : Nat) (e : Int) : Int :=
  let k := clampInt m (Int.tdiv (e * r.vtotal) r.period)
  let room : Int := (bits r.vsync 0 13 : Int) - r.vactive - 1
  if room < k then max room 0 else k

/-- Ticks of lateness that stay after k lines, as a trim in ppm of the next frame (R295). -/
def Raster.trimFor (r : Raster) (e k : Int) : Int :=
  clampInt 300 (Int.tdiv ((e * r.vtotal - k * r.period) * 1000000) (r.vtotal * r.period))

/-- Gen-lock measures the blank (R293 to R295). An error of more than one tick is corrected in the next frame: whole lines of front porch,
then a trim. -/
def State.measure (s : State) (h : Head) : State :=
  if !s.flag (DSP_CTRL.GENLOCK h) then s else
  let r := (s.head h).raster
  let e := r.late s.now
  let c : Int := if 4194303 < e then 4194303 else if e < -4194304 then -4194304 else e
  let good := decide (-1 ≤ e ∧ e ≤ 1)
  let k := if good then 0 else r.porchLines (s.get (DSP_GL.MAX_LINES h)) e
  ((s.modHead h fun d => { d with porch := -k, trim := if good then 0 else r.trimFor e k }).set (DSP_GL.ERR h) (ofInt 23 c)).setFlag
    (DSP_GL.GL_LOCKED h) good

-- The line-buffer fall-back (R300 to R305) ---------------------------------------------------------------------------

/-- Whole, good pixels at the start of a line in the buffer. -/
def State.linePixels (s : State) (h : Head) (k : Nat) : Nat :=
  match (s.head h).lines.find? fun l => l.line == k with
  | some l => if l.bad then 0 else min (s.head h).raster.hactive (8 * l.data.length / s.bpp h)
  | none => 0

/-- Parity errors that the readout of line y finds (R221) at the bytes of perr: the pixels that these hold are shown as entry 0 and counted;
PIXEL_PARITY is raised once per frame. -/
def State.lineParity (s : State) (h : Head) (y : Nat) (perr : List Nat) : State :=
  if perr.isEmpty then s else
  let na := perr.countP fun a => bankOf a == 0
  let nb := perr.length - na
  let d := s.head h
  let f := s.surf h (s.get (DSP_STAT.FRONT_SURF h))
  let pix := (List.range (min d.raster.hactive f.width)).countP fun x => perr.contains (f.at_ (s.bpp h) x y).1
  let first := d.perrA + d.perrB == 0
  let s1 := s.modHead h fun d => { d with perrA := d.perrA + na, perrB := d.perrB + nb, perrPix := d.perrPix + pix }
  (s1.incSat FST_PERR.FSA na |>.incSat FST_PERR.FSB nb |>.set (DSP_PARITY.PIXELS h) (min (d.perrPix + pix) 65535)).when first
    fun t => (t.incSat (DSP_PARITY.FRAMES h)).raise (EV.pixelParity h)

/-- The colour of an entry of head h's front palette as it is sent: with BPC 8 the upper 8 bits of each component (R282). -/
def State.colour (s : State) (h : Head) (k : Nat) : Nat :=
  let c := s.get (PAL.COLOUR h (s.get (DSP_STAT.FRONT_PAL h)) k)
  if s.flag (DSP_CTRL.BPC h) then c else bits c 22 8 * 2 ^ 16 + bits c 12 8 * 2 ^ 8 + bits c 2 8

/-- The index of pixel x of line y, none where the hub has no good pixel (R221, R279, R280, R300, R305): perr are the frame-store bytes
that fail parity. -/
def State.pixelOf (s : State) (h : Head) (perr : List Nat) (y x : Nat) : Option Nat :=
  let b := s.bpp h
  let c := s.get (DSP_FB_STAT.CAUSE h)
  if c = 0 then
    let k := s.get (DSP_STAT.FRONT_SURF h)
    let f := s.surf h k
    let a := f.at_ b x y
    if bit (s.get (DSP_STAT.SURF_ERR h)) k ∨ f.width ≤ x ∨ f.height ≤ y ∨ perr.contains a.1
      ∨ bit (s.head h).lost (bankOf a.1) then none
    else some (bits (s.fstRead a.1).toNat a.2 b)
  else if c = 4 then none
  else match (s.head h).lines.find? fun l => l.line == y && !l.bad with
    | some l => if 8 * l.data.length < (x + 1) * b then none else some (bits (byteAt l.data (x * b / 8)) (x * b % 8) b)
    | none => none

/-- The frame-store bytes that the readout of line y takes: none of a surface that is not scanned, or below it (R280). -/
def State.lineReads (s : State) (h : Head) (y : Nat) : List Nat :=
  let k := s.get (DSP_STAT.FRONT_SURF h)
  let f := s.surf h k
  if s.get (DSP_FB_STAT.CAUSE h) ≠ 0 ∨ bit (s.get (DSP_STAT.SURF_ERR h)) k ∨ f.height ≤ y then [] else
  (List.range (ceilDiv (min (s.head h).raster.hactive f.width * s.bpp h) 8)).map fun k => f.page * 4096 + y * f.stride + k

/-- Video is sent on the main link: trained, and its bandwidth suffices (R297, R298). -/
def State.videoOn (s : State) (h : Head) : Bool := s.flag (DSP_DP_STAT.TRAINED h)

/-- A line of the frame that a gen-lock restart has cut short: palette entry 0 in every pixel (R294). -/
def State.blankLine (s : State) (h : Head) : State :=
  let d := s.head h
  (s.modHead h fun d => { d with begun := d.begun + 1 }).when (s.videoOn h) fun t =>
    t.emit (.scan h d.begun (List.replicate d.raster.hactive (s.colour h 0)))

/-- The raster begins the next active line and scans it out (R281, R282): with bytes missing or bad in fall-back it is an underrun line,
painted with palette entry 0 from the first such pixel on (R305). Readout of the frame store checks parity (R221): the bytes perrA of
FSA and perrB of FSB fail. Behind that check nothing guards a pixel (gap G4 of Table 07.2, R202): pix gives the colours that leave otherwise
than they were looked up, which the hub does not see. -/
def execActiveLineStart (h : Head) (perrA perrB : List Nat) (pix : List (Nat × Nat)) (s : State) : Out :=
  let d := s.head h
  if !s.flag (DSP_STAT.RUNNING h) ∨ d.raster.vactive ≤ d.begun then .next s
  else if d.restart.isSome then .next (s.blankLine h) else
  let short := if s.flag (DSP_FB_STAT.ACTIVE h) then d.raster.hactive - s.linePixels h d.begun else 0
  let bad := (perrA ++ perrB).eraseDups.filter (s.lineReads h d.begun).contains
  let shown := (List.range d.raster.hactive).map fun x =>
    ((Tbl.find? pix x).getD (s.colour h ((s.pixelOf h bad d.begun x).getD 0)))
  .next ((s.modHead h fun d =>
    { d with begun := d.begun + 1, lines := d.lines.filter fun l => decide (d.begun < l.line),
             underLines := d.underLines + b2n (short != 0), underPix := d.underPix + short }).showHeld h
    |>.lineParity h d.begun bad |>.when (s.videoOn h) fun t => t.emit (.scan h d.begun shown))

/-- The source of the next frame (R300): the value of CAUSE. -/
def State.chooseSource (s : State) (h : Head) : Nat :=
  if s.flag (DSP_FB_CTRL.FORCE h) then 1 else
  let bs := (s.surf h (s.get (DSP_STAT.FRONT_SURF h))).banks
  let off := bs.any fun b => !s.flag (bankOn b) || s.flag (bankInit b)
  let fenced := bs.any fun b => s.flag (bankFencedF b)
  if !off && !fenced then 0
  else if s.flag (DSP_FB_CTRL.VALID h) then (if off then 2 else 3)
  else 4

/-- At the blank the next frame's lines begin from the source chosen. -/
def State.beginFrame (s : State) (h : Head) : State :=
  let c := s.chooseSource h
  ((s.modHead h fun d =>
    { d with asked := 0, begun := 0, lines := [], underLines := 0, underPix := 0, lost := 0,
             perrA := 0, perrB := 0, perrPix := 0 }).set
    (DSP_FB_STAT.CAUSE h) c |>.setFlag (DSP_FB_STAT.ACTIVE h) (decide (1 ≤ c ∧ c ≤ 3))).showHeld h

/-- Underruns of the frame that ends (R305). -/
def State.endFrame (s : State) (h : Head) : State :=
  let d := s.head h
  if d.underLines = 0 then s else
  s.incSat (DSP_UNDERRUN.FRAMES h) |>.set (DSP_UNDERRUN.LINES h) d.underLines |>.set (DSP_UNDERRUN_PIX.PIXELS h) d.underPix
    |>.raise (EV.lineUnderrun h)

/-- More than 64 errors in one bank within one frame fence it (R222). -/
def State.fenceBank (s : State) (b n : Nat) : State :=
  if n ≤ 64 ∨ s.flag (bankFencedF b) then s
  else (s.set (bankFencedF b) 1).logErr 11 b 0 |>.raise EV.bankFenced

/-- New timing applies at the blank; a new PERIOD_TICKS or ANCHOR restarts gen-lock (R291, R294). Timing outside the limits of R291 is not
taken: the raster goes on with what it has, and TIMING_ERR is set (DESIGN CHOICE, log entry 114). The bandwidth of a trained link is
checked for new timing (R297). -/
def State.loadRaster (s : State) (h : Head) : State :=
  let old := (s.head h).raster
  let r := s.regRaster h
  if r = old then s else if !r.valid then s.set (DSP_STAT.TIMING_ERR h) 1 else
  let s1 := ((s.modHead h fun d => { d with raster := r }).set (DSP_STAT.TIMING_ERR h) 0).checkVideo h
  s1.when (s.flag (DSP_CTRL.GENLOCK h) && (old.period != r.period || old.anchor != r.anchor)) fun t => t.genlockRestart h

/-- A vertical blank begins (R289 to R295, R300, R305). A restarted raster blanks on its target, not before (R294); a target
that a freeze holds is reached when counting resumes (R49). -/
def execVerticalBlank (h : Head) (s : State) : Out :=
  let early := match (s.head h).restart with
    | some t => decide (s.now < t) || (s.frozen && decide (s.now = t))
    | none => false
  if !s.flag (DSP_STAT.RUNNING h) || early then .next s else
  let s1 := s.endFrame h
  let s2 := (s1.fenceBank 0 (s.head h).perrA).fenceBank 1 (s.head h).perrB
  let s3 := ((s2.modHead h fun d => { d with restart := none }).inc (DSP_FRAME_CNT.COUNT h)).measure h
  .next ((((s3.loadSurfs h).loadRaster h).flipAtBlank h).beginFrame h)

/-- The next LINE_REQ (R303, R304): at most 16 lines are requested or held ahead of the line being shown. -/
def execLineFetchRequest (h : Head) (s : State) : Out :=
  let s1 := s.showHeld h
  let d := s1.head h
  if !s1.flag (DSP_FB_STAT.ACTIVE h) ∨ d.raster.vactive ≤ d.asked ∨ d.begun + 16 ≤ d.asked then .next s1 else
  let k := s1.get (DSP_STAT.FRONT_SURF h)
  let a := s1.get64 (DSP_FB_ADDR_LO.ADDR h k) (DSP_FB_ADDR_HI.ADDR h k) + d.asked * s1.get (DSP_FB_STRIDE.BYTES h)
  let info := [BitVec.ofNat 8 h.val, BitVec.ofNat 8 (b2n (s1.flag (DSP_FB_STAT.URGENT h)) + 2 * s1.get (DSP_FB_CTRL.HOSTMEM h))]
    ++ leBytes 2 d.asked ++ leBytes 2 (s1.lineBytes h) ++ leBytes 8 a
  let s2 := (s1.modHead h fun d => { d with asked := d.asked + 1 }).count (srcSignal 20 (2 + h)) 1
  .next (if s1.flag (DSP_FB_CTRL.LOCAL h) then s2.emit (.line h d.asked info false)
    else s2.adapterSend 6 (s1.get (DSP_FB_CTRL.REQ_CTX h)) (message 8 info []))

/-- The line server answers a request (R301, R302), which reaches it on channel SERVER; one without a PAIR counts in the register of the
head that META byte 0 names, modulo 2 (DESIGN CHOICE, log entry 115). i is the request's context, none for this hub's own head with LOCAL; host
holds what host memory answers to the memory read, none for an error; perr are the frame-store bytes whose read meets a parity error, which count (R221). -/
def execLineReq (i : Option CtxNo) (p : Pkt) (host : Option (List Byte)) (perr : List Nat) (s0 : State) : Out :=
  let m := p.hdr.info
  let n := leNat (byteSlice m 4 2)
  let hostMem := bit (byteAt m 1) 1
  let a := leNat (byteSlice m 6 8) % 2 ^ 25
  let failed := if hostMem then [] else perr.eraseDups.filter fun x => decide (a ≤ x ∧ x < a + n)
  let s1 := if failed.isEmpty then s0 else
    (s0.incSat FST_PERR.FSA (failed.countP fun x => bankOf x == 0)).incSat FST_PERR.FSB (failed.countP fun x => bankOf x != 0)
  let s := s1.when (hostMem && s0.isRoot) fun t => t.emit (.memRead (leNat (byteSlice m 6 8)) n)
  let bad := if hostMem then !s.isRoot || host.isNone else !failed.isEmpty
  let d := if hostMem then byteSlice (host.getD []) 0 n else (List.range n).map fun k => s.fstRead ((a + k) % 2 ^ 25)
  let info := [BitVec.ofNat 8 (byteAt m 0), BitVec.ofNat 8 (byteAt m 1 % 2)] ++ byteSlice m 2 4
  let q := message 9 info d
  match i with
  | none => .next (s.emit (.line (byteAt m 0) (leNat (byteSlice m 2 2)) d bad))
  | some c =>
    if !s0.toServer c then .next s0
    else if !s0.flag (CTX0.PAIR_VALID c) then .next (s0.incSat (DSP_NO_PAIR.COUNT (byteAt m 0 % 2)))
    else .next (s.adapterSend (if hostMem then 4 else 6) (s.get (CTX0.PAIR c)) ⟨{ q.hdr with poison := bad }, q.data⟩)

/-- LINE_DATA arrives (R211, R303), on a channel of head h or, with LOCAL, straight from the hub's own server; with another head in META
byte 0 it is dropped in BAD_HEAD (R284). For a line the raster has begun it is discarded as WASTED; bad data marks its span bad
until a good copy replaces it. What arrives after the blank, whichever frame it was asked for, is taken for the frame that runs (DESIGN
CHOICE, log entry 116). Data whose packet is not decided yet is written, and its fate follows the packet's. -/
def execLineData (h : Head) (i : Option CtxNo) (p : Pkt) (bad : Bool) (s : State) : Out :=
  let m := p.hdr.info
  let k := leNat (byteSlice m 2 2)
  let late := decide (k < (s.head h).begun) || !s.flag (DSP_FB_STAT.ACTIVE h)
  let early := if i.isSome then s.flows.admitted.find? fun q => q.pkt == p && q.outAtt == 6 && !q.decided else none
  let e : LineBuf := ⟨k, byteSlice p.data 0 (min (leNat (byteSlice m 4 2)) 7680), bad || p.hdr.poison,
    early.map fun q => (q.inAtt, q.lpn)⟩
  let s1 := match early with
    | some q => { s with disp := { s.disp with early := s.disp.early ++ [(q.inAtt, q.lpn, late)] } }.pendSlots (unitOut 6) p.n
    | none => if i.isSome then s.slots (unitOut 6) (if late || e.bad then 1 else 0) p.n else s
  if i.any fun c => !s.toHead c h then .next s
  else if byteAt m 0 ≠ h.val then .next ((s.incSat (DSP_OP_ERR.BAD_HEAD h)).when i.isSome fun t => t.slots (unitOut 6) 0 p.n)
  else if late then .next s1
  else .next ((s1.modHead h fun d => { d with lines := e :: d.lines.filter fun l => l.line != k }).showHeld h)

-- DisplayPort (R297 to R299) -----------------------------------------------------------------------------------------

/-- A write of TRAIN (R297): the link trains at RATE and LANES, with the framing and down-spread of DP_CTRL (R296). No link of Table 10's
options has the reserved LANES code 3: its training fails (DEDUCED, log entry 118). -/
def State.dpTrain (s : State) (h : Head) : State :=
  let s1 := (s.linkOff h).set (DSP_DP_STAT.TRAIN_FAIL h) (b2n (s.get (DSP_DP_CTRL.LANES h) == 3))
  if s.get (DSP_DP_CTRL.LANES h) = 3 then s1
  else
    let rate := s.get (DSP_DP_CTRL.RATE h)
    let lanes := 2 ^ s.get (DSP_DP_CTRL.LANES h)
    (s1.modHead h fun d => { d with training := (rate, lanes) }).set (DSP_DP_STAT.TRAINING h) 1
      |>.emit (.dpTrain h rate lanes (s.flag (DSP_DP_CTRL.ENH_FRAMING h)) (s.flag (DSP_DP_CTRL.DOWNSPREAD h)))

def execDpTrain (h : Head) (s : State) : Out := .next (s.dpTrain h)

def execDpTrainDone (h : Head) (ok : Bool) (s : State) : Out :=
  if !s.flag (DSP_DP_STAT.TRAINING h) then .next s else
  let s1 := s.set (DSP_DP_STAT.TRAINING h) 0
  .next (if ok then (s1.modHead h fun d => { d with trained := some d.training }).checkVideo h
    else s1.set (DSP_DP_STAT.TRAIN_FAIL h) 1)

/-- A debounced change of HPD, or an IRQ_HPD pulse (R298). -/
def execHpdChange (h : Head) (level pulse : Bool) (s : State) : Out :=
  if !s.domainOn 12 then .next s
  else if pulse then .next ((s.set (DSP_DP_STAT.IRQ_HPD h) 1).raise (EV.hpdChange h))
  else if level == s.flag (DSP_DP_STAT.HPD h) then .next s
  else .next ((s.setFlag (DSP_DP_STAT.HPD h) level).set (DSP_DP_STAT.IRQ_HPD h) 0 |>.raise (EV.hpdChange h))

/-- HPD has been low for 2 ms: the main link stops, training included (R298). -/
def execHpdLoss (h : Head) (s : State) : Out :=
  .next (if s.flag (DSP_DP_STAT.HPD h) then s else s.linkOff h)

/-- The AUX request of head h goes out. -/
def State.auxSend (s : State) (h : Head) : State :=
  s.emit (.aux h (s.head h).aux.1 (s.head h).aux.2.1 (s.head h).aux.2.2)

/-- GO of an AUX transaction (R299). -/
def State.auxGo (s : State) (h : Head) : State :=
  if s.flag (DSP_AUX_STAT.BUSY h) then s else
  let d := (s.windowBytes (DSP_AUX_DATA.DATA h) 4).take (s.get (DSP_AUX_CTRL.LEN h) + 1)
  ((s.set (DSP_AUX_STAT.BUSY h) 1 |>.set (DSP_AUX_STAT.DONE h) 0).modHead h fun x =>
    { x with aux := (s.get (DSP_AUX_CTRL.CMD h), s.get (DSP_AUX_CTRL.ADDR h), d), defers := 0 }).auxSend h

def execAuxGo (h : Head) (s : State) : Out := .next (s.auxGo h)

/-- The sink has replied, with a code of DSPh_AUX_STAT and the bytes returned, or 400 µs have passed without a reply (3). A DEFER (2) is
retried up to 7 times; any other ends the transaction, as the eighth DEFER does (R299). -/
def execAuxDone (h : Head) (reply : Nat) (d : List Byte) (s : State) : Out :=
  if !s.flag (DSP_AUX_STAT.BUSY h) then .next s
  else if reply = 2 ∧ (s.head h).defers < 7 then .next ((s.modHead h fun x => { x with defers := x.defers + 1 }).auxSend h)
  else
  let n := min d.length 16
  let s1 := (s.setWords (DSP_AUX_DATA.DATA h) 0 (words32 (ceilDiv n 4) (d.take 16)))
  .next (s1.set (DSP_AUX_STAT.BUSY h) 0 |>.set (DSP_AUX_STAT.DONE h) 1 |>.set (DSP_AUX_STAT.REPLY h) reply
    |>.set (DSP_AUX_STAT.COUNT h) n |>.raise (EV.auxDone h))

end Sys2Proof.Machine
end

