-- ==== Sys2Proof/Machine/Bridges.lean ====
section
/-!
DEFINITION. Sys2Proof/Machine/Bridges.lean: field buses, the routing table, GPIO, semaphores, the transfer window, wrapping
(chapter 11, R306 to R329).
-/
namespace Sys2Proof.Machine

-- Bridge packets (R306 to R308, Table 11.2) --------------------------------------------------------------------------

/-- The kind of a bus (Table 05.12): 0 CAN, 1 I2C, 2 SPI, 3 UART, 4 GPIO. -/
def busKind (b : Nat) : Nat := if b < 4 then 0 else if b < 6 then 1 else if b < 8 then 2 else if b < 12 then 3 else 4

/-- What a bridge packet says: destination bus, source hub, source bus, options, identifier, byte 17, TAG. -/
structure BrHead where
  dst : Nat
  hub : Nat
  src : Nat
  opts : Nat
  id : Nat
  stamp : Option Nat
  b17 : Nat
  tag : Nat
deriving DecidableEq, Repr

/-- META bytes 0 to 19 (R307); the stamp has sub-tick phase 0 (R312). -/
def BrHead.info (h : BrHead) (pad : Nat) : List Byte :=
  [BitVec.ofNat 8 h.dst, BitVec.ofNat 8 h.hub, BitVec.ofNat 8 h.src, BitVec.ofNat 8 h.opts] ++ leBytes 4 h.id
  ++ (match h.stamp with
      | some t => leBytes 8 t ++ [0]
      | none => leBytes 9 0)
  ++ [BitVec.ofNat 8 h.b17, BitVec.ofNat 8 h.tag, BitVec.ofNat 8 pad]

/-- Fields of a queued message. -/
def BrMsg.m (q : BrMsg) (k : Nat) : Nat := byteAt q.pkt.hdr.info k
def BrMsg.id (q : BrMsg) : Nat := leNat (byteSlice q.pkt.hdr.info 4 4)
def BrMsg.op (q : BrMsg) : Nat := q.m 17 % 16
def BrMsg.hold (q : BrMsg) : Bool := bit (q.m 17) 4
def BrMsg.isLocked (q : BrMsg) : Bool := bit (q.m 17) 5
def BrMsg.fifo (q : BrMsg) : Bool := bit (q.m 3) 3
def BrMsg.wrapped (q : BrMsg) : Bool := q.pkt.hdr.mx == 5
def BrMsg.triple (q : BrMsg) : Triple := ⟨q.m 1, q.ctx, q.m 18⟩

/-- The payload: the data slots, a flow seal taken off, without the last PAD bytes. -/
def brPayload (p : Pkt) : List Byte := p.data.take (p.data.length - byteAt p.hdr.info 19 % 32)
def BrMsg.payload (q : BrMsg) : List Byte := brPayload q.pkt

/-- A bridge message enters context i (R307, R308, R328); on a context with WRAP the message goes as body. -/
def State.brSend (s : State) (i kind : Nat) (h : BrHead) (payload body : List Byte) : State :=
  let wrap := s.flag (CTX0.WRAP i)
  let d := if wrap then body else payload
  let tail := if s.flag (CTX0.SEAL i) && decide (2 ≤ s.get (CTX0.CLASS i)) then 4 else 0
  let pad := 32 * ceilDiv (d.length + tail) 32 - tail - d.length
  let h' := if wrap then { h with b17 := kind } else h
  s.adapterSend 7 i (message (if wrap then 5 else kind) (h'.info pad) (d ++ List.replicate pad 0))

-- The routing table (R309 to R312) -----------------------------------------------------------------------------------

/-- The entry that a message from bus b with identifier I matches (R310). -/
def State.brtMatch (s : State) (b id : Nat) : Option Nat :=
  (List.range 4096).find? fun e =>
    s.flag (BRT0.VALID e) && s.get (BRT0.IN_BUS e) == b && ((id ^^^ s.get (BRT1.ID e)) &&& s.get (BRT2.MASK e)) == 0

/-- The identifier after translation (R311). -/
def State.brtId (s : State) (e id : Nat) : Nat :=
  if s.flag (CTX0.WRAP (s.get (BRT0.CTX e))) then id
  else (id &&& ((2 ^ 32 - 1) ^^^ s.get (BRT4.XMASK e))) ||| (s.get (BRT3.NEW_ID e) &&& s.get (BRT4.XMASK e))

/-- Entry e's bucket holds a token (R312). -/
def State.hasToken (s : State) (e : Nat) : Bool :=
  s.get (BRT6.RATE e) == 0 || decide (s.bridge.spent.getD e 0 < max 1 (s.get (BRT6.BURST e)))

/-- A matched message is counted and takes a token. -/
def State.takeToken (s : State) (e : Nat) : State :=
  (s.incSat (BRT7.HITS e)).when (s.get (BRT6.RATE e) != 0 && s.hasToken e) fun t => t.modBridge fun b =>
    { b with spent := b.spent.setD e 0 (b.spent.getD e 0 + 1) }

/-- A bucket gains one token (R312). -/
def execRateTokenRefill (e : Fin 4096) (s : State) : Out :=
  .next (s.modBridge fun b => { b with spent := b.spent.setD e 0 (b.spent.getD e 0 - 1) })

/-- Options byte 3 from entry e. -/
def State.brtOpts (s : State) (e : Nat) : Nat :=
  s.get (BRT0.PRIO e) + 4 * s.get (BRT0.TS e) + 8 * s.get (BRT0.FIFO e)

/-- A message of a bus meets the routing table (R310, R312): fifo delivers it into the bus's own receive FIFO, miss says that
an unmatched one goes there too. -/
def State.ingress (s0 : State) (b id : Nat) (stamp b17 : Nat) (payload body : List Byte) (miss : Bool) (fifo : State → State) :
    State :=
  let s := s0.count (srcSignal 21 b) 1
  match s.brtMatch b id with
  | none => ((s.incSat BRT_STAT0.MISS).raise EV.brtMiss).when miss fifo
  | some e =>
    let s1 := s.takeToken e
    if !s.hasToken e then (s1.incSat BRT_STAT0.RATE_DROPS).raise EV.rateDrop
    else if s.flag (BRT0.LOCAL e) && (decide (b < 4) || (decide (8 ≤ b) && decide (b < 12))) then fifo s1
    else s1.brSend (s.get (BRT0.CTX e)) (busKind b)
      ⟨s.get (BRT5.DST_BUS e), s.hubId, b, s.brtOpts e, s.brtId e id, if s.flag (BRT0.TS e) then some stamp else none, b17, 0⟩
      payload body

-- Receive FIFOs (R317, R322) -----------------------------------------------------------------------------------------

/-- The entries of a CAN frame (R317). -/
def canEntries (id : Nat) (d : List Byte) (rtr esi : Bool) : List Nat :=
  [id % 2 ^ 29, 2 ^ 29 + d.length % 128 + 2 ^ 7 * b2n (bit id 29) + 2 ^ 8 * b2n (bit id 30) + 2 ^ 9 * b2n (bit id 31)
    + 2 ^ 10 * b2n esi + 2 ^ 11 * b2n rtr]
  ++ (List.range (ceilDiv d.length 3)).map fun k => 2 ^ 30 + leNat (byteSlice d (3 * k) 3)

def State.canDeliver (s : State) (n id : Nat) (d : List Byte) (rtr esi : Bool) : State :=
  let l := s.bridge.canRx.getD n []
  let e := canEntries id d rtr esi
  if 512 < l.length + e.length then s.incSat (CAN_STAT.RX_OVF n)
  else (s.modBridge fun b => { b with canRx := b.canRx.put n (l ++ e) }).when l.isEmpty fun t => t.raise (EV.canRx n)

/-- One character of a UART message. -/
def State.uartPut (s : State) (n c : Nat) : State :=
  let l := s.bridge.uartRx.getD n []
  if 2048 ≤ l.length then (s.incSat (UART_STAT.RX_OVF n)).raise (EV.uartErr n)
  else (s.modBridge fun b => { b with uartRx := b.uartRx.put n (l ++ [c]) }).when l.isEmpty fun t => t.raise (EV.uartRx n)

/-- A message's characters, END on the last. -/
def State.uartDeliver (s : State) (n : Nat) : List Nat → State
  | [] => s
  | [c] => s.uartPut n (c % 2 ^ 12 + 2 ^ 12)
  | c :: t => (s.uartPut n (c % 2 ^ 12)).uartDeliver n t

/-- A pop of a receive FIFO (R235): the word read and the state after it. -/
def State.popCan (s : State) (n : Nat) : State × Nat :=
  match s.bridge.canRx.getD n [] with
  | [] => (s, 0)
  | e :: t => (s.modBridge fun b => { b with canRx := b.canRx.put n t }, 2 ^ 31 + e)
def State.popUart (s : State) (n : Nat) : State × Nat :=
  match s.bridge.uartRx.getD n [] with
  | [] => (s, 0)
  | e :: t => (s.modBridge fun b => { b with uartRx := b.uartRx.put n t }, 2 ^ 31 + e)

/-- SOFT_RESET of a volatile bridge page empties its FIFO (R235). -/
def State.flushCan (s : State) (n : Nat) : State := s.modBridge fun b => { b with canRx := b.canRx.del n }
def State.flushUart (s : State) (n : Nat) : State := s.modBridge fun b => { b with uartRx := b.uartRx.del n }

-- CAN (R315 to R317) -------------------------------------------------------------------------------------------------

/-- The bus works: the bridge domain is on and its page enabled (BLK_CTRL.ENABLE). -/
def State.busEnabled (s : State) (b : Nat) : Bool :=
  s.domainOn 13 && s.flag (BLK_CTRL.ENABLE (if b < 8 then 0x90 + b else if b < 12 then 0x98 + (b - 8) else 0x9C))

/-- Error counters after a frame, and the state they give (ISO 11898-1): bus-off past 255, passive from 128. -/
def State.canErr (s : State) (n tec rec : Nat) : State :=
  let st := if 256 ≤ tec then 2 else if 128 ≤ tec ∨ 128 ≤ rec then 1 else 0
  (s.set (CAN_STAT.TEC n) (min tec 255) |>.set (CAN_STAT.REC n) (min rec 255) |>.set (CAN_STAT.STATE n) st).when
    (st == 2 && s.get (CAN_STAT.STATE n) != 2) fun t => t.raise (EV.busOff n)

/-- The DLC code of a length (ISO 11898-1). -/
def dlc (n : Nat) : Nat :=
  if n ≤ 8 then n else if n ≤ 12 then 9 else if n ≤ 16 then 10 else if n ≤ 20 then 11 else if n ≤ 24 then 12
  else if n ≤ 32 then 13 else if n ≤ 48 then 14 else 15
def dlcLen (c : Nat) : Nat := [0, 1, 2, 3, 4, 5, 6, 7, 8, 12, 16, 20, 24, 32, 48, 64].getD (c % 16) 0

/-- A CAN frame with a good CRC (R315); t is the tick of its SOF sample point, rec the receive error counter after it. An FD
frame needs FD_EN. -/
def execCanFrameRx (n : Fin 4) (id : Nat) (d : List Byte) (rtr esi : Bool) (crc t rec : Nat) (s : State) : Out :=
  if !s.busEnabled n || s.get (CAN_STAT.STATE n) == 2 || (bit id 30 && !s.flag (CAN_CTRL.FD_EN n)) then .next s else
  let d' := d.take 64
  let body := leBytes 4 id ++ [BitVec.ofNat 8 (dlc d'.length + 16 * b2n rtr + 32 * b2n esi)] ++ d' ++ leBytes 3 crc
  .next ((s.canErr n (s.get (CAN_STAT.TEC n)) rec).ingress n (id % 2 ^ 32) t (2 ^ 7 * b2n rtr) d' body
    (s.flag (CAN_CTRL.MISS_FIFO n)) fun u => u.canDeliver n id d' rtr esi)

-- I2C target, UART, GPIO ingress (R318, R322, R323) ------------------------------------------------------------------

/-- The address that the target answers, with TENBIT (Table 11.5). -/
def State.targetId (s : State) (n : Nat) : Nat := s.get (I2C_CTRL.TADDR n) + 2 ^ 10 * s.get (I2C_CTRL.TADDR10 n)

/-- The address bytes of an I2C write, by the identifier of Table 11.5: one, or two with TENBIT. -/
def i2cAddr (id : Nat) : List Byte :=
  if bit id 10 then [BitVec.ofNat 8 (0xF0 + 2 * bits id 8 2), BitVec.ofNat 8 id] else [BitVec.ofNat 8 (2 * (id % 128))]

/-- The wrapped body of an I2C write (Table 11.9): START, address and data, STOP. -/
def i2cBody (id : Nat) (d : List Byte) : List Byte := [1, 0] ++ ((i2cAddr id ++ d).flatMap fun b => [0, b]) ++ [3, 0]

/-- The writes that such a body holds, by START and repeated START: identifier and data. -/
def i2cWrites (l : List Byte) : List (Nat × List Byte) :=
  let segs := (List.range (l.length / 2)).foldl (fun (r : List (List Byte)) k =>
    let c := byteAt l (2 * k)
    if c = 1 ∨ c = 2 then [] :: r
    else if c = 0 then (match r with
      | x :: t => (x ++ [l.getD (2 * k + 1) 0]) :: t
      | [] => [])
    else r) []
  (segs.reverse.filter fun x => !x.isEmpty).map fun x =>
    if byteAt x 0 / 8 = 0x1E then (2 ^ 10 + byteAt x 0 / 2 % 4 * 256 + byteAt x 1, x.drop 2) else (byteAt x 0 / 2, x.drop 1)

/-- A write to the target address ends (R318): the first byte names the index of later reads. -/
def execI2cTargetWrite (n : Fin 2) (id : Nat) (d : List Byte) (t : Nat) (s : State) : Out :=
  if !s.flag (I2C_CTRL.TEN n) || !s.busEnabled (4 + n) || id % 2 ^ 11 != s.targetId n then .next s else
  let d' := d.take 256
  let i := id % 2 ^ 11 + 2 ^ 16 * byteAt d' 0
  let body := i2cBody id d'
  let s1 := if d'.isEmpty then s else s.modBridge fun b => { b with i2cIdx := b.i2cIdx.put n (byteAt d' 0) }
  .next (s1.ingress (4 + n) i t 0 d' body false fun u => u)

/-- Byte k of the target mirror. -/
def State.mirror (s : State) (n k : Nat) : Byte := BitVec.ofNat 8 (bits (s.get (I2C_MIRROR.DATA n (k % 256 / 4))) (8 * (k % 4)) 8)

/-- Byte k of the mirror takes b. -/
def State.setMirror (s : State) (n k : Nat) (b : Byte) : State :=
  let f := I2C_MIRROR.DATA n (k % 256 / 4)
  s.set f (s.get f - (s.mirror n k).toNat * 2 ^ (8 * (k % 4)) + b.toNat * 2 ^ (8 * (k % 4)))

/-- An external controller reads k bytes of the target (R318). -/
def execI2cTargetRead (n : Fin 2) (k : Nat) (s : State) : Out :=
  if !s.flag (I2C_CTRL.TEN n) || !s.busEnabled (4 + n) then .next s else
  let i := s.bridge.i2cIdx.getD n 0
  .next (s.emit (.bus (4 + n) (s.get (I2C_CTRL.TADDR n)) ((List.range k).map fun j => s.mirror n ((i + j) % 256))))

/-- Up to 1,024 characters of a UART message are matched and forwarded (R322). -/
def State.uartMessage (s : State) (n t : Nat) (cs : List Nat) : State :=
  let err := cs.any fun c => bit c 9 || bit c 10
  let s1 := (s.incSat (UART_STAT.PARITY_ERR n) (cs.countP fun c => bit c 9)
    |>.incSat (UART_STAT.FRAMING_ERR n) (cs.countP fun c => bit c 10)
    |>.incSat (UART_STAT.BREAKS n) (cs.countP fun c => bit c 11)).when err fun u => u.raise (EV.uartErr n)
  let id := if s.get (UART_FRAME.FRAMING n) = 1 then cs.getD 0 0 % 512 else cs.getD 0 0 % 256 + 256 * (cs.getD 1 0 % 256)
  s1.ingress (8 + n) id t 0 (cs.map fun c => BitVec.ofNat 8 c) (cs.flatMap fun c => leBytes 2 (c % 2 ^ 12))
    (s.flag (UART_FRAME.MISS_FIFO n)) fun u => u.uartDeliver n cs

/-- A character ends its message, as the k-th of it (R322): at 1,024 characters, at a break, by a fixed length or the delimiter. -/
def uartEnds (framing rule k c : Nat) : Bool :=
  k == 1024 || bit c 11 || (framing == 2 && k == max 1 rule) || (framing == 3 && c % 256 == rule)

/-- Characters as messages: those that have ended, and what the last leaves open (R322). A character with its 9th bit set starts a message
in mode 1. -/
def uartSplit (framing rule : Nat) : List Nat → List Nat → List (List Nat) × List Nat
  | open_, [] => ([], open_)
  | open_, c :: t =>
    let starts := framing == 1 && bit c 8 && !open_.isEmpty
    let cur := if starts then [c] else open_ ++ [c]
    let r := if uartEnds framing rule cur.length c then
        let x := uartSplit framing rule [] t
        (cur :: x.1, x.2)
      else uartSplit framing rule cur t
    (if starts then open_ :: r.1 else r.1, r.2)

/-- A run of characters on UART n, after which its message ends where FRAMING lets it (R322): in modes 0 and 1 at the gap or address
character that follows the run; in modes 2 and 3 by length or delimiter alone, so that what is short of it waits. A receiver that DE
blanks takes nothing. -/
def execUartMessageEnd (n : Fin 4) (cs : List Nat) (t : Nat) (s : State) : Out :=
  if !s.busEnabled (8 + n) || decide (s.uptime < s.bridge.deUntil.getD n 0) then .next s else
  let m := s.get (UART_FRAME.FRAMING n)
  let r := uartSplit m (s.get (UART_FRAME.RULE n)) (s.bridge.uartPart.getD n []) cs
  let ended := if m < 2 ∧ r.2 ≠ [] then r.1 ++ [r.2] else r.1
  .next (ended.foldl (fun u x => u.uartMessage n t x) (s.modBridge fun b =>
    { b with uartPart := if m < 2 then b.uartPart.del n else b.uartPart.put n r.2 }))

/-- A stamp ring entry of group g (GPIO_TSe); a full ring drops it. -/
def State.gpioStamp (s : State) (g lines levels t : Nat) : State :=
  let h := s.get GPIO_TS_HEAD.HEAD
  if (h + 1) % 16 = s.get GPIO_TS_TAIL.TAIL then s else
  s.set (GPIO_TS0.GROUP h) g |>.set (GPIO_TS0.LINES h) lines |>.set (GPIO_TS0.LEVELS h) levels |>.set (GPIO_TS1.TICKS h) t
    |>.set GPIO_TS_HEAD.HEAD (h + 1)

/-- Edges of group g in one tick, t (R323): enabled ones are stamped and sent; wake lines raise GPIO_WAKE. -/
def State.gpioEdge (s : State) (g : Fin 6) (lines levels t : Nat) : State :=
  if !s.domainOn 13 then s else
  let s1 := s.set (GPIO_LEVEL.IN g) levels
  let e := lines % 256 &&& s.get (GPIO_CFG.EDGE_EN g)
  let s2 := s1.when (g.val == 0 && (lines % 256 &&& s.get GPIO_WAKE_EN.LINES) != 0) fun u => u.raise EV.gpioWake
  if e = 0 then s2 else
  let l := levels % 256
  ((s2.raise EV.gpioEdge).gpioStamp g e l t).ingress 12 (g + 2 ^ 8 * e + 2 ^ 16 * l) t 3 []
    [BitVec.ofNat 8 g, BitVec.ofNat 8 e, BitVec.ofNat 8 l] false fun u => u

-- GPIO outputs (R323) ------------------------------------------------------------------------------------------------

/-- Lines of group g that the hub drives (R323): outputs, but for open-drain ones at 1. -/
def State.gpioDriven (s : State) (g : Nat) : Nat :=
  s.get (GPIO_CFG.DIR g) &&& (255 ^^^ (s.get (GPIO_CFG.OD g) &&& s.get (GPIO_LEVEL.OUT g)))

/-- The lines of group g show on their balls. -/
def State.gpioShow (s : State) (g : Nat) : State := s.emit (.gpio g (s.gpioDriven g) (s.get (GPIO_LEVEL.OUT g)))

/-- The masked lines of a group take levels. -/
def State.gpioSet (s : State) (g mask levels : Nat) : State :=
  if 6 ≤ g then s else
  (s.set (GPIO_LEVEL.OUT g) ((s.get (GPIO_LEVEL.OUT g) &&& (255 ^^^ mask % 256)) ||| (levels &&& mask % 256))).gpioShow g

/-- An entry joins the schedule in order of T, after those of the same T. -/
def insertSched (x : Sched) : List Sched → List Sched
  | [] => [x]
  | y :: t => if x.t < y.t then x :: y :: t else y :: insertSched x t

/-- A scheduled output: applied at once and late when T lies in the past, else queued (R49, R323). -/
def State.schedule (s : State) (x : Sched) : State :=
  if x.t < s.now then (s.gpioSet x.group x.mask x.levels).raise EV.schedLate
  else
    let q := insertSched x s.bridge.sched
    (s.modBridge fun b => { b with sched := q }).set GPIO_SCHED_STAT.QUEUED q.length

def State.schedFull (s : State) : Bool := decide (32 ≤ s.bridge.sched.length)

/-- A SET operation, which HELD sends into the schedule queue (R323). -/
def isSet (p : Pkt) : Bool := p.hdr.mx == 4 && byteAt p.hdr.info 17 % 16 == 4

/-- The schedule queue has room for a SET that is still in the LOCAL egress partition, behind those at the GPIO bus (R323). -/
def State.schedRoom (s : State) : Bool :=
  decide (s.bridge.sched.length + (s.bridge.queue.countP fun q => q.bus == 12 && isSet q.pkt && q.pkt.hdr.held) < 32)

/-- A write of GPIO_SCHED_PUSH (R323). -/
def State.schedPush (s : State) (v : Nat) : State :=
  if s.schedFull then s.incSat GPIO_SCHED_STAT.SCHED_FULL
  else s.schedule ⟨s.get64 GPIO_SCHED_T_LO.T GPIO_SCHED_T_HI.T, bits v 24 3, bits v 8 8, bits v 0 8⟩

def execGpioSchedPush (v : Nat) (s : State) : Out := .next (s.schedPush v)

/-- Entries whose T chain time has reached are applied in order of T; one that a step skipped is late (R49, R323). -/
def State.schedRun (s : State) : State :=
  let due := s.bridge.sched.takeWhile fun x => decide (x.t ≤ s.now)
  let rest := s.bridge.sched.drop due.length
  let s1 := (s.modBridge fun b => { b with sched := rest }).set GPIO_SCHED_STAT.QUEUED rest.length
  due.foldl (fun u x => (u.gpioSet x.group x.mask x.levels).when (decide (x.t < s.now)) fun v => v.raise EV.schedLate) s1

def execSchedOutputDue (s : State) : Out := .next (if s.frozen then s else s.schedRun)

-- Egress queues (R313, R314) -----------------------------------------------------------------------------------------

/-- The bus of a packet (R306): its channel, or META byte 0 for code 15. -/
def brBus (p : FlowPkt) : Nat :=
  if p.outLabel % 16 = 15 then byteAt p.pkt.hdr.info 0 % 16 else p.outLabel % 16

/-- The SEQ of an ISO context is compared with the last one served (R314). -/
def State.seqCheck (s : State) (p : FlowPkt) : State :=
  if p.pkt.hdr.cls ≠ 1 then s else
  let q := p.pkt.hdr.seq % 65536
  let s1 := s.modBridge fun b => { b with lastSeq := b.lastSeq.put p.ctx q }
  match s.bridge.lastSeq.find? p.ctx with
  | some l =>
    let d := (q + 65536 - l) % 65536
    if 1 < d ∧ d < 32768 then (s1.incSat BRT_STAT1.SEQ_GAPS (d - 1)).raise EV.seqGap else s1
  | none => s1

/-- The messages that head their queues now, of those that did not before, came to the head at this tick (R316). -/
def markHeads (now : Nat) : List (Nat × Nat) → List BrMsg → List BrMsg
  | _, [] => []
  | seen, q :: t =>
    let q' := if !seen.contains (q.bus, q.prio) && q.since.isNone then { q with since := some now } else q
    q' :: markHeads now ((q.bus, q.prio) :: seen) t

def State.queueRoom (s : State) (b pr : Nat) : Bool :=
  decide ((s.bridge.queue.countP fun q => q.bus == b && q.prio == pr) < 32)

/-- A bridge packet leaves the LOCAL partition for its bus's queue; a bad one is discarded (R313, R314). -/
def State.brQueue (s : State) (p : FlowPkt) : State :=
  if p.bad then (s.incSat LST_END_DISCARD.POISONED).wasteAdmitted p else
  let q : Pkt := if p.pkt.hdr.sealed then ⟨p.pkt.hdr, p.pkt.data.take (32 * p.pkt.hdr.len - 4)⟩ else p.pkt
  let pr := byteAt p.pkt.hdr.info 3 % 4
  if s.queueRoom (brBus p) pr then
    ((s.handOver p).seqCheck p).modBridge fun b =>
      { b with queue := markHeads s.uptime [] (b.queue ++ [⟨brBus p, pr, p.ctx, q, none⟩]) }
  else s

/-- The packet may leave for its bus: not HELD, its TTAG reached, or a SET, which the schedule queue must have room for (R323). -/
def State.brReady (s : State) (p : FlowPkt) : Bool :=
  p.outAtt == 7 && (!p.pkt.hdr.held || (isSet p.pkt && s.schedRoom) || s.due p.pkt.hdr.ttag)

/-- The first packet that its bus queue has room for, in order within each context. -/
def State.firstReady (s : State) : List Nat → List FlowPkt → Option FlowPkt
  | _, [] => none
  | seen, p :: t =>
    if seen.contains p.ctx then s.firstReady seen t
    else if s.brReady p && (p.bad || s.queueRoom (brBus p) (byteAt p.pkt.hdr.info 3 % 4)) then some p
    else s.firstReady (p.ctx :: seen) t

/-- A decided bridge packet is queued at its bus (R313). -/
def execBridgeEgressQueue (s : State) : Out :=
  match s.firstReady [] s.flows.held with
  | some p => .next (s.brQueue p)
  | none => .next s

/-- Chain time has reached the TTAG of HELD packets (R138): the bridges' are queued, the heads' operations go on (R286). -/
def State.heldApply (s : State) : State :=
  let due := s.flows.held.filter fun p => p.pkt.hdr.held && s.brReady p
  ((due.foldl State.brQueue s).proceed 0).proceed 1

def execHeldApplyTime (s : State) : Out := .next s.heldApply

/-- The message that bus b serves next: the highest priority first, oldest first; on a held bus only the holder's LOCKED
operations (R313, R324). -/
def State.nextMsg (s : State) (b : Nat) : Option BrMsg :=
  let ok (q : BrMsg) : Bool := q.bus == b && match s.bridge.holds.find? b with
    | some t => q.isLocked && q.triple == t
    | none => true
  bestOf (fun a c => decide (c.prio < a.prio)) (s.bridge.queue.filter ok)

def State.dequeue (s : State) (q : BrMsg) : State :=
  (s.modBridge fun b => { b with queue := markHeads s.uptime [] (b.queue.erase q) }).count (srcSignal 21 (16 + q.bus)) 1

-- Semaphores (R324, R325) --------------------------------------------------------------------------------------------

/-- The RESP to a request (R308): on the PAIR context, status first. It carries no options (log entry 17). -/
def State.respond (s : State) (q : BrMsg) (status : Nat) (d : List Byte) (ahead : Bool) : State :=
  if !s.flag (CTX0.PAIR_VALID q.ctx) then s else
  s.brSend (s.get (CTX0.PAIR q.ctx)) q.pkt.hdr.mx ⟨q.m 2, s.hubId, q.bus, 0, q.id, none, 2 + 64 * b2n ahead, q.m 18⟩
    (BitVec.ofNat 8 status :: d) []

/-- The next semaphore request with a given OP: one at the semaphore unit, else one at another bus. -/
def State.nextSem (s : State) (op : Nat) : Option BrMsg :=
  ((14 :: List.range 14).filterMap s.nextMsg).find? fun q => !q.wrapped && q.op == op

/-- SEM_ACQ (R324); at a bus that is not the semaphore unit it is answered BAD_ARG (R308; DEDUCED, log entry 119). -/
def execSemAcq (s : State) : Out :=
  match s.nextSem 5 with
  | none => .next s
  | some q =>
    let k := q.id % 32
    let s1 := s.dequeue q
    if q.bus ≠ 14 then .next (s1.respond q 9 [] false)
    else if !s.flag (SEM0.HELD k) then
      .next ((s1.set (SEM0.HELD k) 1 |>.set (SEM0.HUB k) (q.m 1) |>.set (SEM0.TAG k) (q.m 18) |>.set (SEM1.CTX k) q.ctx
        |>.set (SEM2.ACQ_TIME k) s.now32).respond q 0 [] false)
    else .next (s1.respond q (if s.semTriple k = q.triple then 0 else 5) [] false)

/-- SEM_REL, likewise. -/
def execSemRel (s : State) : Out :=
  match s.nextSem 6 with
  | none => .next s
  | some q =>
    let k := q.id % 32
    let s1 := s.dequeue q
    if q.bus ≠ 14 then .next (s1.respond q 9 [] false)
    else if s.flag (SEM0.HELD k) && s.semTriple k == q.triple then .next ((s1.semFree k).respond q 0 [] false)
    else .next (s1.respond q 6 [] false)

def execSemTimeout (k : Fin 32) (s : State) : Out := .next (s.semBreak k)
def execSemBreak (k : Fin 32) (s : State) : Out := .next (s.semBreak k)

/-- The operation may run (R324): a LOCKED one only while its triple holds the bound semaphore. -/
def State.lockOk (s : State) (q : BrMsg) : Bool :=
  !q.isLocked || match s.boundSem q.bus with
    | some k => s.flag (SEM0.HELD k) && s.semTriple k == q.triple
    | none => false

/-- A LOCKED operation has ended (R324): HOLD keeps the I2C or SPI bus, its absence frees it. -/
def State.holdAfter (s : State) (q : BrMsg) : State :=
  if !q.isLocked || !(decide (4 ≤ q.bus) && decide (q.bus < 8)) then s
  else if q.hold then (s.modBridge fun b => { b with holds := b.holds.put q.bus q.triple }).set (busHeld q.bus) 1
  else s.freeBus q.bus

-- Operations on the buses (R308, R315 to R320) -----------------------------------------------------------------------

/-- The memory window of an identifier with WIN set, its offset, and its size in bytes (R319). -/
def winOf (id : Nat) : Nat := bits id 30 2
def winOff (id : Nat) : Nat := bits id 0 26
def State.winSize (s : State) (n w : Nat) : Nat := 2 ^ (12 + min 16 (s.get (SPI_WIN_B.SIZE n w)))

/-- The command and address bytes of a window access, most significant first. -/
def State.winCmd (s : State) (n : Nat) (q : BrMsg) (wr : Bool) : List Byte :=
  let w := winOf q.id
  let a := s.get (SPI_WIN_A.DEV_BASE n w) + winOff q.id
  BitVec.ofNat 8 (if wr then s.get (SPI_WIN_B.WR_CMD n w) else s.get (SPI_WIN_B.RD_CMD n w))
    :: (leBytes (if s.flag (SPI_WIN_B.ADDR4 n w) then 4 else 3) a).reverse

/-- A window access goes out with the window's chip select, lines and dummy cycles (R319). -/
def State.winEmit (s : State) (b : Nat) (q : BrMsg) (d : List Byte) : State :=
  let n := b - 6
  let w := winOf q.id
  s.emit (.spi b (s.get (SPI_WIN_B.CS n w)) (s.get (SPI_WIN_B.LINES n w)) (s.get (SPI_WIN_B.DUMMY n w)) d)

/-- A window access of k bytes is in range. -/
def State.winOk (s : State) (n : Nat) (q : BrMsg) (k : Nat) : Bool :=
  s.flag (SPI_WIN_B.VALID n (winOf q.id)) && decide (winOff q.id + k ≤ s.winSize n (winOf q.id))

/-- The end of an operation on an I2C or SPI bus with a status. -/
def State.busDone (s : State) (b r : Nat) : State :=
  if b = 4 ∨ b = 5 then
    ((s.when (r == 1) fun t => (t.incSat (I2C_STAT.NACKS (b - 4))).raise (EV.i2cNack (b - 4))).when (r == 10) fun t =>
      t.incSat (I2C_STAT.ARB_LOST (b - 4))).raise (EV.i2cDone (b - 4))
  else if b = 6 ∨ b = 7 then s.raise (EV.spiDone (b - 6)) else s

/-- The controller sends data frames: enabled, not bus-off, in normal mode (R315, R316; ISO 11898-1 has a listen-only or restricted node
send none; PRESUMED, log entry 101). -/
def State.canMay (s : State) (n : Nat) : Bool :=
  s.busEnabled n && s.get (CAN_STAT.STATE n) != 2 && s.get (CAN_CTRL.MODE n) == 0

/-- A CAN frame of a message is sent (R316): the FD length is filled with zeros. An FD frame needs FD_EN. -/
def State.canSend (s : State) (n id : Nat) (rtr : Bool) (d : List Byte) : State :=
  if !bit id 30 && decide (8 < d.length) || decide (64 < d.length) || bit id 30 && !s.flag (CAN_CTRL.FD_EN n) then s.incSat (CAN_STAT.TX_DROP n)
  else s.emit (.can n (id % 2 ^ 32) rtr (dlc d.length) (if rtr then [] else byteSlice d 0 (dlcLen (dlc d.length))))

/-- Ticks that so many characters take on UART n: start bit, data bits, parity, stop bits, with DE's lead and lag (R322). -/
def State.uartTicks (s : State) (n k : Nat) : Nat :=
  let bitsPer := 2 + s.get (UART_CTRL.DATA_BITS n) + b2n (s.get (UART_CTRL.PARITY n) != 0) + s.get (UART_CTRL.STOP2 n)
  (k * bitsPer + s.get (UART_FRAME.DE_LEAD n) + s.get (UART_FRAME.DE_LAG n)) * 400000000 / max 1 (s.get (UART_CTRL.BAUD n))

/-- Characters go out on UART n; with RS485 the DE output frames them, and the receiver is blanked meanwhile (R322). -/
def State.uartSend (s : State) (n : Nat) (cs : List Nat) : State :=
  let s1 := s.when (s.flag (UART_FRAME.RS485 n)) fun t =>
    (t.emit (.de (8 + n) (t.get (UART_FRAME.DE_LEAD n)) (t.get (UART_FRAME.DE_LAG n)))).modBridge fun b =>
      { b with deUntil := b.deUntil.put n (max s.uptime (b.deUntil.getD n 0) + s.uartTicks n cs.length) }
  s1.emit (.uart (8 + n) cs)

/-- The I2C target mirror takes bytes from a start index on (R318). -/
def State.mirrorWrite (s : State) (n start : Nat) (d : List Byte) : State :=
  (List.range d.length).foldl (fun t k => t.setMirror n (start + k) (d.getD k 0)) s

/-- A WRITE is carried out on its bus (R308): r is how the bus ended it (Table 11.3), tec the CAN transmit error counter after
the attempt. A CAN frame that was not sent stays at the head of its queue; a bus-off controller sends nothing (R316). -/
def State.busWrite (s : State) (q : BrMsg) (r tec : Nat) : State :=
  let b := q.bus
  let d := q.payload
  if q.fifo && decide (b < 4) then (s.dequeue q).canDeliver b q.id d (bit (q.m 17) 7) false
  else if q.fifo && decide (8 ≤ b ∧ b < 12) then (s.dequeue q).uartDeliver (b - 8) (d.map BitVec.toNat)
  else if q.fifo && decide (b = 4 ∨ b = 5) then
    (s.dequeue q).mirrorWrite (b - 4) (q.id % 256) d
  else if 12 ≤ b then s.dequeue q
  else if !s.busEnabled b then s
  else if b < 4 then
    if !s.canMay b then s
    else
      let s1 := s.canErr b tec (s.get (CAN_STAT.REC b))
      if r = 0 then (s1.dequeue q).canSend b q.id (bit (q.m 17) 7) d else s1
  else if b = 6 ∨ b = 7 then
    if bit q.id 29 then
      if s.winOk (b - 6) q d.length then
        (((s.dequeue q).winEmit b q (s.winCmd (b - 6) q true ++ d)).holdAfter q).busDone b 0
      else s.dequeue q
    else (((s.dequeue q).emit (.bus b q.id d)).holdAfter q).busDone b 0
  else if 8 ≤ b then (s.dequeue q).uartSend (b - 8) (d.map BitVec.toNat)
  else (((s.dequeue q).emit (.bus b q.id d)).holdAfter q).busDone b r

/-- The message says an OP that its bus does not carry out and no RESP answers: a RESP elsewhere than at the transfer window, an EDGE or SET
elsewhere than at GPIO, a reserved code (DESIGN CHOICE, log entry 119). -/
def BrMsg.stray (q : BrMsg) : Bool :=
  (q.op == 2 && q.bus != 13) || ((q.op == 3 || q.op == 4) && q.bus != 12) || decide (7 ≤ q.op)

def execBridgeWrite (b : BusNo) (r tec : Nat) (s : State) : Out :=
  match (s.nextMsg b).filter fun q => !q.wrapped && (q.op == 0 || q.stray) with
  | none => .next s
  | some q =>
    if q.stray then .next (s.dequeue q)
    else if s.lockOk q then .next (s.busWrite q r tec) else .next ((s.dequeue q).incSat BRT_STAT1.LOCK_REFUSED)

/-- COUNT, K and the command bytes of a READ (R308). -/
def BrMsg.count (q : BrMsg) : Nat := leNat (byteSlice q.payload 0 2)
def BrMsg.cmd (q : BrMsg) : List Byte := byteSlice q.payload 3 (byteAt q.payload 2)
def BrMsg.readOk (q : BrMsg) : Bool := decide (1 ≤ q.count ∧ q.count ≤ 256 ∧ byteAt q.payload 2 ≤ 8)

/-- Bytes read ahead of a READ on a prefetchable window (R320). -/
def State.aheadOf (s : State) (n : Nat) (q : BrMsg) : Nat :=
  let w := winOf q.id
  if s.flag (SPI_WIN_B.PREFETCH n w) then min 64 (s.winSize n w - (winOff q.id + q.count)) else 0

/-- A READ is carried out (R308): d is what the bus returned, r how it ended. CAN and GPIO have no read: BAD_ARG. -/
def State.busRead (s : State) (q : BrMsg) (r : Nat) (d : List Byte) : State :=
  let b := q.bus
  let s1 := s.dequeue q
  if !q.readOk ∨ b < 4 ∨ 12 ≤ b then s1.respond q 9 [] false
  else if (b = 6 ∨ b = 7) ∧ bit q.id 29 then
    if s.winOk (b - 6) q q.count then
      let n := s.aheadOf (b - 6) q
      (((s1.winEmit b q (s.winCmd (b - 6) q false)).holdAfter q).busDone b 0).respond q 0
        (byteSlice d 0 (q.count + n)) (n != 0)
    else s1.respond q 9 [] false
  else
    (((s1.emit (.bus b q.id q.cmd)).holdAfter q).busDone b r).respond q r (if r = 0 then byteSlice d 0 q.count else []) false

def execBridgeRead (b : BusNo) (r : Nat) (d : List Byte) (s : State) : Out :=
  match (s.nextMsg b).filter fun q => !q.wrapped && q.op == 1 with
  | none => .next s
  | some q =>
    if !s.lockOk q then .next ((s.dequeue q).respond q 6 [] false)
    else if !s.busEnabled b && decide (4 ≤ b.val ∧ b.val < 12) then .next s
    else .next (s.busRead q r d)

/-- A target stretches beyond 25 ms: the operation at the head of the bus ends with TIMEOUT (R318). -/
def execI2cStretchTimeout (n : Fin 2) (s : State) : Out :=
  match (s.nextMsg (4 + n)).filter fun q => !q.wrapped && decide (q.op < 2) with
  | none => .next s
  | some q =>
    let s1 := ((s.dequeue q).holdAfter q).busDone (4 + n) 3
    .next (if q.op = 1 then s1.respond q 3 [] false else s1)

/-- An EDGE from another hub is delivered at the GPIO bus (R323); a LOCKED one does nothing, for GPIO binds no semaphore (R324). -/
def execBridgeEdge (s : State) : Out :=
  match (s.nextMsg 12).filter fun q => !q.wrapped && q.op == 3 with
  | none => .next s
  | some q => .next (if s.lockOk q then (s.dequeue q).emit (.bus 12 q.id []) else s.dequeue q)

/-- TTAG as a 64-bit time under the half window of R138. -/
def State.ttagTime (s : State) (ttag : Nat) : Nat := (s.now + toInt 32 ((ttag + 2 ^ 32 - s.now32) % 2 ^ 32)).toNat

/-- A SET applies at once, or enters the schedule at its TTAG; while the queue is full it waits, unless its time is past (R323). GPIO binds
no semaphore, so that a LOCKED one does nothing (R324). -/
def execBridgeSet (s : State) : Out :=
  match (s.nextMsg 12).filter fun q => !q.wrapped && q.op == 4 with
  | none => .next s
  | some q =>
    let g := q.id % 8
    let m := bits q.id 8 8
    let l := bits q.id 16 8
    let x : Sched := ⟨s.ttagTime q.pkt.hdr.ttag, g, m, l⟩
    if q.isLocked then .next (s.dequeue q)
    else if q.pkt.hdr.held then
      if s.schedFull && decide (s.now ≤ x.t) then .next s else .next ((s.dequeue q).schedule x)
    else .next ((s.dequeue q).gpioSet g m l)

/-- A wrapped message is unwrapped and sent (R328, Table 11.9), or delivered by option FIFO (R307); good says that the CAN CRC recomputed equals the one carried. A good frame
waits like any other while its controller may not send (R316); a message of another kind of bus is discarded. -/
def execWrappedEgress (b : BusNo) (good : Bool) (s : State) : Out :=
  match (s.nextMsg b).filter fun q => q.wrapped with
  | none => .next s
  | some q =>
    let s1 := s.dequeue q
    let d := q.payload
    if q.m 17 % 16 ≠ busKind b then .next s1 else
    match q.m 17 % 16 with
    | 0 =>
      if !good then .next (s1.incSat BRT_STAT1.WRAP_BAD)
      else if q.fifo then
        .next (s1.canDeliver b (leNat (byteSlice d 0 4)) (byteSlice d 5 (dlcLen (byteAt d 4))) (bit (byteAt d 4) 4) (bit (byteAt d 4) 5))
      else if !s.canMay b then .next s
      else .next (s1.canSend b (leNat (byteSlice d 0 4)) (bit (byteAt d 4) 4) (byteSlice d 5 (dlcLen (byteAt d 4))))
    | 1 => .next ((i2cWrites d).foldl (fun t x =>
        if q.fifo then t.mirrorWrite (b - 4) (q.id % 256) x.2 else (t.emit (.bus b x.1 x.2)).busDone b 0) s1)
    | 3 =>
      let cs := (List.range (d.length / 2)).map fun k => leNat (byteSlice d (2 * k) 2)
      .next (if q.fifo then s1.uartDeliver (b - 8) cs else s1.uartSend (b - 8) (cs.map (· % 512)))
    | 4 => .next (s1.gpioSet (byteAt d 0) (byteAt d 1) (byteAt d 2))
    | _ => .next s1

/-- The head of a queue of bus n that has headed it longest. -/
def State.oldestHead (s : State) (n : Nat) : Option BrMsg :=
  bestOf (fun a c => decide (a.since.getD 0 < c.since.getD 0)) (s.bridge.queue.filter fun q => q.bus == n && q.since.isSome)

/-- A frame has headed its queue for TX_TIMEOUT (R316): of the four queues the one that has done so longest. -/
def execCanTxTimeout (n : Fin 4) (s : State) : Out :=
  match s.oldestHead n with
  | some q => .next ((s.dequeue q).incSat (CAN_STAT.TX_DROP n))
  | none => .next s

/-- The controller leaves bus-off. -/
def State.canRecover (s : State) (n : Nat) : State :=
  s.set (CAN_STAT.STATE n) 0 |>.set (CAN_STAT.TEC n) 0 |>.set (CAN_STAT.REC n) 0

def execCanBusOffRecovery (n : Fin 4) (s : State) : Out :=
  .next (if s.get (CAN_STAT.STATE n) = 2 ∧ s.flag (CAN_CTRL.AUTO_RECOVER n) then s.canRecover n else s)

-- Read-ahead (R320, R321) --------------------------------------------------------------------------------------------

/-- The slots of the RESP that carried the bytes of a read-ahead (R321). -/
def ReadAhead.slots (a : ReadAhead) : Nat := if a.data.isEmpty then 0 else (a.start + a.data.length - 1) / 32 - a.start / 32 + 1

/-- The read-ahead of context i is discarded for a cause: 0 NONSEQ, 1 WRITE, 2 AGE, 3 CTX, 4 LOCK (R321). -/
def State.dropAhead (s : State) (i cause : Nat) : State :=
  match s.bridge.aheads.find? i with
  | none => s
  | some a =>
    let n := (a.bus - 6) % 2
    let e := s.get (SPI_DISCARD_HEAD.NEXT n)
    ((s.modBridge fun b => { b with aheads := b.aheads.del i }).set (SPI_DISCARD_LOG0.OFFSET n e) a.off
      |>.set (SPI_DISCARD_LOG0.WIN n e) a.win |>.set (SPI_DISCARD_LOG0.CAUSE n e) cause
      |>.set (SPI_DISCARD_LOG1.BYTES n e) a.data.length |>.set (SPI_DISCARD_LOG1.HUB n e) a.hub
      |>.set (SPI_DISCARD_LOG1.CTX n e) i |>.set (SPI_DISCARD_HEAD.NEXT n) (e + 1)
      |>.incSat (SPI_DISCARD_HEAD.TOTAL n)).slots (unitOut 7) 1 (a.slots) |>.raise (EV.prefetchDiscard n)

/-- A read-ahead is discarded for a cause (R320); CTX means that the context has left ACTIVE. -/
def execReadAheadDiscard (i : CtxNo) (cause : Nat) (s : State) : Out :=
  .next (if cause = 3 ∧ s.flag (CTX5.ACTIVE i) then s else s.dropAhead i (cause % 5))

def execReadAheadAge (i : CtxNo) (s : State) : Out := .next (s.dropAhead i 2)

-- The transfer window (R329) -----------------------------------------------------------------------------------------

/-- Data that the read-ahead of context i answers (R320): a READ in a window that begins at its first byte and lies in it. -/
def State.fromAhead (s : State) (i bus id op : Nat) (payload : List Byte) : Option (List Byte × ReadAhead) :=
  match s.bridge.aheads.find? i with
  | none => none
  | some a =>
    let k := leNat (byteSlice payload 0 2)
    if op = 1 ∧ bus = a.bus ∧ bit id 29 ∧ winOf id = a.win ∧ winOff id = a.off ∧ k ≤ a.data.length then
      some (a.data.take k, { a with off := a.off + k, data := a.data.drop k, start := a.start + k })
    else none

/-- What a request on context i for a bus does to its read-ahead (R320). -/
def State.aheadMeets (s : State) (i bus id op : Nat) : State :=
  match s.bridge.aheads.find? i with
  | none => s
  | some a =>
    if op = 0 ∧ bus = a.bus ∧ bit id 29 then s.dropAhead i 1
    else if op = 6 then s.dropAhead i 4
    else if op = 1 ∧ !(bus == a.bus && bit id 29 && winOf id == a.win && winOff id == a.off) then s.dropAhead i 0
    else s

/-- The packet of a transfer is on its way: lost when nothing of it waits or is held back. -/
def State.xferStart (s : State) (x : Xfer) : State :=
  let mine (q : Pkt) : Bool := byteAt q.hdr.info 2 == 13 && byteAt q.hdr.info 18 == x.tag
  let s1 := (s.modBridge fun b => { b with xfer := some x }).adapterSend 7 x.ctx x.pkt
  let there := (s1.flows.waiting.any fun p => p.ctx == x.ctx && mine p.pkt)
    || s1.flows.backlog.any fun b => b.2.1 == x.ctx && mine b.2.2
  s1.modBridge fun b => { b with xfer := b.xfer.map fun y => { y with lost := !there } }

/-- The body of a request on a context with WRAP, for a kind of bus (Table 11.9); SPI is not wrapped. A CAN frame carries the CRC that
ISO 11898-1 gives it. -/
def wrapBody (kind id : Nat) (rtr : Bool) (d : List Byte) : List Byte :=
  match kind with
  | 0 => leBytes 4 id ++ [BitVec.ofNat 8 (dlc d.length + 16 * b2n rtr)] ++ d ++ leBytes 3 (Config.canCrc id (b2n rtr) d)
  | 1 => i2cBody id d
  | 3 => d.flatMap fun b => [b, 0]
  | 4 => [BitVec.ofNat 8 (id % 8), BitVec.ofNat 8 (bits id 8 8), BitVec.ofNat 8 (bits id 16 8)]
  | _ => d

/-- The packet of a request on entry e (R307); PRIO comes from the request. -/
def State.xferPkt (s : State) (e tag : Nat) (req : List Byte) : Pkt :=
  let i := s.get (BRT0.CTX e)
  let wrap := s.flag (CTX0.WRAP i)
  let k := busKind (s.get (BRT5.DST_BUS e))
  let d0 := byteSlice req 8 (leNat (byteSlice req 6 2))
  let d := if wrap then wrapBody k (s.brtId e (leNat (byteSlice req 0 4))) (bit (byteAt req 4) 7) d0 else d0
  let tail := if s.flag (CTX0.SEAL i) && decide (2 ≤ s.get (CTX0.CLASS i)) then 4 else 0
  let pad := 32 * ceilDiv (d.length + tail) 32 - tail - d.length
  let h : BrHead := ⟨s.get (BRT5.DST_BUS e), s.hubId, 13, s.brtOpts e / 4 * 4 + byteAt req 5 % 4,
    s.brtId e (leNat (byteSlice req 0 4)), if s.flag (BRT0.TS e) then some s.now else none,
    if wrap then k else byteAt req 4, tag⟩
  message (if wrap then 5 else k) (h.info pad) (d ++ List.replicate pad 0)

/-- GO of the transfer window (R329): the request is matched as a message from bus 13. -/
def State.xferGo (s : State) (tag : Nat) : State :=
  if s.flag BRT_XFER_STAT.BUSY then s.incSat BRT_XFER_STAT.LOST else
  let req := s.windowBytes BRT_XREQ.DATA 16
  let id := leNat (byteSlice req 0 4)
  let op := byteAt req 4 % 16
  let n := leNat (byteSlice req 6 2)
  let s1 := ((s.resAccept resXFER).count (srcSignal 21 13) 1).set BRT_XFER_STAT.BUSY 1
  let x0 : Xfer := ⟨tag % 256, 0, message 0 [] [], false, false, 0, 0⟩
  if 56 < n ∨ 6 < op then s1.xferEnd x0 9 [] else
  match s.brtMatch 13 id with
  | none => ((s1.incSat BRT_STAT0.MISS).raise EV.brtMiss).xferEnd x0 7 []
  | some e =>
    let s2 := s1.takeToken e
    if !s.hasToken e then ((s2.incSat BRT_STAT0.RATE_DROPS).raise EV.rateDrop).xferEnd x0 8 [] else
    let i := s.get (BRT0.CTX e)
    let id' := s.brtId e id
    match s2.fromAhead i (s.get (BRT5.DST_BUS e)) id' op (byteSlice req 8 n) with
    | some (d, a) =>
      (s2.modBridge fun b =>
        { b with aheads := if a.data.isEmpty then b.aheads.del i else b.aheads.put i a }).xferEnd x0 0 d
    | none =>
      (s2.aheadMeets i (s.get (BRT5.DST_BUS e)) id' op).xferStart
        ⟨tag % 256, i, s.xferPkt e tag req, op == 1 || op == 5 || op == 6, false, 0, 0⟩

def execXferGo (tag : Nat) (s : State) : Out := .next (s.xferGo tag)

/-- No RESP within XFER_TIMEOUT, or the packet was discarded before it entered the Last (R329). -/
def execXferTimeout (s : State) : Out :=
  match s.bridge.xfer with
  | some x => .next (if x.resp || x.lost then s.xferEnd x 3 [] else s)
  | none => .next s

/-- The RESP's read-ahead is kept (R320). -/
def State.keepAhead (s : State) (x : Xfer) (q : BrMsg) (d : List Byte) : State :=
  let k := leNat (byteSlice (brPayload x.pkt) 0 2)
  if !bit (q.m 17) 6 then s else
  s.modBridge fun b => { b with aheads := b.aheads.put x.ctx ⟨q.m 2, winOf q.id, winOff q.id + k, q.m 1, d.drop k, 1 + k⟩ }

/-- A RESP has arrived at the transfer window (R308, R327, R329): it completes the transfer; one of a retracted attempt, or one
that nothing awaits, is discarded. -/
def execBridgeResp (s : State) : Out :=
  match (s.nextMsg 13).filter fun q => q.op == 2 with
  | none => .next s
  | some q =>
    let s1 := s.dequeue q
    match s.bridge.xfer with
    | none => .next s1
    | some x =>
      if !x.resp ∨ q.m 18 ≠ x.tag ∨ (s.flag (CTX0.PAIR_VALID x.ctx) ∧ s.get (CTX0.PAIR x.ctx) ≠ q.ctx) then .next s1
      else if 0 < x.stale then
        .next ((s1.modBridge fun b => { b with xfer := some { x with stale := x.stale - 1 } }).slots (unitOut 7) 1 q.pkt.n)
      else
        let d := q.payload.drop 1
        let k := leNat (byteSlice (brPayload x.pkt) 0 2)
        .next ((s1.keepAhead x q d).xferEnd x (byteAt q.payload 0) (if bit (q.m 17) 6 then d.take k else d))

-- The Yield plan (R326, R327) ----------------------------------------------------------------------------------------

/-- This hub is farther from the Root than hub P. -/
def State.farther (s : State) (hub depth : Nat) : Bool :=
  decide (depth < s.get CHIP_ROLE.DEPTH) || (s.get CHIP_ROLE.DEPTH == depth && decide (hub < s.hubId))

/-- The packets of context i from the bridges that wait for pool space. -/
def State.unadmitted (s : State) (i : Nat) : List FlowPkt := s.flows.waiting.filter fun p => p.ctx == i && p.inAtt == 7

/-- Packets that have not entered the Last are discarded, WASTED (R327). On RLB the adapter keeps them under their SEQ; on other flows their
SEQ values are free again. -/
def State.takeBack (s : State) (i : Nat) (w : List FlowPkt) : State :=
  let s1 := w.foldl (fun t p => { (t.wasteWaiting p) with flows := { (t.wasteWaiting p).flows with
    waiting := (t.wasteWaiting p).flows.waiting.erase p } }) s
  if s.get (CTX0.CLASS i) = 2 then s1
  else { s1 with flows := { s1.flows with seqOut := s1.flows.seqOut.put i ((s.flows.seqOut.getD i 0 + 65536 - w.length) % 65536) } }

/-- A packet taken back, as it is to be sent again: on RLB under its SEQ, else afresh, without its flow seal. -/
def State.again (s : State) (i : Nat) (p : FlowPkt) : Nat × Bool × Pkt := (i, s.get (CTX0.CLASS i) == 2, p.pkt.bare)

/-- The transfer that context i carries is retracted (R327): its unadmitted packets are discarded, the bus it holds is
released, a transfer window gets RETRIED; a WRITE already admitted is not retracted, and only its bus is released. -/
def State.retract (s : State) (i : Nat) (b : Option BusNo) : State :=
  let w := s.unadmitted i
  let freed (t : State) : State := match b with
    | some x => t.freeBus x
    | none => t
  let s1 := freed ((s.takeBack i w).incSat BRT_STAT1.RETRACTS)
  let back := w.map (s.again i)
  match s.bridge.xfer with
  | some x =>
    if x.ctx = i then
      if w.isEmpty && !x.resp then freed s else
      ((s1.modBridge fun r => { r with
        xfer := some { x with retracts := x.retracts + 1, stale := x.stale + b2n w.isEmpty },
        retracted := r.retracted ++ (if w.isEmpty then [(i, false, x.pkt)] else back) }).resDone resXFER x.tag 4).setWords BRT_XRES.DATA 0
          (words32 15 [BitVec.ofNat 8 (x.retracts + 1)])
    else if w.isEmpty then freed s else s1.modBridge fun r => { r with retracted := r.retracted ++ back }
  | none => if w.isEmpty then freed s else s1.modBridge fun r => { r with retracted := r.retracted ++ back }

/-- Opposing transfers wait for each other under the Yield plan: context i carries this hub's, hub and depth name the partner,
b is the bus that the transfer holds (R327). -/
def execYieldConflict (i : CtxNo) (hub depth : Nat) (b : Option BusNo) (s : State) : Out :=
  .next (if s.get LST_BUF_PLAN.PLAN = 0 ∧ s.farther hub depth then s.retract i b else s)

/-- The retracted transfer of context i starts again (R327). -/
def execRetractRestart (i : CtxNo) (s : State) : Out :=
  let mine := s.bridge.retracted.filter fun r => r.1 == i.val
  let s1 := s.modBridge fun b => { b with retracted := b.retracted.filter fun r => r.1 != i.val }
  .next (mine.foldl (fun t r =>
    if r.2.1 then t.arrive 7 i 0 true (t.adapterPkt i r.2.2.hdr.seq r.2.2) else t.adapterSend 7 i r.2.2) s1)

end Sys2Proof.Machine
end

