-- ==== Sys2Proof/Machine/Eyelet.lean ====
section
/-!
DEFINITION. Sys2Proof/Machine/Eyelet.lean: the power channels, their trips and cool-downs, the feeds, early warning (chapter 13,
R370 to R389). Rises and energies are exact rationals.
-/
namespace Sys2Proof.Machine

def State.ctpP (s : State) (n : Port) : CtpPort := s.ctp.ports[n]
def State.modCtp (s : State) (n : Port) (f : CtpPort → CtpPort) : State :=
  { s with ctp := { s.ctp with ports := upd s.ctp.ports n (f s.ctp.ports[n]) } }
def State.chan (s : State) (c : Chan) : ChanSt := s.eye.chans[c]
def State.modChan (s : State) (c : Chan) (f : ChanSt → ChanSt) : State :=
  { s with eye := { s.eye with chans := upd s.eye.chans c (f s.eye.chans[c]) } }

-- Bounds (R371, R375, R377) ------------------------------------------------------------------------------------------

/-- Port n acts as source: its CTPn_STAT.POWER_ROLE, but from the hand-over of a swap on the role that it takes, which the register
shows from step 4 (Table 12.9). -/
def State.sources (s : State) (n : Port) : Bool :=
  if 2 ≤ (s.ctpP n).swap then (s.ctpP n).roleBefore == 0 else s.flag (CTP_STAT.POWER_ROLE n)

/-- A port channel conducts as a sink (R371). -/
def State.chanSink (s : State) (c : Chan) : Bool := if h : c.val < 4 then !s.sources ⟨c, h⟩ else false

/-- BOUND of a channel in units of 10 mA (R375). -/
def State.boundOf (s : State) (c : Chan) : Nat :=
  if h : c.val < 4 then
    if (s.ctpP ⟨c, h⟩).shed || s.flag (CTP_CONTRACT.BASE c) || ((s.ctpP ⟨c, h⟩).applying && s.get (CTP_CONTRACT.VOLT c) == 0)
    then 50 else s.get (CTP_CONTRACT.CURRENT c)
  else s.get (EYE_CH_LIMIT.BOUND c)

/-- Full scale of the shunt, 150 mV ÷ R_SENSE, in units of 10 mA (R377). -/
def State.fullScale (s : State) (c : Chan) : Rat := (1500000 : Rat) / s.get (EYE_CH_SENSE.RSENSE c)

/-- Threshold of curve point k in units of 10 mA, before the clamp (R376); point 8 is the backstop at 1.25 × BOUND. -/
def State.rawThresh (s : State) (c : Chan) (k : Nat) : Rat :=
  if k < 8 then (s.get (EYE_CH_CURVE.THRESH c k) : Rat) * s.boundOf c / 16 else (5 : Rat) * s.boundOf c / 4

/-- TIME of a curve point in µs (Table 13.4), the backstop's 10 s. -/
def State.curveTimeOf (s : State) (c : Chan) (k : Nat) : Nat :=
  if k < 8 then
    s.get (EYE_CH_CURVE.TIME c k) * (if s.get (EYE_CH_CURVE.UNIT c k) = 0 then 1
      else if s.get (EYE_CH_CURVE.UNIT c k) = 1 then 100 else 10000)
  else 10000000

/-- A point is evaluated: THRESH 0 disables it, the backstop always is (R376). -/
def State.curveOn (s : State) (c : Chan) (k : Nat) : Bool := k == 8 || s.get (EYE_CH_CURVE.THRESH c k) != 0

/-- BOUND, ROLE and CLAMPED follow what they depend on. -/
def State.showChan (s : State) (c : Chan) : State :=
  let beyond := (List.range 8).any fun k => s.curveOn c k && decide (s.fullScale c < s.rawThresh c k)
  let clamp := s.get (EYE_CH_SENSE.RSENSE c) != 0 && (beyond || decide (s.fullScale c < (10 : Rat) * s.get (EYE_CH_LIMIT.FAST c)))
  (s.when (decide (c.val < 4)) fun t => t.set (EYE_CH_LIMIT.BOUND c) (s.boundOf c)).setFlag (EYE_CH_STAT.ROLE c)
    (s.chanSink c) |>.setFlag (EYE_CH_STAT.CLAMPED c) clamp

-- Feeds (R385, R386) -------------------------------------------------------------------------------------------------

/-- The channel of feed f. -/
def feedChan (f : Fin 2) : Chan := ⟨4 + f, by omega⟩
def feedPresent (f : Nat) : Fld := if f = 0 then EYE_FEED_STAT.A_PRESENT else EYE_FEED_STAT.B_PRESENT

/-- The channel conducts: it ramps or is on. -/
def State.conducts (s : State) (c : Nat) : Bool := s.get (EYE_CH_STAT.STATE c) == 1 || s.get (EYE_CH_STAT.STATE c) == 2

/-- A change in which feeds conduct is counted and raises FEED_SWITCH (R386). -/
def State.refreshFeeds (s : State) : State :=
  if s.conducts 4 = s.flag EYE_FEED_STAT.A_CONDUCTING ∧ s.conducts 5 = s.flag EYE_FEED_STAT.B_CONDUCTING then s else
  s.setFlag EYE_FEED_STAT.A_CONDUCTING (s.conducts 4) |>.setFlag EYE_FEED_STAT.B_CONDUCTING (s.conducts 5)
    |>.incSat EYE_FEED_STAT.SWITCHES |>.raise EV.feedSwitch

/-- Feed f is held off for the preferred one (R385). -/
def State.feedHeld (s : State) (f : Nat) : Bool :=
  (f == 1 && s.get EYE_FEED_CTRL.MODE == 1 && s.flag EYE_FEED_STAT.A_PRESENT)
    || (f == 0 && s.get EYE_FEED_CTRL.MODE == 2 && s.flag EYE_FEED_STAT.B_PRESENT)

-- On and off (R372, R373) --------------------------------------------------------------------------------------------

/-- The channel may be on but for its own further condition (R372). -/
def State.chanFree (s : State) (c : Chan) : Bool :=
  s.flag (EYE_CH_CTRL.ON c) && !(s.chan c).latched && s.get (EYE_CH_STAT.STATE c) != 5 && !s.flag (EYE_CH_STAT.COOLING c)
    && s.get (EYE_CH_SENSE.RSENSE c) != 0

/-- The conditions of R372. -/
def State.chanReady (s : State) (c : Chan) : Bool :=
  s.chanFree c && (if h : c.val < 4 then
      (if s.chanSink c then s.flag (CTP_STAT.PG c) else (s.ctpP ⟨c, h⟩).applying)
    else s.flag (feedPresent (c - 4)) && !s.feedHeld (c - 4))

/-- Input and output voltage in units of 25 mV, as last measured (R371). -/
def State.chanIn (s : State) (c : Chan) : Nat :=
  if c.val < 4 ∧ !s.chanSink c then s.get (EYE_CH_MEAS_V.V_BOARD c) else s.get (EYE_CH_MEAS_V.V_PORT c)
def State.chanOut (s : State) (c : Chan) : Nat :=
  if c.val < 4 ∧ !s.chanSink c then s.get (EYE_CH_MEAS_V.V_PORT c) else s.get (EYE_CH_MEAS_V.V_BOARD c)

/-- The port supply is driven to a level (R331). -/
def State.setSupply (s : State) (n : Port) (level : Nat) : State :=
  (s.modCtp n fun p => { p with supply := level }).emit (.supply n level)

/-- VCABLE of a port channel is discharged through DSCn, or no longer (R339, R360). -/
def State.discharge (s : State) (c : Chan) (b : Bool) : State :=
  if (s.chan c).dis = b then s
  else (s.modChan c fun h => { h with dis := b }).emit (.pin (["DSC0", "DSC1", "DSC2", "DSC3"].getD c "") (b2n b))

/-- The channel is commanded on when its conditions hold: it ramps, or with its output within 2 V of its input is on at
once (R373). A discharge ends. -/
def State.tryOn (s : State) (c : Chan) : State :=
  if !s.chanReady c || (s.chan c).on then s else
  let near := decide (s.chanIn c ≤ s.chanOut c + 80 ∧ s.chanOut c ≤ s.chanIn c + 80)
  (((s.discharge c false).modChan c fun h => { h with on := true, energy := 0 }).set (EYE_CH_STAT.STATE c) (if near then 2 else 1)
    |>.set (EYE_CH_STAT.PENDING c) 0).refreshFeeds

/-- A source applies the base contract (R342): supply 24 V, channel on, bounded to 0.5 A; without the 24 V level or with a failed
channel it applies nothing (R331, R384), and with its channel in the cool-down it waits for the end of that (R341). -/
def State.startBase (s : State) (n : Port) : State :=
  let c : Chan := ⟨n.val, by omega⟩
  if bit (s.get (CTP_CFG.LEVELS n)) 1 && s.get (EYE_CH_STAT.STATE n) != 5 then
    if s.flag (EYE_CH_STAT.COOLING n) then (s.modCtp n fun p => { p with baseWait := true }).set (CTP_STAT.NO_SUPPLY n) 0
    else ((((s.setSupply n 2).modCtp n fun p => { p with applying := true, baseWait := false }).set (CTP_STAT.NO_SUPPLY n) 0).showChan
      c).tryOn c
  else (s.modCtp n fun p => { p with baseWait := false }).set (CTP_STAT.NO_SUPPLY n) 1

/-- A base contract that waits begins: the cool-down is over, and in a swap VCABLE is below 5 V (R341, Table 12.9 step 4). -/
def State.resumeBase (s : State) (n : Port) : State :=
  s.when ((s.ctpP n).baseWait && !s.flag (EYE_CH_STAT.COOLING n)
    && ((s.ctpP n).swap != 2 || decide (s.get (CTP_VCABLE.MV25 n) < 200))) fun t => t.startBase n

/-- A commanded turn-off. -/
def State.chanOff (s : State) (c : Chan) : State :=
  if (s.chan c).on then ((s.modChan c fun h => { h with on := false }).set (EYE_CH_STAT.STATE c) 0).refreshFeeds else s

def execChannelCommandedOn (c : Chan) (s : State) : Out := .next (s.tryOn c)

/-- The ramp's energy in mJ. -/
def State.showRamp (s : State) (c : Chan) : State :=
  s.set (EYE_CH_COOL.RAMP_MJ c) (min 65535 ((s.chan c).energy * 1000).floor.toNat)

/-- The output is within 0.5 V of the input (R373). -/
def execRampComplete (c : Chan) (s : State) : Out :=
  .next (if s.get (EYE_CH_STAT.STATE c) = 1 then (s.showRamp c).set (EYE_CH_STAT.STATE c) 2 else s)

-- Trips (R374 to R383) -----------------------------------------------------------------------------------------------

/-- A source's contract is discarded; the port stays attached (R381). -/
def State.dropContract (s : State) (n : Nat) : State :=
  s.set (CTP_CONTRACT.VOLT n) 0 |>.set (CTP_CONTRACT.CURRENT n) 0 |>.set (CTP_CONTRACT.BASE n) 0 |>.set (CTP_STAT.PG n) 0

/-- A trip (R381, R382): gate off, latched, cause recorded, the cool-down starts. why is RAMP_WHY of an aborted ramp. A channel whose
gate is off does not trip; a source's supply goes back to the 24 V that R342 waits to apply (DEDUCED, log entry 90). -/
def State.trip (s : State) (c : Chan) (cause why : Nat) : State :=
  if !(s.chan c).on then s else
  let s1 := (s.when (s.get (EYE_CH_STAT.STATE c) == 1) fun t => t.showRamp c).modChan c fun h =>
    { h with on := false, latched := true, zeroed := false, coolLeft := 100000,
             tripAts := (h.tripAts.filter fun x => decide (s.uptime < x + 24000000000)) ++ [s.uptime] }
  let s2 := s1.set (EYE_CH_STAT.STATE c) 4 |>.set (EYE_CH_STAT.CAUSE c) cause |>.set (EYE_CH_STAT.COOLING c) 1
    |>.set (EYE_CH_STAT.PENDING c) 0 |>.set (EYE_CH_COOL.LEFT c) 100 |>.incSat (EYE_CH_TRIPS.TRIPS c)
    |>.when (cause == 1) (fun t => t.set (EYE_CH_STAT.RAMP_WHY c) why) |>.raise (EV.trip c)
  (if h : c.val < 4 ∧ !s.chanSink c then
    let n : Port := ⟨c, h.1⟩
    (((s2.dropContract c).when (2 < (s2.ctpP n).supply) fun u => u.setSupply n 2).when
      (decide (3 ≤ s2.get (CTP_STAT.STATE c) ∧ s2.get (CTP_STAT.STATE c) ≤ 4)) fun u => u.set (CTP_STAT.STATE c) 2).showChan c
  else s2).refreshFeeds

/-- A trip for a cause of the ramp while it ramps, else for its own cause. -/
def State.tripIn (s : State) (c : Chan) (why cause : Nat) : State :=
  if s.get (EYE_CH_STAT.STATE c) = 1 then s.trip c 1 why else s.trip c cause 0

def execRampNoRise (c : Chan) (s : State) : Out := .next (if s.get (EYE_CH_STAT.STATE c) = 1 then s.trip c 1 2 else s)
def execRampTmo (c : Chan) (s : State) : Out := .next (if s.get (EYE_CH_STAT.STATE c) = 1 then s.trip c 1 5 else s)

/-- The timer of an evaluated curve point has reached its TIME (R376). -/
def execCurveTrip (c : Chan) (k : Fin 9) (s : State) : Out :=
  .next (if s.curveOn c k && decide (s.curveTimeOf c k ≤ (s.chan c).timers.getD k 0) && (s.chan c).on then
    (s.trip c 3 0).set (EYE_CH_STAT.CURVE_PT c) k else s)

def execFastTrip (c : Chan) (s : State) : Out := .next (s.tripIn c 1 2)
def execOverVoltage (c : Chan) (s : State) : Out :=
  .next ((s.trip c 4 0).when (decide (4 ≤ c.val)) fun t => t.set (feedPresent (c - 4)) 0)

/-- A feed input is below UV: held off without latching (R378). -/
def execFeedUnderVoltage (f : Fin 2) (s : State) : Out := .next ((s.set (feedPresent f) 0).chanOff (feedChan f))

/-- A feed input has stayed inside its window for 10 ms (R378). The preferred feed of a PRIMARY mode, while the other carries the
load, waits for its 100 ms (R386; DEDUCED, log entry 90). -/
def execFeedWindowRecover (f : Fin 2) (s : State) : Out :=
  let t := s.set (feedPresent f) 1
  .next (if s.get EYE_FEED_CTRL.MODE = f + 1 ∧ s.conducts (5 - f) then t else t.tryOn (feedChan f))

/-- A write of EYE_FEED_CTRL.MODE (R385): a feed that is no longer held off is commanded on before one that now is goes off. -/
def State.writeFeedMode (s : State) (v : Nat) : State :=
  let s1 := ([0, 1] : List (Fin 2)).foldl (fun (t : State) (f : Fin 2) => t.tryOn (feedChan f)) (s.set EYE_FEED_CTRL.MODE v)
  ([0, 1] : List (Fin 2)).foldl (fun (t : State) (f : Fin 2) => if t.feedHeld f then t.chanOff (feedChan f) else t) s1

/-- A write of EYE_CHn_SENSE.RSENSE: 0 keeps the channel off (R372). -/
def State.writeSense (s : State) (c : Chan) (v : Nat) : State :=
  let s1 := s.set (EYE_CH_SENSE.RSENSE c) v
  if s1.get (EYE_CH_SENSE.RSENSE c) = 0 then s1.chanOff c else s1.tryOn c

/-- Reverse current (R379): a port channel trips, a feed goes to DIODE_STANDBY. -/
def execReverseCurrent (c : Chan) (s : State) : Out :=
  if c.val < 4 then .next (s.trip c 5 0)
  else .next (if (s.chan c).on then (s.set (EYE_CH_STAT.STATE c) 3).refreshFeeds else s)

/-- The forward voltage of a feed in DIODE_STANDBY exceeds 25 mV (R379). -/
def execFeedForwardBias (f : Fin 2) (s : State) : Out :=
  .next (if s.get (EYE_CH_STAT.STATE (feedChan f)) = 3 then (s.set (EYE_CH_STAT.STATE (feedChan f)) 2).refreshFeeds else s)

/-- One rise of the thermal model over 10 µs (R380): k is dt ÷ tau; a time constant of 0 leaves the result open (log entry
2). -/
def rise (p theta k : Rat) (tau : Nat) (open_ : Nat) (x : Rat) : Rat :=
  if tau = 0 then open_ else x + (p * theta - x) * k / tau

/-- The curve timers after 10 µs at current i, units of 10 mA (R376). -/
def State.curveStep (s : State) (c : Chan) (i : Int) : List Nat :=
  (List.range 9).map fun k =>
    let t := (s.chan c).timers.getD k 0
    if s.curveOn c k then
      (if min (s.rawThresh c k) (s.fullScale c) < (i : Rat) then t + 10 else t - 10)
    else 0

/-- One 10 µs step of a channel (R374, R376, R380, R382): i is the current in 10 mA, vp and vb the voltages in 25 mV, tdie the
die temperature in 1/8 °C, ntc the NTC reading in °C. -/
def execThermalModelStep (c : Chan) (i : Int) (vp vb : Nat) (tdie ntc : Int) (s : State) : Out :=
  let h := s.chan c
  let s0 := s.set (EYE_CH_MEAS_I.I c) (ofInt 16 i) |>.set (EYE_CH_MEAS_V.V_PORT c) vp |>.set (EYE_CH_MEAS_V.V_BOARD c) vb
    |>.set EYE_DIE_TEMP.TEMP (ofInt 16 tdie) |>.when (decide (c.val < 4)) fun t => t.set (CTP_VCABLE.MV25 c) vp
  let vds : Int := (s0.chanIn c : Int) - s0.chanOut c
  let p : Rat := if s.flag (EYE_CH_STAT.COOLING c) then 0 else (i * vds : Int) / (4000 : Rat)
  let d1 := rise p (s.get (EYE_CH_THERM0.THETA1 c) / (100 : Rat)) (1 / 10) (s.get (EYE_CH_THERM0.TAU1 c)) s.free h.dt1
  let d2 := rise p (s.get (EYE_CH_THERM1.THETA2 c) / (10 : Rat)) (1 / 1000) (s.get (EYE_CH_THERM1.TAU2 c)) s.free h.dt2
  let tm : Rat := (tdie : Rat) / 8 + d1 + d2
  let nf := decide (ntc < -50 ∨ 200 < ntc)
  let src := s.get (EYE_CH_CTRL.TSRC c)
  let tu : Rat := if nf || src == 0 then tm else if src = 1 then (ntc : Rat) else max tm ntc
  let warn : Rat := s.get (EYE_CH_TLIM.T_WARN c)
  let e := if s.get (EYE_CH_STAT.STATE c) = 1 then h.energy + p / 100000 else h.energy
  let left := h.coolLeft - 1
  let s1 := (s0.when (s.get (EYE_CH_THERM0.TAU1 c) == 0 || s.get (EYE_CH_THERM1.TAU2 c) == 0) State.useFree).modChan c fun x =>
    { x with dt1 := d1, dt2 := d2, tUsed := tu, energy := e, timers := s.curveStep c i, coolLeft := left,
             warnArmed := if warn < tu then false else if tu ≤ warn - 5 then true else x.warnArmed }
  let s2 := (s1.when (vp < 200) fun t => t.discharge c false).set (EYE_CH_TEMP.T_MODEL c) (ofInt 9 tm.floor) |>.set (EYE_CH_TEMP.T_USED c) (ofInt 9 tu.floor)
    |>.set (EYE_CH_TEMP.T_NTC c) (ofInt 9 ntc) |>.setFlag (EYE_CH_STAT.NTC_FAULT c) nf
    |>.when (s.flag (EYE_CH_STAT.COOLING c)) fun t => t.set (EYE_CH_COOL.LEFT c) (ceilDiv left 1000)
  let s2 := if hc : c.val < 4 then s2.resumeBase ⟨c, hc⟩ else s2
  let s3 := s2.when ((nf && !s.flag (EYE_CH_STAT.NTC_FAULT c)) || (decide (warn < tu) && h.warnArmed)) fun t =>
    t.raise EV.overtempWarn
  .next ((if s.get (EYE_CH_STAT.STATE c) = 1 ∧ (max 1 (s.get (EYE_CH_TLIM.E_SOA c)) : Rat) / 1000 < e then s3.trip c 1 3
    else if (min 175 (s.get (EYE_CH_TLIM.T_LIMIT c)) : Rat) < tu then s3.tripIn c 4 6
    else s3).showChan c)

/-- A toggle (R382): the latch clears; during the cool-down it is pending. -/
def State.toggle (s : State) (c : Chan) : State :=
  if !(s.chan c).latched || s.get (EYE_CH_STAT.STATE c) == 5 then s else
  let s1 := (s.modChan c fun h => { h with latched := false, zeroed := false }).set (EYE_CH_STAT.STATE c) 0
  if s.flag (EYE_CH_STAT.COOLING c) then s1.set (EYE_CH_STAT.PENDING c) 1 else s1.tryOn c

def execChannelToggle (c : Chan) (s : State) : Out := .next (s.toggle c)

/-- A write of EYE_CHn_CTRL.ON (R372, R382): 0 turns the channel off or cancels a pending toggle; 0 then 1 is a toggle. -/
def State.writeOn (s : State) (c : Chan) (v : Bool) : State :=
  let s1 := s.setFlag (EYE_CH_CTRL.ON c) v
  if v then (if (s.chan c).latched && (s.chan c).zeroed then s1.toggle c else s1.tryOn c)
  else if s.flag (EYE_CH_STAT.PENDING c) then
    (s1.modChan c fun h => { h with latched := true, zeroed := true }).set (EYE_CH_STAT.PENDING c) 0
      |>.set (EYE_CH_STAT.STATE c) 4
  else (s1.modChan c fun h => { h with zeroed := h.latched }).chanOff c

/-- After a trip the base firmware toggles the channel (Table 13.6), but at the third trip within 60 s leaves it off and notes a
policy decision, whose DATA the spec does not give (log entries 2, 90). Where an owner policy module runs, its own commands decide. -/
def State.retry (s : State) (c : Chan) : State :=
  let recent := (s.chan c).tripAts.filter fun x => decide (s.uptime < x + 24000000000)
  if !(s.chan c).latched || s.get (EYE_CH_STAT.STATE c) == 5 || s.integ.awlDown || s.flag BOOT_STAT.POLICY_LOADED then s
  else if recent.length < 3 then s.toggle c
  else { s.useFree with ctl := { s.ctl with awlLog := s.ctl.awlLog ++ [2 * 2 ^ 24 + s.free % 2 ^ 24] } }

/-- The cool-down's 1 s is over and the model has cooled (R382). -/
def execCoolDownEnd (c : Chan) (s : State) : Out :=
  let h := s.chan c
  if s.flag (EYE_CH_STAT.COOLING c) && h.coolLeft == 0 && decide (h.dt1 + h.dt2 ≤ s.get (EYE_CH_TLIM.COOL_RISE c))
      && decide (h.tUsed ≤ s.get (EYE_CH_TLIM.T_WARN c)) then
    .next ((s.set (EYE_CH_STAT.COOLING c) 0 |>.set (EYE_CH_COOL.LEFT c) 0 |>.raise EV.coolDone
      |>.set (EYE_CH_STAT.PENDING c) 0).tryOn c |> (fun (t : State) => if hc : c.val < 4 then t.resumeBase ⟨c, hc⟩ else t)
        |>.retry c)
  else .next s

/-- The test of R384: the gate is off, the output above 10 % of the input, more than 15 mA flowing. -/
def execFetFailCheck (c : Chan) (s : State) : Out :=
  let i := (toInt 16 (s.get (EYE_CH_MEAS_I.I c))).natAbs
  if !(s.chan c).on && s.get (EYE_CH_STAT.STATE c) != 5 && decide (s.chanIn c < 10 * s.chanOut c) && decide (15 < 10 * i) then
    .next ((s.modChan c fun h => { h with latched := true }).set (EYE_CH_STAT.STATE c) 5 |>.set (EYE_CH_STAT.CAUSE c) 7
      |>.raise (EV.fetFail c) |>.when (decide (c.val < 4)) fun t => t.set (CTP_STAT.NO_SUPPLY c) 1)
  else .next s

/-- The conducting feed leaves its window or VFEED falls below feed f's input: f conducts (R386). -/
def execFeedSwitchover (f : Fin 2) (s : State) : Out :=
  let c := feedChan f
  .next (if s.chanFree c && s.flag (feedPresent f) then
    ((s.modChan c fun h => { h with on := true }).set (EYE_CH_STAT.STATE c) 2).refreshFeeds else s)

/-- The preferred feed has stayed in its window for 100 ms (R386): it turns on before the other turns off. -/
def execPrimaryTakeback (s : State) : Out :=
  let m := s.get EYE_FEED_CTRL.MODE
  let p : Fin 2 := if m = 2 then 1 else 0
  let q : Fin 2 := if m = 2 then 0 else 1
  if (m = 1 ∨ m = 2) ∧ s.flag (feedPresent p) ∧ s.chanFree (feedChan p) then
    .next ((((s.modChan (feedChan p) fun h => { h with on := true }).set (EYE_CH_STAT.STATE (feedChan p)) 2).modChan
      (feedChan q) fun h => { h with on := false }).set (EYE_CH_STAT.STATE (feedChan q)) 0).refreshFeeds
  else .next s

-- Early warning (R387, R388) -----------------------------------------------------------------------------------------

/-- A PWARN frame on every compatibility link that sends Power Warnings (R388). -/
def State.warnFrames (s : State) : State :=
  (([0, 1, 2, 3] : List Port).filter fun (n : Port) => s.warns n && s.flag (WLT_PCS_STAT.COMPAT n)).foldl
    (fun (t : State) (n : Port) => t.sendFrame n (Frame1x.build 5 0 0 [])) s

/-- Power Warnings begin (R388): in the seals, or in PWARN frames; a sleeping link starts its exit. -/
def State.powerWarn (s : State) : State :=
  let s1 := { s with eye := { s.eye with warning := true, warnAt := s.uptime } }
  ((([0, 1, 2, 3] : List Port).filter fun (n : Port) => s1.warns n).foldl State.sendTack s1).warnFrames

/-- One tick of a warning: PWARN frames go out once every 100 µs (R388). -/
def State.warnTick (s : State) : State :=
  if s.eye.warning && (s.uptime - s.eye.warnAt) % 40000 == 0 then s.warnFrames else s

/-- PFAIL_N goes low for a cause (R387): 1 UV, 2 SLOPE, 4 FOLLOWED, 8 EXTERNAL; each assertion raises PFAIL. -/
def State.pfail (s : State) (uv fall followed external : Bool) : State :=
  s.set EYE_WARN_STAT.ACTIVE 1 |>.setFlag EYE_WARN_STAT.UV uv |>.setFlag EYE_WARN_STAT.SLOPE fall
    |>.setFlag EYE_WARN_STAT.FOLLOWED followed |>.setFlag EYE_WARN_STAT.EXTERNAL external |>.incSat EYE_WARN_STAT.COUNT
    |>.raise EV.pfail

/-- SRC has an input to monitor: VFEED, or VB0 while E0 is on as a sink (R387). -/
def State.monitored (s : State) : Bool :=
  let src := s.get EYE_WARN_CTRL.SRC
  src == 0 || src == 2 || (src == 1 && s.conducts 0 && s.chanSink 0)

/-- The monitored input is below its threshold, or falls at 5 V/ms (R387). -/
def execPfailAssert (uv fall : Bool) (s : State) : Out :=
  if !s.monitored || !(uv || fall) then .next s
  else .next (((s.pfail uv fall false false).emit (.pin "PFAIL_N" 0)).powerWarn)

/-- HOLD_MS after the cause ended (R387): the hub, where it drives PFAIL_N, releases it. -/
def execPfailHoldEnd (s : State) : Out :=
  if !s.flag EYE_WARN_STAT.ACTIVE then .next s
  else
    let t := s.set EYE_WARN_STAT.ACTIVE 0
    .next (if s.eye.warning then { t with eye := { t.eye with warning := false } }.emit (.pin "PFAIL_N" 1) else t)

/-- A Power Warning arrives on port n (R388). -/
def execPwarnRx (n : Port) (s : State) : Out :=
  let s1 := s.raise (EV.pwarnRx n)
  if s.facesUp n && s.flag EYE_WARN_CTRL.FOLLOW then
    .next (((s1.pfail false false true false).emit (.pin "PFAIL_N" 0)).powerWarn)
  else .next s1

end Sys2Proof.Machine
end

