-- ==== Sys2Proof/Machine/Contracts.lean ====
section
/-!
DEFINITION. Sys2Proof/Machine/Contracts.lean: cable attach, the contract channel, contracts, swaps and hard resets (chapter 12, R330
to R369).
-/
namespace Sys2Proof.Machine

/-- Message types (Table 12.4). -/
def mACK : Nat := 1
def mACCEPT : Nat := 2
def mREJECT : Nat := 3
def mWAIT : Nat := 4
def mREADY : Nat := 5
def mGETCAPS : Nat := 6
def mSWAPREQ : Nat := 7
def mCAPS : Nat := 0x10
def mREQUEST : Nat := 0x11
def mINFO : Nat := 0x12
def mHARD : Nat := 0x1F

def State.ctpState (s : State) (n : Nat) : Nat := s.get (CTP_STAT.STATE n)
def State.attached (s : State) (n : Nat) : Bool := decide (2 ≤ s.ctpState n)
/-- The port speaks version 1 (R346). -/
def State.ctpV1 (s : State) (n : Port) : Bool := (s.ctpP n).v1 || s.get (CTP_STAT.REV n) == 1

-- Terminations (R333, R348) -------------------------------------------------------------------------------------------

/-- What a port puts on a CFG wire (Table 12.1). -/
inductive CfgTerm where
  | opened
  | pulldown
  | deadBattery
  | pullup80
  | pullup180
  /-- 10 MΩ from VSTBY, in Shelf (R401) -/
  | weak
deriving DecidableEq, Repr

/-- What port n presents on CFG1 and CFG2 (Table 12.1, R401): power die unpowered, sink, source in Shelf, source detached, source
attached. A sink after a swap has its pull-down on its active wire (Table 12.9 step 2). -/
def State.cfgTerms (s : State) (n : Port) : CfgTerm × CfgTerm :=
  if s.chip.power = 0 then (if n = 0 then .deadBattery else .opened, .opened)
  else if !s.sources n then (if (s.ctpP n).active = 2 then (.opened, .pulldown) else (.pulldown, .opened))
  else if s.chip.power = 1 then (.weak, .weak)
  else
    let up : CfgTerm := if s.attached n && s.flag (CTP_STAT.LEVEL n) then .pullup180 else .pullup80
    if (s.ctpP n).active = 2 then (.pullup80, up) else (up, .pullup80)

-- Readings (R334) ---------------------------------------------------------------------------------------------------

/-- The reading of a source's sample in mV after the reading old: one between 1.6 V and 2.0 V keeps it. -/
def cfgSource (old : CfgRead) (mv : Nat) : CfgRead :=
  if mv < 150 then .short else if mv ≤ 1600 then .pulldown else if mv ≤ 2000 then old else .opened

/-- The reading of a sink's sample in mV; above 1.6 V the rule names none and the old one stays (DESIGN CHOICE, log entry 120). -/
def cfgSink (old : CfgRead) (mv : Nat) : CfgRead :=
  if mv < 200 then .absent else if mv < 600 then .mayStart else if mv ≤ 1600 then .starting else old

/-- A sample of one wire; none: the wire carried a BMC transition in the last 50 µs, and the sample is not used. -/
def State.cfgRead (s : State) (n : Port) (old : CfgRead) (v : Option Nat) : CfgRead :=
  match v with
  | some mv => if s.sources n then cfgSource old mv else cfgSink old mv
  | none => old

/-- Samples of CFG1 and CFG2. -/
def State.sampleCfg (s : State) (n : Port) (v1 v2 : Option Nat) : State :=
  s.modCtp n fun p => { p with cfg1 := s.cfgRead n p.cfg1 v1, cfg2 := s.cfgRead n p.cfg2 v2 }

/-- The reading of the active wire; before attach, CFG1. -/
def CtpPort.wire (p : CtpPort) : CfgRead := if p.active = 2 then p.cfg2 else p.cfg1

/-- The hand-over of a swap, until 5 ms after the final READY (R358). -/
def State.inHand (s : State) (n : Port) : Bool := s.ctpState n == 6 || decide (s.uptime < (s.ctpP n).handEnd)

/-- The readings show the end of the attach (R338, R358). -/
def State.cfgLost (s : State) (n : Port) : Bool :=
  let r := (s.ctpP n).wire
  if s.inHand n then r == .opened
  else if s.sources n then !(r == .pulldown || r == .unread)
  else r == .absent

/-- The readings of the new role begin; detach is judged by terminations 5 ms after the final READY (R358). -/
def CtpPort.handOver (p : CtpPort) (till : Nat) : CtpPort := { p with cfg1 := .unread, cfg2 := .unread, handEnd := till }

-- Frames (R344 to R346) ----------------------------------------------------------------------------------------------

/-- Header word of a message (Table 12.3). -/
def State.ctpHeader (s : State) (n : Port) (typ nobj id : Nat) : Nat :=
  typ + 32 * nobj + 256 * id + 4096 * b2n (s.sources n) + 8192 * (if s.ctpV1 n then 1 else 2)

/-- A frame on the wire, least significant bit first (R344): the preamble 0101…, the start word, header and objects, their CRC-32, and
the closing zero, of which one bit is sent. -/
def ctpWire (body : List Byte) : List Byte :=
  List.replicate 8 0xAA ++ leBytes 2 0xC71D ++ body ++ leBytes 4 (crc32 body) ++ [0]

/-- One frame on the wire. -/
def State.ctpFrame (s : State) (n : Port) (typ id : Nat) (objs : List Nat) : State :=
  s.emit (.ctp n typ id (ctpWire (leBytes 4 (s.ctpHeader n typ objs.length id) ++ objs.flatMap (leBytes 4))))

/-- The two offers of each object (R350). -/
def offersOf (objs : List Nat) : List Nat := objs.flatMap fun o => [bits o 0 16, bits o 16 16]

/-- The message in the INFO object (Table 12.5). -/
def State.infoObj (s : State) (n : Port) : Nat :=
  s.get (CTP_CFG.CLASS n) + 4 * s.get (CTP_CFG.CLASS_SET n) + 8 * b2n s.ctp.dbPath + 16 * s.get (CTP_CFG.SWAP_OK n)
    + 32 * b2n s.ctp.localPg + 65536 * 0x9640

-- What may be sent (R346, R351, R356) ---------------------------------------------------------------------------------

/-- An offer within the limits of R351. -/
def State.offerOk (s : State) (n : Port) (o : Nat) : Bool :=
  let v := bits o 0 2
  v == 0 || (bit (s.get (CTP_CFG.LEVELS n)) (v - 1)
    && decide ((if v = 1 then 12 else if v = 2 then 24 else 48) * bits o 2 10 ≤ 24000) && !(v == 3 && s.ctpV1 n))

/-- A CAPS within the limits of R350 and R351. -/
def State.capsOk (s : State) (n : Port) (objs : List Nat) : Bool :=
  let os := offersOf objs
  decide (1 ≤ objs.length ∧ objs.length ≤ 4) && os.all (s.offerOk n)
    && ((List.range os.length).all fun i => bits (os.getD i 0) 0 2 != 0 || ((os.drop i).all fun o => bits o 0 2 == 0))

/-- A swap is refused (R356). -/
def State.swapRefused (s : State) (n : Port) : Bool :=
  s.ctpV1 n || !s.flag (CTP_CFG.SWAP_OK n) || !s.flag (CTP_STAT.PARTNER_SWAP_OK n) || !s.ctp.localPg
    || !s.flag (CTP_STAT.PARTNER_PG n) || s.ctpState n == 5 || s.ctpState n == 7

/-- The types of version 1 (Table 12.4). -/
def v1Types : List Nat := [mACK, mACCEPT, mREJECT, mWAIT, mREADY, mGETCAPS, mCAPS, mREQUEST, mHARD]

/-- A message that the hardware does not send: a type that version 1 lacks, a CAPS beyond R351, a SWAP_REQ that R356 refuses. It is
judged when it would go out, each time. -/
def State.ctpRefused (s : State) (n : Port) (m : CtpMsg) : Bool :=
  (s.ctpV1 n && !v1Types.contains m.typ) || (m.typ == mCAPS && !s.capsOk n m.objs) || (m.typ == mSWAPREQ && s.swapRefused n)

/-- The message goes out for the first time; a message that opens or continues a sequence says what is awaited (R348, R349). The INFO
of the hardware keeps its MSG_ID until it is acknowledged (R345, R347). -/
def State.ctpStart (s : State) (n : Port) (m : CtpMsg) : State :=
  let p := s.ctpP n
  let again := m.typ == mINFO && !m.tx && p.infoId.isSome
  let id := if again then p.infoId.getD p.msgId else p.msgId
  let q := { p with sending := some m, tries := 0, sendId := id, msgId := if again then p.msgId else (p.msgId + 1) % 16,
                    infoId := if m.typ = mINFO ∧ m.tx = false then some id else p.infoId }
  let q' : CtpPort :=
    if m.typ = mCAPS then { q with seq := 2, await := true, late := false, offers := offersOf m.objs }
    else if m.typ = mGETCAPS then { q with seq := 3, await := true, late := false }
    else if m.typ = mSWAPREQ then { q with seq := 4, await := true, late := false }
    else if m.typ = mREQUEST then
      let o := m.objs.getD 0 0
      { q with await := true, late := false, req := some (bits (p.partner.getD (bits o 0 3) 0) 0 2, bits o 3 10) }
    else q
  (s.modCtp n fun _ => q').ctpFrame n m.typ id m.objs

/-- A message is sent, after the one that waits for its ACK. -/
def State.ctpTx (s : State) (n : Port) (m : CtpMsg) : State :=
  if (s.ctpP n).sending.isSome then s.modCtp n fun p => { p with next := p.next ++ [m] } else s.ctpStart n m

/-- A message of the hardware itself. -/
def State.ctpSay (s : State) (n : Port) (typ : Nat) (objs : List Nat := []) : State := s.ctpTx n ⟨typ, objs, false⟩

/-- CTPn_TX_STAT after a send from the TX window: 1 ACKED, 2 NO_ACK, 3 TX_ERR. -/
def State.txEnd (s : State) (n : Port) (outcome : Nat) : State :=
  s.set (CTP_TX_STAT.BUSY n) 0 |>.set (CTP_TX_STAT.OUTCOME n) outcome

/-- The next queued message goes out once nothing waits for an ACK; those that are refused by then do not. -/
def State.ctpNext (s : State) (n : Port) : State :=
  let l := (s.ctpP n).next
  let gone := l.takeWhile (s.ctpRefused n)
  match (s.ctpP n).sending, l.dropWhile (s.ctpRefused n) with
  | none, m :: t => ((s.modCtp n fun p => { p with next := t }).when (gone.any CtpMsg.tx) fun u => u.txEnd n 3).ctpStart n m
  | none, [] => (s.modCtp n fun p => { p with next := [] }).when (gone.any CtpMsg.tx) fun u => u.txEnd n 3
  | _, _ => s

-- Sequences (R348, R349) ---------------------------------------------------------------------------------------------

/-- A message that opens a sequence: a source raises its wire and waits 10 ms, a sink sends when its last usable sample reads MAY_START
and no sequence runs. -/
def State.seqStart (s : State) (n : Port) (m : CtpMsg) : State :=
  if s.sources n then (s.set (CTP_STAT.LEVEL n) 1).modCtp n fun p => { p with starts := some m }
  else if (s.ctpP n).wire = .mayStart ∧ (s.ctpP n).seq = 0 then s.ctpTx n m
  else s.modCtp n fun p => { p with starts := some m }

/-- The first message of a sequence goes out, or the sequence ends before it began, with TX_ERR for the Awl's. -/
def State.ctpLaunch (s : State) (n : Port) (m : CtpMsg) : State :=
  if s.ctpRefused n m then (s.when m.tx fun t => t.txEnd n 3).when (s.sources n) fun t => t.set (CTP_STAT.LEVEL n) 0
  else s.ctpTx n m

/-- A sequence ends; one that waits for it starts without a further wait. -/
def State.seqEnd (s : State) (n : Port) : State :=
  let s1 := s.modCtp n fun p => { p with seq := 0, await := false, req := none, starts := none }
  match (s.ctpP n).starts with
  | some m => if s.sources n || (s.ctpP n).wire == .mayStart then s1.ctpLaunch n m
              else s1.modCtp n fun p => { p with starts := some m }
  | none => s1.when (s.sources n) fun t => t.set (CTP_STAT.LEVEL n) 0

-- Contracts ----------------------------------------------------------------------------------------------------------

/-- LOADSHED_N follows the ports that shed load (R352). -/
def State.setShed (s : State) (n : Port) (b : Bool) : State :=
  let s1 := s.modCtp n fun p => { p with shed := b }
  s1.emit (.pin "LOADSHED_N" (b2n (!s1.ctp.ports.toList.any (fun (p : CtpPort) => p.shed))))

/-- The channel of port n. -/
def portChan (n : Port) : Chan := ⟨n.val, by omega⟩

/-- A contract comes into force: CTPn_CONTRACT is written and CONTRACT_DONE raised. -/
def State.writeContract (s : State) (n : Port) (volt cur : Nat) (base : Bool) : State :=
  (s.set (CTP_CONTRACT.VOLT n) volt |>.set (CTP_CONTRACT.CURRENT n) cur |>.setFlag (CTP_CONTRACT.BASE n) base
    |>.inc (CTP_CONTRACT.SEQ n) |>.raise (EV.contractDone n)).showChan (portChan n)

/-- The base contract: 24 V, 0.5 A (R342, R343). -/
def State.writeBase (s : State) (n : Port) : State :=
  ((s.set (CTP_STAT.PG n) 1).writeContract n 2 50 true).tryOn (portChan n)

/-- The port's power goes off and its contract is discarded; a source discharges VCABLE (R339, R360). -/
def State.powerOff (s : State) (n : Port) : State :=
  let s1 := ((s.chanOff (portChan n)).when ((s.ctpP n).supply != 0) fun t => t.setSupply n 0).when (s.sources n) fun t =>
    t.discharge (portChan n) true
  ((s1.modCtp n fun p => { p with applying := false, baseWait := false }).dropContract n).showChan (portChan n)

/-- A write has cleared LEVELS' 24 V bit, which was set before: the port stops to source (R331). -/
def State.cutLevels (s : State) (n : Port) (before : Nat) : State :=
  s.when (bit before 1 && !bit (s.get (CTP_CFG.LEVELS n)) 1 && s.attached n && s.sources n) fun t =>
    ((t.powerOff n).set (CTP_STAT.NO_SUPPLY n) 1).when (t.ctpState n == 3 || t.ctpState n == 4) fun u => u.set (CTP_STAT.STATE n) 2

-- Hard reset (R359 to R362) ------------------------------------------------------------------------------------------

/-- A hard reset at this end; send: the two frames are sent. -/
def State.hardReset (s : State) (n : Port) (cause : Nat) (send : Bool) : State :=
  if !s.attached n || s.ctpState n == 7 then s else
  let p := s.ctpP n
  let role := if p.swap = 0 then s.get (CTP_CFG.WIRED_ROLE n) else p.roleBefore
  let s0 := s.when send fun t => (t.ctpFrame n mHARD p.msgId []).ctpFrame n mHARD p.msgId []
  let s1 := (s0.powerOff n).modCtp n fun q =>
    { q with msgId := 0, lastRx := none, sending := none, tries := 0, next := [], seq := 0, await := false, starts := none,
             req := none, levelSet := false, swap := 0, owedWait := 0, infoId := none, late := false }
  let s1 := s1.when (p.swap != 0) fun t => t.modCtp n fun q => q.handOver (s.uptime + 2000000)
  s1.when (s.flag (CTP_TX_STAT.BUSY n)) (fun t => t.txEnd n 2)
    |>.set (CTP_STAT.STATE n) 7 |>.set (CTP_STAT.LEVEL n) 0 |>.set (CTP_STAT.POWER_ROLE n) role
    |>.incSat (CTP_HR.COUNT n) |>.set (CTP_HR.CAUSE n) cause |>.raise (EV.hardReset n) |>.showChan (portChan n)

/-- The version settles with the first message; REV 1 makes it version 1 (R346). -/
def State.settleRev (s : State) (n : Port) (rev : Nat) : State :=
  if rev = 1 then ((s.set (CTP_STAT.REV n) 1).modCtp n fun p => { p with v1 := true }).modLane n fun l => { l with partnerV1 := true }
  else if s.get (CTP_STAT.REV n) = 0 then s.set (CTP_STAT.REV n) 2 else s

/-- A HARD_RESET of the partner: its header settles the version as every message's does. -/
def execCtpHardResetRx (m : CtpHead) (s : State) : Out :=
  .next ((s.when (s.attached m.port) fun t => t.settleRev m.port (bits m.header 13 2)).hardReset m.port 7 false)
def execCtpHardResetCmd (n : Port) (s : State) : Out := .next (s.hardReset n 6 true)

/-- VCABLE has stayed below 5 V for 50 ms (R360 steps 6 and 7). -/
def execHardResetHoldEnd (n : Port) (s : State) : Out :=
  if s.ctpState n = 7 ∧ !s.flag (CTP_HR.STUCK n) then
    .next ((s.set (CTP_STAT.STATE n) 2).when (s.flag (CTP_CFG.WIRED_ROLE n) && s.sources n) fun t => t.startBase n)
  else .next s

def execHardResetStuck (n : Port) (s : State) : Out :=
  .next (if s.ctpState n = 7 && s.sources n then s.set (CTP_HR.STUCK n) 1 else s)

-- Attach and detach (R333 to R341) -----------------------------------------------------------------------------------

/-- The cable class and orientation as the contract channel reports them to the lanes (R63, R66). -/
def State.showClass (s : State) (n : Port) : State :=
  s.when (s.portOn n) fun t =>
    t.set (WLT_PCS_STAT.PARTNER_CLASS n) (s.get (CTP_STAT.PARTNER_CLASS n))
      |>.set (WLT_PCS_STAT.CLASS_KNOWN n) (s.get (CTP_STAT.PARTNER_CLASS_KNOWN n))
      |>.set (WLT_PCS_STAT.FLIPPED n) (s.get (CTP_STAT.FLIPPED n))

/-- Attach (R335 to R337, R341, R347): everything of an earlier attach is gone; ATTACH is raised, INFO sent, the lanes train. -/
def State.attachPort (s : State) (n : Port) (wire : Nat) : State :=
  let v1 := s.flag (CTP_CFG.FORCE_V1 n)
  let s1 := (s.modCtp n fun p => { CtpPort.reset with active := wire, cfg1 := p.cfg1, cfg2 := p.cfg2, v1 := v1, supply := p.supply, wired := p.wired })
    |>.set (CTP_STAT.STATE n) 2 |>.set (CTP_STAT.REV n) 0 |>.set (CTP_STAT.BOTH_RD n) 0 |>.set (CTP_STAT.CFG_SHORT n) 0
    |>.setFlag (CTP_STAT.FLIPPED n) (wire == 2) |>.raise (EV.attach n)
  let s2 := ((s1.showClass n).modLane n fun l => { l with attach := true }).bringUp n
  (s2.when (!v1) fun t => t.ctpSay n mINFO [t.infoObj n]).when (s.sources n) fun t => t.startBase n

/-- A source has read PULLDOWN on one wire and OPEN on the other for 150 ms; v1 and v2 are the last samples. -/
def State.sourceAttach (s : State) (n : Port) (v1 v2 : Option Nat) : State :=
  if s.attached n || !s.sources n then s
  else
    let t := s.sampleCfg n v1 v2
    let p := t.ctpP n
    if p.cfg1 = .pulldown ∧ p.cfg2 = .opened then t.attachPort n 1
    else if p.cfg1 = .opened ∧ p.cfg2 = .pulldown then t.attachPort n 2
    else t

/-- A sink has read MAY_START or STARTING on CFG1 for 150 ms; v is the last sample. -/
def State.sinkAttach (s : State) (n : Port) (v : Option Nat) : State :=
  if s.attached n || s.sources n then s
  else
    let t := s.sampleCfg n v none
    let r := (t.ctpP n).cfg1
    if r = .mayStart ∨ r = .starting then (t.attachPort n 1).setFlag (CTP_STAT.LEVEL n) (r == .starting) else t

/-- A power die started by the start path declares attach at once, if CFG1 reads so (R366). -/
def execDbAttach (v : Option Nat) (s : State) : Out :=
  .next (if !s.ctp.dbPath then s else
    let t := s.sinkAttach 0 v
    t.when (!s.attached 0 && t.attached 0) fun u => u.set (CTP_STAT.DB 0) 1)

/-- Samples of the CFG wires in mV (R334, R335, R348). A detached port enters or leaves the debounce, BOTH_RD and CFG_SHORT; an attached
sink follows the level of its active wire, whose return to MAY_START ends the source's sequence. -/
def execCfgReadingChange (n : Port) (v1 v2 : Option Nat) (s : State) : Out :=
  let t := s.sampleCfg n v1 v2
  let p := t.ctpP n
  if s.attached n then
    if s.sources n || !(p.wire == .mayStart || p.wire == .starting) then .next t
    else
      let s1 := t.setFlag (CTP_STAT.LEVEL n) (p.wire == .starting)
      .next (if p.wire = .mayStart ∧ s.ctpState n ≠ 5 ∧ s.ctpState n ≠ 6 ∧ !p.await then s1.seqEnd n else s1)
  else if s.sources n then
    .next (t.setFlag (CTP_STAT.BOTH_RD n) (p.cfg1 == .pulldown && p.cfg2 == .pulldown)
      |>.setFlag (CTP_STAT.CFG_SHORT n) (p.cfg1 == .short || p.cfg2 == .short)
      |>.set (CTP_STAT.STATE n) (b2n ((p.cfg1 == .pulldown && p.cfg2 == .opened) || (p.cfg1 == .opened && p.cfg2 == .pulldown))))
  else .next (t.set (CTP_STAT.STATE n) (b2n (p.cfg1 == .mayStart || p.cfg1 == .starting)))

/-- Detach, which the readings show (R338, R339, R358, R363, R364). -/
def State.detachPort (s : State) (n : Port) : State :=
  if !s.attached n || !s.cfgLost n then s else
  let w := (s.ctpP n).wired
  let s1 := (s.powerOff n).raise (EV.detach n)
  let s2 := s1.when (s.flag (CTP_TX_STAT.BUSY n)) (fun t => t.txEnd n 2)
    |>.when (s.ctpP n).shed (fun t => t.setShed n false)
    |>.when w.isSome (fun t => t.set (CTP_CFG.WIRED_ROLE n) (w.getD 0))
    |>.modCtp n fun p => { CtpPort.reset with cfg1 := p.cfg1, cfg2 := p.cfg2 }
  let s3 := s2.set (CTP_STAT.POWER_ROLE n) (s2.get (CTP_CFG.WIRED_ROLE n)) |>.set (CTP_HR.STUCK n) 0
    |>.resetFlds [CTP_STAT.STATE n, CTP_STAT.REV n, CTP_STAT.PARTNER_DB n, CTP_STAT.PARTNER_SWAP_OK n,
      CTP_STAT.PARTNER_PG n, CTP_STAT.PARTNER_CLASS n, CTP_STAT.PARTNER_CLASS_KNOWN n, CTP_STAT.LEVEL n, CTP_STAT.FLIPPED n,
      CTP_STAT.BOTH_RD n, CTP_STAT.CFG_SHORT n, CTP_STAT.NO_SUPPLY n]
  let s4 := ((s3.showClass n).modLane n fun l => { l with attach := false, partnerV1 := false }).linkDown n 1
  (s4.toggle (portChan n)).showChan (portChan n)

/-- A write of CTPn_CFG.WIRED_ROLE (R330). -/
def State.writeWiredRole (s : State) (n : Port) (v : Nat) : State :=
  if s.attached n then s.modCtp n fun p => { p with wired := some v }
  else (s.set (CTP_CFG.WIRED_ROLE n) v |>.set (CTP_STAT.POWER_ROLE n) v |>.set (CTP_STAT.STATE n) 0).showChan (portChan n)

def execInfoRetry (n : Port) (s : State) : Out :=
  let p := s.ctpP n
  .next (if s.attached n && !p.infoAcked && !s.ctpV1 n && !(p.sending.toList ++ p.next).any (fun (m : CtpMsg) => m.typ == mINFO) then
    s.ctpSay n mINFO [s.infoObj n] else s)

/-- VCABLE enters the 24 V source window during the base ramp (R342); a channel that has tripped ramps no more. -/
def execBaseContractPg (n : Port) (s : State) : Out :=
  .next (if s.ctpState n = 2 && s.sources n && (s.ctpP n).applying && s.conducts n && !s.flag (CTP_STAT.PG n) then
    (s.set (CTP_STAT.STATE n) 3).writeBase n else s)

/-- VCABLE has been in the 24 V sink window for 1 ms (R343). -/
def execSinkPowerGood (n : Port) (s : State) : Out :=
  if s.sources n || s.flag (CTP_STAT.PG n) then .next s
  else if s.ctpState n = 2 then .next ((s.set (CTP_STAT.STATE n) 3).writeBase n)
  else if s.ctpState n = 6 ∧ (s.ctpP n).swap = 2 then .next (s.writeBase n)
  else .next s

-- Receiving (R345, R353) ---------------------------------------------------------------------------------------------

/-- The message goes into the RX ring (R369). -/
def State.ringPush (s : State) (n : Port) (w : Nat) (objs : List Nat) : State :=
  let h := s.get (CTP_RX_PTR.HEAD n)
  if (h + 1) % 4 = s.get (CTP_RX_PTR.TAIL n) then s.incSat (CTP_RX_PTR.LOST n)
  else (s.setWords (CTP_RX.DATA n h) 0 (w :: (List.range 7).map fun i => objs.getD i 0)).inc (CTP_RX_PTR.HEAD n)

/-- A message with header w and a good CRC: it is acknowledged, a repeat is no more than that; during a transition all but
READY wait for a WAIT (R353), and a SWAP_REQ is rejected (R356; DEDUCED, log entry 121). pass: it goes into the ring. -/
def State.ctpRx (s : State) (n : Port) (w : Nat) (objs : List Nat) (pass : Bool) (act : State → State) : State :=
  if !s.attached n then s else
  let typ := bits w 0 5
  let id := bits w 8 4
  let s1 := (s.settleRev n (bits w 13 2)).ctpFrame n mACK id []
  if (s.ctpP n).lastRx = some (id, typ) then s1 else
  let s2 := s1.modCtp n fun p => { p with lastRx := some (id, typ) }
  if s.ctpState n = 5 ∧ typ ≠ mREADY ∧ typ ≠ mSWAPREQ then (s2.ringPush n w objs).modCtp n fun p => { p with owedWait := p.owedWait + 1 }
  else act (s2.when pass fun t => t.ringPush n w objs)

/-- INFO of the partner (R347). Its class takes effect by TX_OVERRIDE_APPLY, in RUN too, of which R66 does not speak (DESIGN CHOICE, log
entry 93). -/
def execInfoRx (n : Port) (w o : Nat) (s : State) : Out :=
  .next (s.ctpRx n w [o] true fun t =>
    (t.set (CTP_STAT.PARTNER_CLASS n) (bits o 0 2) |>.set (CTP_STAT.PARTNER_CLASS_KNOWN n) (bits o 2 1)
      |>.set (CTP_STAT.PARTNER_DB n) (bits o 3 1) |>.set (CTP_STAT.PARTNER_SWAP_OK n) (bits o 4 1)
      |>.set (CTP_STAT.PARTNER_PG n) (bits o 5 1)).showClass n)

/-- A sink receives offers (R350). -/
def execCapsRx (n : Port) (w : Nat) (objs : List Nat) (s : State) : Out :=
  .next (s.ctpRx n w objs true fun t =>
    if t.sources n then t else t.modCtp n fun p => { p with partner := offersOf objs, seq := 2, await := false })

/-- A source receives a REQUEST (R351): an invalid one is rejected by the hardware; one that answers no CAPS is discarded. -/
def execRequestRx (n : Port) (w o : Nat) (s : State) : Out :=
  let p := s.ctpP n
  let open_ := s.sources n && p.seq == 2 && p.await
  let offer := p.offers.getD (bits o 0 3) 0
  let ok := bits offer 0 2 != 0 && decide (bits o 3 10 ≤ bits offer 2 10)
  .next (s.ctpRx n w [o] (open_ && ok) fun t =>
    if !open_ then t
    else if ok then t.modCtp n fun q => { q with await := false, req := some (bits offer 0 2, bits o 3 10) }
    else (t.modCtp n fun q => { q with await := false }).ctpSay n mREJECT)

/-- The transition begins (R352): the sink sheds its load. -/
def State.transitionStart (s : State) (n : Port) : State :=
  ((s.set (CTP_STAT.STATE n) 5).modCtp n fun p => { p with await := false, levelSet := false }).when (!s.sources n) fun t =>
    (t.setShed n true).showChan (portChan n)

/-- The swap begins (Table 12.9 step 1): the old source turns off. -/
def State.swapStart (s : State) (n : Port) : State :=
  ((s.modCtp n fun p => { p with await := false, swap := 1, roleBefore := s.get (CTP_STAT.POWER_ROLE n) }).set
    (CTP_STAT.STATE n) 6).powerOff n

/-- An answer that is not awaited any more is acknowledged and discarded (R349). -/
def CtpPort.inTime (p : CtpPort) : Bool := p.await || !p.late

/-- ACCEPT (R352, R356); a late one is discarded (R349). -/
def execAcceptRx (n : Port) (w : Nat) (s : State) : Out :=
  .next (s.ctpRx n w [] (s.ctpP n).inTime fun t =>
    let p := t.ctpP n
    if p.await && p.seq == 2 && p.req.isSome && !t.sources n then t.transitionStart n
    else if p.await && p.seq == 4 then t.swapStart n else t)

def execRejectOrWaitRx (n : Port) (w : Nat) (s : State) : Out :=
  .next (s.ctpRx n w [] (s.ctpP n).inTime fun t => if (t.ctpP n).await then t.seqEnd n else t)

/-- A WAIT goes out for each message since the transition began (R353). -/
def State.payWait (s : State) (n : Port) : State :=
  (List.range (s.ctpP n).owedWait).foldl (fun t _ => t.ctpSay n mWAIT) (s.modCtp n fun p => { p with owedWait := 0 })

/-- READY: the end of a transition at the sink (R352); in a swap the old source's, on which the new source changes its terminations and
applies the base contract once VCABLE is below 5 V, then the new source's, on which the role changes (Table 12.9). -/
def execReadyRx (n : Port) (w : Nat) (s : State) : Out :=
  .next (s.ctpRx n w [] true fun t =>
    let p := t.ctpP n
    if t.ctpState n = 5 ∧ !t.sources n then
      let (v, c) := p.req.getD (0, 0)
      ((((t.set (CTP_STAT.STATE n) 4).setShed n false).writeContract n v c false).seqEnd n).payWait n
    else if t.ctpState n = 6 ∧ p.swap = 1 ∧ p.roleBefore = 0 then
      (((t.set (CTP_STAT.LEVEL n) 1).modCtp n fun q => { q.handOver q.handEnd with swap := 2, baseWait := true }).showChan
        (portChan n)).resumeBase n
    else if t.ctpState n = 6 ∧ p.swap = 2 ∧ p.roleBefore = 1 then
      (((t.modCtp n fun q => { q with swap := 0, handEnd := t.uptime + 2000000 }).set (CTP_STAT.POWER_ROLE n) 0).set
        (CTP_STAT.STATE n) (if t.flag (CTP_STAT.PG n) then 3 else 2) |>.raise (EV.swapDone n)).seqEnd n
    else t)

-- Offers of the base firmware (R368) ---------------------------------------------------------------------------------

/-- The base firmware's offers: every level in LEVELS, at the current of the port's share of the feed budget, which the spec
does not give (log entry 2). -/
def State.policyOffers (s : State) (n : Port) : List Nat :=
  ([1, 2, 3].filter fun v => bit (s.get (CTP_CFG.LEVELS n)) (v - 1) && !(v == 3 && s.ctpV1 n)).map fun v =>
    v + 4 * (1 + Config.freeNat (s.freeCtr + v) % 500)

/-- Offers packed two to an object. -/
def packOffers : List Nat → List Nat
  | [] => []
  | [a] => [a]
  | a :: b :: t => (a + 65536 * b) :: packOffers t

def State.capsMsg (s : State) (n : Port) : CtpMsg :=
  ⟨mCAPS, if s.policyOffers n = [] then [0] else packOffers (s.policyOffers n), false⟩

def State.useOffers (s : State) : State := { s with freeCtr := s.freeCtr + 4 }

/-- GET_CAPS: the source's Contract sequence follows at once (Table 12.6). -/
def execGetCapsRx (n : Port) (w : Nat) (s : State) : Out :=
  .next (s.ctpRx n w [] true fun t => if t.sources n then t.useOffers.ctpTx n (t.capsMsg n) else t)

/-- SWAP_REQ (R356). -/
def execSwapReqRx (n : Port) (w : Nat) (s : State) : Out :=
  .next (s.ctpRx n w [] (!s.swapRefused n) fun t =>
    if s.swapRefused n then t.ctpSay n mREJECT else t.modCtp n fun p => { p with seq := 4, await := false })

def execReservedTypeRx (n : Port) (w : Nat) (objs : List Nat) (s : State) : Out :=
  .next (s.ctpRx n w objs true fun t => t.ctpSay n mREJECT)

-- Sending (R345, R357) -----------------------------------------------------------------------------------------------

/-- What the ACK of a message brings. -/
def State.ackedMsg (s : State) (n : Port) (m : CtpMsg) : State :=
  let p := s.ctpP n
  if m.typ = mINFO then s.modCtp n fun q => { q with infoAcked := true, infoId := none }
  else if m.typ = mACCEPT ∧ p.seq = 2 ∧ p.req.isSome ∧ s.sources n then s.transitionStart n
  else if m.typ = mACCEPT ∧ p.seq = 4 ∧ s.ctpState n ≠ 6 then s.swapStart n
  else if m.typ = mREADY ∧ s.ctpState n ≠ 6 then (s.modCtp n fun q => { q with swap := 0 }).seqEnd n
  else if (m.typ = mREJECT ∨ m.typ = mWAIT) ∧ p.seq ≠ 0 ∧ !p.await ∧ s.ctpState n ≠ 5 ∧ s.ctpState n ≠ 6 then s.seqEnd n
  else s

/-- An ACK; w is its header. -/
def execCtpAckRx (n : Port) (w : Nat) (s : State) : Out :=
  let p := s.ctpP n
  match p.sending with
  | some m =>
    if bits w 8 4 = p.sendId then
      let s1 := ((s.settleRev n (bits w 13 2)).modCtp n fun q => { q with sending := none }).when m.tx
        fun t => t.txEnd n 1
      .next ((s1.ackedMsg n m).ctpNext n)
    else .next s
  | none => .next s

/-- No ACK within 400 µs (R345): two repeats, then the message has failed (R349, R357). A message that is refused by then is not
repeated: version 1 ends the repeats of INFO (R346, R347). -/
def execCtpAckTimeout (n : Port) (s : State) : Out :=
  let p := s.ctpP n
  match p.sending with
  | none => .next s
  | some m =>
    if s.ctpRefused n m then
      .next ((((s.modCtp n fun q => { q with sending := none }).when m.tx fun t => t.txEnd n 3).when (m.typ != mINFO) fun t =>
        t.seqEnd n).ctpNext n)
    else if p.tries < 2 then
      .next ((s.modCtp n fun q => { q with tries := q.tries + 1 }).ctpFrame n m.typ p.sendId m.objs)
    else
      let s1 := (s.modCtp n fun q => { q with sending := none }).when m.tx fun t => t.txEnd n 2
      if m.typ = mREADY ∨ (m.typ = mACCEPT ∧ p.seq = 4) ∨ s.ctpState n = 5 ∨ s.ctpState n = 6 then .next (s1.hardReset n 3 true)
      else if m.typ = mINFO then .next (s1.ctpNext n)
      else .next ((s1.seqEnd n).ctpNext n)

/-- 10 ms after the source raised its wire (R348): the sequence starts, if its message still may be sent. -/
def execSequenceLevelWait (n : Port) (s : State) : Out :=
  match (s.ctpP n).starts with
  | some m => .next (if s.sources n ∧ (s.ctpP n).seq = 0 then (s.modCtp n fun p => { p with starts := none }).ctpLaunch n m else s)
  | none => .next s

/-- The expected answer has not arrived within 500 ms (R349), at the end that awaits it or at the end that owes it. -/
def execSequenceTimeout (n : Port) (s : State) : Out :=
  .next (if ((s.ctpP n).await || (s.ctpP n).seq != 0) && s.ctpState n != 5 && s.ctpState n != 6 then
    (s.modCtp n fun p => { p with late := p.await }).seqEnd n else s)

/-- The message opens a sequence (Table 12.6); an answer does not, and is never held back (R348). -/
def CtpMsg.opens (m : CtpMsg) : Bool := m.typ == mCAPS || m.typ == mGETCAPS || m.typ == mSWAPREQ

/-- The Awl sends the TX window (R346, R348, R351, R356). -/
def State.ctpSend (s : State) (n : Port) : State :=
  let w := s.get (CTP_TX.DATA n 0)
  let m : CtpMsg := ⟨bits w 0 5, (List.range (bits w 5 3)).map fun i => s.get (CTP_TX.DATA n (i + 1)), true⟩
  if s.flag (CTP_TX_STAT.BUSY n) then s
  else if m.typ = mHARD then (s.hardReset n 6 true)
  else if !s.attached n || s.ctpRefused n m || (m.opens && (s.ctpP n).starts.isSome) then (s.txEnd n 3)
  else
    let s1 := s.set (CTP_TX_STAT.BUSY n) 1 |>.set (CTP_TX_STAT.OUTCOME n) 0
    if m.opens then (s1.seqStart n m) else (s1.ctpTx n m)

def execCtpSend (n : Port) (s : State) : Out := .next (s.ctpSend n)

-- Transitions and swaps (R352 to R357) -------------------------------------------------------------------------------

/-- 5 to 10 ms after the ACK of ACCEPT: the supply takes the new level. -/
def execTransitionSetLevel (n : Port) (s : State) : Out :=
  let p := s.ctpP n
  match p.req with
  | some (v, _) =>
    .next (if s.ctpState n = 5 && s.sources n && !p.levelSet then
      (s.when (p.supply != v) fun t => t.setSupply n v).modCtp n fun q => { q with levelSet := true } else s)
  | none => .next s

/-- VCABLE has been in the new window for 5 ms, or the level stays: the source sends READY and writes the contract. -/
def execTransitionReady (n : Port) (s : State) : Out :=
  let p := s.ctpP n
  match p.req with
  | some (v, c) =>
    .next (if s.ctpState n = 5 && s.sources n && s.conducts n && (p.levelSet || v == s.get (CTP_CONTRACT.VOLT n)) then
      (((s.set (CTP_STAT.STATE n) 4).writeContract n v c false).ctpSay n mREADY).payWait n else s)
  | none => .next s

def execNoReadyTimeout (n : Port) (s : State) : Out :=
  .next (if s.ctpState n = 5 && !s.sources n then s.hardReset n 2 true else s)
def execTransitionBandExit (n : Port) (s : State) : Out :=
  .next (if s.ctpState n = 5 && s.sources n then s.hardReset n 1 true else s)
def execSinkWindowExit (n : Port) (s : State) : Out :=
  .next (if s.ctpState n ≠ 5 && s.flag (CTP_STAT.PG n) && !s.sources n then s.hardReset n 4 true else s)

/-- The old source is below 5 V (Table 12.9 step 2). -/
def execSwapOldSourceOff (n : Port) (s : State) : Out :=
  let p := s.ctpP n
  .next (if s.ctpState n = 6 ∧ p.swap = 1 ∧ p.roleBefore = 1 then
    (((s.set (CTP_STAT.LEVEL n) 0).modCtp n fun q => { q.handOver q.handEnd with swap := 2 }).showChan (portChan n)).ctpSay n mREADY
  else s)

/-- The new source is at power-good (Table 12.9 steps 4 and 5): the role changes. -/
def execSwapNewSourcePg (n : Port) (s : State) : Out :=
  let p := s.ctpP n
  .next (if s.ctpState n = 6 ∧ p.swap = 2 ∧ p.roleBefore = 0 ∧ p.applying ∧ s.conducts n then
    let t := (s.modCtp n fun q => { q with swap := 3, handEnd := s.uptime + 2000000 }).set (CTP_STAT.POWER_ROLE n) 1
    ((((t.set (CTP_STAT.STATE n) 3).writeBase n).raise (EV.swapDone n)).set (CTP_STAT.LEVEL n) 0).ctpSay n mREADY
  else s)

def execSwapTimeout (n : Port) (s : State) : Out := .next (if s.ctpState n = 6 then s.hardReset n 5 true else s)

-- Board supplies (R367) ----------------------------------------------------------------------------------------------

/-- LOCAL_PG has been high for 10 ms: the rails move to the board supplies. -/
def execLocalPgHandover (s : State) : Out :=
  .next ({ s with ctp := { s.ctp with localPg := true, dbPath := false } }.set (CTP_STAT.DB 0) 0)

/-- LOCAL_PG falls; while VCABLE at port 0 is above 16 V the start path takes the rails back. -/
def execLocalPgFall (s : State) : Out :=
  let s1 := { s with ctp := { s.ctp with localPg := false } }
  .next (if 640 < s.get (CTP_VCABLE.MV25 0) then { s1 with ctp := { s1.ctp with dbPath := true } }.set (CTP_STAT.DB 0) 1 else s1)

-- What the mailbox commands of Table 12.13 do ------------------------------------------------------------------------

/-- Bytes 4 to 27 of CTP_STATUS. -/
def State.ctpStatus (s : State) (n : Port) : List Byte :=
  leBytes 4 (s.wordOf (CTP_CONTRACT.all n)) ++ leBytes 4 (s.wordOf (CTP_STAT.all n))
    ++ (List.range 8).flatMap fun i => leBytes 2 ((s.ctpP n).partner.getD i 0)

/-- A source starts a Contract sequence, a sink an Ask sequence, unless one waits to start already. -/
def State.ctpRenegotiate (s : State) (n : Port) : State :=
  if !s.attached n || (s.ctpP n).starts.isSome then s
  else if s.sources n then s.useOffers.seqStart n (s.capsMsg n) else s.seqStart n ⟨mGETCAPS, [], false⟩

/-- A swap is proposed, unless R356 refuses. -/
def State.ctpSwap (s : State) (n : Port) : State × Bool :=
  if s.attached n && !s.swapRefused n && (s.ctpP n).starts.isSome then (s, true)
  else if s.attached n && !s.swapRefused n then (s.seqStart n ⟨mSWAPREQ, [], false⟩, true) else (s, false)

end Sys2Proof.Machine
end

