-- ==== Sys2Proof/Machine/Secure.lean ====
section
/-!
DEFINITION. Sys2Proof/Machine/Secure.lean: fuses and life cycle, image checks, root key and derived slots, key operations, the
crypto engine, debug (chapter 15, R417 to R443; the checks of R444 to R446). The boot itself stands in Boot.lean.
-/
namespace Sys2Proof.Machine

/-- The bytes of an ASCII string. -/
def ascii (x : String) : List Byte := x.toList.map fun c => BitVec.ofNat 8 c.toNat

def State.modSec (s : State) (f : SecSt → SecSt) : State := { s with sec := f s.sec }
def State.modFlash (s : State) (f : FlashSt → FlashSt) : State := { s with nv := { s.nv with flash := f s.nv.flash } }

-- Fuses (R417 to R424) -----------------------------------------------------------------------------------------------

def State.fuseByte (s : State) (o : Nat) : Nat := s.nv.fuse.getD o 0
/-- Blown fuses in n bytes from o. -/
def State.fuseCount (s : State) (o n : Nat) : Nat := ((List.range n).map fun i => popCount 8 (s.fuseByte (o + i))).sum

/-- Stage k is blown: 17 of its 32 fuses; 0 VENDOR to 4 VOID. -/
def State.stage (s : State) (k : Nat) : Bool := decide (17 ≤ s.fuseCount (4 * k) 4)
/-- The life-cycle code (R420). -/
def State.lc (s : State) : Nat := ([1, 2, 3, 4, 5].filter fun c => s.stage (c - 1)).foldl max 0
def State.enrolled (s : State) : Bool := decide (17 ≤ s.fuseCount 0x14 4)
def State.rollBase (s : State) : Nat := s.fuseCount 0x18 8
def State.rollPolicy (s : State) : Nat := s.fuseCount 0x20 8
/-- The revoke group of slot k: vendor 0 and 1, owner 2 and 3. -/
def State.revoked (s : State) (k : Nat) : Bool := decide (5 ≤ s.fuseCount (0x28 + k) 1)

/-- The stage that a write-once field belongs to: it is not read before that stage is blown (R418). -/
def fieldStage (o : Nat) : Nat := if o < 0x30 then 2 else if o < 0xD0 then 0 else 1

/-- n bytes of a write-once field. -/
def State.fuseBytes (s : State) (o n : Nat) : List Byte :=
  (List.range n).map fun i => if s.stage (fieldStage o) then BitVec.ofNat 8 (s.fuseByte (o + i)) else 0
/-- Where the check bits of the write-once word at o stand: one byte for each of the 89 words (Table 15.3; log entry 91). -/
def checkAt (o : Nat) : Nat := 0x300 + (o - 0x2C) / 4
/-- The check bits of a word; a word of zeros has none. -/
def checkBits (w : Nat) : Nat := if w = 0 then 0 else Config.fuseCheck w % 128
/-- The field is programmed: its data and check bits are not all zero (R418). -/
def State.programmed (s : State) (o n : Nat) : Bool :=
  (s.fuseBytes o n).any (fun b => b != 0)
    || (s.stage (fieldStage o) && (List.range (n / 4)).any fun i => s.fuseByte (checkAt (o + 4 * i)) != 0)

def State.serial (s : State) : List Byte := s.fuseBytes 0x30 8
def signerAt (k : Nat) : Nat := if k < 2 then 0x40 + 48 * k else 0xD0 + 48 * (k - 2)
def State.passwordSet (s : State) : Bool := s.programmed 0x160 48

/-- The protection word in force (R422). -/
def State.protect (s : State) : Nat :=
  if s.stage 2 then leNat (s.fuseBytes 0x2C 4) else 1 + 2 + 4 * b2n s.passwordSet + 8 + 32

/-- What the fuse registers show, and MANDATORY of the four ports (R422). -/
def State.showFuses (s : State) : State :=
  let s1 := s.set FUSE_LC.STATE s.lc |>.set FUSE_LC.STAGES ((List.range 5).map fun k => b2n (s.stage k) * 2 ^ k).sum
    |>.setFlag FUSE_LC.PUF_ENROLLED s.enrolled |>.set FUSE_LC.REVOKED ((List.range 4).map fun k => b2n (s.revoked k) * 2 ^ k).sum
    |>.set FUSE_PROTECT.PROTECT s.protect |>.set FUSE_ROLLBACK.BASE s.rollBase |>.set FUSE_ROLLBACK.POLICY s.rollPolicy
    |>.set FUSE_SERIAL_LO.SERIAL (leNat (s.fuseBytes 0x30 4)) |>.set FUSE_SERIAL_HI.SERIAL (leNat (s.fuseBytes 0x34 4))
    |>.set FUSE_PART.PART (leNat (s.fuseBytes 0x38 4))
  let hashes := s.fuseBytes 0x40 0x90 ++ s.fuseBytes 0xD0 0x90
  ([0, 1, 2, 3].foldl (fun t n => t.setFlag (WLT_ENC_STAT.MANDATORY n) (bit s.protect 4)) s1).setWords FUSE_HASH.DATA 0
    (words32 72 hashes)

/-- Fuses of one byte are blown. -/
def State.blow (s : State) (o v : Nat) : State :=
  { s with nv := { s.nv with fuse := s.nv.fuse.setD o 0 (s.fuseByte o ||| (v % 256)) } }
def State.blowBytes (s : State) (o : Nat) (d : List Byte) : State :=
  (List.range d.length).foldl (fun t i => t.blow (o + i) (byteAt d i)) s
/-- A write-once field is programmed: its data words, then their check bits (R419). -/
def State.blowField (s : State) (o : Nat) (d : List Byte) : State :=
  (List.range (d.length / 4)).foldl (fun t i => t.blow (checkAt (o + 4 * i)) (checkBits (leNat (byteSlice d (4 * i) 4))))
    (s.blowBytes o d)
/-- A field holds a 1 where the new value holds a 0 (R419). -/
def State.fuseConflict (s : State) (o : Nat) (d : List Byte) : Bool :=
  (List.range d.length).any fun i => (s.fuseByte (o + i) &&& (255 - byteAt d i)) != 0
/-- A thermometer counter is raised to v, up to 64 (R423). -/
def State.raiseRollback (s : State) (o v : Nat) : State :=
  if s.fuseCount o 8 < v then s.blowBytes o (leBytes 8 (2 ^ (min v 64) - 1)) else s

-- Images (R444 to R446) ----------------------------------------------------------------------------------------------

def hKind (h : List Byte) : Nat := byteAt h 6
def hCount (h : List Byte) : Nat := leNat (byteSlice h 24 2)
def hBodyLen (h : List Byte) : Nat := leNat (byteSlice h 20 4)
def hRollback (h : List Byte) : Nat := leNat (byteSlice h 12 8)
def hSchema (h : List Byte) : Nat := leNat (byteSlice h 26 2)
def hVersion (h : List Byte) : Nat := leNat (byteSlice h 28 4)
def hSigner (h : List Byte) : Nat := byteAt h 32
/-- The length of chunk i. -/
def hChunkLen (h : List Byte) (i : Nat) : Nat := if i + 1 = hCount h then hBodyLen h - 65536 * (hCount h - 1) else 65536

def zeros (h : List Byte) (a b : Nat) : Bool := (List.range (b - a)).all fun i => byteAt h (a + i) == 0

/-- Checks 1 and 2 of Table 16.3. -/
def formatCheck (h : List Byte) : Nat :=
  if byteSlice h 0 4 ≠ ascii "PUPX" ∨ leNat (byteSlice h 4 2) ≠ 1 ∨ 2 < hKind h
      ∨ !(byteAt h 7 == 0 && zeros h 33 48 && zeros h 144 768 && zeros h 4077 4096) then 1
  else if hCount h < 2 ∨ (if hKind h = 0 then 12 else if hKind h = 1 then 4 else 2) < hCount h
      ∨ hBodyLen h ≤ 65536 * (hCount h - 1) ∨ 65536 * hCount h < hBodyLen h then 2
  else 0

/-- Checks 3 to 6: skipped by a relay. -/
def State.fitCheck (s : State) (h : List Byte) : Nat :=
  if leNat (byteSlice h 8 2) ≠ 0x9640 then 3
  else if Config.siliconRev < byteAt h 10 then 4
  else if !bit (byteAt h 11) s.lc then 5
  else if hRollback h < (if hKind h = 0 then s.rollBase else s.rollPolicy) then 6
  else 0

/-- The hash of the signer that an image of a kind must have in the present life cycle (R412, R445). -/
def State.acceptedSigner (s : State) (kind slot : Nat) : Option (List Byte) :=
  let vendor := if slot < 2 ∧ !s.revoked slot ∧ s.programmed (signerAt slot) 48 then some (s.fuseBytes (signerAt slot) 48) else none
  let owner := if slot < 2 ∧ !s.revoked (2 + slot) ∧ s.programmed (signerAt (2 + slot)) 48
    then some (s.fuseBytes (signerAt (2 + slot)) 48) else none
  if kind = 0 then (if s.lc = 0 then some Config.romSigner else vendor)
  else if kind = 1 then (if s.lc < 2 then none else owner)
  else if s.lc = 0 then none else if s.lc = 1 then vendor else owner

/-- Checks 7 and 8. -/
def State.signCheck (s : State) (h k : List Byte) : Nat :=
  let pub := byteSlice k 0 1952
  let d := Config.sha384 pub
  if d ≠ byteSlice h 48 48 ∨ s.acceptedSigner (hKind h) (hSigner h) ≠ some d then 7
  else if !Config.mldsaVerify pub (byteSlice h 0 768) (byteSlice h 768 3309) then 8
  else 0

/-- The first check of Table 16.3 that refuses a header, 0 for none. -/
def State.headerCheck (s : State) (relay : Bool) (h k : List Byte) : Nat :=
  let a := formatCheck h
  let b := if relay then 0 else s.fitCheck h
  if a ≠ 0 then a else if b ≠ 0 then b else s.signCheck h k

/-- Chunk i matches: TABLE_HASH for chunk 0, else its entry in the table; the reason, 0 for none. -/
def chunkCheck (h table : List Byte) (i : Nat) (d : List Byte) : Nat :=
  if i = 0 then (if d.length = 65536 ∧ Config.sha384 d = byteSlice h 96 48 then 0 else 9)
  else if d.length = hChunkLen h i ∧ Config.sha384 d = byteSlice table (48 * (i - 1)) 48 then 0 else 10

/-- A whole slot passes every check (R412, R451 step 4). -/
def State.slotGood (s : State) (kind : Nat) (x : ImgSlot) : Bool :=
  !x.header.isEmpty && hKind x.header == kind && s.headerCheck false x.header x.keyBlk == 0
    && (List.range (hCount x.header)).all fun i =>
      chunkCheck x.header ((x.chunks.find? 0).getD []) i ((x.chunks.find? i).getD []) == 0

/-- Slot of kind k in bank b. -/
def State.slotOf (s : State) (b k : Nat) : ImgSlot := s.nv.flash.slots.toList.getD (3 * b + k) ImgSlot.reset
def State.putSlot (s : State) (b k : Nat) (x : ImgSlot) : State :=
  if h : 3 * b + k < 6 then s.modFlash fun f => { f with slots := f.slots.set (3 * b + k) x h } else s

/-- BOOT_BANKb shows the headers in the bank. -/
def State.showBank (s : State) (b : Nat) : State :=
  let base := (s.slotOf b 0).header
  let pol := (s.slotOf b 1).header
  s.set (BOOT_BANK0.BASE_VERSION b) (hVersion base) |>.set (BOOT_BANK1.BASE_ROLLBACK b) (min 64 (hRollback base))
    |>.set (BOOT_BANK1.SCHEMA b) (hSchema base) |>.set (BOOT_BANK2.POLICY_VERSION b) (hVersion pol)
    |>.setFlag (BOOT_BANK3.CFG_PRESENT b) (!(s.slotOf b 2).header.isEmpty) |>.setFlag (BOOT_BANK3.POLICY_PRESENT b) (!pol.isEmpty)
    |>.set (BOOT_BANK3.POLICY_ROLLBACK b) (min 64 (hRollback pol))

def bankValid (b : Nat) : Fld := if b = 0 then BOOT_STAT.A_VALID else BOOT_STAT.B_VALID

/-- The bank record in force: the valid copy with the higher sequence number, bank A without one (R454). -/
def State.bankRecord (s : State) : Nat × Nat :=
  s.nv.flash.records.foldl (fun a r => match r with
    | some x => if a.2 ≤ x.2 then x else a
    | none => a) (0, 0)

/-- A new record goes into the older copy (R454). -/
def State.writeRecord (s : State) (bank : Nat) : State :=
  let r0 := s.nv.flash.records.getD 0 none
  let r1 := s.nv.flash.records.getD 1 none
  let seq := s.bankRecord.2 + 1
  let older := match r0, r1 with
    | none, _ => 0
    | some _, none => 1
    | some a, some b => if a.2 ≤ b.2 then 0 else 1
  s.modFlash fun f => { f with records := f.records.set older (some (bank, seq % 2 ^ 32)) }

-- Key slots (R430 to R435) -------------------------------------------------------------------------------------------

/-- Slot k takes a key with its attributes. -/
def State.loadSlot (s : State) (k typ origin masters lcs uses : Nat) (v : List Byte) : State :=
  (s.modSec fun c => { c with values := c.values.put k v }).set (SLOT0.VALID k) 1 |>.set (SLOT0.TYPE k) typ
    |>.set (SLOT0.ORIGIN k) origin |>.set (SLOT0.MASTERS k) masters |>.set (SLOT0.LCS k) (lcs % 32) |>.set (SLOT0.USES k) uses
    |>.set (SLOT1.USES_CNT k) 0

/-- Slot k is emptied. -/
def State.clearSlot (s : State) (k : Nat) : State :=
  (s.modSec fun c => { c with values := c.values.del k }).resetFlds [SLOT0.VALID k, SLOT0.TYPE k, SLOT0.ORIGIN k, SLOT0.MASTERS k,
    SLOT0.LCS k, SLOT0.USES k, SLOT1.USES_CNT k]

/-- The identity as link and CAP use it goes. -/
def State.dropIdentity (s : State) : State :=
  ({ s with hubIdent := List.replicate 16 0, identKey := [] }).setWords KEY_PUB.DATA 0 (List.replicate 32 0)

/-- Every slot and the root latch are cleared (R435). -/
def State.clearKeys (s : State) : State :=
  (((List.range 32).foldl State.clearSlot s).modSec fun c => { c with root := none }).dropIdentity.set KEY_STAT.ROOT_OK 0
    |>.set KEY_STAT.CLEARED 1

/-- Opening level 2 or 3 clears keys until power-on (R435). -/
def State.clearForLevel (s : State) (level : Nat) : State :=
  if level = 3 then s.clearKeys.modSec fun c => { c with regenOff := true, slotsGone := true }
  else if level = 2 then
    (((1 :: 3 :: (List.range 23).map (· + 9)).foldl State.clearSlot s).modSec fun c => { c with slotsGone := true }).set
      KEY_STAT.CLEARED 1
  else s

/-- The checks of R433: master, life cycle, use; only a loaded slot passes. -/
def State.useOk (s : State) (m k use : Nat) : Bool :=
  s.flag (SLOT0.VALID k) && bit (s.get (SLOT0.MASTERS k)) m && bit (s.get (SLOT0.LCS k)) s.lc && bit (s.get (SLOT0.USES k)) use

def State.slotVal (s : State) (k : Nat) : List Byte := (s.sec.values.find? k).getD []

/-- The helper-MAC key of a root key (Table 15.6). -/
def State.helperKey (s : State) (root : List Byte) : List Byte := Config.kdf root (ascii "HELPER") s.serial 48

/-- A helper record is good for this hub (R426, R427). -/
def State.helperGood (s : State) (r : List Byte) : Bool :=
  let root := Config.sha384 (ascii "UH9640-ROOT" ++ Config.pufSecret (byteSlice r 16 1984))
  byteSlice r 0 4 == ascii "PUFH" && byteAt r 4 == 1 && byteAt r 5 == 1 && byteSlice r 8 8 == s.serial
    && Config.hmac384 (s.helperKey root) (byteSlice r 0 2000) == byteSlice r 2000 48

/-- The root key is latched. -/
def State.latchRoot (s : State) (root : List Byte) : State :=
  (s.modSec fun c => { c with root := some root }).set KEY_STAT.ROOT_OK 1

/-- Regeneration (R427): attempt k reads copy (k - 1) mod 2; good names the attempts whose array start-up decodes, as bits. -/
def State.regenerate (s : State) (good : Nat) : State :=
  if s.sec.regenOff then s else
  let copy (k : Nat) : List Byte := s.nv.flash.helper.getD (k % 2) []
  match (List.range 6).find? fun k => bit good k && s.helperGood (copy k) with
  | some k => (s.latchRoot (Config.sha384 (ascii "UH9640-ROOT" ++ Config.pufSecret (byteSlice (copy k) 16 1984)))).set
      KEY_STAT.PUF_TRIES (k + 1)
  | none => s.set KEY_STAT.PUF_TRIES 6

/-- Enrolment (R425): a new secret and its helper record in both copies, and PUF_ENROLLED is blown. ok: no step fails. -/
def State.enrol (s : State) (ok : Bool) : State :=
  let secret := s.random 48
  let s1 := s.useRandom 48
  let root := Config.sha384 (ascii "UH9640-ROOT" ++ secret)
  let head := ascii "PUFH" ++ [1, 1, 0, 0] ++ s.serial ++ byteSlice (Config.pufEnrol secret) 0 1984
  let r := head ++ byteSlice (Config.hmac384 (s.helperKey root) head) 0 48
  if !ok then s1
  else ((s1.modFlash fun f => { f with helper := [r, r] }).blowBytes 0x14 [0xFF, 0xFF, 0xFF, 0xFF]).showFuses.latchRoot root

/-- M as the registers hold it (R428). -/
def State.mReg (s : State) : List Byte := s.windowBytes KEY_MEASURE.DATA 12
def State.extend (s : State) (item : List Byte) : State :=
  s.setWords KEY_MEASURE.DATA 0 (words32 12 (Config.sha384 (s.mReg ++ item)))

/-- Step 4 of Table 15.1: the measurement and the fixed slots (R428, R429, R431). -/
def State.deriveSlots (s : State) : State :=
  let s1 := s.setWords KEY_MEASURE.DATA 0 (List.replicate 12 0)
  let s2 := ((s1.extend (leBytes 4 s.protect)).extend (Config.sha384 s.sec.runBase)).extend
    (if s.sec.runPolicy = [] then List.replicate 48 0 else Config.sha384 s.sec.runPolicy)
  let s3 := match s.sec.root with
    | none => s2
    | some root =>
      let base := s.sec.runBase
      let d := Config.identScalar (Config.kdf root (ascii "IDENT") (byteSlice base 48 48 ++ byteSlice base 12 8) 64)
      let pub := Config.p384Public d
      let t0 := (s2.loadSlot 0 2 0 0 30 16 root).loadSlot 2 3 0 17 30 4 d
      let t1 := t0.loadSlot 4 2 0 1 30 12 (s.helperKey root)
      let t2 := if s.sec.slotsGone then t1 else
        (t1.loadSlot 1 2 0 1 30 16 (Config.kdf root (ascii "SEAL") (s2.mReg ++ [BitVec.ofNat 8 s.lc]) 48)).loadSlot 3 1 0 3 14 3
          (Config.kdf root (ascii "SETTINGS") (leBytes 2 (hSchema base)) 32)
      ({ t2 with hubIdent := byteSlice (Config.sha384 (byteSlice pub 0 97)) 0 16, identKey := d }).setWords KEY_PUB.DATA 0
        (words32 32 (byteSlice pub 0 97))
  if s.lc = 5 ∨ s.lc = 0 then s2.set KEY_STAT.KEYS_READY 1 else s3.set KEY_STAT.KEYS_READY 1

-- KEY_OP (Table 15.9) ------------------------------------------------------------------------------------------------

/-- A slot operation is done; its result is written by KEY_OP_COMPLETE. -/
def State.keyEnd (s : State) (tag status : Nat) : State :=
  s.modSec fun c => { c with keyDone := c.keyDone ++ [(tag, status)] }

/-- A use is refused (R433). -/
def State.keyDenied (s : State) (tag : Nat) : State := (s.raise EV.keyDenied).keyEnd tag 14

/-- A target slot is one of 9 to 31 and empty. -/
def State.targetOk (s : State) (k : Nat) : Bool := decide (9 ≤ k ∧ k < 32) && !s.flag (SLOT0.VALID k)

/-- The hub accepts new keys: not in VOID (R435). -/
def State.takesKeys (s : State) : Bool := s.lc != 5

def State.opData (s : State) : List Byte := s.windowBytes KEY_OP_DATA.DATA 64

/-- The type in KEY_OP_DATA byte 4. -/
def State.opType (s : State) : Nat := byteAt s.opData 4
/-- It is a type that a slot operation can make: AES-256, HMAC or P-384; another is BAD_ARG (DEDUCED, log entry 91). -/
def State.keyTypeOk (s : State) : Bool := decide (1 ≤ s.opType ∧ s.opType ≤ 3)

def State.keyGenerate (s0 : State) (m tag k : Nat) : State :=
  let s := s0.resAccept resKEY
  let w := leNat (byteSlice s.opData 0 4)
  let typ := s.opType
  if !s.targetOk k || !s.keyTypeOk then s.keyEnd tag 13
  else if !s.takesKeys || !bit w (21 + m) then s.keyDenied tag
  else
    let n := if typ = 1 then 32 else 48
    ((s.useRandom n).loadSlot k typ 1 (bits w 21 5) (bits w 15 6) (bits w 9 6) (s.random n)).keyEnd tag 0

/-- The source slot was used once more (SLOT1.USES_CNT). -/
def State.countUse (s : State) (k : Nat) : State := (s.incSat (SLOT1.USES_CNT k)).count (srcSignal 23 1) 1

def State.keyDerive (s0 : State) (m tag src k : Nat) : State :=
  let s := s0.resAccept resKEY
  if !s.targetOk k || !s.keyTypeOk then s.keyEnd tag 13
  else if !s.useOk m src 4 || !s.takesKeys then s.keyDenied tag
  else
    let d := s.opData
    let n := if s.opType = 1 then 32 else 48
    let v := Config.kdf (s.slotVal src) (byteSlice d 16 16) (BitVec.ofNat 8 m :: byteSlice d 32 32) n
    ((s.countUse src).loadSlot k s.opType 2 (s.get (SLOT0.MASTERS k) &&& s.get (SLOT0.MASTERS src))
      (s.get (SLOT0.LCS k) &&& s.get (SLOT0.LCS src)) (s.get (SLOT0.USES k)) v).keyEnd tag 0

def State.keyEcdh (s0 : State) (m tag src k : Nat) : State :=
  let s := s0.resAccept resKEY
  if !s.targetOk k then s.keyEnd tag 13
  else if !s.useOk m src 4 || s.get (SLOT0.TYPE src) != 3 || !s.takesKeys then s.keyDenied tag
  else match Config.ecdh (s.slotVal src) (byteSlice s.opData 64 97) with
    | none => s.keyEnd tag 13
    | some z => ((s.countUse src).loadSlot k 2 3 (s.get (SLOT0.MASTERS k)) (s.get (SLOT0.LCS k)) (s.get (SLOT0.USES k)) z).keyEnd tag 0

def State.keyUnwrap (s0 : State) (m tag src k : Nat) : State :=
  let s := s0.resAccept resKEY
  if !s.targetOk k || !s.keyTypeOk then s.keyEnd tag 13
  else if !s.useOk m src 1 || s.get (SLOT0.TYPE src) != 1 || !s.takesKeys then s.keyDenied tag
  else match Config.unwrap (s.slotVal src) (byteSlice s.opData 64 192) with
    | none => s.keyEnd tag 13
    | some v =>
      ((s.countUse src).loadSlot k s.opType 3 (s.get (SLOT0.MASTERS k)) (s.get (SLOT0.LCS k)) (s.get (SLOT0.USES k)) v).keyEnd tag 0

def State.keyClear (s0 : State) (m tag k : Nat) : State :=
  let s := s0.resAccept resKEY
  if !(decide (9 ≤ k ∧ k < 32)) then s.keyEnd tag 13
  else if m = 0 ∨ bit (s.get (SLOT0.MASTERS k)) m then (s.clearSlot k).keyEnd tag 0
  else s.keyDenied tag

def State.keyPublic (s0 : State) (m tag src : Nat) : State :=
  let s := s0.resAccept resKEY
  if !(s.flag (SLOT0.VALID src) && bit (s.get (SLOT0.MASTERS src)) m && bit (s.get (SLOT0.LCS src)) s.lc) then s.keyDenied tag
  else if s.get (SLOT0.TYPE src) ≠ 3 then s.keyEnd tag 13
  else (s.setWords KEY_PUB.DATA 0 (words32 32 (byteSlice (Config.p384Public (s.slotVal src)) 0 97))).keyEnd tag 0

def execKeyGenerate (m : Fin 5) (tag k : Nat) (s : State) : Out := .next (s.keyGenerate m tag (k % 32))
def execKeyDerive (m : Fin 5) (tag src k : Nat) (s : State) : Out := .next (s.keyDerive m tag (src % 32) (k % 32))
def execKeyEcdh (m : Fin 5) (tag src k : Nat) (s : State) : Out := .next (s.keyEcdh m tag (src % 32) (k % 32))
def execKeyUnwrap (m : Fin 5) (tag src k : Nat) (s : State) : Out := .next (s.keyUnwrap m tag (src % 32) (k % 32))
def execKeyClear (m : Fin 5) (tag k : Nat) (s : State) : Out := .next (s.keyClear m tag (k % 32))
def execKeyPublic (m : Fin 5) (tag src : Nat) (s : State) : Out := .next (s.keyPublic m tag (src % 32))

/-- A write of KEY_OP (Table 15.9). What a reserved OP answers is not stated (log entry 2). -/
def State.keyOp (s : State) (m v : Nat) : State :=
  let tag := bits v 16 8
  let k := bits v 8 5
  let src := bits v 0 5
  match bits v 28 4 with
  | 0 => s
  | 1 => s.keyGenerate m tag k
  | 2 => s.keyDerive m tag src k
  | 3 => s.keyEcdh m tag src k
  | 4 => s.keyUnwrap m tag src k
  | 5 => s.keyClear m tag k
  | 6 => s.keyPublic m tag src
  | _ => (s.resAccept resKEY).useFree.keyEnd tag s.free

/-- A KEY result: byte 4 is 0, and KEY_DONE is raised. -/
def State.keyResult (s : State) (tag status : Nat) : State :=
  ((s.resDone resKEY tag status).set (KEY_RES.DATA 0) 0).raise EV.keyDone

def execKeyOpComplete (s : State) : Out :=
  match s.sec.keyDone with
  | [] => .next s
  | (tag, status) :: t => .next ((s.modSec fun c => { c with keyDone := t }).keyResult tag status)

/-- A write of the attributes of slot k by master m (R432). -/
def State.writeAttr (s : State) (m k v : Nat) : State :=
  let masters := bits v 21 5
  let lcs := bits v 15 5
  let uses := bits v 9 6
  let within (a b : Nat) : Bool := a &&& b == a
  if m ≠ 0 ∨ k < 9 then s.raise EV.keyDenied
  else if s.flag (SLOT0.VALID k) && !(within masters (s.get (SLOT0.MASTERS k)) && within lcs (s.get (SLOT0.LCS k))
      && within uses (s.get (SLOT0.USES k))) then s.raise EV.keyDenied
  else s.set (SLOT0.MASTERS k) masters |>.set (SLOT0.LCS k) lcs |>.set (SLOT0.USES k) uses

def execKeySlotAttrWrite (m : Fin 5) (k v : Nat) (s : State) : Out := .next (s.writeAttr m (k % 32) v)

-- The crypto engine (R437) -------------------------------------------------------------------------------------------

/-- The bytes of CRY_IN that CRY_LEN names. -/
def State.cryIn (s : State) : List Byte :=
  (((List.range 3).flatMap fun n => s.windowBytes (CRY_IN.DATA n) 1008)).take (min (s.get CRY_LEN.BYTES) 12096)

/-- The host's operation is computed; CRY_COMPLETE writes its result. -/
def State.cryEnd (s : State) (tag status : Nat) (res out : List Byte) : State :=
  s.modSec fun c => { c with cryDone := some ⟨tag, status, res, out⟩ }

/-- A host operation starts unless one is accepted and not complete (CRY_STAT). -/
def State.cryStart (s : State) (act : State → State) : State :=
  if s.flag CRY_STAT.BUSY then s.incSat CRY_STAT.LOST else act (((s.set CRY_STAT.BUSY 1).resAccept resCRY).count (srcSignal 23 0) 1)

/-- A host operation under slot k for a use (R433). -/
def State.crySlot (s : State) (tag k use : Nat) (act : State → State) : State :=
  s.cryStart fun t => if t.useOk 2 k use then act (t.countUse k) else (t.raise EV.keyDenied).cryEnd tag 14 [] []

def State.crySha (s : State) (tag : Nat) : State := s.cryStart fun t => t.cryEnd tag 0 (Config.sha384 t.cryIn) []
def State.cryHmac (s : State) (tag k : Nat) : State :=
  s.crySlot tag k 2 fun t => t.cryEnd tag 0 (Config.hmac384 (t.slotVal k) t.cryIn) []
def State.cryEnc (s : State) (tag k : Nat) : State :=
  s.crySlot tag k 0 fun t => t.cryEnd tag 0 [] (Config.cryEncrypt (t.slotVal k) t.cryIn)
def State.cryDec (s : State) (tag k : Nat) : State :=
  s.crySlot tag k 1 fun t => match Config.cryDecrypt (t.slotVal k) t.cryIn with
    | some d => t.cryEnd tag 0 [] d
    | none => t.cryEnd tag 13 [] []
def State.crySign (s : State) (tag k : Nat) : State :=
  s.crySlot tag k 2 fun t => t.cryEnd tag 0 [] (byteSlice (Config.ecdsaSign (t.slotVal k) t.cryIn) 0 96)
def State.cryEcdsa (s : State) (tag : Nat) : State :=
  s.cryStart fun t =>
    let d := t.cryIn
    t.cryEnd tag (if Config.ecdsaVerify (d.take 97) (d.drop 193) ((d.drop 97).take 96) then 0 else 13) [] []
def State.cryMldsa (s : State) (tag : Nat) : State :=
  s.cryStart fun t =>
    let d := t.cryIn
    t.cryEnd tag (if Config.mldsaVerify (d.take 1952) (d.drop 5261) ((d.drop 1952).take 3309) then 0 else 13) [] []
def State.cryRandom (s : State) (tag : Nat) : State := s.cryStart fun t => (t.useRandom 60).cryEnd tag 0 (t.random 60) []

def execCrySha384 (tag : Nat) (s : State) : Out := .next (s.crySha tag)
def execCryHmac (tag : Nat) (k : Fin 32) (s : State) : Out := .next (s.cryHmac tag k)
def execCryGcmEncrypt (tag : Nat) (k : Fin 32) (s : State) : Out := .next (s.cryEnc tag k)
def execCryGcmDecrypt (tag : Nat) (k : Fin 32) (s : State) : Out := .next (s.cryDec tag k)
def execCryEcdsaSign (tag : Nat) (k : Fin 32) (s : State) : Out := .next (s.crySign tag k)
def execCryEcdsaVerify (tag : Nat) (s : State) : Out := .next (s.cryEcdsa tag)
def execCryMldsaVerify (tag : Nat) (s : State) : Out := .next (s.cryMldsa tag)
def execCryRandom (tag : Nat) (s : State) : Out := .next (s.cryRandom tag)

/-- A write of CRY_CTRL. What a reserved OP answers is not stated (log entry 2). -/
def State.cryOp (s : State) (v : Nat) : State :=
  let tag := bits v 16 8
  let k := bits v 8 5
  match bits v 28 4 with
  | 0 => s
  | 1 => s.crySha tag
  | 2 => s.cryHmac tag k
  | 3 => s.cryEnc tag k
  | 4 => s.cryDec tag k
  | 5 => s.crySign tag k
  | 6 => s.cryEcdsa tag
  | 7 => s.cryMldsa tag
  | 8 => s.cryRandom tag
  | _ => s.cryStart fun t => t.useFree.cryEnd tag t.free [] []

/-- The operation finishes (R437): the result window whole, CRY_OUT, CRY_DONE, or CRY_ERR for a status other than OK. -/
def execCryComplete (s : State) : Out :=
  match s.sec.cryDone with
  | none => .next s
  | some c =>
    let s1 := (((s.modSec fun x => { x with cryDone := none }).resDone resCRY c.tag c.status).setWords CRY_RES.DATA 0
      (words32 15 c.res)).set CRY_STAT.BUSY 0 |>.set CRY_STAT.WAITING 0
    let s2 := if c.out = [] then s1 else s1.setWords CRY_OUT.DATA 0 (words32 1008 c.out)
    .next (s2.raise (if c.status % 128 = 0 then EV.cryDone else EV.cryErr))

-- Debug (R438 to R442) -----------------------------------------------------------------------------------------------

def State.dbgLevel (s : State) : Nat := s.get KEY_STAT.DBG_LEVEL

/-- The debug level rises to the higher of the present one and l: DEBUG_OPEN, and keys are cleared. -/
def State.openDebug (s : State) (l : Nat) : State :=
  if s.dbgLevel < l then ((s.set KEY_STAT.DBG_LEVEL l).raise EV.debugOpen).clearForLevel l else s

/-- Table 15.12: the vendor key (owner false) or the owner key may open level l, as PROTECT allows. -/
def State.pathOk (s : State) (owner : Bool) (l : Nat) : Bool :=
  let top := match s.lc with
    | 1 => if owner then 0 else 3
    | 2 => 2
    | 3 => 2
    | 4 => if owner then 2 else 3
    | 5 => if owner then 0 else 3
    | _ => 0
  bit s.protect (if owner then 1 else 0) && decide (1 ≤ l ∧ l ≤ top) && (l != 2 || bit s.protect 3)

/-- The nonce is gone. -/
def State.dropNonce (s : State) : State :=
  (s.modSec fun c => { c with nonce := false }).setWords KEY_DBG_NONCE.DATA 0 (List.replicate 12 0)

def State.dbgChallenge (s : State) (tag : Nat) : State :=
  ((((s.resAccept resKEY).useRandom 32).modSec fun c => { c with nonce := true }).setWords KEY_DBG_NONCE.DATA 0
    (words32 12 (s.random 32 ++ byteSlice s.hubIdent 0 16))).keyResult tag 0

def State.dbgAnswer (s0 : State) (tag : Nat) : State :=
  let s := s0.resAccept resKEY
  let a := s.windowBytes KEY_DBG_ANSWER.DATA 64
  let pub := byteSlice a 0 97
  let level := byteAt a 193
  let purpose := byteAt a 194
  let h := Config.sha384 pub
  let vendor := s.programmed 0xA0 48 && h == s.fuseBytes 0xA0 48
  let owner := s.programmed 0x130 48 && h == s.fuseBytes 0x130 48
  let msg := ascii "UH9640-DBG" ++ s.windowBytes KEY_DBG_NONCE.DATA 12
    ++ [BitVec.ofNat 8 level, BitVec.ofNat 8 purpose, BitVec.ofNat 8 s.lc]
  let good := s.sec.nonce && (vendor || owner) && ((vendor && s.pathOk false level) || (owner && s.pathOk true level))
    && Config.ecdsaVerify pub msg (byteSlice a 97 96)
  let s1 := s.dropNonce
  if good && purpose == 0 then ((s1.modSec fun c => { c with keyPath := true }).openDebug level).keyResult tag 0
  else if good && purpose == 1 && owner then (s1.modSec fun c => { c with returnAuth := true }).keyResult tag 0
  else s1.keyResult tag 14

/-- A password attempt (R441). -/
def State.dbgPassword (s0 : State) (tag : Nat) : State :=
  let s := s0.resAccept resKEY
  let open_ := (s.lc == 2 || s.lc == 3) && bit s.protect 2 && s.passwordSet && !s.flag KEY_STAT.PWD_LOCKED
  let a := byteSlice (s.windowBytes KEY_DBG_ANSWER.DATA 64) 0 32
  if !open_ || decide (s.uptime < s.sec.pwdUntil) then s.keyResult tag 14
  else if Config.sha384 (ascii "UH9640-PWD" ++ s.serial ++ a) = s.fuseBytes 0x160 48 then (s.openDebug 1).keyResult tag 0
  else
    let k := s.get KEY_STAT.PWD_FAILS + 1
    let s1 := s.set KEY_STAT.PWD_FAILS k
    (if k < 8 then s1.modSec fun c => { c with pwdUntil := s.uptime + 40000000 * 2 ^ (k - 1) }
     else (s1.set KEY_STAT.PWD_LOCKED 1).raise EV.passwordLockout).keyResult tag 14

/-- OP CLOSE (R442). -/
def State.dbgClose (s : State) : State := (s.set KEY_STAT.DBG_LEVEL 0).modSec fun c => { c with keyPath := false }

def execDebugChallenge (tag : Nat) (s : State) : Out := .next (s.dbgChallenge tag)
def execDebugAnswer (tag : Nat) (s : State) : Out := .next (s.dbgAnswer tag)
def execDebugPassword (tag : Nat) (s : State) : Out := .next (s.dbgPassword tag)
/-- The result window takes the request's tag with status OK. -/
def execDebugClose (tag : Nat) (s : State) : Out := .next ((s.resAccept resKEY).dbgClose.keyResult tag 0)

/-- A write of KEY_DBG_CTRL. -/
def State.dbgOp (s : State) (v : Nat) : State :=
  let tag := bits v 8 8
  match bits v 0 3 with
  | 1 => s.dbgChallenge tag
  | 2 => s.dbgAnswer tag
  | 3 => s.dbgPassword tag
  | 4 => (s.resAccept resKEY).dbgClose.keyResult tag 0
  | _ => s

def execNonceExpiry (s : State) : Out := .next (if s.sec.nonce then s.dropNonce else s)
def execReturnAuthExpiry (s : State) : Out := .next (s.modSec fun c => { c with returnAuth := false })

-- Life cycle (R419 to R424, R443) ------------------------------------------------------------------------------------

/-- The fields an advance programs, from KEY_PROV (Table 15.3): offset and bytes. -/
def State.provFields (s : State) (target : Nat) : List (Nat × List Byte) :=
  let p := s.windowBytes KEY_PROV.DATA 52
  if target = 1 then [(0x30, byteSlice p 4 12), (0x40, byteSlice p 16 96), (0xA0, byteSlice p 112 48)]
  else if target = 2 then [(0xD0, byteSlice p 16 96), (0x130, byteSlice p 112 48), (0x160, byteSlice p 160 48)]
  else if target = 3 then [(0x2C, byteSlice p 0 4)]
  else []

/-- The advance is listed for the present state (Table 15.4). -/
def State.orderOk (s : State) (target : Nat) : Bool :=
  (target == 1 && s.lc == 0) || (target == 2 && s.lc == 1) || (target == 3 && s.lc == 2)
    || (target == 4 && (s.lc == 2 || s.lc == 3)) || (target == 5 && s.lc != 0 && s.lc != 5)

/-- An advance of the life cycle: the reason, 0 for done. fail: a fuse does not take its value. -/
def State.lcAdvance (s : State) (target : Nat) (fail : Bool) : State × Nat :=
  let p := leNat (byteSlice (s.windowBytes KEY_PROV.DATA 52) 0 4)
  let fs := s.provFields target
  if !s.orderOk target then (s, 1)
  else if target = 4 ∧ !s.sec.returnAuth then (s, 3)
  else if target = 3 ∧ (64 ≤ p ∨ (bit p 2 && !s.passwordSet)) then (s, 4)
  else if fs.any fun f => s.fuseConflict f.1 f.2 then (s, 2)
  else
    let s1 := fs.foldl (fun t f => t.blowField f.1 f.2) s
    if fail then (s1, 5) else
    let s2 := (s1.blowBytes (4 * (target - 1)) [0xFF, 0xFF, 0xFF, 0xFF]).showFuses.modSec fun c =>
      { c with returnAuth := if target = 4 then false else c.returnAuth }
    (if target = 5 then s2.clearKeys else s2, 0)

/-- Debug is open at level 1 or above by a key path (the policy of R443). -/
def State.keyPathOpen (s : State) : Bool := s.sec.keyPath && decide (1 ≤ s.dbgLevel)

/-- SIGNER_REVOKE (R424): the reason. -/
def State.revoke (s : State) (kind slot : Nat) (fail : Bool) : State × Nat :=
  let other := 1 - slot
  let run := if kind = 0 then s.sec.runBase else s.sec.runPolicy
  if 1 < kind ∨ 1 < slot ∨ !s.programmed (signerAt (2 * kind + other)) 48 ∨ s.revoked (2 * kind + other) ∨ run = []
      ∨ hSigner run ≠ other then (s, 3)
  else if fail then (s, 5)
  else ((s.blow (0x28 + 2 * kind + slot) 255).showFuses, 0)

-- What the mailbox commands of Table 15.13 answer: status and result bytes from byte 4 -------------------------------

def State.keyInfo (s : State) : List Byte :=
  [BitVec.ofNat 8 s.lc, BitVec.ofNat 8 s.dbgLevel,
   BitVec.ofNat 8 (s.get KEY_STAT.ROOT_OK + 2 * b2n s.enrolled + 4 * s.get KEY_STAT.PWD_LOCKED), 0]
    ++ leBytes 4 s.protect ++ [BitVec.ofNat 8 s.rollBase, BitVec.ofNat 8 s.rollPolicy, 0, 0] ++ byteSlice s.hubIdent 0 16
    ++ byteSlice s.mReg 0 32

/-- QUOTE: KEY_QUOTE holds the identity key and the signature; DENIED when slot 2 is empty. -/
def State.quote (s : State) (req : List Byte) : State × Nat :=
  if !s.flag (SLOT0.VALID 2) then (s, 14) else
  let sig := Config.ecdsaSign s.identKey (ascii "UH9640-QUOTE" ++ byteSlice req 0 32 ++ s.mReg ++ [BitVec.ofNat 8 s.lc])
  ((s.countUse 2).setWords KEY_QUOTE.DATA 0
    (words32 64 (byteSlice (Config.p384Public s.identKey) 0 97 ++ byteSlice sig 0 96)), 0)

/-- LC_ADVANCE as the base firmware performs it. -/
def State.lcCommand (s : State) (target : Nat) (fail : Bool) : State × Nat × List Byte :=
  let r := if target = 3 ∧ !s.keyPathOpen then (s, 3) else s.lcAdvance target fail
  (r.1, if r.2 = 0 then 0 else 14, [BitVec.ofNat 8 r.2, BitVec.ofNat 8 r.1.lc])

/-- LC_VOID. -/
def State.voidCommand (s : State) (req : List Byte) (fail : Bool) : State × Nat × List Byte :=
  if byteSlice req 0 4 ≠ ascii "VOID" then (s, 13, [0])
  else
    let r := if s.keyPathOpen then s.lcAdvance 5 fail else (s, 3)
    (r.1, if r.2 = 0 then 0 else 14, [BitVec.ofNat 8 r.2])

/-- SIGNER_REVOKE. -/
def State.revokeCommand (s : State) (req : List Byte) (fail : Bool) : State × Nat × List Byte :=
  let r := if s.keyPathOpen then s.revoke (byteAt req 0) (byteAt req 1) fail else (s, 3)
  (r.1, if r.2 = 0 then 0 else 14, [BitVec.ofNat 8 r.2])

end Sys2Proof.Machine
end

