-- ==== Sys2Proof/Machine/Update.lean ====
section
/-!
DEFINITION. Sys2Proof/Machine/Update.lean: update sessions, forwarding, staging, FETCH, activation requests (chapter 16, R444 to
R462). Putting an activation into force stands in Boot.lean.
-/
namespace Sys2Proof.Machine

def State.modSess (s : State) (f : Sess → Sess) : State := { s with fw := { sess := s.fw.sess.map f } }

/-- OPDATA of an IMAGE operation (Table 16.4). -/
def imgOp (session seg chunk part : Nat) (last : Bool) : List Byte :=
  [BitVec.ofNat 8 session, BitVec.ofNat 8 seg] ++ leBytes 2 chunk ++ [BitVec.ofNat 8 (part % 8), BitVec.ofNat 8 (b2n last)]

/-- An IMAGE operation to a neighbour (R449). -/
def State.imgRequest (s : State) (hub : Nat) (op d : List Byte) : State :=
  s.request { reqPkt 5 hub 0 0 d.length d with opdata := op } 2

/-- The answer to an IMAGE operation goes back by the port it came on (R449: one link at a time). -/
def State.imgAnswer (s : State) (n : Nat) (q : CtlPkt) (status : Nat) : State := s.ctlOut n (q.answer s.hubId status [])

/-- The hub at the other end of downstream port n: routed there, one link deeper. -/
def State.childOn (s : State) (n : Nat) : Option Nat :=
  (List.range 255).find? fun j => s.get (ROUTE.ROUTE j) == 4 + n && s.get (ROUTE.DEPTH j) == s.get CHIP_ROLE.DEPTH + 1

/-- Hub j is in a target map. -/
def inMap (t : List Byte) (j : Nat) : Bool := bit (byteAt t (j / 8)) (j % 8)

/-- The downstream ports that R22 names for at least one other target (R450). -/
def State.forwardPorts (s : State) (t : List Byte) : List Nat :=
  s.downPorts.filter fun n => (List.range 255).any fun j => inMap t j && j != s.hubId && s.routeTo j == some n

def State.bootedBank (s : State) : Nat := s.get BOOT_STAT.BOOTED_BANK
def State.otherBank (s : State) : Nat := 1 - s.bootedBank

-- Refusals (R447) ----------------------------------------------------------------------------------------------------

/-- The reason and chunk are recorded and UPDATE_REFUSED is raised. -/
def State.recordRefusal (s : State) (reason chunk : Nat) : State :=
  (s.set UPD_REFUSE.REASON reason |>.set UPD_REFUSE.CHUNK chunk).raise EV.updateRefused

/-- ABORT goes to every child the image was forwarded to. -/
def State.abortKids (s : State) : State :=
  match s.fw.sess with
  | none => s
  | some x => x.kids.foldl (fun t (k : Kid) => t.imgRequest k.hub (imgOp (s.get UPD_STAT.SESSION) 2 0 0 false) []) s

/-- The session ends with ABORT to the children, in STATE st. -/
def State.endSess (s : State) (st : Nat) : State := { s.abortKids.set UPD_STAT.STATE st with fw := { sess := none } }

/-- The image of the session is refused. -/
def State.refuseImage (s : State) (reason chunk : Nat) : State := (s.recordRefusal reason chunk).endSess 5

/-- A branch ends (R450): FAILED, the child's id, FORWARD_FAIL. -/
def State.branchFail (s : State) (k : Kid) : State :=
  ((s.modSess fun x => { x with kids := x.kids.filter fun j => j.port != k.port }).setBitOf UPD_FWD.FAILED k.port true
    |>.set UPD_REFUSE.SRC_HUB k.hub).raise EV.forwardFail

-- Forwarding and the staging buffer (R449, R450) ---------------------------------------------------------------------

/-- Chunk c goes to a child in segments. -/
def State.sendChunk (s : State) (hub c : Nat) (d : List Byte) : State :=
  let m := ceilDiv d.length 8192
  (List.range m).foldl (fun t k =>
    t.imgRequest hub (imgOp (s.get UPD_STAT.SESSION) 1 c k (k + 1 == m)) ((d.drop (8192 * k)).take 8192)) s

/-- Every child with fewer than 2 chunks unanswered is sent its next one. -/
def State.pumpKids (s : State) (x : Sess) : State :=
  x.kids.foldl (fun t (k : Kid) =>
    match x.buffer.find? k.sent with
    | some d =>
      if k.sent < k.acked + 2 then
        (t.sendChunk k.hub k.sent d).modSess fun y =>
          { y with kids := y.kids.map fun j => if j.port = k.port then { j with sent := j.sent + 1 } else j }
      else t
    | none => t) s

/-- A chunk leaves the buffer once it is written, in a target, and answered by every child. -/
def Sess.free (x : Sess) : Sess :=
  { x with buffer := x.buffer.filter fun b =>
      (x.target && decide (x.written ≤ b.1)) || x.kids.any fun k => decide (k.acked ≤ b.1) }

def segChunk (q : CtlPkt) : Nat := leNat (byteSlice q.opdata 2 2)
def segPart (q : CtlPkt) : Nat := byteAt q.opdata 4 % 8
def segLast (q : CtlPkt) : Bool := bit (byteAt q.opdata 5) 0

/-- The next chunk to take, once it is whole: from the host's memory in the Root, else from its segments. -/
def Sess.whole (x : Sess) : Option (List Byte) :=
  let c := x.taken
  if hCount x.header ≤ c then none
  else if x.src ≠ [] then some ((x.src.drop (65536 * c)).take (hChunkLen x.header c))
  else match x.waits.find? fun w => segChunk w.2 == c with
    | none => none
    | some w =>
      let ps := (List.range (segPart w.2 + 1)).map fun k => x.parts.find? (8 * c + k)
      if ps.all Option.isSome then some (ps.flatMap fun p => p.getD []) else none

/-- A whole chunk is checked and taken (R449): its LAST segment is answered OK, or DENIED with the image refused. -/
def State.takeChunk (s : State) (x : Sess) (d : List Byte) : State :=
  let c := x.taken
  let r := chunkCheck x.header x.table c d
  let mine := x.waits.filter fun w => segChunk w.2 == c
  let s1 := mine.foldl (fun t w => t.imgAnswer w.1 w.2 (if r = 0 then 0 else 14)) (s.count (srcSignal 23 2) 1)
  if r ≠ 0 then s1.refuseImage r c
  else
    (s1.modSess fun y => { y with
      taken := c + 1, table := if c = 0 then d else y.table, buffer := y.buffer.put c d,
      parts := y.parts.filter fun p => decide (8 * (c + 1) ≤ p.1), waits := y.waits.filter fun w => segChunk w.2 != c })
    |>.set UPD_STAT.CHUNKS_DONE (c + 1) |>.when (x.target && c + 1 == hCount x.header) fun t => t.set UPD_STAT.STATE 3

/-- The session is over: every child has answered every chunk and a target's image is staged. -/
def Sess.over (x : Sess) : Bool :=
  let m := hCount x.header
  x.taken == m && x.kids.all (fun k => k.acked == m) && (!x.target || x.staged)

/-- Chunks go out, leave the buffer and come in, until nothing more can move. -/
def State.settle : Nat → State → State
  | 0, s => s
  | f + 1, s =>
    match s.fw.sess with
    | none => s
    | some x0 =>
      let s1 := (s.pumpKids x0).modSess Sess.free
      match s1.fw.sess with
      | none => s1
      | some x =>
        if x.over then { s1 with fw := { sess := none } }.when (!x.target) fun t => t.set UPD_STAT.STATE 0
        else if 4 ≤ x.buffer.length then s1
        else match x.whole with
          | some d => (s1.takeChunk x d).settle f
          | none => s1

-- Opening a session (R446 to R448) -----------------------------------------------------------------------------------

/-- The first reason to refuse a header here, 0 for none. -/
def State.openReason (s : State) (t h k : List Byte) : Nat :=
  let me := inMap t s.hubId
  let c := s.headerCheck (!me) h k
  if s.fw.sess.isSome then 11
  else if c ≠ 0 then c
  else if (s.forwardPorts t).any fun n => s.flag (WLT_PCS_STAT.COMPAT n) then 14
  else if me && (s.flag BOOT_STAT.FLASHLESS || !s.nv.flash.fitted) then 13
  else 0

/-- What UPD_STAT, UPD_TARGET and UPD_FWD show of the session's header. -/
def State.showSession (s : State) (id : Nat) (t h : List Byte) (ports : List Nat) : State :=
  (s.set UPD_STAT.SESSION id |>.set UPD_STAT.KIND (hKind h) |>.setFlag UPD_STAT.TARGET (inMap t s.hubId)
    |>.setFlag UPD_STAT.RELAY (!ports.isEmpty) |>.set UPD_STAT.CHUNKS_DONE 0 |>.set UPD_STAT.CHUNKS_TOTAL (hCount h)
    |>.set UPD_FWD.PORTS (ports.foldl setBit 0) |>.set UPD_FWD.FAILED 0).setWords UPD_TARGET.IDS 0 (words32 8 t)

/-- The slot that a target writes is made invalid (R451 step 1). -/
def State.eraseSlot (s : State) (b k : Nat) : State :=
  ((s.putSlot b k { s.slotOf b k with header := [], keyBlk := [] }).set (bankValid b) 0).showBank b

/-- A header is checked; accepted, it is forwarded and the session runs. The answer is the reason, 0 when accepted. -/
def State.openSession (s : State) (id : Nat) (t h k src : List Byte) : State × Nat :=
  let r := s.openReason t h k
  if r = 11 then (s.recordRefusal 11 0, 11)
  else if r ≠ 0 then (((s.showSession id t h []).recordRefusal r 0).set UPD_STAT.STATE 5, r)
  else
    let ports := s.forwardPorts t
    let me := inMap t s.hubId
    let kids := ports.filterMap fun n => (s.childOn n).map fun c => (⟨n, c, 0, 0⟩ : Kid)
    let x : Sess := { header := h, keyBlk := k, targets := t, src := src, target := me, table := [], parts := [], waits := [],
                      buffer := [], taken := 0, written := 0, staged := false, kids := kids }
    let s1 := ((s.showSession id t h ports).set UPD_STAT.STATE 2).when me fun u => u.eraseSlot s.otherBank (hKind h)
    let s2 := kids.foldl (fun u (c : Kid) => u.imgRequest c.hub (imgOp id 0 0 0 false) (t ++ h ++ k))
      { s1 with fw := { sess := some x } }
    (s2.settle 64, 0)

-- Arrivals (R447, R449, R450) ----------------------------------------------------------------------------------------

/-- A HEAD: the same header again, of the session that runs, is answered OK and not checked again (log entry 60). -/
def State.imageHead (s : State) (n : Nat) (p : CtlPkt) : State :=
  let d := byteSlice p.data 0 6176
  let t := d.take 32
  let h := (d.drop 32).take 4096
  let k := d.drop 4128
  let same := match s.fw.sess with
    | some x => x.header == h && x.targets == t && byteAt p.opdata 0 == s.get UPD_STAT.SESSION
    | none => false
  if same then s.imgAnswer n p 0
  else
    let r := s.openSession (byteAt p.opdata 0) t h k []
    r.1.imgAnswer n p (if r.2 = 0 then 0 else 14)

/-- A helper record that a child sends (R425, R461): kept in a free place, or refused with FLASH. -/
def State.keepHelper (s : State) (n : Nat) (p : CtlPkt) : State :=
  let d := byteSlice p.data 0 2048
  let rest := s.nv.flash.foreign.filter fun r => byteSlice r 8 8 != byteSlice d 8 8
  if rest.length < 26 then (s.modFlash fun f => { f with foreign := rest ++ [d] }).imgAnswer n p 0
  else (s.recordRefusal 12 0).imgAnswer n p 14

/-- A DATA segment. -/
def State.imageData (s : State) (n : Nat) (p : CtlPkt) : State :=
  let d := byteSlice p.data 0 p.bytes
  if s.downPorts.contains n ∧ byteSlice d 0 4 = ascii "PUFH" ∧ p.bytes = 2048 then s.keepHelper n p
  else match s.fw.sess with
    | none => s.imgAnswer n p 14
    | some x =>
      let c := segChunk p
      let key := 8 * c + segPart p
      if byteAt p.opdata 0 ≠ s.get UPD_STAT.SESSION ∨ hCount x.header ≤ c ∨ 8192 < p.bytes then s.imgAnswer n p 14
      else if c < x.taken then s.imgAnswer n p 0
      else if (x.parts.find? key).isSome then
        (if segLast p then s.imgAnswer n p 16 else s.imgAnswer n p 0)
      else
        let s1 := s.modSess fun y => { y with
          parts := y.parts.put key d, waits := if segLast p then y.waits ++ [(n, p)] else y.waits }
        (if segLast p then s1 else s1.imgAnswer n p 0).settle 64

/-- An ABORT from upstream: the session ends, FORWARD_FAIL names the sender, and it is forwarded. -/
def State.imageAbort (s : State) (n : Nat) (p : CtlPkt) : State :=
  let s1 := s.imgAnswer n p 0
  if s.fw.sess.isSome && byteAt p.opdata 0 == s.get UPD_STAT.SESSION then
    ((s1.set UPD_REFUSE.SRC_HUB p.src |>.set UPD_REFUSE.REASON 15).raise EV.forwardFail).endSess 6
  else s1

/-- The image of a kind that this hub runs from: its active bank, or what it fetched itself. -/
def State.ownImage (s : State) (k : Nat) : ImgSlot :=
  if s.flag BOOT_STAT.FLASHLESS then s.sec.ram.toList.getD k ImgSlot.reset else s.slotOf s.bootedBank k

/-- What a FETCH gets (R461): status, data, LAST. -/
def State.fetched (s : State) (p : CtlPkt) : Nat × List Byte × Bool :=
  let k := byteAt p.opdata 0
  let c := segChunk p
  let part := byteAt p.opdata 4
  if k = 3 then
    if c ≠ 0 ∨ part ≠ 0 then (13, [], false)
    else match s.nv.flash.foreign.find? fun r => byteSlice r 8 8 == byteSlice p.data 0 8 with
      | some r => (0, r, true)
      | none => (14, [], false)
  else
    let x := s.ownImage k
    if 2 < k ∨ x.header = [] then (13, [], false)
    else if c = 0xFFFF then (if part = 0 then (0, byteSlice (x.header ++ x.keyBlk) 0 6144, false) else (13, [], false))
    else
      let d := (x.chunks.find? c).getD []
      let m := ceilDiv d.length 8192
      if hCount x.header ≤ c ∨ m ≤ part then (13, [], false)
      else (0, (d.drop (8192 * part)).take 8192, part + 1 == m)

/-- A FETCH is answered by the port it came on; OPDATA is copied, with LAST set on a final segment. -/
def State.imageFetch (s : State) (n : Nat) (p : CtlPkt) : State :=
  let r := s.fetched p
  let op := byteSlice p.opdata 0 5 ++ [BitVec.ofNat 8 (byteAt p.opdata 5 ||| b2n r.2.2)]
  s.ctlOut n { p.answer s.hubId r.1 r.2.1 with opdata := op, bytes := r.2.1.length }

/-- An IMAGE operation that reaches its hub, by SEG; what a reserved SEG does is not stated: it is answered BAD_OP. -/
def State.imageOp (s : State) (n : Nat) (p : CtlPkt) : State :=
  match byteAt p.opdata 1 with
  | 0 => s.imageHead n p
  | 1 => s.imageData n p
  | 2 => s.imageAbort n p
  | 3 => s.imageFetch n p
  | _ => s.imgAnswer n p 4


/-- A child has answered a segment, or answered nothing within the retries: a status other than OK ends the branch. -/
def State.imageAnswered (s : State) (q : CtlPkt) (status : Nat) : State :=
  match s.fw.sess with
  | none => s
  | some x =>
    match x.kids.find? fun k => k.hub == q.dst with
    | none => s
    | some k =>
      if byteAt q.opdata 0 ≠ s.get UPD_STAT.SESSION then s
      else if status ≠ 0 then (s.branchFail k).settle 64
      else if byteAt q.opdata 1 = 1 ∧ segLast q then
        (s.modSess fun y => { y with
          kids := y.kids.map fun j => if j.port = k.port then { j with acked := j.acked + 1 } else j }).settle 64
      else s

/-- A child's session without a segment for 10 s is discarded (R450). -/
def execSessionIdleTimeout (s : State) : Out :=
  .next (if s.fw.sess.isSome && !s.isRoot then
    ({ s with fw := { sess := none } }.set UPD_STAT.STATE 6).raise EV.forwardFail else s)

-- Writing the slot (R451, R452) --------------------------------------------------------------------------------------

/-- The next chunk in the buffer is erased and programmed, or fails. -/
def execFlashChunkWritten (ok : Bool) (s : State) : Out :=
  match s.fw.sess with
  | none => .next s
  | some x =>
    match x.buffer.find? x.written with
    | none => .next s
    | some d =>
      if !x.target then .next s
      else if !ok then .next (s.refuseImage 12 x.written)
      else
        let b := s.otherBank
        let k := hKind x.header
        let slot := s.slotOf b k
        .next (((s.putSlot b k { slot with chunks := slot.chunks.put x.written d }).modSess fun y =>
          { y with written := y.written + 1 }).settle 64)

/-- Header and key block are programmed, the slot is read back and checked, the other kinds are copied and checked. ok: no
erase, program or read-back fails. -/
def execImageStaged (ok : Bool) (s : State) : Out :=
  match s.fw.sess with
  | none => .next s
  | some x =>
    if !x.target || x.staged || x.written != hCount x.header then .next s
    else
      let b := s.otherBank
      let k := hKind x.header
      let others := [0, 1, 2].filter (· != k)
      let slot : ImgSlot := { s.slotOf b k with header := x.header, keyBlk := x.keyBlk }
      let s1 := others.foldl (fun t j => t.putSlot b j (s.slotOf s.bootedBank j)) (s.putSlot b k slot)
      let good := ok && s1.slotGood k slot
        && others.all fun j => (s1.slotOf b j).header.isEmpty || s1.slotGood j (s1.slotOf b j)
      if !good then .next ((s1.eraseSlot b k).refuseImage 12 0)
      else
        .next ((((s1.setFlag (bankValid b) (!(s1.slotOf b 0).header.isEmpty)).showBank b).set UPD_STAT.STATE 4
          |>.modSess fun y => { y with staged := true }).raise EV.imageStaged |>.settle 64)

-- What the mailbox commands of Table 16.7 do: status and result bytes from byte 4 --------------------------------------

/-- FW_LOAD in the Root: dma is what the host's memory holds from the image's address on. -/
def State.fwLoad (s : State) (req dma : List Byte) : State × Nat × List Byte :=
  let bytes := leNat (byteSlice req 12 4)
  let img := dma.take bytes
  let h := byteSlice img 0 4096
  let short := decide (bytes < 6144 + hBodyLen h ∨ img.length < bytes)
  let r := if short ∧ s.fw.sess.isNone ∧ formatCheck h = 0 then
      (((s.showSession (byteAt req 0) (byteSlice req 16 32) h []).recordRefusal 2 0).set UPD_STAT.STATE 5, 2)
    else s.openSession (byteAt req 0) (byteSlice req 16 32) h (byteSlice img 4096 2048) (img.drop 6144)
  (r.1, if r.2 = 0 then 0 else 14, [BitVec.ofNat 8 r.2])

/-- Every rollback value in bank b meets the counters (R455). -/
def State.rollbackOk (s : State) (b : Nat) : Bool :=
  decide (s.rollBase ≤ hRollback (s.slotOf b 0).header) && [1, 2].all fun k =>
    (s.slotOf b k).header.isEmpty || decide (s.rollPolicy ≤ hRollback (s.slotOf b k).header)

/-- FW_ACTIVATE and FW_ROLLBACK for this hub (R455, R458): the reason, 0 when the activation waits to be applied. -/
def State.activateHere (s : State) (at_ : Bool) (epoch : Nat) : State × Nat :=
  if !s.flag (bankValid s.otherBank) then (s, 16)
  else if !s.rollbackOk s.otherBank then (s, 6)
  else (s.set UPD_ACT.PENDING 1 |>.setFlag UPD_ACT.AT at_ |>.set UPD_ACT_EPOCH.EPOCH epoch, 0)

/-- FW_ACTIVATE without a hub map. veto: the owner policy module refuses (R462). -/
def State.fwActivate (s : State) (req : List Byte) (veto : Bool) : State × Nat × List Byte :=
  if veto then (s, 14, [0, 0]) else
  let r := s.activateHere (bit (byteAt req 0) 0) (leNat (byteSlice req 4 4))
  (r.1, if r.2 = 0 then 0 else 14, [BitVec.ofNat 8 r.2, BitVec.ofNat 8 (b2n (r.2 == 0))])

/-- FW_COMMIT (R457): the fuse counters rise to the active bank's values. -/
def State.fwCommit (s : State) (veto : Bool) : State × Nat × List Byte :=
  let base := (s.slotOf s.bootedBank 0).header
  let pol := (s.slotOf s.bootedBank 1).header
  let s1 := if veto || s.flag BOOT_STAT.FLASHLESS then s else
    ((s.raiseRollback 0x18 (hRollback base)).when (!pol.isEmpty) fun t => t.raiseRollback 0x20 (hRollback pol)).showFuses
  (s1, if veto then 14 else 0, [0, BitVec.ofNat 8 s1.rollBase, BitVec.ofNat 8 s1.rollPolicy])

/-- A staged activation may still be cancelled: until 1,600 ticks before its epoch (R456). -/
def State.actCancels (s : State) : Bool :=
  s.flag UPD_ACT.PENDING && s.flag UPD_ACT.AT &&
    decide ((s.now : Int) + 1600 ≤ epochStart s.now (s.get UPD_ACT_EPOCH.EPOCH))

/-- FW_ABORT: the session ends, or a staged activation is cancelled. -/
def State.fwAbort (s : State) : State × Nat × List Byte :=
  if s.fw.sess.isSome then ((s.recordRefusal 15 0).endSess 6, 0, [0])
  else if s.actCancels then (s.set UPD_ACT.PENDING 0, 0, [0])
  else if s.flag UPD_ACT.PENDING then (s, 14, [0])
  else (s, 0, [0])

def State.fwStatus (s : State) : List Byte :=
  leBytes 4 (s.wordOf UPD_STAT.all) ++ leBytes 4 (s.wordOf UPD_REFUSE.all) ++ leBytes 4 (s.wordOf BOOT_STAT.all)

end Sys2Proof.Machine
end

