-- ==== Sys2Proof/Machine/Counters.lean ====
section
/-!
DEFINITION. Sys2Proof/Machine/Counters.lean: the counter collector: selections, quantities, snapshots, dump records, the slot
times of the attachments (chapter 17, R463 to R475).
-/
namespace Sys2Proof.Machine

def State.modCnt (s : State) (f : CntSt → CntSt) : State := { s with cnt := f s.cnt }

-- Selections (R464) --------------------------------------------------------------------------------------------------

/-- The selection word of counter 8 g + k after power-on. -/
def selReset (i : Nat) : Nat := selMode (i / 8) * 2 ^ 28 + selSrc (i / 8) (i % 8) * 2 ^ 20

/-- The selection in force. -/
def State.selOf (s : State) (i : Nat) : Nat := s.cnt.sel.getD i (selReset i)
def selM (w : Nat) : Nat := bits w 28 4
def selS (w : Nat) : Nat := bits w 20 8
def selN (w : Nat) : Nat := bits w 0 18

/-- Table 17.3 lists SIGNAL code c for group g. -/
def signalListed (g c : Nat) : Bool :=
  if g < 4 then decide (c < 8) else if g < 12 then decide (c < 3) else if g < 16 then decide (c < 16)
  else if g = 16 ∨ g = 21 then decide (c < 32) else if g = 19 then decide (c < 7) else if g = 20 then decide (c < 4)
  else decide (c < 3)

/-- The unit and category of a TOP_DOWN counter. -/
def topDown (g c : Nat) : Nat :=
  srcSlots (if g < 4 then 2 * g + c / 4 else 8 + 2 * (g - 4) + c / 4) (c % 4)

/-- The total that counter i counts under selection word w; none where it counts nothing. -/
def srcOf (i w : Nat) : Option Nat :=
  let g := i / 8
  let c := selS w
  match selM w with
  | 1 => some (srcEvent c)
  | 2 => if signalListed g c then some (srcSignal g c) else none
  | 3 => some (srcOcc i)
  | 4 => if g < 12 ∧ c < 8 then some (topDown g c) else none
  | _ => none

def State.rawOf (s : State) (i w : Nat) : Nat :=
  match srcOf i w with
  | some k => s.cnt.raw.getD k 0
  | none => 0

/-- Counter i, modulo 2^48 (R463). -/
def State.counter (s : State) (i : Nat) : Nat := (s.rawOf i (s.selOf i) - s.cnt.base.getD i 0) % 2 ^ 48

/-- Counter i starts from 0. -/
def State.restartCounter (s : State) (i : Nat) : State :=
  s.modCnt fun c => { c with base := c.base.setD i 0 (s.rawOf i (s.selOf i)) }

/-- The domain of a group's source (Table 17.1). -/
def groupDomain (g : Nat) : Nat :=
  if g < 4 then 6 + g else if g < 18 then 3 else if g < 22 then g - 8 else if g = 22 then 0 else 1

-- Quantities (Table 17.3) --------------------------------------------------------------------------------------------

def State.waitingIn (s : State) (a : Nat) : Nat := ((List.range 4).map (s.inHeld a)).sum
def State.waitingOut (s : State) (a : Nat) : Nat := ((List.range 4).map (s.egressFill a)).sum

/-- The quantity of OCCUPANCY code c of group g; none where Table 17.3 lists none. -/
def State.quantity (s : State) (g c : Nat) : Option Nat :=
  if g < 4 then
    match s.links.toList[g]? with
    | none => none
    | some l =>
      (match c with
       | 0 => some l.replay.length
       | 1 => some (l.replay.countP fun f => !f.acked)
       | 2 => some (s.waitingIn g)
       | 3 => some (s.waitingOut g)
       | _ => none)
  else if g < 12 then (match c with
    | 0 => some (s.waitingIn (g - 4))
    | 1 => some (s.waitingOut (g - 4))
    | _ => none)
  else if g < 16 then
    if c < 4 then some ((s.flows.waiting.filter fun p => p.ctx != 2048 && s.get (CTX0.HOME p.ctx) == 4 * (g - 12) + c).map
      fun p => p.pkt.n).sum
    else none
  else if g = 17 then (match c with
    | 0 => some ((List.range 8).map fun a => s.waitingIn a + s.waitingOut a).sum
    | 1 => some ((List.range 2048).countP fun i => s.flag (CTX5.ACTIVE i))
    | _ => none)
  else if g = 18 then if c = 0 then some ((s.flows.admitted.filter fun p => p.outAtt == 4).length + s.host.queue.length) else none
  else if g = 19 then if c = 0 then some (s.waitingIn 5) else none
  else if g = 20 then (match c with
    | 0 => some (s.linesHeld 0)
    | 1 => some (s.linesHeld 1)
    | _ => none)
  else if g = 21 then if c < 16 then some (s.bridge.queue.countP fun m => m.bus == c) else none
  else if g = 22 then if c = 0 then some (s.get MBX_STAT.QUEUED) else none
  else if g = 23 then if c = 0 then some (s.get CRY_STAT.WAITING) else none
  else none

/-- One lineage tick of the OCCUPANCY counters (R465); the counters of a domain that is off count nothing (R463). -/
def State.occTick (s : State) : State :=
  s.cnt.sel.foldl (fun t (x : Nat × Nat) =>
    if selM x.2 = 3 ∧ s.domainOn (groupDomain (x.1 / 8)) then
      match s.quantity (x.1 / 8) (selS x.2) with
      | some q => if selN x.2 < q then t.count (srcOcc x.1) 1 else t
      | none => t
    else t) s

-- Slot times of the attachments (R467, R469) -------------------------------------------------------------------------

/-- An empty cycle of a unit is STARVED_BACK: a packet waits there and is not taken, and the fabric clock runs. -/
def State.backHeld (s : State) (a d : Nat) : Bool :=
  !s.chip.gated &&
    (if d = 0 then s.flows.waiting.any fun p => p.inAtt == a
     else (s.flows.admitted ++ s.flows.held ++ s.flows.netq).any fun p => p.outAtt == a)

/-- Three fabric cycles pass at a unit: those its contents took, the rest empty. -/
def State.cycles (s : State) (a d : Nat) : State :=
  let u := 8 + 2 * a + d
  let n := s.cnt.lead.getD u 0
  let used := min n 3
  (s.modCnt fun c => { c with lead := c.lead.setD u 0 (n - used) }).count (srcSlots u (if s.backHeld a d then 3 else 2)) (3 - used)

/-- One lineage tick of the LAST domain's slot times. -/
def State.cycleTick (s : State) : State :=
  (List.range 8).foldl (fun t a => (t.cycles a 0).cycles a 1) s

-- Dump records (R474, R475) ------------------------------------------------------------------------------------------

/-- Groups whose source domain is off now. -/
def State.darkGroups (s : State) : Nat :=
  ((List.range 24).map fun g => b2n (!s.domainOn (groupDomain g)) * 2 ^ g).sum

/-- A record's bytes (Table 17.5). -/
def State.recordOf (s : State) (cause tag dark : Nat) (vals : List Nat) : List Byte :=
  let head := ascii "CNTD" ++ [1, BitVec.ofNat 8 s.hubId, BitVec.ofNat 8 cause, BitVec.ofNat 8 tag]
    ++ leBytes 4 (s.get CNT_SNAP_SEQ.SEQ) ++ leBytes 8 s.now ++ leBytes 4 (s.now / 51200) ++ leBytes 3 dark ++ [0]
    ++ leBytes 4 (s.get CNT_SEL_GEN.GEN) ++ List.replicate 32 0
  let body := head ++ vals.flatMap (leBytes 6)
    ++ (List.range 24).flatMap (fun u => leBytes 4 (s.cnt.pend.getD u 0))
    ++ (List.range 8).flatMap (fun w => leBytes 2 (s.get (WHLw_SIZE.P w)))
    ++ (List.range 8).flatMap (fun w => leBytes 2 (s.get (WHLw_LEND.POOL w)))
    ++ leBytes 4 (s.get CNT_RING_LOST.LOST) ++ List.replicate 184 0
  body ++ leBytes 4 (crc32 body)

/-- Records go to a ring in host memory: DEST in the Root only. -/
def State.hostRing (s : State) : Bool := s.flag CNT_CTRL.DEST && s.isRoot
def State.ringSize (s : State) : Nat := if s.hostRing then max 2 (s.get CNT_RING_SIZE.RECORDS) else 170

/-- The record being written is complete: entry HEAD, or dropped when the head would reach the tail or its DMA failed. -/
def State.writeDump (s0 : State) (dmaErr : Bool) : State :=
  match s0.cnt.record with
  | none => s0
  | some r =>
    let s1 := if s0.cnt.ringRestart then s0.set CNT_RING_HEAD.HEAD 0 |>.set CNT_RING_TAIL.TAIL 0 else s0
    let s := (s1.modCnt fun c => { c with record := none, ringRestart := false }).set CNT_STAT.WRITING 0
    let h := s.get CNT_RING_HEAD.HEAD
    let n := (h + 1) % s.ringSize
    if n = s.get CNT_RING_TAIL.TAIL ∨ (s.hostRing && dmaErr) then (s.incSat CNT_RING_LOST.LOST).raise EV.ringOverrun
    else
      let a := 64 * s.get CNT_RING_BASE_LO.ADDR + 2 ^ 32 * s.get CNT_RING_BASE_HI.ADDR
      let s2 := if s.hostRing then s.emit (.dma (a + 1536 * h) r) else s.setWords DUMP.DATA (384 * h) (words32 384 r)
      (s2.set CNT_RING_HEAD.HEAD n).raise EV.counterDump

def execDumpRecordWritten (dmaErr : Bool) (s : State) : Out := .next (s.writeDump dmaErr)

-- Snapshots (R466, R470 to R472) -------------------------------------------------------------------------------------

/-- Written selections come into force (R466): each counter restarts under its new selection and CNT_SEL_GEN gains one. -/
def State.applySels (s : State) : State :=
  (s.cnt.selPend.foldl (fun t (x : Nat × Nat) =>
    ((t.modCnt fun c => { c with sel := c.sel.setD x.1 (selReset x.1) x.2 }).restartCounter x.1).inc CNT_SEL_GEN.GEN) s).modCnt
    fun c => { c with selPend := [] }

/-- A snapshot at this tick: cause bits of Table 17.5, LATE among them, and the tag of a command. -/
def State.snapshot (s0 : State) (cause tag : Nat) : State :=
  let s := s0.writeDump false
  let vals := (List.range 192).map s.counter
  let s1 := ((List.range 192).foldl (fun t i =>
      t.set (CNT_VAL_LO.COUNT (i / 8) (i % 8)) (vals.getD i 0) |>.set (CNT_VAL_HI.COUNT (i / 8) (i % 8)) (vals.getD i 0 / 2 ^ 32)) s)
    |> fun t => (List.range 24).foldl (fun t u => t.set (CNT_PEND.SLOTS u) (s.cnt.pend.getD u 0)) t
  let s2 := (s1.inc CNT_SNAP_SEQ.SEQ).set64 CNT_SNAP_TIME_LO.TIME CNT_SNAP_TIME_HI.TIME s.now
  let sel := !s.cnt.selPend.isEmpty
  let s3 := s2.applySels
  let bits_ := cause + 8 * b2n s.cnt.gap + 16 * s.get CTM_STAT.FREE + 32 * b2n s.cnt.cleared + 64 * b2n sel
  let dark := s.cnt.dark ||| s.darkGroups
  let s4 := s3.modCnt fun c => { c with deferred := none, gap := false, dark := s.darkGroups }
  if s.flag CNT_CTRL.DUMP then
    (s4.modCnt fun c => { c with record := some (s4.recordOf bits_ tag dark vals), cleared := false }).set CNT_STAT.WRITING 1
  else s4

/-- The tick of the last snapshot; none before the first. -/
def State.lastSnap (s : State) : Option Nat :=
  if s.get CNT_SNAP_SEQ.SEQ = 0 then none else some (s.get64 CNT_SNAP_TIME_LO.TIME CNT_SNAP_TIME_HI.TIME)

/-- Less than 1,600 ticks have passed since the last snapshot (R471). -/
def State.tooSoon (s : State) : Bool :=
  match s.lastSnap with
  | some t => decide (t ≤ s.now ∧ s.now < t + 1600)
  | none => false

/-- A periodic snapshot falls due at this tick. -/
def State.periodDue (s : State) : Bool :=
  s.flag CNT_CTRL.PERIODIC && !s.frozen &&
    ((s.now : Int) - s.get64 CNT_ANCHOR_LO.ANCHOR CNT_ANCHOR_HI.ANCHOR) % (max 4000 (s.get CNT_PERIOD.TICKS) : Nat) == 0

/-- The armed AT snapshot falls due at this tick. -/
def State.atDue (s : State) : Bool :=
  match s.cnt.armed with
  | some (t, _) => t == s.now && !s.frozen
  | none => false

/-- The cause bits due at this tick: 1 PERIODIC, 2 COMMAND. -/
def State.dueCauses (s : State) : Nat :=
  if s.lastSnap = some s.now then 0 else b2n s.periodDue + 2 * b2n (s.atDue || s.cnt.go.isSome)

/-- The tag of the command due: GO before AT when both fall due. -/
def State.dueTag (s : State) : Nat :=
  match s.cnt.go, s.cnt.armed with
  | some t, _ => t
  | none, some (a, t) => if a = s.now then t else 0
  | none, none => 0

/-- The commands due at this tick are spent. -/
def State.spendDue (s : State) : State :=
  let at_ := s.atDue
  (s.modCnt fun c => { c with go := none, armed := if at_ then none else c.armed }).when at_ fun t => t.set CNT_STAT.AT_PENDING 0

/-- A snapshot that falls due, with its causes: taken now, or put off to 1,600 ticks after the last one (R471). -/
def State.takeOrDefer (s : State) (cause tag : Nat) : State :=
  if s.tooSoon then
    let d := s.cnt.deferred
    (s.modCnt fun c =>
      { c with deferred := some (match d with
                 | some (x, y) => (x ||| cause, if bit cause 1 then tag else y)
                 | none => (cause, tag)) }).when d.isSome fun t => t.incSat CNT_STAT.MERGED
  else s.snapshot cause tag

/-- Causes fall due: one snapshot with every cause bit, or put off (R471). -/
def State.takeDue (s : State) (cause tag : Nat) : State :=
  if cause = 0 then s else s.spendDue.takeOrDefer cause tag

def State.takeNow (s : State) : State := s.takeDue s.dueCauses s.dueTag

/-- The collector runs: its domain is on (Table 14.1). -/
def State.collects (s : State) : Bool := s.domainOn 3

def execSnapshotPeriodic (s : State) : Out := .next (if s.collects && s.periodDue then s.takeNow else s)
def execSnapshotAtDue (s : State) : Out := .next (if s.collects && s.atDue then s.takeNow else s)

/-- CNT_SNAP AT: chain time CNT_SNAP_T is armed in place of one that waits. -/
def State.snapAt (s : State) (tag : Nat) : State :=
  (s.modCnt fun c => { c with armed := some (s.get64 CNT_SNAP_T_LO.T CNT_SNAP_T_HI.T, tag % 256) }).set CNT_STAT.AT_PENDING 1
def execSnapshotAtCommand (tag : Nat) (s : State) : Out := .next (s.snapAt tag)

/-- The causes put off are taken, LATE. -/
def execSnapshotDeferred (s : State) : Out :=
  match s.cnt.deferred with
  | some (c, t) => .next (if s.collects && !s.tooSoon then s.snapshot (c ||| 4) t else s)
  | none => .next s

/-- A CLEAR at this tick (R472): a snapshot due at the tick has been taken first. -/
def State.clearDue (s : State) : State :=
  if s.cnt.clearing then
    ((List.range 192).foldl State.restartCounter s).modCnt fun c => { c with clearing := false, cleared := true }
  else s

/-- What a step has skipped, a period's instant or the armed AT time, gives one snapshot now, LATE (R48, R49, R471). -/
def State.lateSnap (s : State) (per at_ : Bool) : State :=
  let tag := if at_ then (s.cnt.armed.map Prod.snd).getD 0 else 0
  if !s.collects || (!per && !at_) then s
  else
    let s1 := (s.modCnt fun c => { c with armed := if at_ then none else c.armed }).when at_ fun t => t.set CNT_STAT.AT_PENDING 0
    s1.takeOrDefer (b2n per + 2 * b2n at_ + 4) tag

/-- A step has skipped an AT time or a period's instant (R471): the times from a to b (exclusive) were skipped. -/
def State.skippedSnap (s : State) (a b : Nat) : State :=
  let p := max 4000 (s.get CNT_PERIOD.TICKS)
  let z : Int := s.get64 CNT_ANCHOR_LO.ANCHOR CNT_ANCHOR_HI.ANCHOR
  let per := s.flag CNT_CTRL.PERIODIC && decide (((b : Int) - 1 - z) / (p : Int) > ((a : Int) - 1 - z) / (p : Int))
  let at_ := match s.cnt.armed with
    | some (t, _) => decide (a ≤ t ∧ t < b)
    | none => false
  s.lateSnap per at_

-- Writes -------------------------------------------------------------------------------------------------------------

/-- A write of CNT_CTRL: a write of DEST restarts the ring at the next record; CLEAR waits for the next tick. -/
def State.writeCntCtrl (s : State) (v : Nat) : State :=
  (s.writeRw CNT_CTRL.all v).modCnt fun c => { c with ringRestart := true, clearing := c.clearing || bit v 4 }

/-- A write of CNT_SNAP. -/
def State.writeCntSnap (s : State) (v : Nat) : State :=
  (s.when (bit v 0) fun t => t.modCnt fun c => { c with go := some (bits v 16 8) }).when (bit v 1) fun t => t.snapAt (bits v 16 8)

/-- A write of CNT_RING_SIZE. -/
def State.writeRingSize (s : State) (v : Nat) : State :=
  (s.set CNT_RING_SIZE.RECORDS v).modCnt fun c => { c with ringRestart := true }

/-- A write of CNTg_SELk waits for the next snapshot (R466). -/
def State.writeSel (s : State) (g k v : Nat) : State :=
  let w := v % 2 ^ 18 + 2 ^ 20 * (v / 2 ^ 20 % 2 ^ 12)
  (s.writeRw (CNT_SEL.all g k) v).modCnt fun c => { c with selPend := c.selPend.put (8 * g + k) w }

end Sys2Proof.Machine
end

