-- ==== Sys2Proof/Machine/Power.lean ====
section
/-!
DEFINITION. Sys2Proof/Machine/Power.lean: power-up and supply loss, domains, chip states, wakes and the supply point (chapters 14
and 19, R365, R390 to R407, R488 to R495).
-/
namespace Sys2Proof.Machine

def State.modChip (s : State) (f : ChipSt → ChipSt) : State := { s with chip := f s.chip }

-- Resets -------------------------------------------------------------------------------------------------------------

/-- Fields at window offsets from a up to b return to their reset values, but for those that keep names (R231, R392). -/
def State.clearFields (s : State) (a b : Nat) (keep : Nat → Bool) : State :=
  { s with regs := s.regs.filter fun r => r.1 < 8 * a || 8 * b ≤ r.1 || keep r.1 }

/-- The always-on lock bits, and the RWL fields of locked pages, by field key (R231). -/
def State.lockKept (s : State) (k : Nat) : Bool :=
  (s.ctl.locked.find? k).isSome || (k / 8 < 0x100000 && k / 8 % 0x1000 == 0x00C)

/-- The pages of domain d (Table 14.1). -/
def domainPages (d : Nat) : List Nat := (List.range 256).filter fun p => (pageInfo p).any fun i => i.domain == d

/-- The table windows of domain d, from and to (Tables 08.2 and 14.1). -/
def domainWindows (d : Nat) : List (Nat × Nat) :=
  if d = 3 then [(0x0100000, 0x0180000), (0x01A0000, 0x01A0400), (0x01C0000, 0x01E0000), (0x0200000, 0x0240000)]
  else if d = 13 then [(0x0180000, 0x01A0000), (0x01A8000, 0x01AC000)]
  else if d = 12 then [(0x01A4000, 0x01A8000)]
  else if d = 1 then [(0x01AC000, 0x01B0000)]
  else []

/-- The fields of domain d return to their reset values. -/
def State.clearDomain (s : State) (d : Nat) : State :=
  ((domainPages d).map (fun p => (p * 0x1000, p * 0x1000 + 0x1000)) ++ domainWindows d).foldl
    (fun (t : State) (w : Nat × Nat) => t.clearFields w.1 w.2 s.lockKept) s

def allPorts : List Port := [0, 1, 2, 3]
def allChans : List Chan := [0, 1, 2, 3, 4, 5]

/-- Main-die fields whose value after power-on differs in the Root (R9). -/
def rootMain : List Fld :=
  [CHIP_ROLE.DEPTH, CHIP_HUB_ID.HUB_ID, CTM_STAT.FREE, CTM_STAT.VALID] ++ (List.range 256).map EVC_MAP.MSG
def rootPower : List Fld :=
  EYE_WARN_CTRL.SRC :: (List.range 4).flatMap fun n => [CTP_CFG.WIRED_ROLE n, CTP_STAT.POWER_ROLE n]

/-- The retained settings of the SHELF domain (R330, R332). -/
def shelfFields : List Fld :=
  (List.range 4).flatMap fun n => [CTP_CFG.WIRED_ROLE n, CTP_CFG.LEVELS n, CTP_CFG.SWAP_OK n, CTP_CFG.CLASS n,
    CTP_CFG.CLASS_SET n]

/-- PWR is powered up. keep: the SHELF domain held its settings, latches, cool-downs and FET_FAIL marks (R330, R382). -/
def State.pwrUp (s : State) (root keep : Bool) : State :=
  let s1 := { s.clearFields 0xA0000 0xC0000 (fun _ => false) with ctp := CtpSt.reset, eye := EyeSt.reset }
  let s2 := rootPower.foldl (fun t f => t.set f (if root then f.rstRoot else f.rst)) s1
  if !keep then s2 else
  let s3 := shelfFields.foldl (fun t f => t.set f (s.get f)) s2
  let s4 := allPorts.foldl (fun (t : State) (n : Port) => t.set (CTP_STAT.POWER_ROLE n) (t.get (CTP_CFG.WIRED_ROLE n))) s3
  allChans.foldl (fun (t : State) (c : Chan) =>
    let cool := s.flag (EYE_CH_STAT.COOLING c)
    let st := s.get (EYE_CH_STAT.STATE c)
    (t.modChan c fun h => { h with latched := (s.chan c).latched, coolLeft := if cool then 100000 else 0 }).set
      (EYE_CH_STAT.STATE c) (if 4 ≤ st then st else 0) |>.set (EYE_CH_STAT.CAUSE c) (if st = 5 then 7 else 0)
      |>.setFlag (EYE_CH_STAT.COOLING c) cool |>.set (EYE_CH_COOL.LEFT c) (if cool then 100 else 0)
      |>.set (EYE_CH_STAT.PENDING c) (s.get (EYE_CH_STAT.PENDING c))) s4

/-- The main die is powered on (R1, R9, R12, R27, R502): every register at its value after power-on in the role of the strap; what
stands in fuses, boot flash and power die stays. -/
def State.mainUp (s : State) (x : Straps) : State :=
  let die := s.regs.filter fun r => 8 * 0xA0000 ≤ r.1 && r.1 < 8 * 0xC0000 && r.1 / 8 % 0x1000 != 0x00C
  let s1 : State := { State.reset with
    regs := die, pending := s.pending, out := s.out, freeCtr := s.freeCtr, nv := s.nv, ctp := s.ctp, eye := s.eye,
    chip := { s.chip with power := 3, avsNack := !x.avsAck, gated := false, timerAt := 0, domains := 0xFFFF, assist := (0, 0) } }
  let s2 := s1.set CHIP_ROLE.ROLE (b2n (!x.root)) |>.set CHIP_ROLE.STRAP_NOW (b2n (!x.root)) |>.set CLK_STAT.REFSEL x.refsel
    |>.setFlag CLK_STAT.NO_LOCAL_REF (x.refsel % 4 == 3 || !x.refin)
    |>.set KEY_STAT.DBG_LEVEL (if s.lc = 0 then 3 else 0)
  let s3 := s2.when x.root fun t => (t.resetFlds rootMain).setRoute 0 1 0
  allPorts.foldl (fun (t : State) (n : Port) =>
    if s.attached n then (t.modLane n fun l => { l with attach := true, partnerV1 := s.ctpV1 n }).showClass n else t)
    { s3 with clk := { s3.clk with refin := x.refin && x.refsel % 4 != 3 } }

-- Power-up (R365, R492 to R495) --------------------------------------------------------------------------------------

def State.railsUp (s : State) : State :=
  s.emits [.pin "RAIL_EN0" 1, .pin "RAIL_EN1" 1, .pin "RAIL_EN2" 1, .pin "RAIL_EN3" 1]
def State.railsDown (s : State) : State :=
  s.emits [.pin "RAIL_EN3" 0, .pin "RAIL_EN2" 0, .pin "RAIL_EN1" 0, .pin "RAIL_EN0" 0]

/-- Steps 2 to 4 of Table 19.8: E4 and E5 commanded on, the rails raised in order; with RAIL_PG high the main die starts. -/
def State.raiseRails (s : State) (x : Straps) (pg : Bool) : State :=
  let s1 := ((s.tryOn 4).tryOn 5).railsUp
  if pg then s1.mainUp x else s1.modChip fun c => { c with power := 2 }

/-- VSTBY has come, or a Shelf exit begins (R402, R493): pg says whether RAIL_PG is high within 20 ms. -/
def execVstbyPowerUp (x : Straps) (pg : Bool) (s : State) : Out :=
  .next <|
    if s.chip.power = 0 then
      ((s.pwrUp x.root false).modChip fun c => { c with attempts := 1, wake := none, seen := 0, replay := false }).raiseRails x pg
    else if s.chip.power = 1 ∧ s.chip.wake.isSome then
      let t := ((s.pwrUp x.root true).modChip fun c => { c with attempts := 1 }).raiseRails x pg
      if t.chip.power = 3 then allPorts.foldl (fun (u : State) (n : Port) => u.modLink n fun l => { l with noResume := true }) t
      else t
    else s

/-- The shelf takes over (R401, R494): every channel off as commanded, contracts discarded, PWR and the rails off. -/
def State.toShelf (s : State) : State :=
  let s1 := allChans.foldl (fun (t : State) (c : Chan) => t.chanOff c) s
  let s2 := allPorts.foldl (fun (t : State) (n : Port) =>
    let w := (t.ctpP n).wired
    (((t.powerOff n).when w.isSome fun u => u.set (CTP_CFG.WIRED_ROLE n) (w.getD 0)).set (CTP_STAT.STATE n) 0).modLane n
      fun l => { l with attach := false, partnerV1 := false }) s1
  ({ s2.railsDown with ctp := CtpSt.reset, mem := [] }.modChip fun c => { c with power := 1, gated := false, assist := (0, 0) }).set
    PWRD_STATE.STATE 4 |>.set PWRD_STATE.ENTERING 0 |>.set PWRD_STATE.EXITING 0 |>.set PWRD_DOMAIN_STAT.POWERED 0x4000
    |>.set PWRD_AVS.VDD_MV 0 |>.set PWRD_AVS.VSRAM_MV 0 |>.set PWRD_AVS.BIAS 0

/-- RAIL_PG was not high in time (R494): the rails drop and after 1 s the next attempt starts; after three, Shelf until the next
wake. -/
def execRailPgTimeout (x : Straps) (pg : Bool) (s : State) : Out :=
  .next <|
    if s.chip.power ≠ 2 then s
    else if 3 ≤ s.chip.attempts then s.toShelf.modChip fun c => { c with wake := none, seen := 0, replay := false }
    else (s.railsDown.modChip fun c => { c with attempts := c.attempts + 1 }).raiseRails x pg

/-- VSTBY is gone (R495): gates to their sources, rails down, nothing holds a setting (R330). -/
def execVstbyLoss (s : State) : Out :=
  let t := (allChans.foldl (fun (u : State) (c : Chan) => u.chanOff c) s).railsDown
  .next ({ State.reset with
    pending := t.pending, out := t.out, freeCtr := t.freeCtr, nv := t.nv,
    chip := { ChipSt.reset with power := 0, domains := 0 } }.set PWRD_DOMAIN_STAT.POWERED 0)

/-- RAIL_PG has been low for 10 µs in Run, Doze or Retain (R401, R495). -/
def execRailPgLoss (s : State) : Out :=
  .next (if s.chip.power = 3 ∧ s.get PWRD_STATE.STATE ≤ 2 then
    s.toShelf.modChip fun c => { c with wake := none, seen := 0, replay := false } else s)

/-- The start path starts an unpowered hub (R365): E0 stays open until the Awl commands it. -/
def execDeadBatteryStart (x : Straps) (s : State) : Out :=
  .next <|
    if s.chip.power ≠ 0 then s else
    let t := (s.pwrUp x.root false).set (EYE_CH_CTRL.ON 0) 0
    ({ t with ctp := { t.ctp with dbPath := true } }.modChip fun c =>
      { c with attempts := 1, wake := none, seen := 0, replay := false }).raiseRails x true

-- Domains (R390 to R393) ---------------------------------------------------------------------------------------------

/-- Domains that PWRD_DOMAIN_CTRL switches (R391). -/
def State.switchable (s : State) (d : Nat) : Bool :=
  decide (4 ≤ d ∧ d ≤ 9) || decide (11 ≤ d ∧ d ≤ 13) || (d == 10 && !s.isRoot)

/-- Every field o of the pages of domain d takes v. -/
def State.setPages (s : State) (d : Nat) (f : Nat → Fld) (v : Nat) : State :=
  (domainPages d).foldl (fun t p => t.set (f p) v) s

/-- The packets for attachment a are discarded, WASTED (Table 14.2). -/
def State.wasteTo (s : State) (a : Nat) : State :=
  ((s.flows.admitted ++ s.flows.held ++ s.flows.netq).filter fun p => p.outAtt == a && p.ctx != 2048).foldl State.wasteAdmitted s

/-- The operations that wait at the heads are discarded, WASTED (R286, Table 14.2). -/
def State.wasteOps (s : State) : State :=
  let n := ((s.disp.heads.toList.flatMap fun d => d.waits).map fun o => o.pkt.n).sum
  { s.slots (unitOut 6) 1 n with disp := { s.disp with heads := s.disp.heads.map fun d => { d with waits := [], pend := none, busy := none } } }

/-- Every bridge is as after power-up: queued messages, schedule queue and semaphore holdings are lost (Table 14.2). -/
def State.bridgesOff (s : State) : State := { s with bridge := BridgeSt.reset }

/-- The PTP map set is as after power-up (R274). -/
def State.ptpOff (s : State) : State := s.modHost fun h => { h with ptpWritten := [0, 0, 0, 0, 0, 0], ptpStaged := none }

/-- What a domain's isolation does to its blocks (Table 14.2). -/
def State.domainOff (s : State) (d : Nat) : State :=
  if d = 4 ∨ d = 5 then s.bankDown (d - 4)
  else if h : 6 ≤ d ∧ d < 10 then
    let n : Port := ⟨d - 6, by omega⟩
    ((if s.flag (WLT_LINK_STAT.ADMITTED n) then s.dropLink n 2 else s).lanesOff n).modLink n LinkPort.fresh
  else if d = 10 then s.when (!s.isRoot) fun t => t.emits [.pin "PCIE_RP0_PERST_N" 0, .pin "PCIE_RP1_PERST_N" 0]
  else if d = 11 then
    (((s.ethDown 0).ethDown 1).wasteTo 5).ptpOff
  else if d = 12 then (((s.headEnable 0 false).headEnable 1 false).wasteTo 6).wasteOps
  else if d = 13 then (s.wasteTo 7).bridgesOff
  else s

/-- Domain d loses its supply: DOMAIN_OFF and no work accepted, isolation, power off (R392). Its events read 0 (R234). -/
def State.powerDown (s : State) (d : Nat) : State :=
  let s1 := ((s.setPages d BLK_STAT.DOMAIN_OFF 1).domainOff d).setPages d BLK_STAT.READY 0
  ((s1.setPages d EVT_RAW 0).setBitOf PWRD_DOMAIN_STAT.POWERED d false).modCnt fun c =>
    { c with dark := c.dark ||| ((List.range 24).map fun g => b2n (groupDomain g == d) * 2 ^ g).sum }

/-- Domain d is powered up (R392): its fields stand at reset, but for the RWL fields of locked pages; a bank is cleared (R278); a
port's held session is kept (Table 14.2); the banks' own states stay when DISP comes up (R222). -/
def State.powerUp (s : State) (d : Nat) : State :=
  let held (n : Nat) := s.get (WLT_LINK_STAT.HELD n)
  let s1 := (s.clearDomain d).setBitOf PWRD_DOMAIN_STAT.POWERED d true |>.setBitOf PWRD_DOMAIN_STAT.FAULT d false
  let banks (t : State) : State := FST_STAT.all.foldl (fun u f => u.set f (s.get f)) t
  if d = 4 ∨ d = 5 then s1.bankUp (d - 4) false
  else if h : 6 ≤ d ∧ d < 10 then
    let n : Port := ⟨d - 6, by omega⟩
    (s1.set (WLT_LINK_STAT.HELD n) (held n)).modLane n fun l => { LanePort.reset with attach := l.attach, partnerV1 := l.partnerV1 }
  else if d = 10 then { s1 with host := { HostSt.reset with ptpWritten := s1.host.ptpWritten, ptpStaged := s1.host.ptpStaged } }
  else if d = 11 then s1.ptpOff
  else if d = 12 then banks { s1 with disp := { s1.disp with heads := DispSt.reset.heads } }
  else if d = 13 then s1.bridgesOff
  else s1

/-- The domain has finished its start-up: READY; a port's lanes train (R64); a bank that has come up with the main die is zeroed
(R278). -/
def State.domainReady (s : State) (d : Nat) : State :=
  let s1 := s.setPages d BLK_STAT.READY 1
  if d = 4 ∨ d = 5 then (if s1.flag (bankOn (d - 4)) then s1 else s1.bankUp (d - 4) false)
  else if h : 6 ≤ d ∧ d < 10 then
    let n : Port := ⟨d - 6, by omega⟩
    let t := s1.showClass n
    if t.get (WLT_PCS_STAT.TRAIN_STATE n) = 0 then t.bringUp n else t
  else s1

/-- Step 2 of R392: domain d is isolated and powered down. -/
def State.isolate (s : State) (d : Nat) : State :=
  (s.modChip fun c => { c with offAt := c.offAt.del d }).when (s.domainOn d) fun t => t.powerDown d

/-- A write of PWRD_DOMAIN_CTRL clears bit d (R391, R392): DOMAIN_OFF is set, and isolation follows after 10 µs. -/
def State.switchOff (s : State) (d : Nat) : State :=
  if !s.switchable d then s else
  let s1 := s.setBitOf PWRD_DOMAIN_CTRL.ON d false
  if s.domainOn d && (s.chip.offAt.find? d).isNone then
    (s1.setPages d BLK_STAT.DOMAIN_OFF 1).modChip fun c => { c with offAt := c.offAt.put d (s.uptime + 4000) }
  else s1

/-- A write of PWRD_DOMAIN_CTRL sets bit d (R391 to R393); a switching-off that still runs is completed first. -/
def State.switchOn (s : State) (d : Nat) : State :=
  if !s.switchable d || bit (s.get PWRD_DOMAIN_CTRL.ON) d then s else
  ((s.isolate d).setBitOf PWRD_DOMAIN_CTRL.ON d true).powerUp d

/-- The domains whose 10 µs are over are isolated. -/
def State.offTick (s : State) : State :=
  (s.chip.offAt.filter fun x => decide (x.2 ≤ s.uptime)).foldl (fun t x => t.isolate x.1) s

/-- A domain is switched off whole: its blocks are idle at once, so that isolation does not wait for the 10 µs (R392; log entry 46). -/
def execDomainSwitchOff (d : Fin 16) (s : State) : Out :=
  .next ((s.switchOff d).when (s.switchable d) fun t => t.isolate d)
def execDomainSwitchOn (d : Fin 16) (s : State) : Out := .next (s.switchOn d)

def execDomainReady (d : Fin 16) (s : State) : Out :=
  .next (if s.domainOn d && (s.chip.offAt.find? d).isNone then s.domainReady d else s)

/-- A write of PWRD_DOMAIN_CTRL, bit by bit. -/
def State.writeDomains (s : State) (v : Nat) : State :=
  (List.range 16).foldl (fun t d => if bit v d then t.switchOn d else t.switchOff d) s

/-- A domain's rail has lost power-good (R393). A fault of domains 0 to 3 restarts the main die as at power-on; whether the ROLE strap
is then sampled again is not stated, and the model keeps the role already latched (R1; log entry 74). -/
def execDomainFault (d : Fin 16) (s : State) : Out :=
  .next <|
    if !s.domainOn d then s
    else if d.val < 4 then
      s.mainUp ⟨s.isRoot, s.get CLK_STAT.REFSEL, s.clk.refin, !s.chip.avsNack⟩
    else if s.switchable d then
      ((s.powerDown d).setBitOf PWRD_DOMAIN_STAT.FAULT d true).raise EV.domainFault
    else s

-- Chip states (R394 to R402) -----------------------------------------------------------------------------------------

/-- PWRD_STATE_REQ is refused with a code of Table 14.4. -/
def State.stateRefused (s : State) (code : Nat) : State := s.set PWRD_STATE.RESULT code

/-- The hub leaves Doze: the request is activity (R395, R396). -/
def State.leaveDoze (s : State) : State :=
  if s.get PWRD_STATE.STATE = 1 then
    (s.set PWRD_STATE.STATE 0 |>.set PWRD_STATE.LAST_LOW 1).modChip fun c => { c with gated := false }
  else s

/-- No request is acted on while an entry or exit runs, or while a regulator does not acknowledge (R395, R492). -/
def State.stateBusy (s : State) : Bool := s.flag PWRD_STATE.ENTERING || s.flag PWRD_STATE.EXITING || s.chip.avsNack

/-- A request that is not refused at once, from Run. -/
def State.request14 (s : State) (refusal : State → Nat) (act : State → State) : State :=
  let s1 := s.leaveDoze
  if s1.stateBusy then s1.stateRefused 1
  else if s1.get PWRD_STATE.STATE ≠ 0 then s1
  else if refusal s1 ≠ 0 then s1.stateRefused (refusal s1)
  else act (s1.set PWRD_STATE.RESULT 0)

/-- Refusals 4 and 5 of Table 14.4. -/
def State.refuseHold (s : State) : Nat :=
  if s.isRoot && s.flag PCIE_STAT.PERST then 4 else if !s.isRoot && s.flag CLK_STAT.NO_LOCAL_REF then 5 else 0

def State.reqRun (s : State) : State := s.request14 (fun _ => 0) id
def State.reqDoze (s : State) : State := s.request14 (fun _ => 0) fun t => t.set PWRD_STATE.STATE 1

/-- The admitted ports. -/
def State.admittedPorts (s : State) : List Port := allPorts.filter fun n => s.flag (WLT_LINK_STAT.ADMITTED n)
def portMask (l : List Port) : Nat := (l.map fun (n : Port) => 2 ^ n.val).sum

/-- A PME_Turn_Off message. -/
def pmeTurnOffTlp : List Byte := [0x33, 0, 0, 0, 0, 0, 0, 0x19] ++ List.replicate 8 0

/-- Step 1 of Table 14.5. -/
def State.enterRetain (s : State) : State :=
  let s1 := ((((s.ethDown 0).ethDown 1).headEnable 0 false).headEnable 1 false).when (!s.isRoot) fun t =>
    t.emits [.tlp 0 pmeTurnOffTlp, .tlp 1 pmeTurnOffTlp]
  (s1.admittedPorts.foldl State.writeSleepReq s1).set PWRD_STATE.ENTERING 1 |>.modChip fun c =>
    { c with wake := none, seen := 0, replay := false }

/-- Retain: a port in compatibility mode, then the refusals of Hold (Table 14.4). -/
def State.reqRetain (s : State) : State :=
  let compat (t : State) := t.admittedPorts.filter fun (n : Port) => t.flag (WLT_PCS_STAT.COMPAT n)
  let t := s.request14 (fun t => if !(compat t).isEmpty then 3 else t.refuseHold) State.enterRetain
  t.when (!t.flag PWRD_STATE.ENTERING && t.get PWRD_STATE.RESULT == 3) fun u => u.set PWRD_STATE.AWAKE_PORTS (portMask (compat u))

/-- A wake source is armed and works in the state (Table 14.10). -/
def State.wakes (s : State) (st src : Nat) : Bool :=
  bit (s.get PWRD_WAKE_EN.EN) src && decide (src < 10) &&
    (if st = 4 then src == 4 || src == 9 else src != 6 || s.isRoot)

/-- A wake during an entry into st is latched, the first one as the start of the exit (R407). -/
def State.latchWake (s : State) (st src cfg : Nat) : State :=
  if s.wakes st src then
    s.modChip fun c => { c with wake := c.wake.or (some (src, cfg)), seen := setBit c.seen src }
  else s

/-- What the keeper and the exit need of the moment of entry (R400, R403). -/
def State.keepEntry (s : State) : State :=
  s.modChip fun c => { c with domains := s.get PWRD_DOMAIN_STAT.POWERED, t0 := s.now,
                              avs := (s.get PWRD_AVS.VDD_MV, s.get PWRD_AVS.VSRAM_MV, s.get PWRD_AVS.BIAS),
                              assist := (0, 0), assistAt := c.assist }

/-- The adapters' packets are discarded, their slots WASTED (R397). -/
def State.wasteAdapters (s : State) : State :=
  let w := s.flows.waiting.filter fun p => 4 ≤ p.inAtt
  let a := (s.flows.admitted.filter fun p => 4 ≤ p.outAtt) ++ s.flows.held ++ s.flows.netq
  let s1 := (a.foldl State.wasteAdmitted (w.foldl State.wasteWaiting s)).wasteOps
  { s1 with flows := { s1.flows with waiting := s1.flows.waiting.filter (fun p => decide (p.inAtt < 4)), held := [],
                                     backlog := [], netq := [] } }

/-- Steps 3 and 4 of Table 14.5: every admitted port sleeps; the adapters' packets go, the keeper takes over, the logic is
off. The events of the pages whose domain goes off read 0 from now on (R234). -/
def execRetainPortsSlept (s : State) : Out :=
  if !s.flag PWRD_STATE.ENTERING || !(s.admittedPorts.all fun n => s.get (WLT_PCS_STAT.TRAIN_STATE n) == 6) then .next s else
  let s1 := s.wasteAdapters.keepEntry
  let s2 := ([4, 5].filter fun d => s1.domainOn d && !(if d = 4 then s1.flag PWRD_CTRL.RET_FSA else s1.flag PWRD_CTRL.RET_FSB)).foldl
    (fun t d => (t.bankDown (d - 4)).setPages d EVT_RAW 0) s1
  let s3 := [10, 11, 12, 13].foldl (fun t d => t.setPages d EVT_RAW 0) s2
  .next ((s3.bridgesOff.set PWRD_STATE.ENTERING 0 |>.set PWRD_STATE.STATE 2
    |>.set PWRD_DOMAIN_STAT.POWERED 0xC001 |>.set PWRD_AVS.VDD_MV 0 |>.set PWRD_AVS.VSRAM_MV 550
    |>.set PWRD_AVS.BIAS (ofInt 8 (-30))).emits [.pin "RAIL_EN1" 0, .pin "VSRAM_RET" 1])

/-- The ports have not all slept within 1 ms (Table 14.5): refused, the ports that slept wake, what was stopped goes on, latched
wakes are forgotten (R407). -/
def execRetainSleepTimeout (s : State) : Out :=
  if !s.flag PWRD_STATE.ENTERING then .next s else
  let awake := s.admittedPorts.filter fun (n : Port) => s.get (WLT_PCS_STAT.TRAIN_STATE n) != 6
  let s1 := s.set PWRD_STATE.ENTERING 0 |>.set PWRD_STATE.RESULT 3 |>.set PWRD_STATE.AWAKE_PORTS (portMask awake)
    |>.modChip fun c => { c with wake := none, seen := 0 }
  let s2 := s1.admittedPorts.foldl (fun (t : State) (n : Port) =>
    if t.get (WLT_PCS_STAT.TRAIN_STATE n) = 6 then t.sendTack n
    else (t.modLink n fun l => { l with sleepWant := false, lstateTx := if l.lstateTx = 3 then 0 else l.lstateTx }).modLane n
      fun l => { l with tackLatched := false }) s1
  .next (([0, 1] : List Head).foldl (fun (t : State) (h : Head) =>
    if t.flag (BLK_CTRL.ENABLE (State.headPage h)) then t.headEnable h true else t) s2)

/-- The supply point of entry is back (Tables 14.6, 14.7). -/
def State.supplyBack (s : State) : State :=
  (s.set PWRD_DOMAIN_STAT.POWERED s.chip.domains |>.set PWRD_AVS.VDD_MV s.chip.avs.1
    |>.set PWRD_AVS.VSRAM_MV s.chip.avs.2.1 |>.set PWRD_AVS.BIAS s.chip.avs.2.2).modChip fun c => { c with assist := c.assistAt }

/-- Hold (R400): chain time in the keeper, every main-die domain but AON switched off under R392, so that links go down with reason
LANES and a spoke's root ports are in reset (Table 14.2). AON keeps its pages, the root key, the chunk-table hash, the page locks and the password's failure count (R231, R400, R441). -/
def State.enterHold (s : State) : State :=
  let s0 := s.keepEntry
  let s1 := ((List.range 14).filter fun d => d != 0 && s0.domainOn d).foldl State.powerDown s0
  let s2 := s1.when (!s1.isRoot && s1.flag CLK_STAT.LOCKED) State.enterHoldover
  let keep (k : Nat) : Bool :=
    let p := k / 8 / 0x1000
    p == 0 || (2 ≤ p && p ≤ 5) || (0xA0 ≤ p && p < 0xC0) || (0x240 ≤ p && p < 0x242) || s2.lockKept k
      || k == KEY_STAT.PWD_FAILS.key || k == KEY_STAT.PWD_LOCKED.key
  let t : State := { State.reset with
    regs := s2.regs.filter fun r => keep r.1
    pending := s2.pending, out := s2.out, freeCtr := s2.freeCtr, nv := s2.nv, ctp := s2.ctp, eye := s2.eye, chip := s2.chip
    uptime := s2.uptime, time := s2.time, clk := { s2.clk with rejoin := false, relocked := false }
    chain := { ChainSt.reset with hold0 := s2.chain.hold0, parentIdent := s2.chain.parentIdent }
    ctl := { CtlSt.reset with evLog := s2.ctl.evLog, timers := s2.ctl.timers, armings := s2.ctl.armings,
                              raised := s2.ctl.raised, nextTag := s2.ctl.nextTag, spent := s2.ctl.spent,
                              locked := s2.ctl.locked }
    sec := { SecSt.reset with root := s2.sec.root, tableHash := s2.sec.tableHash, regenOff := s2.sec.regenOff,
                              slotsGone := s2.sec.slotsGone, pwdUntil := s2.sec.pwdUntil }
    lanes := s2.lanes.map fun l => { LanePort.reset with attach := l.attach, partnerV1 := l.partnerV1 }
    links := s2.links.map fun l => { LinkPort.reset with prevIdent := l.prevIdent, prevFar := l.prevFar, noResume := true } }
  (t.set PWRD_STATE.STATE 3 |>.set PWRD_DOMAIN_STAT.POWERED 0xC001 |>.set PWRD_AVS.VDD_MV 0 |>.set PWRD_AVS.VSRAM_MV 0
    |>.set PWRD_AVS.BIAS 0).railsDown

/-- Wakes that arrive during an entry that one command carries out, in order (R407). -/
def State.latchWakes (s : State) (st : Nat) (l : List (Nat × Nat)) : State :=
  l.foldl (fun t w => t.latchWake st w.1 w.2) (s.modChip fun c => { c with wake := none, seen := 0, replay := false })

def State.reqHold (s : State) (wakes : List (Nat × Nat)) : State :=
  s.request14 State.refuseHold fun t => (t.latchWakes 3 wakes).enterHold
def State.reqShelf (s : State) (vstby : Bool) (wakes : List (Nat × Nat)) : State :=
  s.request14 (fun _ => if vstby then 0 else 6) fun t => (t.latchWakes 4 wakes).toShelf

def execStateReqRun (s : State) : Out := .next s.reqRun
def execStateReqDoze (s : State) : Out := .next s.reqDoze
def execStateReqRetain (s : State) : Out := .next s.reqRetain
def execStateReqHold (wakes : List (Nat × Nat)) (s : State) : Out := .next (s.reqHold wakes)
def execStateReqShelf (vstby : Bool) (wakes : List (Nat × Nat)) (s : State) : Out := .next (s.reqShelf vstby wakes)

/-- A write of PWRD_STATE_REQ (R395). -/
def State.writeStateReq (s : State) (v : Nat) : State :=
  match bits v 0 3 with
  | 0 => s.reqRun
  | 1 => s.reqDoze
  | 2 => s.reqRetain
  | 3 => s.reqHold []
  | 4 => s.reqShelf true []
  | _ => s.request14 (fun _ => 2) id

-- Doze (R396) --------------------------------------------------------------------------------------------------------

def execDozeClockGate (s : State) : Out :=
  .next (if s.get PWRD_STATE.STATE = 1 ∧ s.flows.waiting.isEmpty ∧ s.flows.admitted.isEmpty ∧ s.flows.held.isEmpty ∧ s.flows.netq.isEmpty
      ∧ (s.disp.heads.toList.all fun d => d.waits.isEmpty) then
    s.modChip fun c => { c with gated := true } else s)
def execDozeClockUngate (s : State) : Out := .next (s.modChip fun c => { c with gated := false })

-- Exits (R399 to R404, R406, R407) -----------------------------------------------------------------------------------

/-- PWRD_WAKE_SRC and the end of an exit from state frm (Tables 14.6 to 14.8). -/
def State.wakeDone (s : State) (frm : Nat) : State :=
  match s.chip.wake with
  | none => s
  | some (src, cfg) =>
    (s.set PWRD_WAKE_SRC.FIRST src |>.set PWRD_WAKE_SRC.CFG_PORT (if src = 4 then cfg else 0) |>.set PWRD_WAKE_SRC.FROM frm
      |>.set PWRD_WAKE_SRC.SEEN s.chip.seen |>.setFlag PWRD_WAKE_SRC.REPLAYED s.chip.replay |>.set PWRD_STATE.LAST_LOW frm
      |>.set PWRD_STATE.STATE 0 |>.set PWRD_STATE.EXITING 0 |>.when s.chip.replay fun t => t.raise EV.wakeReplayed).modChip
      fun c => { c with wake := none, seen := 0, replay := false }

/-- Chain time comes back from the keeper (R403): T0 + round(N × K) and the ticks of the exit; FREE in a spoke. -/
def State.keeperResume (s : State) (w : Wake) : State :=
  let gone := (2 * w.cycles * w.ratio + 65536) / 131072 + w.ticks
  let ms := w.cycles * 1000 / 32768
  ({ s with uptime := s.uptime + gone, time := { s.time with ticks := (s.chip.t0 + gone) % 2 ^ 64 } }.modCnt fun c =>
    { c with gap := true }).set CTM_STAT.FREE (b2n (!s.isRoot)) |>.set PWRD_LOW_MS.MS (min ms (2 ^ 32 - 1))

/-- Sources that fire during the exit are noted (R407). -/
def State.noteAlso (s : State) (st : Nat) (also : Nat) : State :=
  (List.range 10).foldl (fun t b => if bit also b && t.wakes st b then t.modChip fun c => { c with seen := setBit c.seen b } else t) s

/-- Retain exit (Table 14.6): supplies and chain time back, the slept ports woken by Tack, the adapters as after power-up. -/
def State.exitRetain (s : State) (w : Wake) : State :=
  let on d := bit s.chip.domains d
  let s1 := ((s.keeperResume w).noteAlso 2 w.also).supplyBack
    |>.emits [.pin "VSRAM_RET" 0, .pin "RAIL_EN1" 1]
  let s2 := ([10, 11, 12, 13].filter on).foldl (fun t d => (t.powerUp d).domainReady d) s1
  let s3 := ([4, 5].filter fun d => on d && !(if d = 4 then s2.flag PWRD_CTRL.RET_FSA else s2.flag PWRD_CTRL.RET_FSB)).foldl
    (fun t d => t.bankUp (d - 4) false) s2
  let src := (s.chip.wake.map Prod.fst).getD 10
  let s4 := allPorts.foldl (fun (t : State) (n : Port) =>
    if t.get (WLT_PCS_STAT.TRAIN_STATE n) ≠ 6 then t
    else if src = n.val ∨ (t.lane n).tackLatched then
      ((t.modLane n fun l => { l with tackLatched := false }).wakeLanes n).raise (EV.tackSeen n)
    else t.sendTack n) s3
  s4.wakeDone 2

/-- Hold exit, steps 1 to 3 of Table 14.7; step 4 is the restart path (R414). Debug is closed (R442). -/
def State.exitHold (s : State) (w : Wake) : State :=
  let s1 := ((s.keeperResume w).noteAlso 3 w.also).supplyBack
    |>.set PWRD_STATE.EXITING 1 |>.set KEY_STAT.DBG_LEVEL (if s.lc = 0 then 3 else 0)
  let s2 := ([4, 5].filter fun d => bit s.chip.domains d).foldl (fun t d => t.bankUp (d - 4) false) s1
  let s3 := (List.range 14).foldl (fun t d =>
    if bit s.chip.domains d then t.setPages d BLK_STAT.READY 1 else t.setPages d BLK_STAT.DOMAIN_OFF 1) s2
  (s3.when (s3.hubId != 255) fun t => t.setRoute t.hubId 1 (t.get CHIP_ROLE.DEPTH)).railsUp

/-- An exit from the state the hub is in; a Shelf exit goes on with VSTBY_POWER_UP. -/
def State.exitLow (s : State) (w : Wake) : State :=
  if s.chip.power = 1 then s.noteAlso 4 w.also
  else if s.get PWRD_STATE.STATE = 2 then s.exitRetain w
  else if s.get PWRD_STATE.STATE = 3 then s.exitHold w
  else s

/-- A wake source fires (R406, R407): it starts the exit, is latched in an entry, or only noted in an exit. -/
def State.chipWake (s : State) (w : Wake) : State :=
  let st := s.get PWRD_STATE.STATE
  if s.flag PWRD_STATE.ENTERING then s.latchWake 2 w.src w.cfg
  else if s.chip.wake.isSome then (if s.wakes st w.src then s.modChip fun c => { c with seen := setBit c.seen w.src } else s)
  else if 2 ≤ st ∧ s.wakes st w.src then
    (s.modChip fun c => { c with wake := some (w.src, w.cfg) }).exitLow w
  else s

/-- What the keeper and the exit read at a wake from the hub's own rows: how long the hub was in its low state, and what fires while it
comes back, no state names, so these are free values (log entry 2). -/
def State.freeWake (s : State) (src cfg : Nat) : Wake :=
  let v k := Config.freeNat (s.freeCtr + k)
  ⟨src, cfg, v 0, v 1, v 2, v 3⟩

/-- The wake source src fires, at the port cfg. -/
def State.wakeBy (s : State) (src cfg : Nat) : State := ({ s with freeCtr := s.freeCtr + 4 }).chipWake (s.freeWake src cfg)

/-- The entry has completed with a wake latched: the exit begins at once (R407). -/
def execWakeReplayed (w : Wake) (s : State) : Out :=
  .next (if s.chip.wake.isSome && !s.flag PWRD_STATE.ENTERING && !s.flag PWRD_STATE.EXITING && decide (2 ≤ s.get PWRD_STATE.STATE)
      && !s.chip.replay then
    (s.modChip fun c => { c with replay := true }).exitLow w else s)

/-- PWRD_TIMER expires: the TIMER wake (Table 14.10). -/
def execWakeTimerExpiry (w : Wake) (s : State) : Out :=
  .next (if s.chip.timerAt = 0 then s else
    (s.modChip fun c => { c with timerAt := 0 }).set PWRD_TIMER.MS 0 |>.chipWake { w with src := 8 })

/-- A write of PWRD_TIMER: MS until TIMER wakes, 0 disarms. -/
def State.writeTimer (s : State) (v : Nat) : State :=
  let ms := bits v 0 24
  (s.set PWRD_TIMER.MS ms).modChip fun c => { c with timerAt := if ms = 0 then 0 else s.uptime + 400000 * ms }

/-- PWRD_TIMER as read: ms remaining. -/
def State.timerLeft (s : State) : Nat := if s.chip.timerAt = 0 then 0 else ceilDiv (s.chip.timerAt - s.uptime) 400000

-- Supply point (R405, R492) ------------------------------------------------------------------------------------------

/-- VSRAM, bias and SRAM assist of the row of Table 14.9 that VDD_CORE lies in. -/
def avsRow (mv : Nat) : Nat × Int × Nat × Nat :=
  if mv ≤ 700 then (750, 10, 0, 60) else if mv ≤ 780 then (800, 0, 20, 40) else (850, -10, 40, 20)

/-- The supply point as the registers show it. -/
def State.setAvs (s : State) (mv : Nat) : State :=
  let row := avsRow mv
  (s.set PWRD_AVS.VDD_MV mv |>.set PWRD_AVS.VSRAM_MV row.1 |>.set PWRD_AVS.BIAS (ofInt 8 row.2.1)).modChip fun c =>
    { c with assist := row.2.2 }

/-- VOUT_COMMAND to the VDD_CORE and the VSRAM regulator (R492): the row's set point first when the point rises, last when it falls
(R405). -/
def State.avsWrites (s : State) (mv : Nat) : State :=
  let vdd : Emit := .pmbus 0x40 0x21 mv
  let sram : Emit := .pmbus 0x41 0x21 (avsRow mv).1
  s.emits (if s.get PWRD_AVS.VDD_MV ≤ mv then [sram, vdd] else [vdd, sram])

/-- The speed monitors ask for mv; without acknowledge VDD_CORE is held at 0.80 V and every state request is BUSY. -/
def execAvsAdjust (mv : Nat) (ack : Bool) (s : State) : Out :=
  .next <|
    if 2 ≤ s.get PWRD_STATE.STATE ∨ mv < 650 ∨ 850 < mv ∨ mv % 5 ≠ 0 ∨ s.chip.avsNack then s
    else if ack then (s.avsWrites mv).setAvs mv
    else ((s.avsWrites mv).setAvs 800).modChip fun c => { c with avsNack := true }

end Sys2Proof.Machine
end

