-- ==== Sys2Proof/Machine/Access.lean ====
section
/-!
DEFINITION. Sys2Proof/Machine/Access.lean: reads and writes of one word of the control window: ranges, page headers, locks, dark
pages, volatile pages, and what a write starts (chapter 08, R224 to R235, R504; R9, R478, R479, R481).
-/
namespace Sys2Proof.Machine

-- Ranges (Tables 08.1, 08.2, 14.1) -----------------------------------------------------------------------------------

/-- Where the ranges of Tables 08.1 and 08.2 begin. -/
def rangeStarts : List Nat :=
  [0x0000000, 0x0100000, 0x0180000, 0x01A0000, 0x01A0400, 0x01A4000, 0x01A8000, 0x01AC000, 0x01B0000, 0x01C0000, 0x01E0000,
   0x0200000, 0x0240000, 0x0242000, 0x0400000, 0x1000000, 0x2000000, 0x3000000, 0x4000000]

/-- The number of the range that offset a lies in. -/
def rangeOf (a : Nat) : Nat := (rangeStarts.filter fun b => decide (b ≤ a)).length

/-- Ranges that are reserved or read-only: a write there raises ACCESS_ERR (R227). -/
def noWrite (a : Nat) : Bool :=
  decide ((0x01A0400 ≤ a ∧ a < 0x01A4000) ∨ (0x01B0000 ≤ a ∧ a < 0x01C0000) ∨ (0x01E0000 ≤ a ∧ a < 0x0200000)
    ∨ (0x0240000 ≤ a ∧ a < 0x1000000) ∨ 0x3000000 ≤ a)

/-- The domain of a table window or frame-store bank (Table 14.1). -/
def windowDomain (a : Nat) : Nat :=
  if 0x0180000 ≤ a ∧ a < 0x01A0000 ∨ 0x01A8000 ≤ a ∧ a < 0x01AC000 then 13
  else if 0x01A4000 ≤ a ∧ a < 0x01A8000 then 12
  else if 0x01AC000 ≤ a ∧ a < 0x01B0000 then 1
  else if a < 0x0240000 then 3
  else if a < 0x0242000 then 0
  else if a < 0x2000000 then 4 else 5

/-- A power-die page (R2). -/
def powerDie (p : Nat) : Bool := decide (0xA0 ≤ p ∧ p < 0xC0)

/-- The master that key and crypto registers see (R430): every access through the control window is HOST. -/
def srcMaster : Src → Nat
  | .awlSecure => 0
  | .awlNormal => 1
  | _ => 2

def fromAwl : Src → Bool
  | .awlSecure | .awlNormal => true
  | _ => false

/-- Offsets that Normal-world code cannot write (R436): the pages FUSE, BOOT, UPD and DBG and the KEY_PROV window. -/
def barredNormal (a : Nat) : Bool :=
  let p := a / 0x1000
  p == 0x01 || (decide (0xE0 ≤ p ∧ p < 0x100)) || decide (0xC1400 ≤ a ∧ a < 0xC14D0)

/-- The bits of v for the byte enables be, the others from old. -/
def mergeBe (old be v : Nat) : Nat :=
  ((List.range 4).map fun j => (if bit be j then bits v (8 * j) 8 else bits old (8 * j) 8) * 2 ^ (8 * j)).sum

-- Reads (R226, R227, R230, R233, R235, R481) -------------------------------------------------------------------------

/-- Page p takes part in reads and writes: listed, and for a DBG page opened (R478, R481). -/
def State.pageOpen (s : State) (p : Nat) : Bool :=
  (pageInfo p).isSome && (decide (p < 0xF0) || decide (dbgPageLevel p ≤ s.dbgLevel))

/-- The header of a page (Table 08.3). -/
def State.readHeader (s : State) (p o : Nat) (i : PageInfo) : Nat :=
  if o = 0x000 then i.typ * 0x10000 + i.inst * 0x100 + i.page
  else if o = 0x004 then 0x01000000
  else if o = 0x008 then i.domain * 0x100 + 4 * b2n (s.domainOn i.domain) + 2 * b2n i.lockable + b2n i.volatile
  else if o = 0x00C then b2n (s.locked p)
  else if o = 0x010 ∨ o = 0x018 ∨ o = 0x01C then s.get (EVT_RAW p)
  else if o = 0x014 then s.get (EVT_EN p)
  else if o = 0x020 then s.get (BLK_CTRL.ENABLE p)
  else if o = 0x024 then s.get (BLK_STAT.READY p) + 2 * s.get (BLK_STAT.FAULT p) + 4 * s.get (BLK_STAT.DOMAIN_OFF p)
  else 0

def portOf (n : Nat) : Port := ⟨n % 4, by omega⟩
def headOf (n : Nat) : Head := ⟨n % 2, by omega⟩
def chanOf (n : Nat) : Chan := ⟨n % 6, by omega⟩

/-- The word of the margin scan while it counts (R86): the running count in its low bits. -/
def State.counting (s : State) (p o : Nat) : Option Nat :=
  let n := portOf ((p - 0x10) / 8)
  let a := p * 0x1000 + o
  if a = (WLT_EYE_STAT.MISMATCH n).addr && s.flag (WLT_EYE_STAT.BUSY n) then some 29 else none

/-- The word at page p, offset o, of an open page whose domain is on; words that show what the hub computes are computed. -/
def State.readPage (s : State) (p o : Nat) (i : PageInfo) : Nat :=
  let a := p * 0x1000 + o
  if o < 0x040 then s.readHeader p o i
  else if a = WHL_EPOCH.EPOCH.addr then s.epochNow % 2 ^ 32
  else if a = PCIE_ID.VENDOR.addr then Config.pcieVendor % 2 ^ 16 + s.get PCIE_ID.DEVICE * 2 ^ PCIE_ID.DEVICE.lo
  else if a = KEY_DBG_WAIT.MS.addr then ceilDiv (s.sec.pwdUntil - s.uptime) 400000
  else if a = PWRD_TIMER.MS.addr then s.timerLeft % 2 ^ 24
  else match s.counting p o with
    | some b => s.wordOf (pageWord p o) / 2 ^ b * 2 ^ b + Config.bitErrors a s.uptime % 2 ^ b
    | none => s.wordOf (pageWord p o)

/-- The page a pop window stands in reads one entry fewer (R235): MBX_LOG_POP, the receive FIFOs of CANn and UARTn. -/
def State.pop (s : State) (p : Nat) : State × Nat :=
  if p = 0x06 then
    match s.ctl.awlLog with
    | [] => (s, 0)
    | e :: t => ({ s with ctl := { s.ctl with awlLog := t } }, 2 ^ 31 + e % 2 ^ 31)
  else if 0x90 ≤ p ∧ p < 0x94 then s.popCan (p - 0x90)
  else if 0x98 ≤ p ∧ p < 0x9C then s.popUart (p - 0x98)
  else (s, 0)

/-- The offset of a pop window (Table 08.4). -/
def isPop (a : Nat) : Bool :=
  a == 0x06048 || (a % 0x1000 == 0x04C && decide ((0x90 ≤ a / 0x1000 ∧ a / 0x1000 < 0x94) ∨ (0x98 ≤ a / 0x1000 ∧ a / 0x1000 < 0x9C)))

/-- Word k of the RLB state of context i (R142): 0 where the context has none. -/
def State.rlbWord (s : State) (i k : Nat) : Nat :=
  match s.flows.rlbIn.find? i, s.flows.rlbOut.find? i with
  | none, none => 0
  | _, _ =>
    let x := s.rlbInOf i
    let y := s.rlbOutOf i
    Config.rlbWord k [x.nextSeq, x.kept.length, x.timeout, y.ackSeq, y.unacked] % 2 ^ 32

/-- A read of the aligned word at window offset a: the state after it (only a pop changes it) and the value. -/
def State.readWord (s : State) (a : Nat) : State × Nat :=
  if a < 0x0100000 then
    let p := a / 0x1000
    let o := a % 0x1000
    match pageInfo p with
    | none => (s, 0)
    | some i =>
      if !s.pageOpen p then (s, 0)
      else if !s.domainOn i.domain then (s, if o = 0 ∨ o = 8 then s.readHeader p o i else 0)
      else if isPop a then s.pop p
      else (s, s.readPage p o i)
  else if 0x1000000 ≤ a ∧ a < 0x3000000 then
    (s, if s.domainOn (windowDomain a) then leNat ((List.range 4).map fun j => s.fstRead (a - fstBase + j)) else 0)
  else if noWrite a && !(decide (0x0240000 ≤ a ∧ a < 0x0242000)) then (s, 0)
  else if 0x0100000 ≤ a ∧ a < 0x0180000 ∧ 0x80 ≤ a % 0x100 ∧ a % 0x100 < 0xC0 then
    (s, if s.domainOn (windowDomain a) then s.rlbWord ((a - 0x0100000) / 0x100) (a % 0x100 / 4 - 32) else 0)
  else (s, if s.domainOn (windowDomain a) then s.wordOf (windowWord a) else 0)

-- Page header writes -------------------------------------------------------------------------------------------------

/-- Every field of page p from offset 0x040 on. -/
def pageFields (p : Nat) : List Fld := (List.range 1008).flatMap fun k => pageWord p (0x040 + 4 * k)

/-- PAGE_LOCK (R231): the key locks a lockable page; the values of its RWL fields are those they return to. -/
def State.pageLock (s : State) (p v : Nat) : State :=
  match pageInfo p with
  | none => s
  | some i =>
    if v ≠ 0x4C4B ∨ !i.lockable ∨ s.locked p then s
    else
      let held := ((pageFields p).filter fun f => f.acc == .rwl).foldl (fun t f => Tbl.put t f.key (s.get f)) s.ctl.locked
      ({ s with ctl := { s.ctl with locked := held } }).set (PAGE_LOCK.LOCKED p) 1

/-- How many events page p carries (Table 08.6). -/
def eventsOf (p : Nat) : Nat := ((List.find? (fun (x : Nat × Nat) => x.1 == p) evPages).map Prod.snd).getD 0

/-- EVT_EN (R240): setting a bit whose RAW bit is set arms the event's vector. -/
def State.evtEnable (s : State) (p v : Nat) : State :=
  ((List.range (eventsOf p)).filter fun b => bit v b && !bit (s.get (EVT_EN p)) b && bit (s.get (EVT_RAW p)) b).foldl
    (fun t b => (t.noteNew (evFirst p + b)).arm (t.get (EVC_MAP.VECTOR (evFirst p + b)))) (s.set (EVT_EN p) v)

/-- EVT_CLR (R240): the named RAW bits clear. -/
def State.evtClear (s : State) (p v : Nat) : State :=
  s.set (EVT_RAW p) ((List.range 32).foldl (fun x b => if bit v b then clrBit x b else x) (s.get (EVT_RAW p)))

/-- EVT_SET (R230): with debug open, the named events are raised as the hardware would. -/
def State.evtSet (s : State) (p v : Nat) : State :=
  if s.dbgLevel = 0 then s else
  ((List.range (eventsOf p)).filter fun b => bit v b).foldl (fun t b => t.raise ⟨p, b⟩) s

/-- EVC_SOFT (R240): Awl masters raise software events. -/
def State.evcSoft (s : State) (src : Src) (v : Nat) : State :=
  if fromAwl src then ((List.range 16).filter fun b => bit v b).foldl (fun t b => t.raise ⟨0x05, b⟩) s else s

-- Doorbell (R246) ----------------------------------------------------------------------------------------------------

/-- A mailbox command as accepted. -/
def mbxNew (cmd tag : Nat) (req : List Byte) (remote : Option (Nat × CtlPkt)) : MbxCmd :=
  { cmd := cmd, tag := tag, req := byteSlice req 0 64, remote := remote, dma := [], fail := false, todo := [], tags := [],
    got := [], result := none, begun := false, steps := [], fate := 0 }

/-- MBX_STAT.QUEUED counts the remote operations that wait or run (R247). -/
def State.putQueue (s : State) (q : List MbxCmd) : State :=
  ({ s with ctl := { s.ctl with mbxQueue := q } }).set MBX_STAT.QUEUED (q.filter fun (c : MbxCmd) => c.remote.isSome).length

/-- A write of MBX_DOORBELL (R246, R249). -/
def State.ring (s : State) (cmd tag : Nat) : State :=
  if cmd % 2 ^ 16 = 0 then s
  else if s.flag MBX_STAT.BUSY then s.incSat MBX_STAT.LOST
  else
    (((s.resAccept resMBX).set MBX_STAT.BUSY 1).putQueue
      (s.ctl.mbxQueue ++ [mbxNew (cmd % 2 ^ 16) (tag % 256) (s.windowBytes MBX_REQ.DATA 16) none])).count (srcSignal 22 2) 1

-- Field writes -------------------------------------------------------------------------------------------------------

/-- The bits of field f in the word v. -/
def fieldOf (f : Fld) (v : Nat) : Nat := bits v f.lo f.w

/-- The RW fields of a word take their bits, and its RWL fields when the page is not locked; those of skip act elsewhere. -/
def State.plain (s : State) (p : Nat) (fs skip : List Fld) (v : Nat) : State :=
  (fs.filter fun f => !skip.any fun g => g.key == f.key).foldl (fun t f =>
    match f.acc with
    | .rw => t.set f (fieldOf f v)
    | .rwl => if s.locked p then t else t.set f (fieldOf f v)
    | _ => t) s

/-- Lane checkers turned on by a write start their counts afresh; whether they find the pattern is what the lane brings: a free
value (R84, log entry 2). -/
def State.checkersOn (s : State) (n old : Nat) : State :=
  ((List.range 4).filter fun k => bit (s.get (WLT_TEST_CTRL.CHK_EN n)) k && !bit old k).foldl
    (fun t k => (t.checkerOn n k (t.free % 2 == 1)).useFree) s

/-- DFE_FREEZE set by a write holds the lane's DFE where it has adapted to, a free value (R68, log entry 2). -/
def State.freezeDfe (s : State) (n k : Nat) (was : Bool) : State :=
  s.when (s.flag (WLT_LANE_CTRL.DFE_FREEZE n k) && !was) fun t =>
    (t.modLane (portOf n) fun l => { l with dfe := l.dfe.set k t.free }).useFree

/-- Writes of the pages of port n (chapters 03 and 04). -/
def State.writeWelt (s : State) (p a v : Nat) (fs : List Fld) : State :=
  let n := portOf ((p - 0x10) / 8)
  if a = (WLT_PCS_CTRL.TEST n).addr then
    let s1 := s.plain p fs [WLT_PCS_CTRL.TEST n] v
    let s2 := if (fieldOf (WLT_PCS_CTRL.TEST n) v) = s.get (WLT_PCS_CTRL.TEST n) then s1
      else s1.writeTest n ((fieldOf (WLT_PCS_CTRL.TEST n) v) == 1)
    s2.when ((fieldOf (WLT_PCS_CTRL.RETRAIN n) v) == 1) fun t => t.retrain n
  else if a = (WLT_CABLE.CLASS n).addr then
    let s1 := s.plain p fs [] v
    (s1.set (CTP_CFG.CLASS n) (s1.get (WLT_CABLE.CLASS n))).set (CTP_CFG.CLASS_SET n) (s1.get (WLT_CABLE.CLASS_SET n))
  else if a = (WLT_TEST_CTRL.CHK_EN n).addr then
    let old := s.get (WLT_TEST_CTRL.CHK_EN n)
    ((s.plain p fs [] v).checkersOn n old).showTest n
  else if (List.range 4).any fun k => a == (WLT_LANE_CTRL.TX_OVR n k).addr then
    laneList.foldl (fun t k => (t.showClamp n k).freezeDfe n k (s.flag (WLT_LANE_CTRL.DFE_FREEZE n k))) (s.plain p fs [] v)
  else if a = (WLT_EYE_CTRL.GO n).addr then (s.plain p fs [] v).when ((fieldOf (WLT_EYE_CTRL.GO n) v) == 1) fun t => t.eyeGo n
  else if a = (WLT_LINK_CTRL.SLEEP_REQ n).addr then
    (s.plain p fs [] v).when ((fieldOf (WLT_LINK_CTRL.SLEEP_REQ n) v) == 1) fun t => t.writeSleepReq n
  else s.plain p fs [] v

/-- Writes of the pages of the Last, the engines and the wheels (chapters 05, 06, 07). -/
def State.writeCore (s : State) (p a v : Nat) (fs : List Fld) : State :=
  if a = LST_CTX_CMD.OP.addr then s.ctxCmd v
  else if a = LST_PART_CTRL.APPLY.addr then s.when ((fieldOf LST_PART_CTRL.APPLY v) == 1) State.applyParts
  else if a = LST_BUF_PLAN.PLAN.addr then (if s.flag LST_BUF_PLAN.LATCHED then s else s.plain p fs [] v)
  else if 0x40 ≤ p ∧ p < 0x50 ∧ a = (FE_CTRL.FENCE (p - 0x40)).addr then
    s.when ((fieldOf (FE_CTRL.FENCE (p - 0x40)) v) == 1) fun t => t.fence (p - 0x40) 4 [] 0
  else if a = WHL_COMMIT.OP.addr then s.whlCommit v
  else if a = WHL_CTRL.COPY.addr then (s.plain p fs [] v).copyMaps (fieldOf WHL_CTRL.COPY v)
  else s.plain p fs [] v

/-- The words of the PTP map set, which are written to the staged copy (R274). -/
def ptpWords : List Nat :=
  [PTP_ANCHOR_EPOCH.EPOCH.addr, PTP_ANCHOR_NS.NS.addr, PTP_ANCHOR_SEC_LO.SEC.addr, PTP_ANCHOR_SEC_HI.SEC.addr, PTP_ADJ.ADJ.addr,
   PTP_APPLY.EPOCH.addr]

/-- Writes of the host and network pages (chapter 09). -/
def State.writeNet (s : State) (p a v : Nat) (fs : List Fld) : State :=
  if p < 0x70 then
    (if a = (PCIE_RP_CTRL.PERST 0).addr then s.writeRpCtrl 0 v
     else if a = (PCIE_RP_CTRL.PERST 1).addr then s.writeRpCtrl 1 v
     else s.plain p fs [] v).refreshEnds
  else if a = (ETH_CTRL.MODE 0).addr then s.writeEthCtrl 0 v
  else if a = (ETH_CTRL.MODE 1).addr then s.writeEthCtrl 1 v
  else if a = PTP_MAP_CTRL.GO.addr then s.when ((fieldOf PTP_MAP_CTRL.GO v) == 1) State.ptpGo
  else match ptpWords.findIdx? (· == a) with
    | some k => s.ptpWrite k (match fs with
        | f :: _ => fieldOf f v
        | [] => 0)
    | none => s.plain p fs [] v

/-- Writes of the heads' pages (chapter 10). -/
def State.writeHead (s : State) (p a v : Nat) (fs : List Fld) : State :=
  let h := headOf ((p - 0x80) / 4)
  if a = (DSP_CTRL.GENLOCK h).addr then
    let s1 := s.plain p fs [DSP_CTRL.GENLOCK h] v
    ((if (fieldOf (DSP_CTRL.GENLOCK h) v) = s.get (DSP_CTRL.GENLOCK h) then s1 else s1.genlock h ((fieldOf (DSP_CTRL.GENLOCK h) v) == 1)).checkVideo
      h).showHeld h
  else if a = (DSP_FB_CTRL.WATERMARK h).addr then (s.plain p fs [] v).showHeld h
  else if a = (DSP_DP_CTRL.TRAIN h).addr then
    (s.plain p fs [] v).when ((fieldOf (DSP_DP_CTRL.TRAIN h) v) == 1) fun t => t.dpTrain h
  else if a = (DSP_AUX_CTRL.GO h).addr then (s.plain p fs [] v).when ((fieldOf (DSP_AUX_CTRL.GO h) v) == 1) fun t => t.auxGo h
  else s.plain p fs [] v

/-- Writes of the bridges' pages (chapter 11). -/
def State.writeBridge (s : State) (p a v : Nat) (fs : List Fld) : State :=
  if a = GPIO_SCHED_PUSH.MASK.addr then s.schedPush v
  else if a = BRT_XFER_DOORBELL.GO.addr then
    s.when ((fieldOf BRT_XFER_DOORBELL.GO v) == 1) fun t => t.xferGo (fieldOf BRT_XFER_DOORBELL.TAG v)
  else if a = SEM_CTRL.BREAK.addr then s.when ((fieldOf SEM_CTRL.BREAK v) == 1) fun t => t.semBreak (fieldOf SEM_CTRL.NUM v)
  else match (List.range 6).find? fun g => (GPIO_LEVEL.OUT g).addr == a with
    | some g => s.gpioSet g 0xFF ((fieldOf (GPIO_LEVEL.OUT g) v))
    | none => match (List.range 6).find? fun g => (GPIO_CFG.DIR g).addr == a with
      | some g => (s.plain p fs [] v).gpioShow g
      | none => s.plain p fs [] v

/-- Writes of the contract and Eyelet pages (chapters 12 and 13). CTPn_CMD and the TX window take Awl masters only (R369). -/
def State.writePower (s : State) (src : Src) (p a v : Nat) (fs : List Fld) : State :=
  let n := portOf ((p - 0xA0) / 4)
  if a = (CTP_CFG.WIRED_ROLE n).addr then
    let s1 := s.plain p fs [CTP_CFG.WIRED_ROLE n] v
    let s1 := s1.cutLevels n (s.get (CTP_CFG.LEVELS n))
    if s.locked p ∨ (fieldOf (CTP_CFG.WIRED_ROLE n) v = s.get (CTP_CFG.WIRED_ROLE n) ∧ (s.ctpP n).wired.isNone) then s1
    else s1.writeWiredRole n ((fieldOf (CTP_CFG.WIRED_ROLE n) v))
  else if a = (CTP_CMD.SEND n).addr then
    if fromAwl src then
      (s.when ((fieldOf (CTP_CMD.SEND n) v) == 1) fun t => t.ctpSend n).when ((fieldOf (CTP_CMD.HARD_RESET n) v) == 1) fun t =>
        t.hardReset n 6 true
    else s
  else if (List.range 8).any fun i => (CTP_TX.DATA n i).addr == a then (if fromAwl src then s.plain p fs [] v else s)
  else match (List.range 6).find? fun c => p == 0xB1 + c with
    | some c =>
      let c' := chanOf c
      let s1 := s.plain p fs [EYE_CH_CTRL.ON c', EYE_CH_SENSE.RSENSE c'] v
      (if a = (EYE_CH_CTRL.ON c').addr then s1.writeOn c' ((fieldOf (EYE_CH_CTRL.ON c') v) == 1)
       else if a = (EYE_CH_SENSE.RSENSE c').addr ∧ !s.locked p then s1.writeSense c' (fieldOf (EYE_CH_SENSE.RSENSE c') v)
       else s1).showChan c'
    | none =>
      if a = EYE_FEED_CTRL.MODE.addr then s.writeFeedMode (fieldOf EYE_FEED_CTRL.MODE v) else s.plain p fs [] v

/-- Writes of the key, crypto and counter pages (chapters 15 and 17). -/
def State.writeKeys (s : State) (src : Src) (p a v : Nat) (fs : List Fld) : State :=
  if a = KEY_OP.OP.addr then s.keyOp (srcMaster src) v
  else if a = KEY_DBG_CTRL.OP.addr then s.dbgOp v
  else if 0xC1400 ≤ a ∧ a < 0xC14D0 then (if 3 ≤ s.lc then s else s.plain p fs [] v)
  else if a = CRY_CTRL.OP.addr then s.cryOp v
  else if a = CNT_CTRL.RUN.addr then s.writeCntCtrl v
  else if a = CNT_SNAP.GO.addr then s.writeCntSnap v
  else if a = CNT_RING_SIZE.RECORDS.addr then s.writeRingSize v
  else match (List.range 192).find? fun i => (CNT_SEL.MODE (i / 8) (i % 8)).addr == a with
    | some i => s.writeSel (i / 8) (i % 8) v
    | none => s.plain p fs [] v

/-- Writes of the chip's own pages (chapters 02, 08, 14). -/
def State.writeChip (s : State) (src : Src) (p a v : Nat) (fs : List Fld) : State :=
  if a = CLK_CTRL.FORCE_HOLD.addr then
    let s1 := if s.locked p then s else s.writeSsc ((fieldOf CLK_CTRL.SSC_EN v) == 1)
    if (fieldOf CLK_CTRL.FORCE_HOLD v) = s.get CLK_CTRL.FORCE_HOLD then s1 else s1.writeForceHold ((fieldOf CLK_CTRL.FORCE_HOLD v) == 1)
  else if a = CTM_CAP_CTRL.GO.addr then
    if (fieldOf CTM_CAP_CTRL.GO v) = 0 then s
    else if (fieldOf CTM_CAP_CTRL.KIND v) = 0 then s.ctmCapture (fieldOf CTM_CAP_CTRL.TAG v)
    else s.ctmHop (fieldOf CTM_CAP_CTRL.TAG v) (fieldOf CTM_CAP_CTRL.PORT v)
  else if a = PWRD_STATE_REQ.TARGET.addr then s.writeStateReq v
  else if a = PWRD_DOMAIN_CTRL.ON.addr then s.writeDomains v
  else if a = PWRD_TIMER.MS.addr then s.writeTimer v
  else if a = EVC_SOFT.RAISE.addr then s.evcSoft src v
  else if a = MBX_DOORBELL.CMD.addr then s.ring (fieldOf MBX_DOORBELL.CMD v) (fieldOf MBX_DOORBELL.TAG v)
  else s.plain p fs [] v

/-- A write of the word at offset o ≥ 0x040 of page p: fields and what it starts. -/
def State.writeBody (s : State) (src : Src) (p o v : Nat) : State :=
  let a := p * 0x1000 + o
  let fs := pageWord p o
  if p < 0x10 then s.writeChip src p a v fs
  else if p < 0x30 then s.writeWelt p a v fs
  else if p < 0x60 then s.writeCore p a v fs
  else if p < 0x80 then s.writeNet p a v fs
  else if p < 0x88 then s.writeHead p a v fs
  else if p < 0xA0 then s.writeBridge p a v fs
  else if p < 0xC0 then s.writePower src p a v fs
  else s.writeKeys src p a v fs

-- SOFT_RESET (R9, R223, R235, R479) ----------------------------------------------------------------------------------

/-- Read-only fields that show a present condition of the hub and not a record: their reads return that condition (R7), so that
SOFT_RESET leaves them. -/
def conditionFlds (p : Nat) : List Fld :=
  if p = 0x00 then CHIP_ROLE.all ++ CHIP_HUB_ID.all
  else if p = 0x02 then CLK_STAT.all
  else if p = 0x03 then [CTM_STAT.FREEZE, CTM_STAT.STEP_PENDING, CTM_STAT.FREE, CTM_STAT.VALID]
  else if p = 0x04 then [PWRD_STATE.ENTERING, PWRD_STATE.EXITING, PWRD_STATE.STATE] ++ PWRD_DOMAIN_STAT.all ++ PWRD_AVS.all
  else if p = 0x06 then [MBX_STAT.BUSY, MBX_STAT.AWL_UP, MBX_STAT.QUEUED]
  else if 0x10 ≤ p ∧ p < 0x30 then
    let n := (p - 0x10) / 8
    ((WLT_PCS_STAT.all n ++ WLT_LINK_STAT.all n).filter fun f => f.key != (WLT_PCS_STAT.TRAIN_ATTEMPTS n).key
        && f.key != (WLT_LINK_STAT.DOWN_REASON n).key)
      ++ (List.range 4).flatMap (WLT_LANE_STAT.all n) ++ WLT_LANE_HEALTH.all n
      ++ [WLT_REPLAY_STAT.STORED n, WLT_REPLAY_STAT.RPL_ID n, WLT_ENC_STAT.KX_STATE n, WLT_ENC_STAT.MANDATORY n,
          WLT_EYE_STAT.BUSY n, WLT_TEST_CTRL.FE_SLIP n]
      ++ (List.range 2).flatMap (WLT_CRED_AVAIL.all n) ++ (List.range 4).flatMap (WLT_PARTNER_IDENT.all n)
      ++ (List.range 16).flatMap (WLT_PARTNER_CAP.all n)
  else if p = 0x30 then [LST_BUF_PLAN.LATCHED, LST_PART_CTRL.FREE_KIB, LST_ENGINES.FENCED]
  else if 0x40 ≤ p ∧ p < 0x50 then [FE_STAT.HOMED (p - 0x40)]
  else if p = 0x50 then [WHL_STAT.AT, WHL_STAT.STAGED, WHL_STAGED_EPOCH.EPOCH, WHL_UNDERFED.COUNT]
  else if p = 0x51 then (List.range 8).flatMap fun w => WHLw_SIZE.all w ++ WHLw_RES.all w ++ WHLw_LEND.all w ++ WHLw_POS.all w
  else if 0x60 ≤ p ∧ p < 0x64 then (pageFields p).filter fun f => f.acc == .ro && f.addr / 0x1000 != 0x60 || p == 0x60
      && (PCIE_STAT.all.any fun g => g.key == f.key)
  else if p = 0x70 then ETH_STAT.all 0
  else if p = 0x74 then ETH_STAT.all 1
  else if 0x80 ≤ p ∧ p < 0x88 then
    let h := (p - 0x80) / 4
    DSP_STAT.all h ++ [DSP_DP_STAT.BW_ERR h, DSP_DP_STAT.TRAINED h, DSP_DP_STAT.TRAINING h, DSP_DP_STAT.HPD h] ++ DSP_FB_STAT.all h ++ [DSP_AUX_STAT.BUSY h, DSP_GL.GL_LOCKED h]
  else if p = 0x88 then FST_STAT.all
  else if 0x90 ≤ p ∧ p < 0x94 then let n := p - 0x90; [CAN_STAT.TEC n, CAN_STAT.REC n, CAN_STAT.STATE n]
  else if 0x94 ≤ p ∧ p < 0x96 then [I2C_STAT.HELD (p - 0x94)]
  else if 0x96 ≤ p ∧ p < 0x98 then [SPI_CTRL.HELD (p - 0x96)]
  else if p = 0x9C then GPIO_SCHED_STAT.QUEUED :: (List.range 6).map GPIO_LEVEL.IN
  else if p = 0x9D then [BRT_XFER_STAT.BUSY]
  else if 0xA0 ≤ p ∧ p < 0xB0 then
    let n := (p - 0xA0) / 4
    CTP_STAT.all n ++ [CTP_CONTRACT.BASE n, CTP_CONTRACT.CURRENT n, CTP_CONTRACT.VOLT n] ++ CTP_VCABLE.all n ++ [CTP_CFG.CLASS n, CTP_CFG.CLASS_SET n, CTP_TX_STAT.BUSY n]
  else if p = 0xB0 then [EYE_FEED_STAT.B_PRESENT, EYE_FEED_STAT.A_PRESENT, EYE_FEED_STAT.B_CONDUCTING, EYE_FEED_STAT.A_CONDUCTING]
    ++ EYE_DIE_TEMP.all ++ [EYE_WARN_STAT.ACTIVE]
  else if 0xB1 ≤ p ∧ p < 0xB7 then
    let c := p - 0xB1
    [EYE_CH_STAT.STATE c, EYE_CH_STAT.COOLING c, EYE_CH_STAT.PENDING c, EYE_CH_STAT.NTC_FAULT c, EYE_CH_STAT.CLAMPED c, EYE_CH_STAT.ROLE c]
      ++ EYE_CH_MEAS_I.all c ++ EYE_CH_MEAS_V.all c ++ EYE_CH_TEMP.all c ++ [EYE_CH_COOL.LEFT c]
  else if p = 0xC0 then (KEY_STAT.all.filter fun f => f.key != KEY_STAT.PUF_TRIES.key) ++ (List.range 12).map KEY_MEASURE.DATA
  else if p = 0xC1 then (List.range 12).map KEY_DBG_NONCE.DATA ++ (List.range 32).map KEY_PUB.DATA
  else if p = 0xC8 then [CRY_STAT.BUSY, CRY_STAT.WAITING]
  else if p = 0xD0 then [CNT_STAT.WRITING, CNT_STAT.AT_PENDING]
  else if p = 0x01 then [FUSE_STAT.UNCORR, FUSE_STAT.READ_DONE]
  else if p = 0xE0 then [BOOT_STAT.POLICY_LOADED, BOOT_STAT.FLASHLESS, BOOT_STAT.RECORD_BANK, BOOT_STAT.BOOTED_BANK]
  else if p = 0xE8 then UPD_STAT.all ++ [UPD_ACT.PENDING, UPD_ACT.AT, UPD_FWD.PORTS] ++ UPD_ACT_EPOCH.all
    ++ (List.range 64).flatMap UPD_TARGET.all
  else []

/-- The reset word of a list of fields. -/
def State.resetWord (s : State) (fs : List Fld) : Nat := (fs.map fun f => s.rstOf f % 2 ^ f.w * 2 ^ f.lo).sum

/-- Words whose writes are staged or taken from few masters only: the PTP map set, the windows CTP_TX and KEY_PROV. SOFT_RESET
returns them itself. -/
def guardedWord (a : Nat) : Bool :=
  ptpWords.contains a || decide (0xC1400 ≤ a ∧ a < 0xC14D0)
    || (List.range 4).any fun n => (List.range 8).any fun i => (CTP_TX.DATA n i).addr == a

/-- One word of a soft reset: what can be written takes its reset value with the effects of that write, read-only records
return to theirs. -/
def State.resetWordAt (s : State) (src : Src) (p o : Nat) (keep : List Fld) : State :=
  let fs := pageWord p o
  let s1 := if fs.any fun f => f.acc == .rw || f.acc == .rwl then s.writeBody src p o (s.resetWord fs) else s
  s1.resetFlds (fs.filter fun f => (f.acc == .ro && !keep.any fun g => g.key == f.key)
    || (f.acc == .rw && guardedWord (p * 0x1000 + o)))

/-- BLK_CTRL.ENABLE takes v: heads and CAN buses follow at their first pages (R279, R479, Table 11.5). -/
def State.writeEnable (s : State) (p : Nat) (v : Bool) : State :=
  let s1 := s.setFlag (BLK_CTRL.ENABLE p) v
  if v = s.flag (BLK_CTRL.ENABLE p) then s1
  else if p = 0x80 ∨ p = 0x84 then s1.headEnable (headOf ((p - 0x80) / 4)) v
  else if 0x90 ≤ p ∧ p < 0x94 ∧ v ∧ s.get (CAN_STAT.STATE (p - 0x90)) = 2 ∧ !s.flag (CAN_CTRL.AUTO_RECOVER (p - 0x90)) then
    s1.canRecover (p - 0x90)
  else s1

/-- After SOFT_RESET of its page a head's DSPh_FLIP_TIME reads 0 with VALID clear (R290). -/
def State.noFlipTime (s : State) (h : Head) : State :=
  s.set64 (DSP_FLIP_TIME_LO.TIME h) (DSP_FLIP_TIME_HI.TIME h) 0 |>.set (DSP_FLIP_INFO.VALID h) 0

/-- SOFT_RESET of page p: its header, its fields, the queue behind its pop window, an engine's fence. -/
def State.softReset (s : State) (src : Src) (p : Nat) : State :=
  let keep := conditionFlds p
  let s1 := (List.range 1008).foldl (fun t k => t.resetWordAt src p (0x040 + 4 * k) keep) s
  let s2 := ((s1.set (EVT_RAW p) 0).set (EVT_EN p) 0).writeEnable p (enableReset p == 1)
  let s3 := if p = 0x06 then { s2 with ctl := { s2.ctl with awlLog := [] } }
    else if 0x90 ≤ p ∧ p < 0x94 then s2.flushCan (p - 0x90)
    else if 0x98 ≤ p ∧ p < 0x9C then s2.flushUart (p - 0x98) else s2
  if 0x40 ≤ p ∧ p < 0x50 then s3.unfence (p - 0x40) else if p = 0x78 then s3.ptpOff
  else if p = 0x80 ∨ p = 0x84 then s3.noFlipTime (headOf ((p - 0x80) / 4)) else s3

/-- A write of BLK_CTRL: ENABLE, then SOFT_RESET. -/
def State.writeBlk (s : State) (src : Src) (p v : Nat) : State :=
  (s.writeEnable p (bit v 0)).when (bit v 1) fun t => t.softReset src p

def State.writeHeader (s : State) (src : Src) (p o v : Nat) : State :=
  if o = 0x00C then s.pageLock p v
  else if o = 0x014 then s.evtEnable p v
  else if o = 0x018 then s.evtClear p v
  else if o = 0x01C then s.evtSet p v
  else if o = 0x020 then s.writeBlk src p v
  else s

-- Writes of one word -------------------------------------------------------------------------------------------------

/-- A whole-word write that has reached its page (R232): LOCKED_WRITE for RWL fields of a locked page. -/
def State.writeReg (s : State) (src : Src) (p o v : Nat) : WRes :=
  if o < 0x040 then (s.writeHeader src p o v, 0)
  else
    let hit := s.locked p && (pageWord p o).any fun f => f.acc == .rwl
    let s1 := s.writeBody src p o v
    if hit then (s1.raise EV.lockedWrite, 7) else (s1, 0)

/-- A write to a power-die page leaves the queue (R229): dark, or taken. -/
def State.writeDie (s : State) (src : Src) (a v : Nat) : WRes :=
  if s.pageOn (a / 0x1000) then s.writeReg src (a / 0x1000) (a % 0x1000) v else (s.writeToDark src a, 6)

/-- A write to a table window, by word (R143, R185, R227, R432, R508). -/
def State.writeWindow (s : State) (src : Src) (a v : Nat) : WRes :=
  if a < 0x0180000 then s.writeCtx ((a - 0x0100000) / 0x100) (a % 0x100) v
  else if 0x01A0000 ≤ a ∧ a < 0x01A0400 then s.writeRoute src ((a - 0x01A0000) / 4) v
  else if 0x01AC000 ≤ a ∧ a < 0x01AC200 ∧ a % 0x10 = 0 then (s.writeAttr (srcMaster src) ((a - 0x01AC000) / 0x10) v, 0)
  else if 0x01C0000 ≤ a ∧ a < 0x01E0000 then (s.writeMap ((a - 0x01C0000) / 0x4000) (a % 0x4000) v, 0)
  else (s.writeRw (windowWord a) v, 0)

/-- A write to the frame-store aperture: the enabled bytes (R226). -/
def State.writeFst (s : State) (a be v : Nat) : State :=
  ((List.range 4).filter fun j => bit be j).foldl (fun t j =>
    t.fstWrite (a - fstBase + j) (BitVec.ofNat 8 (bits v (8 * j) 8))) s

/-- A write of the aligned word at a with byte enables be: state and the status that a remote writer gets (Table 08.5). Chain route
entries are written whole (R508). -/
def State.writeWord (s : State) (src : Src) (a be v : Nat) : WRes :=
  if src = .awlNormal ∧ barredNormal a then (s.accessErr src a, 5)
  else if a < 0x0100000 then
    let p := a / 0x1000
    if !s.pageOpen p then (s.accessErr src a, 5)
    else if be ≠ 15 then (if s.pageOn p then (s.accessErr src a, 5) else (s.writeToDark src a, 6))
    else if powerDie p then
      ({ s with ctl := { s.ctl with pdq := s.ctl.pdq ++ [⟨a, be, v, src, none, 0⟩] } }, 0)
    else if !s.pageOn p then (s.writeToDark src a, 6)
    else s.writeReg src p (a % 0x1000) v
  else if noWrite a ∨ (0x01A0000 ≤ a ∧ a < 0x01A0400 ∧ be ≠ 15) then (s.accessErr src a, 5)
  else if !s.domainOn (windowDomain a) then (s.writeToDark src a, 6)
  else if 0x1000000 ≤ a then (s.writeFst a be v, 0)
  else s.writeWindow src a (mergeBe (s.wordOf (windowWord a)) be v)

-- Commands -----------------------------------------------------------------------------------------------------------

/-- A word write (R226): word offset a, byte enables be. -/
def execRegWrite (src : Src) (a be v : Nat) (s : State) : Out :=
  .next (s.writeWord src (a % 2 ^ 26 / 4 * 4) (be % 16) (v % 2 ^ 32)).1

/-- Header writes of page p by src act when the page is open and its domain on. -/
def State.headerWrite (s : State) (src : Src) (p o v : Nat) : State := (s.writeWord src (p % 256 * 0x1000 + o) 15 (v % 2 ^ 32)).1

def execPageLock (src : Src) (p v : Nat) (s : State) : Out := .next (s.headerWrite src p 0x00C v)
def execSoftReset (src : Src) (p : Nat) (s : State) : Out :=
  .next (s.headerWrite src p 0x020 (2 + s.get (BLK_CTRL.ENABLE (p % 256))))
def execEvtEnWrite (src : Src) (p v : Nat) (s : State) : Out := .next (s.headerWrite src p 0x014 v)
def execEvtClr (src : Src) (p v : Nat) (s : State) : Out := .next (s.headerWrite src p 0x018 v)
def execEvtSet (src : Src) (p v : Nat) (s : State) : Out := .next (s.headerWrite src p 0x01C v)
def execEvcSoft (src : Src) (v : Nat) (s : State) : Out := .next (s.headerWrite src 0x05 (EVC_SOFT.RAISE.addr % 0x1000) v)

end Sys2Proof.Machine
end

