-- ==== Sys2Proof/Machine/Control.lean ====
section
/-!
DEFINITION. Sys2Proof/Machine/Control.lean: control READ and WRITE at their target, the replay cache, the power-die queue, the
arrival of MAILBOX operations, vectors and the remote event ring (chapter 08, R226 to R249, R504).
-/
namespace Sys2Proof.Machine

-- The replay cache (R239) --------------------------------------------------------------------------------------------

/-- The entry that a request matches: key, operation and offset. -/
def State.cached (s : State) (q : CtlPkt) : Option CacheEnt :=
  List.find? (fun (e : CacheEnt) => e.src == q.src && e.tag == q.tag && e.op == q.op && e.offset == q.offset) s.ctl.cache

/-- The cache with room for one entry: a full one gives up its oldest completed entry, never one in progress. -/
def cacheRoom (c : List CacheEnt) : Option (List CacheEnt) :=
  if c.length < 256 then some c
  else (c.findIdx? fun e => e.answer.isSome).map fun i => c.eraseIdx i

/-- A request is accepted: its entry is in progress. -/
def State.cachePut (s : State) (c : List CacheEnt) (q : CtlPkt) : State :=
  { s with ctl := { s.ctl with cache := c ++ [⟨q.src, q.tag, q.op, q.offset, none⟩] } }

/-- An answer leaves towards the requester, or by the port of arrival while this hub has no id (R23). -/
def State.ctlReply (s : State) (n : Nat) (a : CtlPkt) : State := s.reply n (s.hubId == 255) a

/-- An operation completes: its answer is stored in its entry, if it has one, and sent. -/
def State.ctlDone (s : State) (n : Nat) (q a : CtlPkt) : State :=
  ({ s with ctl := { s.ctl with cache := s.ctl.cache.map fun (e : CacheEnt) =>
      if e.src = q.src ∧ e.tag = q.tag ∧ e.op = q.op ∧ e.offset = q.offset ∧ e.answer.isNone then
        { e with answer := some a } else e } }).ctlReply n a

/-- A request that R239 covers: a duplicate is answered from its entry, a new one gets an entry and acts, and one that finds 256
entries in progress is dropped. -/
def State.once (s : State) (n : Nat) (q : CtlPkt) (act : State → State) : State :=
  match s.cached q with
  | some e => s.ctlReply n (e.answer.getD (q.answer s.hubId 16 []))
  | none =>
    match cacheRoom s.ctl.cache with
    | some c => act (s.cachePut c q)
    | none => s

/-- 2 s have passed since an entry's response was stored. -/
def execReplayCacheExpiry (src tag : Nat) (s : State) : Out :=
  .next { s with ctl := { s.ctl with cache := s.ctl.cache.filter fun (e : CacheEnt) => !(e.src == src && e.tag == tag && e.answer.isSome) } }

-- Ranges (R504) ------------------------------------------------------------------------------------------------------

/-- The n bytes from offset a on lie in one range of Table 08.1 or 08.2. -/
def oneRange (a n : Nat) : Bool := rangeOf a == rangeOf (a + n - 1) && decide (a + n ≤ 2 ^ 26)

def readOk (q : CtlPkt) : Bool :=
  q.offset % 4 == 0 && q.bytes % 4 == 0 && decide (4 ≤ q.bytes ∧ q.bytes ≤ 4096) && q.data.isEmpty && oneRange q.offset q.bytes

/-- Exactly BYTES bytes: as many data slots as they need. -/
def writeOk (q : CtlPkt) : Bool :=
  decide (1 ≤ q.bytes ∧ q.bytes ≤ 4096 ∧ q.bytes ≤ q.data.length) && ceilDiv q.data.length 32 == ceilDiv q.bytes 32
    && oneRange q.offset q.bytes

-- READ ---------------------------------------------------------------------------------------------------------------

/-- k words from offset a on, in ascending order. -/
def State.readWords (s : State) (a : Nat) : Nat → State × List Byte
  | 0 => (s, [])
  | k + 1 =>
    let r := s.readWord a
    let t := State.readWords r.1 (a + 4) k
    (t.1, leBytes 4 r.2 ++ t.2)

/-- The READ covers a pop window. -/
def popping (q : CtlPkt) : Bool := (List.range (q.bytes / 4)).any fun k => isPop (q.offset + 4 * k)

/-- The READ covers a power-die page. -/
def touchesDie (q : CtlPkt) : Bool := decide (q.offset < 0xC0000 ∧ 0xA0000 < q.offset + q.bytes)

/-- A read of the frame store or of a table window meets a parity error or an uncorrectable word (R212): what the memory holds bad is a
free value (log entry 2). -/
def State.badRead (s : State) (q : CtlPkt) : Bool :=
  decide (0x100000 ≤ q.offset) && Config.unreadable q.offset q.bytes s.uptime

/-- A READ within its range takes its data; an answer known bad goes out poisoned. -/
def State.readNow (s : State) (n : Nat) (q : CtlPkt) : State :=
  let act (t : State) : State :=
    let r := t.readWords q.offset (q.bytes / 4)
    r.1.ctlDone n q { q.answer t.hubId 0 r.2 with poison := t.badRead q }
  if popping q then s.once n q act else act s

/-- The place in the power-die queue of the last write of a request's requester, from 1 on; 0 for none. -/
def State.ownWrites (s : State) (q : CtlPkt) : Nat :=
  ((List.range s.ctl.pdq.length).filter fun k =>
    match s.ctl.pdq[k]? with
    | some w => (match w.src with
      | .hub i _ => i == q.src
      | _ => false)
    | none => false).foldl (fun a k => max a (k + 1)) 0

/-- The writes for the power die that a READ waits for (R228, R229): for a power-die page those in the queue of 16 words, behind which
later ones wait for room, and always those of its own requester. -/
def State.writesAhead (s : State) (q : CtlPkt) : Nat :=
  max (if touchesDie q then min s.ctl.pdq.length 16 else 0) (s.ownWrites q)

-- WRITE --------------------------------------------------------------------------------------------------------------

/-- The words of a write of the bytes d from offset a on: address, byte enables, value. -/
def writeWordsOf (a : Nat) (d : List Byte) : List (Nat × Nat × Nat) :=
  (List.range (ceilDiv (a % 4 + d.length) 4)).map fun k =>
    let w := a / 4 * 4 + 4 * k
    let on (j : Nat) : Bool := decide (a ≤ w + j ∧ w + j < a + d.length)
    (w, ((List.range 4).map fun j => if on j then 2 ^ j else 0).sum,
      ((List.range 4).map fun j => if on j then byteAt d (w + j - a) * 2 ^ (8 * j) else 0).sum)

/-- How the words of a WRITE fare: state, first status before and after the words that queue for the power die. -/
structure WriteRun where
  state : State
  before : Nat
  after : Nat

/-- One word of a WRITE. -/
def WriteRun.word (r : WriteRun) (src : Src) (first : Nat) (x : Nat × Nat × Nat) : WriteRun :=
  let y := r.state.writeWord src x.1 x.2.1 x.2.2
  if first < r.state.ctl.pdq.length then { r with state := y.1, after := if r.after = 0 then y.2 else r.after }
  else { r with state := y.1, before := if r.before = 0 then y.2 else r.before }

/-- The bytes d are written from offset a on, word by word (R226, R504). -/
def State.writeBytes (s : State) (src : Src) (a : Nat) (d : List Byte) : WriteRun :=
  (writeWordsOf a d).foldl (fun r x => r.word src s.ctl.pdq.length x) ⟨s, 0, 0⟩

/-- A WRITE within its range acts; it is answered at once, or when its last queued word has taken effect (R229). -/
def State.writeNow (s : State) (n : Nat) (q : CtlPkt) : State :=
  s.once n q fun t =>
    let m := t.ctl.pdq.length
    let r := t.writeBytes (.hub q.src n) q.offset (byteSlice q.data 0 q.bytes)
    let u := r.state
    if u.ctl.pdq.length = m then u.ctlDone n q (q.answer u.hubId r.before [])
    else
      { u with ctl := { u.ctl with pdq := u.ctl.pdq.take m ++ (u.ctl.pdq.drop m).map fun w =>
          { w with answer := some (n, q.answer u.hubId r.before []), rest := r.after } } }

-- MAILBOX operations (R247) ------------------------------------------------------------------------------------------

/-- A MAILBOX operation joins the queue of 4; CMD stands in OPDATA bytes 14–15 and TAG in byte 16 (log entry 61). -/
def State.mailboxOp (s : State) (n : Nat) (q : CtlPkt) : State :=
  if (s.cached q).isNone && decide (4 ≤ s.get MBX_STAT.QUEUED) then s.ctlReply n (q.answer s.hubId 10 [])
  else s.once n q fun t =>
    (t.putQueue (t.ctl.mbxQueue ++ [mbxNew (leNat (byteSlice q.opdata 0 2)) (byteAt q.opdata 2) (byteSlice q.data 0 64)
      (some (n, q))])).count (srcSignal 22 2) 1

-- Requests in order (R228) -------------------------------------------------------------------------------------------

/-- A request whose turn has come, by its operation (Table 05.13). -/
def State.ctlNow (s : State) (n : Nat) (q : CtlPkt) : State :=
  if q.op = 4 then s.assignId q
  else if q.op = 5 then s.imageOp n q
  else if 6 < q.op then s.ctlReply n (q.answer s.hubId 4 [])
  else if q.op = 0 then (if readOk q then s.readNow n q else s.ctlReply n (q.answer s.hubId 5 []))
  else if q.op = 1 then (if writeOk q then s.writeNow n q else s.ctlReply n (q.answer s.hubId 5 []))
  else s.mailboxOp n q

/-- What a request waits for: a READ for the writes queued before it, any other for its requester's writes to have entered the queue of
16 words (R228, R229). -/
def State.waitFor (s : State) (q : CtlPkt) : Nat :=
  if q.op = 0 then (if readOk q then s.writesAhead q else s.ownWrites q - 16) else s.ownWrites q - 16

/-- A request behind those in `ahead`: it waits for an earlier waiting request of its requester, and for writes queued before it. -/
def State.ctlStart (s : State) (ahead : List PdRead) (n : Nat) (q : CtlPkt) : State × List PdRead :=
  if (ahead.any fun r => r.req.src == q.src) then (s, [⟨0, n, q⟩])
  else if 0 < s.waitFor q then (s, [⟨s.waitFor q, n, q⟩])
  else (s.ctlNow n q, [])

/-- The same request, of those that the replay cache covers, still waits for its turn (R239). -/
def State.repeated (s : State) (q : CtlPkt) : Bool :=
  (q.op != 0 || popping q) && s.ctl.pdReads.any fun r => r.req.src == q.src && r.req.tag == q.tag && r.req.op == q.op
    && r.req.offset == q.offset

/-- A request arrives and takes its turn; a repeated one does not wait again (R239). -/
def State.ctlTurn (s : State) (n : Nat) (q : CtlPkt) : State :=
  if s.repeated q then s.ctlReply n (q.answer s.hubId 16 [])
  else if (s.cached q).isSome then s.ctlNow n q
  else
    let r := s.ctlStart s.ctl.pdReads n q
    { r.1 with ctl := { r.1.ctl with pdReads := r.1.ctl.pdReads ++ r.2 } }

/-- A READ (0), WRITE (1) or MAILBOX (6) request arrives. -/
def State.ctlRequest (s : State) (n : Nat) (q : CtlPkt) : State := (s.count (srcSignal 22 0) 1).ctlTurn n q

/-- The waiting requests after one write has left the queue, in order. -/
def State.ctlResume (s : State) : List PdRead → List PdRead → State
  | [], left => { s with ctl := { s.ctl with pdReads := left } }
  | r :: t, left =>
    if 1 < r.ahead then State.ctlResume s t (left ++ [{ r with ahead := r.ahead - 1 }])
    else if r.ahead = 1 then State.ctlResume (s.ctlNow r.port r.req) t left
    else
      let x := s.ctlStart left r.port r.req
      State.ctlResume x.1 t (left ++ x.2)

/-- The oldest word of the power-die queue takes effect; the last word of a WRITE sends its answer (R229). -/
def State.dieDone (s : State) : State :=
  match s.ctl.pdq with
  | [] => s
  | w :: t =>
    let r := ({ s with ctl := { s.ctl with pdq := t } }).writeDie w.src w.addr w.val
    let s1 : State := match w.answer with
      | none => r.1
      | some (n, a) =>
        let st := if a.status = 0 then r.2 else a.status
        let same (x : PdWrite) : Bool := x.answer.any fun y => y.2.dst == a.dst && y.2.tag == a.tag
        let mark (x : PdWrite) : PdWrite := if same x then { x with answer := some (n, { a with status := st }) } else x
        if List.any r.1.ctl.pdq (fun (x : PdWrite) => same x) then { r.1 with ctl := { r.1.ctl with pdq := r.1.ctl.pdq.map mark } }
        else
          r.1.ctlDone n { a with op := 1, src := a.dst } { a with status := if st = 0 then w.rest else st }
    s1.ctlResume s1.ctl.pdReads []

/-- Every write queued now has taken effect: what the hub's own Awl waits for before it reads (R229). -/
def State.dieDrain (s : State) : State := (List.range s.ctl.pdq.length).foldl (fun t _ => t.dieDone) s

/-- What the control endpoint does with a packet addressed to it: a poisoned one is discarded, and its slots are WASTED (R210). -/
def State.unpoisoned (s : State) (q : CtlPkt) (act : State → State) : State :=
  if q.poison then (s.incSat LST_END_DISCARD.POISONED).slots (unitOut 7) 1 (1 + ceilDiv q.data.length 32) else act s

def execControlRead (n : Port) (q : CtlPkt) (s : State) : Out :=
  .next (s.unpoisoned q fun t => t.ctlRequest n { q with op := 0 })
def execControlWrite (n : Port) (q : CtlPkt) (s : State) : Out :=
  .next (s.unpoisoned q fun t => t.ctlRequest n { q with op := 1 })
def execMailboxOpRx (n : Port) (q : CtlPkt) (s : State) : Out :=
  .next (s.unpoisoned q fun t => t.ctlRequest n { q with op := 6 })
def execPowerDieWriteDone (s : State) : Out := .next s.dieDone

/-- A read of a pop window by the host or the Awl (R235): one entry leaves and is returned, after the earlier writes have taken effect
(R228). -/
def execPopWindowRead (p : Nat) (s : State) : Out :=
  let a := p % 256 * 0x1000 + (if p % 256 = 0x06 then 0x048 else 0x04C)
  let r := s.dieDrain.readWord a
  .next (r.1.emit (.hostRead a (leBytes 4 r.2)))

-- Vectors (R241, R242) -----------------------------------------------------------------------------------------------

/-- The events of vector v that a spoke sends, in ascending order: EN and MSG set, raised since the last delivery. -/
def State.vectorEvents (s : State) (v : Nat) : List Ev :=
  (evPages.flatMap fun p => (List.range p.2).map fun b => (⟨p.1, b⟩ : Ev)).filter fun e =>
    s.get (EVC_MAP.VECTOR e.num) == v && s.flag (EVC_MAP.MSG e.num) && bit (s.get (EVT_EN e.page)) e.bit
      && s.ctl.raised.contains e.num

/-- Vector v is delivered by its route (Table 08.7): its events so far are over, and it is disarmed, but for armings of their own that wait
(C = 0). -/
def State.deliverVector (s : State) (v : Nat) : State :=
  let more := decide (1 < s.ctl.armings.getD v 0)
  let raised := s.ctl.raised.filter fun e => s.get (EVC_MAP.VECTOR e) != v
  let armings := s.ctl.armings.setD v 0 (s.ctl.armings.getD v 0 - 1)
  let s1 := { s with ctl := { s.ctl with raised := raised, armings := armings } }.setBitOf EVC_ARMED.ARMED v more
  if s.isRoot then s1.sendMsix v
  else if s.hubId = 255 then s1
  else (s.vectorEvents v).foldl State.sendEvent s1

/-- The timer of vector v starts, or is idle where C = 0. -/
def State.setTimer (s : State) (v : Nat) : State :=
  let ts := if s.coalesce v = 0 then s.ctl.timers.del v else s.ctl.timers.put v (s.uptime + 400 * s.coalesce v)
  { s with ctl := { s.ctl with timers := ts } }

/-- The timer of vector v runs. -/
def State.timing (s : State) (v : Nat) : Bool := (s.ctl.timers.find? v).any fun u => decide (s.uptime < u)

/-- Vector v is delivered at once while its timer is idle, and the timer starts; one armed while it runs waits. At the timer's expiry it
is delivered if armed, else the timer goes idle. -/
def execVectorDelivery (v : Fin 32) (s : State) : Out :=
  .next (if s.timing v then s
    else if bit (s.get EVC_ARMED.ARMED) v then (s.deliverVector v).setTimer v
    else { s with ctl := { s.ctl with timers := s.ctl.timers.del v } })

-- The remote event ring (R243, R244) ---------------------------------------------------------------------------------

/-- One entry of the ring, or EVT_MSG_LOST. -/
def State.ringEntry (s : State) (q : CtlPkt) : State :=
  let h := s.get EVC_RING_HEAD.HEAD
  let h' := (h + 1) % 1024
  if h' = s.get EVC_RING_TAIL.TAIL then (s.incSat EVC_RING_LOST.LOST).raise EV.evtMsgLost
  else
    (s.set (EVRING.DATA (2 * h)) (byteAt q.opdata 0 + byteAt q.opdata 1 * 2 ^ 16 + q.src % 256 * 2 ^ 8)
      |>.set (EVRING.DATA (2 * h + 1)) (leNat (byteSlice q.opdata 2 4)) |>.set EVC_RING_HEAD.HEAD h').arm
      (s.get EVC_CTRL.REMOTE_VEC)

/-- An EVENT packet at the Root: a link report joins the Root's queue; after a FLOW_TORN the base firmware reads what was torn (R148); it
enters the ring when the sender has EN and MSG set (`ring`). -/
def State.eventRx (s : State) (q : CtlPkt) (ring : Bool) : State :=
  let e := byteAt q.opdata 0
  let n := (e - 0x16) / 16
  let b := (e - 0x16) % 16
  let s1 := if 0x16 ≤ e ∧ n < 4 ∧ b < 2 then
      { s with chain := { s.chain with reports := s.chain.reports ++ [⟨q.src, n, b == 0⟩] } } else if e = EV.flowTorn.num then s.request (reqPkt 0 q.src s.hubId 0x30058 4 []) 6 else s
  if !s.isRoot then s else if ring then s1.ringEntry q else s1

def execEventPacketRx (q : CtlPkt) (ring : Bool) (s : State) : Out := .next (s.unpoisoned q fun t => t.eventRx q ring)

end Sys2Proof.Machine
end

