-- ==== Sys2Proof/Machine/Boot.lean ====
section
/-!
DEFINITION. Sys2Proof/Machine/Boot.lean: the boot ROM, the restart path, flashless boot, activation of a bank, and how mailbox
commands end (chapter 15, R410 to R416; chapter 16, R454 to R461; R201, R248, R249).
-/
namespace Sys2Proof.Machine

-- Results of mailbox commands (R245, R248, R249) ---------------------------------------------------------------------

/-- Command c ends: its result is written whole and MBX_DONE raised, or returned to the remote requester. Result bytes that the
command's table names for no case read 0 (R8); a refusal without data leaves bytes 4–63 open (log entry 2). -/
def State.mbxEnd (s0 : State) (c : MbxCmd) (status : Nat) (d : List Byte) : State :=
  let s := s0.useFree
  let data := if status ≠ 0 ∧ d = [] then leBytes 60 s0.free else byteSlice d 0 60
  match c.remote with
  | none =>
    (((s.resDone resMBX c.tag status).setWords MBX_RES.DATA 0 (words32 15 data)).set MBX_STAT.BUSY 0).raise EV.mbxDone
  | some (n, q) =>
    let w := status % 128 + 128 + c.tag % 256 * 2 ^ 8 + s0.free % 65536 * 2 ^ 16
    s.ctlDone n q { q.answer s.hubId status (leBytes 4 w ++ data) with bytes := 64 }

/-- The Awl restarts: every accepted command ends with TIMEOUT (R248). -/
def State.awlRestarts (s : State) : State :=
  ((s.ctl.mbxQueue.foldl (fun t c => t.mbxEnd c 11 []) s).putQueue []).raise EV.awlRestart

-- Step 3: the images (R412, R413, R454) ------------------------------------------------------------------------------

def State.baseGood (s : State) (b : Nat) : Bool := s.nv.flash.fitted && s.slotGood 0 (s.slotOf b 0)

/-- Bank b holds a full set that passes every check. -/
def State.fullSet (s : State) (b : Nat) : Bool :=
  s.baseGood b && [1, 2].all fun k => (s.slotOf b k).header.isEmpty || s.slotGood k (s.slotOf b k)

/-- The banks are tried in order; each whose base fails raises BANK_FAIL. -/
def State.pickBank (s : State) : List Nat → State × Option Nat
  | [] => (s, none)
  | b :: t =>
    if !s.nv.flash.fitted then (s, none)
    else
      let s1 := (s.setFlag (bankValid b) (s.fullSet b)).showBank b
      if s.baseGood b then (s1, some b) else State.pickBank (s1.raise EV.bankFail) t

/-- The record that names the bank to boot. -/
def State.readRecord (s : State) : State :=
  s.set BOOT_STAT.RECORD_BANK s.bankRecord.1 |>.set BOOT_STAT.RECORD_SEQ s.bankRecord.2

-- Step 5: the base runs (R459, R460) ---------------------------------------------------------------------------------

/-- A settings record of another schema is replaced by defaults (R459). -/
def State.checkSettings (s : State) : State :=
  match s.nv.flash.settings with
  | none => s
  | some (schema, seq, _) =>
    let now := hSchema s.sec.runBase
    if s.nv.flash.fitted && schema != now then
      (s.modFlash fun f => { f with settings := some (now, seq + 1, Config.settingsDefaults now) }).raise EV.settingsReset
    else s

/-- One entry of a boot configuration: written by the base, or skipped (R460). -/
def State.cfgEntry (s : State) (e : List Byte) : State :=
  let a := leNat (byteSlice e 0 4) % 2 ^ 26
  if 0xF0000 ≤ a then s.incSat BOOT_STAT.CFG_SKIPPED
  else if a % 4 ≠ 0 then s.accessErr .awlSecure a
  else (s.writeWord .awlSecure a 15 (leNat (byteSlice e 4 4))).1

/-- The boot configuration of bank b, if it has one. -/
def State.applyConfig (s : State) (b : Nat) : State :=
  let x := s.slotOf b 2
  if !s.slotGood 2 x then s
  else
    let d := (x.chunks.find? 1).getD []
    ((List.range (d.length / 8)).foldl (fun t i => t.cfgEntry (byteSlice d (8 * i) 8)) s).set BOOT_STAT.CFG_APPLIED 1

/-- The base starts, with the keys of what was measured. -/
def State.startImages (s : State) (base policy : List Byte) : State :=
  let s1 := (s.modSec fun c => { c with
    runBase := base, runPolicy := policy, tableHash := byteSlice base 96 48, halted := false, fetch := none }).deriveSlots
  ({ s1 with integ := { s1.integ with awlDown := false } }.setFlag BOOT_STAT.POLICY_LOADED (!policy.isEmpty)
    |>.set MBX_STAT.AWL_UP 1).checkSettings

/-- Bank b is booted: its base, its policy module if that passes, its boot configuration. -/
def State.bootBank (s : State) (b : Nat) : State :=
  let pol := s.slotOf b 1
  ((s.set BOOT_STAT.BOOTED_BANK b |>.set BOOT_STAT.FLASHLESS 0
    |>.setFlag BOOT_STAT.FELL_BACK (b != s.get BOOT_STAT.RECORD_BANK)).startImages (s.slotOf b 0).header
    (if s.slotGood 1 pol then pol.header else [])).applyConfig b

/-- No usable base image (Table 15.2): flashless when the fuses permit it in a spoke, else the boot stops. -/
def State.noImage (s : State) : State :=
  let s1 := (s.set MBX_STAT.AWL_UP 0).modSec fun c => { c with runBase := [], runPolicy := [], fetch := none }
  if !s.isRoot && bit s.protect 5 then (s1.set BOOT_STAT.FLASHLESS 1).raise EV.flashlessBoot
  else s1.modSec fun c => { c with halted := true }

/-- Steps 3 to 5 over the banks in the record's order. -/
def State.bootImages (s : State) : State :=
  let s1 := s.readRecord
  let b := s1.get BOOT_STAT.RECORD_BANK
  let r := s1.pickBank [b, 1 - b]
  match r.2 with
  | some x => r.1.bootBank x
  | none => r.1.noImage

-- The boot ROM (R410, Table 15.1) ------------------------------------------------------------------------------------

/-- Step 2 of Table 15.1: enrolment in VENDOR, regeneration, or nothing in BLANK and VOID. -/
def State.rootStep (s : State) (good : Nat) (ok : Bool) : State :=
  if s.lc = 0 ∨ s.lc = 5 then s
  else if s.lc = 1 ∧ !s.enrolled then (if s.nv.flash.fitted then s.enrol ok else s)
  else s.regenerate good

/-- The ROM after power-on reset: corr words corrected by SECDED, uncorr: one that a field in use cannot correct; good: the array
start-ups that decode; ok: enrolment meets no failure. -/
def execBootRomRun (corr : Nat) (uncorr : Bool) (good : Nat) (ok : Bool) (s : State) : Out :=
  .next <|
    if s.chip.power ≠ 3 ∨ s.flag FUSE_STAT.READ_DONE ∨ s.sec.halted then s
    else
      let s1 := (s.set FUSE_STAT.CORR (min corr 65535)).showFuses
      if uncorr then (s1.set FUSE_STAT.UNCORR 1).modSec fun c => { c with halted := true }
      else
        let s2 := (s1.set FUSE_STAT.READ_DONE 1 |>.set KEY_STAT.DBG_LEVEL (if s1.lc = 0 then 3 else 0)).rootStep good ok
        let s3 := s2.bootImages
        if s3.sec.halted then s3 else s3.wakeDone 4

-- Restarts (R201, R414) ----------------------------------------------------------------------------------------------

/-- An uncorrectable error in Awl SRAM stops the core. -/
def execAwlUncorr (s : State) : Out :=
  let s1 := (s.logErr 10 0 0).set MBX_STAT.AWL_UP 0
  .next { s1 with integ := { s1.integ with awlDown := true } }

/-- The restart path: fuses again, no step 2, every check of step 3. It ends a Hold exit (Table 14.7). -/
def State.restartPath (s : State) (corr : Nat) (uncorr : Bool) : State :=
  let hold := decide (s.get PWRD_STATE.STATE = 3)
  let s1 := (s.awlRestarts.set FUSE_STAT.CORR (min (s.get FUSE_STAT.CORR + corr) 65535)).showFuses
  let s2 := if uncorr then (s1.set FUSE_STAT.UNCORR 1).modSec fun c => { c with halted := true }
    else (s1.set FUSE_STAT.READ_DONE 1 |>.setFlag KEY_STAT.ROOT_OK s.sec.root.isSome).bootImages
  if hold then (s2.wakeDone 3).bringUpOff else s2

def execAwlRestartPath (corr : Nat) (uncorr : Bool) (s : State) : Out :=
  .next (if s.integ.awlDown || (s.flag PWRD_STATE.EXITING && s.get PWRD_STATE.STATE == 3) then s.restartPath corr uncorr else s)

-- Activation (R455, R456) --------------------------------------------------------------------------------------------

/-- The pending activation is applied: record, restart, ACTIVATED; or the record back, the previous bank, BANK_FAIL and
ROLLED_BACK. -/
def State.applyActivation (s : State) (late : Bool) : State :=
  let old := s.bootedBank
  let b := s.otherBank
  let s1 := ((((s.set UPD_ACT.PENDING 0).setFlag UPD_ACT.LATE late).set UPD_ACT.FAILED 0).writeRecord b).awlRestarts.showFuses
  if s1.fullSet b then
    ((((s1.readRecord.set (bankValid b) 1).showBank b).bootBank b)).raise EV.activated
  else
    let s2 := (((s1.set (bankValid b) 0).set UPD_ACT.FAILED 1).writeRecord old).readRecord
    let s3 := if s2.baseGood old then s2.bootBank old else s2.noImage
    (s3.raise EV.bankFail).raise EV.rolledBack

/-- The epoch that FW_ACTIVATE named has started. -/
def State.actDue (s : State) : Bool := !s.frozen && decide (epochStart s.now (s.get UPD_ACT_EPOCH.EPOCH) ≤ s.now)

def execActivationApply (s : State) : Out :=
  .next (if s.flag UPD_ACT.PENDING && (!s.flag UPD_ACT.AT || s.actDue) then
    s.applyActivation false else s)

-- Flashless boot (R415, R425, R461) ----------------------------------------------------------------------------------

/-- A request of this hub's own endpoint to its parent, on label NBR_CTL. -/
def State.requestUp (s : State) (p : CtlPkt) (purpose : Nat) : State :=
  let q := s.asRequest { p with dst := s.get (WLT_PARTNER_CAP.DATA 0 1) % 256 }
  (s.ctlOut 0 q).keepRequest q purpose

/-- The fetch goes on with kind, chunk and part; got holds the chunk so far. -/
def State.ask (s : State) (f : FetchSt) : State :=
  let d := if f.kind = 3 then byteSlice s.serial 0 32 else []
  (s.modSec fun c => { c with fetch := some f }).requestUp
    { reqPkt 5 0 0 0 d.length d with opdata := imgOp f.kind 3 f.chunk f.part false } 3

/-- Everything that can be had is there: the base starts. -/
def State.flashlessStart (s : State) : State :=
  let head k := (s.sec.ram.toList.getD k ImgSlot.reset).header
  s.startImages (head 0) (head 1)

/-- After the images: the helper record, when the hub needs one and its flash holds no valid copy. -/
def State.fetchHelper (s : State) (good : Nat) : State :=
  if s.sec.root.isNone && !s.sec.regenOff && s.enrolled && s.lc != 5 && !(s.nv.flash.helper.any s.helperGood) then
    s.ask ⟨3, 0, 0, [], good⟩
  else s.flashlessStart

def State.putRam (s : State) (k : Nat) (x : ImgSlot) : State :=
  if h : k < 3 then s.modSec fun c => { c with ram := c.ram.set k x h } else s

/-- After the base: the policy module, where one may be loaded (R412) and the flash gives none (R415). -/
def State.fetchPolicy (s : State) (good : Nat) : State :=
  let b := s.get BOOT_STAT.RECORD_BANK
  if s.lc < 2 then s.fetchHelper good
  else match [b, 1 - b].find? fun x => s.nv.flash.fitted && s.slotGood 1 (s.slotOf x 1) with
    | some x => (s.putRam 1 (s.slotOf x 1)).fetchHelper good
    | none => s.ask ⟨1, 0xFFFF, 0, [], good⟩

/-- What cannot be fetched or fails its checks: without a base the boot stops; the rest is done without. -/
def State.fetchFailed (s : State) (f : FetchSt) : State :=
  if f.kind = 0 then s.modSec fun c => { c with halted := true, fetch := none }
  else if f.kind = 1 then (s.putRam 1 ImgSlot.reset).fetchHelper f.good
  else s.flashlessStart

/-- The header and key block of the image fetched. -/
def State.fetchedHeader (s : State) (f : FetchSt) (d : List Byte) : State :=
  let h := byteSlice d 0 4096
  let k := byteSlice d 4096 2048
  if hKind h ≠ f.kind ∨ s.headerCheck false h k ≠ 0 then s.fetchFailed f
  else (s.putRam f.kind ⟨h, k, []⟩).ask { f with chunk := 0, part := 0, got := [] }

/-- A segment of a chunk. -/
def State.fetchedPart (s : State) (f : FetchSt) (d : List Byte) (last : Bool) : State :=
  let got := f.got ++ d
  if !last then s.ask { f with part := f.part + 1, got := got }
  else
    let x := s.sec.ram.toList.getD f.kind ImgSlot.reset
    if chunkCheck x.header ((x.chunks.find? 0).getD got) f.chunk got ≠ 0 then s.fetchFailed f
    else
      let s1 := s.putRam f.kind { x with chunks := x.chunks.put f.chunk got }
      if f.chunk + 1 < hCount x.header then s1.ask { f with chunk := f.chunk + 1, part := 0, got := [] }
      else if f.kind = 0 then s1.fetchPolicy f.good else s1.fetchHelper f.good

/-- A fetched helper record: the array start-ups that decode regenerate from it (R427). -/
def State.fetchedHelper (s : State) (f : FetchSt) (d : List Byte) : State :=
  let r := byteSlice d 0 2048
  let s1 := match (List.range 6).find? fun k => bit f.good k && s.helperGood r with
    | some k => (s.latchRoot (Config.sha384 (ascii "UH9640-ROOT" ++ Config.pufSecret (byteSlice r 16 1984)))).set
        KEY_STAT.PUF_TRIES (k + 1)
    | none => s.set KEY_STAT.PUF_TRIES 6
  s1.flashlessStart

/-- The parent's answer to a FETCH, or TIMEOUT, after which the fetch waits for the link again. -/
def State.flashlessAnswered (s : State) (a : CtlPkt) : State :=
  match s.sec.fetch with
  | none => s
  | some f =>
    let d := byteSlice a.data 0 a.bytes
    if a.status = 11 then s.modSec fun c => { c with fetch := none }
    else if a.status ≠ 0 then s.fetchFailed f
    else if f.kind = 3 then s.fetchedHelper f d
    else if f.chunk = 0xFFFF then s.fetchedHeader f d
    else s.fetchedPart f d (bit (byteAt a.opdata 5) 0)

/-- Enrolment of a spoke without a flash: its record goes upstream for its parent to keep (R425). -/
def State.enrolUp (s : State) (ok : Bool) : State :=
  if s.lc ≠ 1 ∨ s.enrolled then s
  else
    let s1 := s.enrol ok
    let r := s1.nv.flash.helper.getD 0 []
    if !s1.enrolled then s1
    else (s1.modFlash fun f => { f with helper := s.nv.flash.helper }).requestUp
      { reqPkt 5 0 0 0 2048 r with opdata := imgOp 0 1 0 0 true } 0

/-- The upstream link is admitted: the fetch begins. -/
def execFlashlessBoot (good : Nat) (ok : Bool) (s : State) : Out :=
  .next (if s.flag BOOT_STAT.FLASHLESS && !s.flag MBX_STAT.AWL_UP && !s.sec.halted && s.sec.fetch.isNone
      && s.flag (WLT_LINK_STAT.ADMITTED 0) then (s.enrolUp ok).ask ⟨0, 0xFFFF, 0, [], good⟩ else s)

-- The policy check (R416) --------------------------------------------------------------------------------------------

/-- The base refuses the partners on the ports of the mask: their links go down with POLICY. -/
def execPolicyCheckStart (refused : Nat) (s : State) : Out :=
  .next (if s.flag MBX_STAT.AWL_UP then
    ((allPorts.filter fun (n : Port) => bit refused n && s.flag (WLT_LINK_STAT.ADMITTED n)).foldl (fun (t : State) (n : Port) =>
      t.linkDown n 9) s) else s)

end Sys2Proof.Machine
end

