-- ==== Sys2Proof/Machine/Mailbox.lean ====
section
/-!
DEFINITION. Sys2Proof/Machine/Mailbox.lean: the mailbox commands (Tables 08.8, 12.13, 15.13, 16.7), and how the Awl works on the
command at the head of its queue (R245 to R250, R506).

A command is taken up once. It has its result at once, or a list of operations that the Awl carries out in turn: on this hub's own
window directly, elsewhere by a control request whose answer goes on with the list.
-/
namespace Sys2Proof.Machine

-- The command at the head --------------------------------------------------------------------------------------------

/-- The base firmware serves commands. -/
def State.awlServes (s : State) : Bool := s.flag MBX_STAT.AWL_UP && !s.flag DBG_AWL_CTRL.HALT

def State.modFront (s : State) (f : MbxCmd → MbxCmd) : State :=
  match s.ctl.mbxQueue with
  | [] => s
  | c :: t => { s with ctl := { s.ctl with mbxQueue := f c :: t } }

/-- The result of the head command stands. -/
def State.answerHead (s : State) (status : Nat) (d : List Byte) : State :=
  s.modFront fun c => { c with result := some (status, d), todo := [], tags := [] }

/-- The head command has a list of operations; got is what its result starts from. -/
def State.planHead (s : State) (todo : List RemoteOp) (got : List Byte) : State :=
  s.modFront fun c => { c with todo := todo, got := got }

def State.nextOps (s : State) (todo : List RemoteOp) : State := s.modFront fun c => { c with todo := todo, tags := [] }

-- Operations on this hub's own window --------------------------------------------------------------------------------

/-- How this hub's own control operations reach its window (R225, R430). -/
def State.ownSrc (s : State) : Src := .hub s.hubId 7

/-- One word of an own WRITE: a power-die word takes effect before the next. -/
def State.ownWord (s : State) (x : Nat × Nat × Nat) : WRes :=
  if x.1 < 0x0100000 ∧ powerDie (x.1 / 0x1000) ∧ s.pageOpen (x.1 / 0x1000) ∧ x.2.1 = 15 then s.writeDie s.ownSrc x.1 x.2.2
  else s.writeWord s.ownSrc x.1 x.2.1 x.2.2

/-- An operation on this hub's own window: status and data. A MAILBOX operation to itself joins its own queue behind the command
that sends it. -/
def State.ownOp (s0 : State) (o : RemoteOp) (tag : Nat) : State × Nat × List Byte :=
  let s := s0.dieDrain.commandRun
  let q := { reqPkt o.op s.hubId s.hubId o.offset o.bytes o.data with opdata := leBytes 2 o.offset ++ [BitVec.ofNat 8 tag] }
  if o.op = 0 then
    if !readOk { q with data := [] } then (s, 5, [])
    else
      let r := s.readWords o.offset (o.bytes / 4)
      (r.1, 0, r.2)
  else if o.op = 1 then
    if !writeOk q then (s, 5, [])
    else
      let r := (writeWordsOf o.offset o.data).foldl (fun (r : WRes) x =>
        let y := r.1.ownWord x
        (y.1, if r.2 = 0 then y.2 else r.2)) (s, 0)
      (r.1, r.2, [])
  else if 4 ≤ s.get MBX_STAT.QUEUED then (s, 10, [])
  else (s.putQueue (s.ctl.mbxQueue ++ [mbxNew o.offset tag o.data (some (7, q))]), 16, [])

-- Kinds of operations beyond READ (0), WRITE (1) and MAILBOX (6) -------------------------------------------------------

/-- Read the header of the shadow map at offset, then append the entry in data. -/
def opEntry : Nat := 16
/-- Wait for the commit result of the wheels in bytes. -/
def opCommit : Nat := 17
/-- Read the status of the last context command, which was for context bytes. -/
def opCtx : Nat := 18
/-- Copy the active maps of the wheels in bytes into their shadows, with WHL_CTRL's other field kept. -/
def opCopy : Nat := 19
/-- Wait until the context at offset is idle. -/
def opIdle : Nat := 20
/-- Wait until the wheels in bytes are staged or refused; data is the commit's epoch. -/
def opStaged : Nat := 21
/-- Read the result of a commit whose wheels are not staged; data is its epoch. -/
def opRefusal : Nat := 22

/-- What an operation sends: those beyond the control operations begin with the READ of one word. -/
def RemoteOp.wire (o : RemoteOp) : RemoteOp := if 16 ≤ o.op then { o with op := 0, bytes := 4, data := [] } else o

def opStore (hub a : Nat) (d : List Byte) : RemoteOp := ⟨hub, 1, a, d.length, d⟩
def opRead (hub a n : Nat) : RemoteOp := ⟨hub, 0, a, n, []⟩
/-- A MAILBOX operation: its offset holds the CMD. -/
def opMbx (hub cmd : Nat) (d : List Byte) : RemoteOp := ⟨hub, 6, cmd, 64, byteSlice d 0 64⟩
def opCtxCmd (hub op i : Nat) : RemoteOp := opStore hub 0x30044 (leBytes 4 (op * 2 ^ 24 + i))
def opCtxStat (hub i : Nat) : RemoteOp := ⟨hub, opCtx, 0x30048, i, []⟩

-- Chain-wide path requests (R146, R188, R250) ------------------------------------------------------------------------

/-- The hubs from the Root down to hub x. -/
def State.line (s : State) (x : Nat) : List Nat := (s.path x).map Prod.fst ++ [x]

def commonLen : List Nat → List Nat → Nat
  | a :: x, b :: y => if a = b then commonLen x y + 1 else 0
  | _, _ => 0

/-- The hubs of a path along the tree. -/
def State.pathHubs (s : State) (a b : Nat) : List Nat :=
  let x := s.line a
  let y := s.line b
  let k := commonLen x y
  (x.drop k).reverse ++ [y.getD (k - 1) 0] ++ y.drop k

/-- The attachment of hub a towards its neighbour b in the tree. -/
def State.attTo (s : State) (a b : Nat) : Nat :=
  match s.chain.hubs.find? b with
  | some r => if r.parent = a then r.port else 0
  | none => 0

/-- The hops of one direction: hub, ingress and egress attachment. -/
def State.hopsOf (s : State) (inAtt outAtt : Nat) : Option Nat → List Nat → List Hop
  | _, [] => []
  | prev, h :: t =>
    ⟨h, match prev with
        | some p => s.attTo h p
        | none => inAtt,
      match t with
      | n :: _ => s.attTo h n
      | [] => outAtt, 0⟩ :: State.hopsOf s inAtt outAtt (some h) t

/-- The contexts that the Root has allotted in hub h. -/
def State.usedCtx (s : State) (h : Nat) : List Nat :=
  s.chain.paths.flatMap fun (p : Nat × List Hop) => (p.2.filter fun x => x.hub == h).map Hop.ctx

/-- The context for a hop: the one the firmware picks when it is free, else the lowest free one (log entry 62). -/
def allot (used : List Nat) (pick : Nat) : Nat :=
  let free (i : Nat) : Bool := decide (2 ≤ i ∧ i < 2047) && !used.contains i
  if free pick then pick else ((List.range 2048).find? free).getD 2048

/-- Contexts for the hops in order. -/
def State.allotAll (s : State) : List Hop → List Nat → List (Nat × Nat) → List Hop
  | [], _, _ => []
  | h :: t, picks, done =>
    let i := allot (s.usedCtx h.hub ++ (done.filter fun x => x.1 == h.hub).map Prod.snd) (picks.headD 0)
    { h with ctx := i } :: State.allotAll s t (picks.drop 1) ((h.hub, i) :: done)

/-- A path request's fields (Table 08.8). -/
structure PathReq where
  ttype : Nat
  cls : Nat
  both : Bool
  sealOn : Bool
  quota : Nat
  declared : Nat
  endHub : Nat

/-- The words 0 to 3 of a hop's context; pair is the reverse flow's context at an end. -/
def PathReq.words (x : PathReq) (h : Hop) (label : Nat) (pair : Option Nat) : List Byte :=
  leBytes 4 (h.inAtt + 16 * x.cls + 64 * x.ttype + 2 ^ 14 + 2 ^ 15 * b2n x.sealOn + (match pair with
    | some p => 2 ^ 18 + 2 ^ 19 * p
    | none => 0))
    ++ leBytes 4 (h.outAtt + 8 * label + 2 ^ 16 * x.endHub) ++ leBytes 4 (x.quota + 2 ^ 16 * x.declared) ++ leBytes 4 0

/-- The context writes of one direction, from its ingress on. first and last are the pairs of its ends. -/
def PathReq.writes (x : PathReq) (chan : Nat) (first last : Option Nat) : Bool → List Hop → List RemoteOp
  | _, [] => []
  | isFirst, h :: t =>
    let a := 0x0100000 + 0x100 * h.ctx
    let label := match t with
      | n :: _ => n.ctx
      | [] => chan
    let pair := if t.isEmpty then last else if isFirst then first else none
    opStore h.hub a (x.words h label pair) :: opStore h.hub (a + 0x20) (List.replicate 16 0)
      :: PathReq.writes x chan first last false t

/-- The wheels of a direction's links: hub, wheel, context. -/
def wheelsOf : List Hop → List (Nat × Nat × Nat)
  | h :: n :: t => (h.hub, h.outAtt, h.ctx) :: (n.hub, 4 + n.inAtt, n.ctx) :: wheelsOf (n :: t)
  | _ => []

/-- A map entry (Table 06.4) with FIRST 0 for ISO and WEIGHT 1 else (log entry 62). -/
def PathReq.entry (x : PathReq) (i : Nat) : List Byte :=
  leBytes 4 (i + 2 ^ 11 * x.cls + 2 ^ 16 * x.quota) ++ leBytes 4 (x.declared + 2 ^ 16 * (if x.cls = 1 then 0 else 1))

/-- The wheels of hub h as a mask. -/
def maskOf (ws : List (Nat × Nat × Nat)) (h : Nat) : Nat := (ws.filter fun w => w.1 == h).foldl (fun m w => setBit m w.2.1) 0

/-- The commit of the wheels of one hub at an epoch. -/
def opCommitAt (hub mask epoch tag : Nat) : List RemoteOp :=
  [opStore hub 0x50044 (leBytes 4 (epoch % 2 ^ 32)), opStore hub 0x50040 (leBytes 4 (2 * 2 ^ 24 + tag * 2 ^ 16 + mask))]

/-- Every staged wheel of a hub is cancelled. -/
def opAbort (hub tag : Nat) : RemoteOp := opStore hub 0x50040 (leBytes 4 (3 * 2 ^ 24 + tag * 2 ^ 16))

/-- The chain-wide commit of a path (R188): copies, entries, commits, every hub staged, every result. -/
def PathReq.commit (x : PathReq) (ws : List (Nat × Nat × Nat)) (epoch tag : Nat) : List RemoteOp :=
  let hubs := (ws.map fun w => w.1).eraseDups
  (hubs.map fun h => (⟨h, opCopy, 0x50054, maskOf ws h, []⟩ : RemoteOp))
    ++ (ws.map fun w => (⟨w.1, opEntry, 0x01C0000 + 0x4000 * w.2.1 + 0x2000, 8, x.entry w.2.2⟩ : RemoteOp))
    ++ (hubs.flatMap fun h => opCommitAt h (maskOf ws h) epoch tag)
    ++ (hubs.map fun h => (⟨h, opStaged, 0x50048, maskOf ws h, leBytes 4 (epoch % 2 ^ 32)⟩ : RemoteOp))
    ++ hubs.map fun h => (⟨h, opCommit, 0x50080, maskOf ws h, []⟩ : RemoteOp)

/-- The order of activation (R146, Table 05.8): egress ends, the hops between from egress to ingress, ingress ends. -/
def activationOrder (f r : List Hop) : List Hop :=
  let inner (l : List Hop) : List Hop := (l.drop 1).dropLast.reverse
  let last (l : List Hop) : List Hop := l.getLast?.toList
  let head (l : List Hop) : List Hop := if l.length = 1 then [] else l.take 1
  last f ++ last r ++ inner f ++ inner r ++ head f ++ head r

/-- Hub h is in the chain map: the Root, or a hub that has joined. -/
def State.known (s : State) (h : Nat) : Bool := h == 0 || (s.chain.hubs.find? h).any fun r => r.joined

/-- PATH_OPEN is taken up: refused before anything is written, or planned. pick: the contexts that the firmware chooses, by hop
in path order; pid: its PATH_ID; lead: how many epochs ahead it commits when the request names none. -/
def State.pathOpen (s : State) (c : MbxCmd) (pick : List Nat) (pid lead : Nat) : State :=
  let b i := byteAt c.req i
  let w i := leNat (byteSlice c.req i 2)
  let e := leNat (byteSlice c.req 16 4)
  let x : PathReq := ⟨b 0, b 1, bit (b 2) 0, bit (b 2) 1, w 12, w 14, b 8⟩
  if !s.isRoot then s.answerHead 15 []
  else if 4 < x.ttype ∨ !decide (4 ≤ b 5 ∧ b 5 < 8 ∧ 4 ≤ b 9 ∧ b 9 < 8 ∧ w 6 < 2048 ∧ w 10 < 2048 ∧ x.quota ≤ 49600) then
    s.answerHead 13 []
  else if !classAllowed x.ttype x.cls then s.answerHead 8 []
  else if !(s.known (b 4) && s.known (b 8)) then s.answerHead 1 []
  else if (s.chain.paths.find? (pid % 65536)).isSome then s.answerHead 9 []
  else
    let hubs := s.pathHubs (b 4) (b 8)
    let f0 := s.hopsOf (b 5) (b 9) none hubs
    let r0 := if x.both then s.hopsOf (b 9) (b 5) none hubs.reverse else []
    let all : List Hop := s.allotAll (f0 ++ r0) pick []
    let f := all.take f0.length
    let r := all.drop f0.length
    let fi (l : List Hop) : Option Nat := l.head?.map Hop.ctx
    let la (l : List Hop) : Option Nat := l.getLast?.map Hop.ctx
    let ws := wheelsOf f ++ wheelsOf r
    let epoch := if e = 0 then s.epochNow + 1 + lead else e
    if all.any fun h => h.ctx == 2048 then s.answerHead 9 []
    else
      let todo := x.writes (w 10) (la r) (fi r) true f
        ++ ({ x with endHub := b 4 } : PathReq).writes (w 6) (la f) (fi f) true r
        ++ (if ws.isEmpty then [] else x.commit ws epoch c.tag)
        ++ (activationOrder f r).flatMap fun h => [opCtxCmd h.hub 1 h.ctx, opCtxStat h.hub h.ctx]
      let s1 := { s with chain := { s.chain with paths := s.chain.paths.put (pid % 65536) all } }
      s1.planHead todo (leBytes 2 pid ++ [BitVec.ofNat 8 (hubs.length - 1), 0] ++ leBytes 2 ((fi f).getD 0)
        ++ leBytes 2 ((fi r).getD 0))

/-- PATH_CLOSE is taken up: each hop in path order, drained or torn down; its contexts are free again. -/
def State.pathClose (s : State) (c : MbxCmd) : State :=
  if !s.isRoot then s.answerHead 15 []
  else
    let pid := leNat (byteSlice c.req 0 2)
    match s.chain.paths.find? pid with
    | none => s.answerHead 13 []
    | some hops =>
      let drain := bit (byteAt c.req 2) 0
      let todo := hops.flatMap fun h =>
        [opCtxCmd h.hub (if drain then 2 else 3) h.ctx, opCtxStat h.hub h.ctx]
          ++ (if drain then [(⟨h.hub, opIdle, 0x0100014 + 0x100 * h.ctx, 0, []⟩ : RemoteOp)] else [])
      ({ s with chain := { s.chain with paths := s.chain.paths.del pid } }).planHead todo []

/-- A refused path request: what has been activated is torn down and what has been committed is committed back, then the refusal is
reported (R188, R250). -/
def State.undo (s : State) (c : MbxCmd) (status : Nat) : State :=
  let todo := c.steps.flatMap fun x =>
    if x.2 < 2048 then [opCtxCmd x.1 3 x.2] else opCommitAt x.1 (x.2 % 256) (s.epochNow + 8) c.tag
  s.modFront fun d => { d with todo := todo, tags := [], fate := status, steps := [] }

/-- A commit of a path request is refused (R188): before its epoch the whole of it is aborted, and nothing has been applied; after it the
results of the other hubs are read, so that what has applied can be committed back. -/
def State.commitRefused (s : State) (c : MbxCmd) (o : RemoteOp) (rest : List RemoteOp) (status : Nat) : State :=
  let results := rest.filter fun (x : RemoteOp) => x.op == opCommit
  let early := o.op == opRefusal && before 32 (s.epochNow % 2 ^ 32) (leNat o.data)
  s.modFront fun d => { d with tags := [], fate := status, todo := if early then results.map fun x => opAbort x.hub c.tag else results }

-- Working on the list ------------------------------------------------------------------------------------------------

/-- An operation of the head command has failed with a status. -/
def State.stepFailed (s : State) (c : MbxCmd) (o : RemoteOp) (rest : List RemoteOp) (status : Nat) : State :=
  if c.cmd = 0x10 then (s.nextOps rest).modFront fun d => { d with got := d.got ++ [BitVec.ofNat 8 o.hub] }
  else if c.cmd = 0x20 then
    (if c.fate ≠ 0 then s.nextOps rest
     else if o.op = opCommit ∨ o.op = opRefusal then s.commitRefused c o rest status else s.undo c status)
  else if c.cmd = 0x21 ∨ c.cmd = 0x102 ∨ c.cmd = 0x103 then s.nextOps rest
  else s.answerHead status []

/-- A hub's FREE or upstream encryption as read for CHAIN_MAP (R506). -/
def State.noteMap (s : State) (o : RemoteOp) (v : Nat) : State :=
  s.setHubs (s.chain.hubs.map fun (r : Nat × HubRec) =>
    if r.1 ≠ o.hub then r
    else if o.offset = 0x03044 then (r.1, { r.2 with free := bit v 1 }) else (r.1, { r.2 with enc := bit v 1 }))

/-- The operation at the head of the list has been answered: the state after it, and whether the list goes on. -/
def State.stepAnswered (s : State) (status : Nat) (d : List Byte) : State × Bool :=
  match s.ctl.mbxQueue with
  | [] => (s, false)
  | c :: _ =>
    match c.todo with
    | [] => (s, false)
    | o :: rest =>
      let v := leNat (byteSlice d 0 4)
      let stay := s.modFront fun x => { x with tags := [] }
      if c.cmd = 0x14 then (s.answerHead status (if d = [] then [] else byteSlice (d.drop 4) 0 60), false)
      else if status ≠ 0 then (s.stepFailed c o rest status, true)
      else if o.op = opEntry then
        let k := v % 65536
        if 1023 ≤ k then (s.stepFailed c o rest 5, true)
        else (s.nextOps (opStore o.hub (o.offset + 8 + 8 * k) o.data :: opStore o.hub o.offset (leBytes 4 (k + 1)) :: rest), true)
      else if o.op = opCommit then
        if !bit v 7 ∨ bits v 8 8 ≠ c.tag then (stay, false)
        else if v % 128 ≠ 0 then (s.stepFailed c o rest (v % 128), true)
        else ((s.nextOps rest).modFront fun x => { x with steps := x.steps ++ [(o.hub, 65536 + o.bytes)] }, true)
      else if o.op = opStaged then
        if v % 256 &&& o.bytes = o.bytes then (s.nextOps rest, true)
        else (s.nextOps ({ o with op := opRefusal, offset := 0x50080 } :: c.todo), true)
      else if o.op = opRefusal then
        if !bit v 7 ∨ bits v 8 8 ≠ c.tag then (s.nextOps rest, false)
        else if v % 128 ≠ 0 then (s.stepFailed c o rest (v % 128), true)
        else (s.nextOps (rest.drop 1), true)
      else if o.op = opCtx then
        if bit v 31 then (stay, false)
        else if bits v 16 8 ≠ 0 then (s.stepFailed c o rest (bits v 16 8), true)
        else ((s.nextOps rest).modFront fun x =>
          { x with steps := if x.fate = 0 then x.steps ++ [(o.hub, o.bytes)] else x.steps, got := if c.cmd = 0x21 then x.got ++ [0] else x.got }, true)
      else if o.op = opCopy then (s.nextOps (opStore o.hub 0x50054 (leBytes 4 (bits v 16 5 * 2 ^ 16 + o.bytes)) :: rest), true)
      else if o.op = opIdle then (if v &&& 0x51 = 0 then (s.nextOps rest, true) else (stay, false))
      else if c.cmd = 0x10 then ((s.noteMap o v).nextOps rest, true)
      else if c.cmd = 0x20 ∨ c.cmd = 0x21 then (s.nextOps rest, true)
      else if o.op = 6 then ((s.nextOps rest).modFront fun x => { x with got := x.got ++ [1] }, true)
      else ((s.nextOps rest).modFront fun x => { x with got := x.got ++ d }, true)

/-- An entry of CHAIN_MAP: id, parent, parent port, depth, flags. -/
def State.mapEntry (s : State) (unread : List Byte) (id : Nat) : List Byte :=
  let miss := 8 * b2n (unread.contains (BitVec.ofNat 8 id))
  if id = 0 then [0, 255, 0, 0, BitVec.ofNat 8 (2 * s.get CTM_STAT.FREE + miss)]
  else match s.chain.hubs.find? id with
    | some r =>
      [BitVec.ofNat 8 id, BitVec.ofNat 8 r.parent, BitVec.ofNat 8 r.port, BitVec.ofNat 8 r.depth,
       BitVec.ofNat 8 (if r.uh3200 then 3 else 2 * b2n r.free + 4 * b2n r.enc + miss)]
    | none => []

/-- The ids of the chain map from one on, at most eleven, ascending. -/
def State.mapIds (s : State) (first : Nat) : List Nat :=
  ((List.range 256).filter fun i => decide (first ≤ i) && s.known i).take 11

/-- The list is done: the result, and host memory written before it. -/
def State.finishHead (s : State) (c : MbxCmd) : State :=
  if c.cmd = 0x10 then
    let ids := s.mapIds (byteAt c.req 0)
    s.answerHead 0 ([BitVec.ofNat 8 ids.length, 0, 0, 0] ++ ids.flatMap (s.mapEntry c.got))
  else if c.cmd = 0x12 then s.answerHead 0 []
  else if c.cmd = 0x13 then
    (s.emit (.dma (leNat (byteSlice c.req 16 8)) c.got)).answerHead 0 (leBytes 2 c.got.length)
  else if c.cmd = 0x20 then
    if c.fate = 0 then s.answerHead 0 c.got
    else ({ s with chain := { s.chain with paths := s.chain.paths.del (leNat (byteSlice c.got 0 2)) } }).answerHead c.fate []
  else if c.cmd = 0x21 then s.answerHead 0 [BitVec.ofNat 8 c.got.length]
  else if c.cmd = 0x102 ∨ c.cmd = 0x103 then
    s.answerHead (if byteAt c.got 0 = 0 then 0 else 14) [BitVec.ofNat 8 (byteAt c.got 0), BitVec.ofNat 8 (c.got.length - 1)]
  else s.answerHead 0 c.got

/-- The Awl goes on with the head command: operations on its own window one after the other, one request at a time elsewhere. -/
def State.advance : Nat → State → State
  | 0, s => s
  | f + 1, s =>
    match s.ctl.mbxQueue with
    | [] => s
    | c :: _ =>
      if c.result.isSome ∨ !c.begun ∨ c.tags ≠ [] then s
      else match c.todo with
        | [] => if c.cmd = 0x20 ∧ c.fate ≠ 0 ∧ c.steps ≠ [] then State.advance f (s.undo c c.fate) else s.finishHead c
        | o :: _ =>
          let x := o.wire
          if o.hub = s.hubId then
            let r := s.ownOp x c.tag
            if r.2.1 = 16 then r.1.modFront fun y => { y with tags := [65536] }
            else
              let t := r.1.stepAnswered r.2.1 r.2.2
              if t.2 then State.advance f t.1 else t.1
          else if (s.routeTo o.hub).isNone then
            let t := s.stepAnswered 1 []
            if t.2 then State.advance f t.1 else t.1
          else
            let p := reqPkt x.op x.hub 0 (if x.op = 6 then 0 else x.offset) x.bytes x.data
            let p' := if x.op = 6 then { p with opdata := leBytes 2 x.offset ++ [BitVec.ofNat 8 c.tag] } else p
            (s.modFront fun y => { y with tags := [s.freshTag] }).request p' 1

/-- An answer that came while the core was halted is taken first. Room for every operation of a list, twice over. -/
def State.goOn (s : State) : State :=
  match s.ctl.mbxQueue with
  | [] => s
  | c :: _ =>
    let t := match c.heard with
      | some (st, d) => ((s.modFront fun x => { x with heard := none }).stepAnswered st d).1
      | none => s
    t.advance (4 * c.todo.length + 8)

/-- A control request of a mailbox command has been answered: the Awl goes on with the command. Halted, it does so later; stopped, it
does not, and the command ends with TIMEOUT (R201). -/
def State.mbxAnswered (s : State) (tag status : Nat) (d : List Byte) : State :=
  match s.ctl.mbxQueue with
  | c :: _ =>
    if !c.tags.contains tag ∨ !s.flag MBX_STAT.AWL_UP then s
    else if s.flag DBG_AWL_CTRL.HALT then s.modFront fun x => { x with tags := [], heard := some (status, d) }
    else (s.stepAnswered status d).1.goOn
  | [] => s

/-- The Awl works on the head command when it is this one: it takes it up with `start`, or goes on with it. -/
def State.mbxRun (s : State) (cmd : Nat) (start : MbxCmd → State → State) : State :=
  match s.ctl.mbxQueue with
  | c :: _ =>
    if c.cmd ≠ cmd ∨ !s.awlServes ∨ c.result.isSome then s
    else if c.begun then s.goOn
    else
      let t := start c (s.modFront fun x => { x with begun := true })
      match t.ctl.mbxQueue with
      | d :: _ => if d.result.isSome then t else t.goOn
      | [] => t
  | [] => s

/-- A mailbox command by its way: rung, it runs when nothing is ahead of it. -/
def State.mbx (s : State) (way : MbxWay) (cmd : Nat) (start : MbxCmd → State → State) : State :=
  match way with
  | .run => s.mbxRun cmd start
  | .ring tag =>
    let t := s.ring cmd tag
    if s.ctl.mbxQueue.isEmpty then t.mbxRun cmd start else t

/-- A start that only the Root has. -/
def rootOnly (start : MbxCmd → State → State) (c : MbxCmd) (s : State) : State :=
  if s.isRoot then start c s else s.answerHead 15 []

/-- A start whose result is there at once: status and bytes from byte 4 on. -/
def atOnce (f : MbxCmd → State → State × Nat × List Byte) (c : MbxCmd) (s : State) : State :=
  let r := f c s
  r.1.answerHead r.2.1 r.2.2

-- Table 08.8 ---------------------------------------------------------------------------------------------------------

def execEcho (way : MbxWay) (s : State) : Out := .next (s.mbx way 0x0001 (atOnce fun c t => (t, 0, byteSlice c.req 0 60)))

/-- What CHIP_INFO returns. -/
def State.chipInfo (s : State) : List Byte :=
  leBytes 2 0x9640 ++ [BitVec.ofNat 8 Config.siliconRev, BitVec.ofNat 8 (s.get CHIP_ROLE.ROLE), BitVec.ofNat 8 s.hubId,
    BitVec.ofNat 8 (s.get CHIP_ROLE.DEPTH), 0, 0] ++ leBytes 4 (hVersion s.sec.runBase) ++ leBytes 4 (hVersion s.sec.runPolicy)
    ++ byteSlice s.hubIdent 0 16

def execChipInfo (way : MbxWay) (s : State) : Out := .next (s.mbx way 0x0002 (atOnce fun _ t => (t, 0, t.chipInfo)))

/-- The reads of CHAIN_MAP (R506): FREE and upstream encryption of each UH9640 spoke that it lists. -/
def State.chainMap (s : State) (c : MbxCmd) : State :=
  let ids := (s.mapIds (byteAt c.req 0)).filter fun i => match s.chain.hubs.find? i with
    | some r => !r.uh3200
    | none => false
  s.planHead (ids.flatMap fun i => [opRead i 0x03044 4, opRead i 0x13044 4]) []

def execChainMap (way : MbxWay) (s : State) : Out := .next (s.mbx way 0x0010 (rootOnly fun c t => t.chainMap c))

/-- The fields of a remote access: hub, window offset, BYTES. -/
def remHub (c : MbxCmd) : Nat := byteAt c.req 0
def remOff (c : MbxCmd) : Nat := leNat (byteSlice c.req 4 4) % 2 ^ 26
def remBytes (c : MbxCmd) : Nat := leNat (byteSlice c.req 8 2)

/-- BYTES is a multiple of 4 from 4 to m. -/
def bytesOk (n m : Nat) : Bool := n % 4 == 0 && decide (4 ≤ n ∧ n ≤ m)

def State.remoteRead (s : State) (c : MbxCmd) : State :=
  if !bytesOk (remBytes c) 60 then s.answerHead 13 []
  else s.planHead [opRead (remHub c) (remOff c) (remBytes c)] []

/-- REMOTE_WRITE; the chain route table is denied (R508). -/
def State.remoteWrite (s : State) (c : MbxCmd) : State :=
  if !bytesOk (remBytes c) 48 then s.answerHead 13 []
  else if remOff c < 0x01A0400 ∧ 0x01A0000 < remOff c + remBytes c then s.answerHead 14 []
  else s.planHead [opStore (remHub c) (remOff c) (byteSlice c.req 16 (remBytes c))] []

def State.remoteReadDma (s : State) (c : MbxCmd) : State :=
  if !bytesOk (remBytes c) 4096 ∨ leNat (byteSlice c.req 16 8) % 4 ≠ 0 then s.answerHead 13 []
  else s.planHead [opRead (remHub c) (remOff c) (remBytes c)] []

def State.remoteMbx (s : State) (c : MbxCmd) : State :=
  s.planHead [opMbx (remHub c) (leNat (byteSlice c.req 2 2)) (byteSlice c.req 4 60)] []

def execRemoteRead (way : MbxWay) (s : State) : Out := .next (s.mbx way 0x0011 (rootOnly fun c t => t.remoteRead c))
def execRemoteWrite (way : MbxWay) (s : State) : Out := .next (s.mbx way 0x0012 (rootOnly fun c t => t.remoteWrite c))
def execRemoteReadDma (way : MbxWay) (s : State) : Out := .next (s.mbx way 0x0013 (rootOnly fun c t => t.remoteReadDma c))
def execRemoteMbx (way : MbxWay) (s : State) : Out := .next (s.mbx way 0x0014 (rootOnly fun c t => t.remoteMbx c))
def execPathOpen (way : MbxWay) (pick : List Nat) (pid lead : Nat) (s : State) : Out :=
  .next (s.mbx way 0x0020 (rootOnly fun c t => t.pathOpen c pick pid lead))
def execPathClose (way : MbxWay) (s : State) : Out := .next (s.mbx way 0x0021 (rootOnly fun c t => t.pathClose c))

-- Table 12.13 --------------------------------------------------------------------------------------------------------

/-- The port of a contract command, in range. -/
def onPort (f : Port → State → State × Nat × List Byte) (c : MbxCmd) (s : State) : State × Nat × List Byte :=
  if h : byteAt c.req 0 < 4 then f ⟨byteAt c.req 0, h⟩ s else (s, 13, [])

def execCtpStatus (way : MbxWay) (s : State) : Out :=
  .next (s.mbx way 0x0200 (atOnce (onPort fun n t => (t.dieDrain, 0, t.dieDrain.ctpStatus n))))
def execCtpRenegotiate (way : MbxWay) (s : State) : Out :=
  .next (s.mbx way 0x0201 (atOnce (onPort fun n t => (t.ctpRenegotiate n, 0, []))))
def execCtpSwap (way : MbxWay) (s : State) : Out :=
  .next (s.mbx way 0x0202 (atOnce (onPort fun n t => ((t.ctpSwap n).1, if (t.ctpSwap n).2 then 0 else 14, []))))
def execCtpHardReset (way : MbxWay) (s : State) : Out :=
  .next (s.mbx way 0x0203 (atOnce (onPort fun n t => (t.hardReset n 6 true, 0, []))))

-- Table 15.13 --------------------------------------------------------------------------------------------------------

/-- The owner policy module, where one runs, refuses the command (R443, R462). -/
def State.vetoes (s : State) (veto : Bool) : Bool := veto && s.flag BOOT_STAT.POLICY_LOADED

def execKeyInfo (way : MbxWay) (s : State) : Out := .next (s.mbx way 0x0300 (atOnce fun _ t => (t, 0, t.keyInfo)))
def execQuote (way : MbxWay) (s : State) : Out :=
  .next (s.mbx way 0x0301 (atOnce fun c t => ((t.quote c.req).1, (t.quote c.req).2, [])))
def execLcAdvance (way : MbxWay) (fail veto : Bool) (s : State) : Out :=
  .next (s.mbx way 0x0310 (atOnce fun c t =>
    if t.vetoes veto then (t, 14, [3, BitVec.ofNat 8 t.lc]) else t.lcCommand (byteAt c.req 0) fail))
def execLcVoid (way : MbxWay) (fail veto : Bool) (s : State) : Out :=
  .next (s.mbx way 0x0311 (atOnce fun c t => if t.vetoes veto then (t, 14, [3]) else t.voidCommand c.req fail))
def execSignerRevoke (way : MbxWay) (fail veto : Bool) (s : State) : Out :=
  .next (s.mbx way 0x0312 (atOnce fun c t => if t.vetoes veto then (t, 14, [3]) else t.revokeCommand c.req fail))

-- Table 16.7 ---------------------------------------------------------------------------------------------------------

def execFwStatus (way : MbxWay) (s : State) : Out := .next (s.mbx way 0x0100 (atOnce fun _ t => (t, 0, t.fwStatus)))
/-- dma: what host memory holds from the image's address on. -/
def execFwLoad (way : MbxWay) (dma : List Byte) (s : State) : Out :=
  .next (s.mbx way 0x0101 (rootOnly (atOnce fun c t => t.fwLoad c.req dma)))

/-- FW_ACTIVATE and FW_ROLLBACK (R455, R456, R458): for this hub, or in the Root for each hub of a map, by REMOTE_MBX. -/
def State.fwMap (s : State) (c : MbxCmd) (veto : Bool) : State :=
  let m := byteSlice c.req 8 32
  if !s.isRoot ∨ m.all (· == 0) then atOnce (fun c t => t.fwActivate c.req veto) c s
  else
    let own := if inMap m 0 then s.fwActivate c.req veto else (s, 0, [0])
    let others := (List.range 255).filter fun i => inMap m i && i != 0
    own.1.planHead (others.map fun i => opMbx i c.cmd (byteSlice c.req 0 8))
      (own.2.2.take 1 ++ (if inMap m 0 && own.2.1 == 0 then [1] else []))

def execFwActivate (way : MbxWay) (veto : Bool) (s : State) : Out :=
  .next (s.mbx way 0x0102 fun c t => t.fwMap c (t.vetoes veto))
def execFwRollback (way : MbxWay) (s : State) : Out := .next (s.mbx way 0x0103 fun c t => t.fwMap c false)
def execFwCommit (way : MbxWay) (veto : Bool) (s : State) : Out :=
  .next (s.mbx way 0x0104 (atOnce fun _ t => t.fwCommit (t.vetoes veto)))
def execFwAbort (way : MbxWay) (s : State) : Out := .next (s.mbx way 0x0105 (atOnce fun _ t => t.fwAbort))

-- Completion (R248, R249) --------------------------------------------------------------------------------------------

/-- The codes of the hub's own commands. -/
def mbxCodes : List Nat :=
  [0x0001, 0x0002, 0x0010, 0x0011, 0x0012, 0x0013, 0x0014, 0x0020, 0x0021, 0x0100, 0x0101, 0x0102, 0x0103, 0x0104, 0x0105,
   0x0200, 0x0201, 0x0202, 0x0203, 0x0300, 0x0301, 0x0310, 0x0311, 0x0312]

/-- The result of the head command, where it has one: a code of no command is answered BAD_CMD; one of the owner policy module's,
where that runs, by a status that the spec does not state (log entry 2). -/
def State.headResult (s : State) (c : MbxCmd) : Option (Nat × List Byte) :=
  if !s.awlServes then none else
  match c.result with
  | some r => some r
  | none =>
    if mbxCodes.contains c.cmd then none
    else if 0x8000 ≤ c.cmd ∧ s.flag BOOT_STAT.POLICY_LOADED then some (s.free % 128, leBytes 60 (Config.freeNat (s.freeCtr + 1)))
    else some (12, [])

/-- The KEY result window holds the reason of the life-cycle commands. -/
def State.keyReason (s : State) (c : MbxCmd) (r : Nat × List Byte) : State :=
  if 0x0310 ≤ c.cmd ∧ c.cmd ≤ 0x0312 then
    ((s.resAccept resKEY).resDone resKEY c.tag r.1).set (KEY_RES.DATA 0) (byteAt r.2 0)
  else s

/-- The Awl, which serves commands, writes the head command's result. -/
def execMbxDone (s : State) : Out :=
  match s.ctl.mbxQueue with
  | [] => .next s
  | c :: t =>
    match s.headResult c with
    | none => .next s
    | some r => .next ((((s.useFree.useFree.putQueue t).keyReason c r)).mbxEnd c r.1 r.2)

/-- 2 s have passed since the oldest command was accepted or arrived. -/
def execMbxTimeout (s : State) : Out :=
  match s.ctl.mbxQueue with
  | [] => .next s
  | c :: t => .next ((s.putQueue t).mbxEnd c 11 [])

end Sys2Proof.Machine
end

