-- ==== Sys2Proof/Machine/Endpoint.lean ====
section
/-!
DEFINITION. Sys2Proof/Machine/Endpoint.lean: the control endpoint: what it does with each packet on label 0x000, responses to this
hub's own requests, and re-sending (R22, R23, R162, R238).
-/
namespace Sys2Proof.Machine

-- Own requests (R238) ------------------------------------------------------------------------------------------------

/-- The operation behind a request of this hub is complete. -/
def State.reqComplete (s : State) (tag : Nat) (r : OutReq) (a : CtlPkt) : State :=
  match r.purpose with
  | 1 => s.mbxAnswered tag a.status (byteSlice a.data 0 a.bytes)
  | 2 => s.imageAnswered r.pkt a.status
  | 3 => s.flashlessAnswered a
  | 4 => s.assignAnswered r.pkt a.status
  | 5 => s.reassignAnswered r.pkt a.status
  | 6 =>
    let w := leNat (byteSlice a.data 0 4)
    if a.status = 0 then (s.tearRest r.pkt.dst (if bit w 3 then none else some (w % 8))).refreshEnds else s
  | 7 => s.identAnswered a
  | _ => s

def State.setReqs (s : State) (l : Tbl OutReq) : State := { s with ctl := { s.ctl with reqs := l } }

/-- A response: IN_PROGRESS starts the count of attempts afresh, any other status completes the operation. -/
def State.takeResponse (s : State) (q : CtlPkt) : State :=
  match s.ctl.reqs.find? q.tag with
  | none => s
  | some r =>
    if q.status = 16 then s.setReqs (s.ctl.reqs.put q.tag { r with attempts := 0 })
    else
      let s1 := s.setReqs (s.ctl.reqs.del q.tag)
      ({ s1 with ctl := { s1.ctl with
        spent := (q.tag, s.uptime + 800000000) :: s.ctl.spent.filter fun x => decide (s.uptime < x.2) } }).reqComplete q.tag r q

def execControlResponseRx (q : CtlPkt) (s : State) : Out := .next (s.unpoisoned q fun t => t.takeResponse q)

/-- INTERVAL has passed without a response: the request goes out again with its TAG, or ends with TIMEOUT after RETRIES further
attempts. -/
def execControlRetry (tag : Nat) (s : State) : Out :=
  match s.ctl.reqs.find? tag with
  | none => .next s
  | some r =>
    .next (if r.attempts < s.get CHIP_CTL_RETRY.RETRIES then
      ((s.setReqs (s.ctl.reqs.put tag { r with attempts := r.attempts + 1 })).sendCtl r.pkt).count (srcSignal 22 1) 1
    else (s.setReqs (s.ctl.reqs.del tag)).reqComplete tag r (r.pkt.answer s.hubId 11 []))

-- Packets on label 0x000 (R23, R162) ---------------------------------------------------------------------------------

/-- A packet that has reached its hub, by its operation (Table 05.13). -/
def State.ctlAct (s : State) (n : Port) (q : CtlPkt) (ring : Bool) : State :=
  match q.op with
  | 0 | 1 | 6 => s.ctlRequest n q
  | 2 => s.takeResponse q
  | 3 => s.eventRx q ring
  | _ => s.ctlTurn n q

/-- A request: what is neither a response nor an event. -/
def asks (q : CtlPkt) : Bool := q.op != 2 && q.op != 3

/-- A spoke with id 255 (R23): on its upstream port, by VIA or with target 255, it answers pages 0x00 to 0x0F and ASSIGN_ID, and
takes responses; to every other request it says NOT_ENUMERATED on the port of arrival. It forwards nothing. -/
def State.ctlNoId (s : State) (n : Port) (q : CtlPkt) : State :=
  let mine := n.val == 0 && (q.via || q.dst == 255)
  if mine && q.op == 4 then s.ctlTurn n q
  else if mine && q.op == 2 then s.takeResponse q
  else if mine ∧ q.op ≤ 1 ∧ q.offset + q.bytes ≤ 0x10000 then s.ctlRequest n q
  else if asks q then s.ctlOut n (q.answer 255 2 [])
  else s

/-- The packet was sent to this hub before it took its id (R23). -/
def State.ownVia (s : State) (n : Port) (q : CtlPkt) : Bool :=
  q.via && !s.isRoot && n == 0 && q.viaId == s.get CHIP_HUB_ID.PARENT_ID && q.viaPort == s.get CHIP_HUB_ID.PARENT_PORT

/-- NO_ROUTE for a request that cannot go on. -/
def State.noRoute (s : State) (q : CtlPkt) : State := if asks q then s.sendCtl (q.answer s.hubId 1 []) else s

/-- A packet for another hub: by VIA_PORT at VIA_ID, else towards VIA_ID or DST_HUB by the chain route table. -/
def State.ctlForward (s : State) (q : CtlPkt) : State :=
  if q.hops ≤ 1 then s.noRoute q
  else match if q.via then (if q.viaId = s.hubId then some q.viaPort else s.routeTo q.viaId) else s.routeTo q.dst with
    | some p => s.ctlOut p { q with hops := q.hops - 1 }
    | none => s.noRoute q

/-- A FETCH of a child is served whatever its target names (R415). -/
def State.childFetch (s : State) (n : Port) (q : CtlPkt) : Bool := q.op == 5 && byteAt q.opdata 1 == 3 && !s.facesUp n

/-- A control packet has arrived on port n; ring says whether the sender of an EVENT has EN and MSG set for it (R243). A poisoned one is discarded where it is to act (R210). -/
def execControlPacketRx (n : Port) (q : CtlPkt) (ring : Bool) (s0 : State) : Out :=
  let s := s0.freeFixed n (1 + ceilDiv q.data.length 32)
  let here := s.childFetch n q || s.hubId == 255 || s.ownVia n q || (q.dst == s.hubId && !q.via)
  .next <|
    if q.poison && here then s.unpoisoned q id
    else if s.childFetch n q then s.ctlTurn n q
    else if s.hubId = 255 then s.ctlNoId n q
    else if s.ownVia n q then (if q.op = 4 then s.ctlTurn n q else if asks q then s.sendCtl (q.answer s.hubId 3 []) else s)
    else if q.dst = s.hubId ∧ !q.via then s.ctlAct n q ring
    else s.ctlForward q

/-- An ASSIGN_ID arrives; as every request it takes its requester's turn (R228). -/
def execAssignIdRx (p : CtlPkt) (s : State) : Out := .next (s.unpoisoned p fun t => t.ctlTurn 0 { p with op := 4 })

/-- The packet as an IMAGE operation of segment kind k (Table 16.3). -/
def asImage (p : CtlPkt) (k : Nat) : CtlPkt :=
  { p with op := 5, opdata := (byteSlice p.opdata 0 6).set 1 (BitVec.ofNat 8 k) }

def execImageHeadRx (n : Port) (p : CtlPkt) (s : State) : Out := .next (s.unpoisoned p fun t => t.ctlTurn n (asImage p 0))
def execImageDataRx (n : Port) (p : CtlPkt) (s : State) : Out := .next (s.unpoisoned p fun t => t.ctlTurn n (asImage p 1))
def execImageAbortRx (n : Port) (p : CtlPkt) (s : State) : Out := .next (s.unpoisoned p fun t => t.ctlTurn n (asImage p 2))
def execImageFetchRx (n : Port) (p : CtlPkt) (s : State) : Out := .next (s.unpoisoned p fun t => t.ctlTurn n (asImage p 3))

-- The control window in BAR0 (R225, R253) -----------------------------------------------------------------------------

/-- The byte enables of word k of a memory request: First and Last DW BE (PCI Express; PRESUMED, log entry 87). -/
def tlpEnables (t : Tlp) (k : Nat) : Nat :=
  if k = 0 then byteAt t.header 7 % 16 else if k + 1 = (tlpWords t) then byteAt t.header 7 / 16 else 15

/-- What a 64-bit, non-prefetchable memory BAR of 2^w bytes holds after a write: its base, with type 64-bit in bits 2:1 (PCI Express;
PRESUMED, log entry 87). So the host sizes it. -/
def barWord (w v : Nat) : Nat := v % 2 ^ 64 / 2 ^ w * 2 ^ w + 4

/-- Offset of an address in such a BAR, while the function answers memory requests. -/
def inBar (on : Bool) (bar w a : Nat) : Option Nat := if on ∧ bar / 2 ^ w = a / 2 ^ w then some (a % 2 ^ w) else none

/-- Offset in the control window of a memory request to BAR0, 64 MiB. -/
def State.windowOf (s : State) (t : Tlp) : Option Nat :=
  if t.isIo then none else t.addr.bind (inBar s.host.memOn s.host.bar0 26)

/-- The bytes of a word that the enables be name, the others 0. -/
def maskBytes (be v : Nat) : Nat := ((List.range 4).map fun j => if bit be j then v / 2 ^ (8 * j) % 256 * 2 ^ (8 * j) else 0).sum

/-- The host reads words of the window: the bytes its enables name (R226), in ascending order. -/
def State.hostReads (s : State) (t : Tlp) (off : Nat) : State × List Byte :=
  (List.range (tlpWords t)).foldl (fun (r : State × List Byte) k =>
    if tlpEnables t k = 0 then (r.1, r.2 ++ [0, 0, 0, 0]) else
    let x := r.1.readWord ((off / 4 + k) * 4)
    (x.1, r.2 ++ leBytes 4 (maskBytes (tlpEnables t k) x.2))) (s, [])

/-- A write of the host to the power die waits for room in the queue of 16 words: the oldest take effect (R229). -/
def State.dieRoom (s : State) (a : Nat) : State :=
  if powerDie (a / 0x1000) then (List.range (s.ctl.pdq.length - 15)).foldl (fun t _ => t.dieDone) s else s

/-- A memory request of the host to the window (R225, R226): each word as a separate access, in ascending order; a word for which no byte
is enabled is no access (DESIGN CHOICE, log entry 113). A read returns after the host's earlier writes have taken effect (R228); its
data goes to the host. -/
def State.hostWindow (s : State) (t : Tlp) (off : Nat) : State :=
  if t.posted then
    (List.range (tlpWords t)).foldl (fun u k =>
      if tlpEnables t k = 0 then u
      else ((u.dieRoom ((off / 4 + k) * 4)).writeWord .host ((off / 4 + k) * 4) (tlpEnables t k) (leNat (byteSlice t.payload (4 * k) 4))).1) s
  else
    let r := s.dieDrain.hostReads t off
    r.1.emit (.hostRead off r.2)

/-- The device ID of a function of the Root's hierarchy (R252, R254). -/
def State.deviceId (s : State) (b : HostBus) (dev : Nat) : Option Nat :=
  match b with
  | .host => if dev = 0 then some 0x9640 else none
  | .internal => if dev = 0 then some 0x9642 else if dev ≤ 16 then some 0x9641 else none
  | .secondary v => if dev = 0 ∧ s.flag (PCIE_VDP.GROUP_ACTIVE v) then some 0x9643 else none
  | .group v => if dev < 16 ∧ s.flag (PCIE_VDP.GROUP_ACTIVE v) then some 0x9641 else none

/-- What a function of the Root advertises, by its device ID, and nothing else (Table 09.1, R253, R257). -/
def pcieOptions (d : Nat) : List PcieOption :=
  if d = 0x9642 then [.payload512, .aer, .flr, .msix]
  else if d = 0x9641 then [.payload512, .aer, .atomicRouting, .acs, .surpriseHotPlug, .msi]
  else if d = 0x9640 then [.payload512, .aer, .aspmL1]
  else [.payload512, .aer]

/-- The host reads a function's identity and capabilities: the management function has class code 0x0880 (R251 to R253). -/
def State.identify (s : State) (b : HostBus) (dev : Nat) : State :=
  match s.deviceId b dev with
  | some d => s.emit (.identity (Config.pcieVendor % 2 ^ 16) d (if d = 0x9642 then 0x0880 else 0) (pcieOptions d))
  | none => (s.count (srcSignal 18 2) 1).emit (.unsupported 16)

/-- Offset in BAR2, 16 KiB, of a memory request (R253). -/
def State.tableOf (s : State) (t : Tlp) : Option Nat :=
  if t.isIo then none else t.addr.bind (inBar s.host.memOn s.host.bar2 14)

/-- A word of BAR2: the MSI-X table at 0x0000, the PBA at 0x2000, in the layout of PCI Express. -/
def State.tableWord (s : State) (o : Nat) : Nat :=
  let m := s.msixEnt (o / 16)
  if o < 0x400 then
    if o % 16 = 0 then m.addr % 2 ^ 32 else if o % 16 = 4 then m.addr / 2 ^ 32 % 2 ^ 32
    else if o % 16 = 8 then m.data % 2 ^ 32 else b2n m.mask
  else if 0x2000 ≤ o ∧ o < 0x2008 then
    ((List.range 32).map fun k => b2n (s.msixEnt (8 * (o - 0x2000) + k)).pending * 2 ^ k).sum
  else 0

/-- A write of a word of the MSI-X table; the PBA takes none. -/
def State.writeTable (s : State) (o v : Nat) : State :=
  let i := o / 16
  let m := s.msixEnt i
  let put (e : Msix) : State := (s.modHost fun h => { h with msix := h.msix.put i e }).flushMsix
  if 0x400 ≤ o then s
  else if o % 16 = 0 then put { m with addr := m.addr / 2 ^ 32 * 2 ^ 32 + v / 4 * 4 }
  else if o % 16 = 4 then put { m with addr := v * 2 ^ 32 + m.addr % 2 ^ 32 }
  else if o % 16 = 8 then put { m with data := v } else put { m with mask := bit v 0 }

/-- A memory request of the host to BAR2: a write word by word, a read answered with the bytes its enables name. -/
def State.hostTable (s : State) (t : Tlp) (off : Nat) : State :=
  let at_ (k : Nat) : Nat := (off / 4 + k) * 4
  if t.posted then
    (List.range (tlpWords t)).foldl (fun u k =>
      if tlpEnables t k = 0 then u
      else u.writeTable (at_ k) (mergeBe (u.tableWord (at_ k)) (tlpEnables t k) (leNat (byteSlice t.payload (4 * k) 4)))) s
  else s.emit (.tableRead off
    ((List.range (tlpWords t)).flatMap fun k => leBytes 4 (maskBytes (tlpEnables t k) (s.tableWord (at_ k)))))

/-- The host sends a TLP, to a BAR of the management function or down the hierarchy, or reads or writes configuration (R225, R252 to
R257). -/
def execDownstreamTlp (t : HostTlp) (s : State) : Out :=
  if !s.isRoot then .next s else
  match t with
  | .route x =>
    match s.windowOf x, s.tableOf x with
    | some off, _ => .next (s.hostWindow x off)
    | none, some off => .next (s.hostTable x off)
    | none, none => .next (s.downTlp x)
  | .bar0 b => .next (s.modHost fun h => { h with bar0 := barWord 26 b })
  | .bar2 b => .next (s.modHost fun h => { h with bar2 := barWord 14 b })
  | .barRead k => .next (s.emit (.barRead (if k = 0 then s.host.bar0 else s.host.bar2)))
  | .memEnable on => .next (s.modHost fun h => { h with memOn := on })
  | .identify b d => .next (s.identify b d)
  | .portConfig v g c => .next (s.modHost fun h => { h with ports := h.ports.put (endNo (v % 16) (g.map (· % 16))) c })
  | .msixEntry v addr data mask =>
    .next (s.modHost fun h =>
      { h with msix := h.msix.put (v % 64) ⟨addr, data, mask, (s.msixEnt (v % 64)).pending⟩ }).flushMsix
  | .msixCtrl e m => .next (s.modHost fun h => { h with msixOn := e, msixFMask := m }).flushMsix

end Sys2Proof.Machine
end

