-- ==== Sys2Proof/Machine/Steps.lean ====
section
/-!
DEFINITION. Sys2Proof/Machine/Steps.lean: steps of chain time: jump, freeze, re-base, and what waits for chain time (R46 to R50).
-/
namespace Sys2Proof.Machine

/-- What every step does at its apply tick (R46): D is recorded, STEP_SEQ counts, CTM_STEP is raised, FREE takes its value after
the step. Offsets found before it, and slewing towards them, count no more. -/
def State.stepRecord (s : State) (n : StepNote) (rebase : Bool) : State :=
  let s1 := { s with clk := { s.clk with rejoin := false }, time := { s.time with
    pend := none, slew := 0, waiting := none, offs := [], dels := [] } }
  ((s1.set64 CTM_LAST_STEP_LO.STEP CTM_LAST_STEP_HI.STEP (ofInt 64 n.d)).inc CTM_STAT.STEP_SEQ).set CTM_STAT.STEP_PENDING 0
    |>.setFlag CTM_STAT.REBASED rebase |>.setFlag CTM_STAT.FREE (s1.freeNow n.freeAfter) |>.raise EV.ctmStep

/-- The epoch in progress ends, and the one that holds the present tick starts at its position (R50). -/
def State.stepWheels (s : State) : State :=
  s.newEpochFrom s.posNow

/-- A pending activation at a named epoch: due now, or at once in a re-base (R456). -/
def State.stepActivation (s : State) (late all : Bool) : State :=
  if s.flag UPD_ACT.PENDING && s.flag UPD_ACT.AT && (all || s.actDue) then s.applyActivation late else s

/-- What a jump from tick a to the present tick has skipped acts now, late (R49). -/
def State.stepSkips (s : State) (a : Nat) : State :=
  let from_ := if s.lastSnap = some a then a + 1 else a
  let s1 := (((s.missCommits false).stepWheels.schedRun).heldApply).ptpDue true false
  (s1.skippedSnap from_ s1.now).stepActivation (decide (epochStart s1.now (s1.get UPD_ACT_EPOCH.EPOCH) < s1.now)) false

/-- Chain time jumps forward by D (R46). -/
def State.stepForward (s : State) (d : Int) : State :=
  let t := s.setTime (s.stamp.sub + d)
  if t.now = s.now then t else t.stepSkips s.now

/-- Chain time stops for |D| (R46, R50). -/
def State.stepFreeze (s : State) (d : Int) : State :=
  let s1 := { s with time := { s.time with freeze := d.natAbs } }.set CTM_STAT.FREEZE 1
  wheelNos.foldl (fun t (w : WheelNo) => t.set (WHLw_POS.UNRESERVED w) 1) s1

/-- A HELD packet acts at the present tick whatever its TTAG. -/
def FlowPkt.actAt (p : FlowPkt) (now : Nat) : FlowPkt :=
  if p.pkt.hdr.held then { p with pkt := { p.pkt with hdr := { p.pkt.hdr with ttag := now } } } else p
def DispOp.actAt (o : DispOp) (now : Nat) : DispOp :=
  if o.pkt.hdr.held then { o with pkt := { o.pkt with hdr := { o.pkt.hdr with ttag := now } } } else o

/-- Every pending value counts as reached now (R48): scheduled outputs, HELD packets and operations, the first blank of a
restarted raster. -/
def State.pullIn (s : State) : State :=
  let s1 := { s with flows := { s.flows with held := s.flows.held.map fun (p : FlowPkt) => p.actAt s.now32 } }
  let s2 := s1.modBridge fun b => { b with sched := b.sched.map fun (x : Sched) => { x with t := 0 } }
  [0, 1].foldl (fun t (h : Head) => t.modHead h fun d =>
    { d with waits := d.waits.map (fun (o : DispOp) => o.actAt s.now32), restart := d.restart.map fun _ => s.now }) s2

/-- The snapshots that wait for chain time at a re-base (R48, R471): the next periodic instant and the armed AT time. -/
def State.rebaseSnap (s : State) : State := s.lateSnap (s.flag CNT_CTRL.PERIODIC) s.cnt.armed.isSome

/-- Chain time takes the parent's value, and all that waits acts now, late (R48). -/
def State.stepRebase (s : State) (d : Int) : State :=
  let s1 := ((s.missCommits true).setTime (s.stamp.sub + d)).stepWheels.pullIn
  ((((s1.schedRun).heldApply).ptpDue true true).rebaseSnap).stepActivation true true

/-- The first alignment sets the counter (R42): the wheels take the tick (R50), and what waits for a value that the counter
passes acts, as at a forward step (log entry 76). -/
def State.firstAlign (s : State) : State :=
  let t := { s with clk := { s.clk with rejoin := false }, time := { s.time with offs := [], dels := [] } }.setTime
    (s.stamp.sub - s.time.avgO)
  (if s.now < t.now then t.stepSkips s.now else t.stepWheels).set CTM_STAT.VALID 1

/-- FREE follows the parent's FREE (R45), except where a rejoin or a step still to come will clear it (Table 02.3 step 6). -/
def State.takeFree (s : State) (parentFree : Bool) : State :=
  if s.flag CTM_STAT.VALID && !s.clk.rejoin && s.time.pend.isNone then s.setFlag CTM_STAT.FREE (s.freeNow parentFree)
  else s.when parentFree fun t => t.set CTM_STAT.FREE 1

/-- What follows a complete average (R42, R44, R46): the first alignment sets the counter and VALID; a rejoin's result and
one beyond a tick become a step; a smaller one is slewed. -/
def State.align (s : State) (parentFree : Bool) : State :=
  let s1 := { s with time := { s.time with align := none } }
  let fresh : State := { s1 with time := { s1.time with offs := [], dels := [] } }
  if !s.flag CTM_STAT.VALID then s1.firstAlign.setFlag CTM_STAT.FREE (s.freeNow parentFree)
  else if s.clk.rejoin then fresh.nameStep (-s.time.avgO) parentFree
  else if s.time.avgO.natAbs ≤ 256 then { s1 with time := { s1.time with slew := -s.time.avgO } }
  else fresh.nameStep (-s.time.avgO) (s.freeNow parentFree)

/-- A DELAY_RESP has arrived at a child (R43, R163): used only when its number is that of the latest request; parentFree is
the parent's FREE (log entry 12). An average acts once it holds eight exchanges. -/
def execDelayRespRx (exch : Nat) (t4 t1 : Stamp) (parentFree : Bool) (s : State) : Out :=
  if (s.link 0).flightBad then .next s else
  let s0 := s.freeTime 0
  match s.time.waiting with
  | none => .next s0
  | some t3 =>
    if exch ≠ s.time.exch ∨ !s.mayExchange then .next s0 else
    let s1 := (s0.exchange t3 t4 t1 (s.stampAt 0)).takeFree parentFree
    .next (if s1.time.offs.length < 8 || s1.time.pend.isSome then s1 else s1.align parentFree)

/-- The named apply tick has arrived. -/
def execChainTimeStepApply (s : State) : Out :=
  match s.time.pend with
  | none => .next s
  | some n =>
    if s.now < n.apply || s.frozen then .next s
    else
      let rebase := decide (n.d < -(400000000 * 256))
      let s1 := s.stepRecord n rebase
      .next (if rebase then s1.stepRebase n.d else if n.d < 0 then s1.stepFreeze n.d else s1.stepForward n.d)

/-- What waits for the value that the freeze held acts, not late (R49). -/
def State.heldValue (s : State) : State :=
  let s1 := ((s.schedRun).heldApply).ptpDue false false
  let s2 : State := s1.when (s1.collects && s1.dueCauses != 0) State.takeNow
  (match s2.wheel.commits.find? fun (c : Commit) => c.ready && c.epoch == s2.epochNow % 2 ^ 32 with
    | some c => s2.applyCommit c
    | none => s2).stepActivation false false

/-- The |D| of a negative step have passed: whole ticks of it, and the rest of the last tick counts (R46, R50). -/
def execFreezeEnd (s : State) : Out :=
  if !s.frozen then .next s else
  let f := s.time.freeze
  let s1 := { s with time := { s.time with freeze := 0 } }.set CTM_STAT.FREEZE 0
  let s2 := wheelNos.foldl (fun t (w : WheelNo) => t.set (WHLw_POS.UNRESERVED w) (t.get (WHLw_POS.EXPANDING w))) s1
  .next (s2.heldValue.setTime (s2.stamp.sub + ((ceilDiv f 256 * 256 - f : Nat) : Int)))

end Sys2Proof.Machine
end

