-- ==== Sys2Proof/Machine/Tick.lean ====
section
/-!
DEFINITION. Sys2Proof/Machine/Tick.lean: what one lineage tick does when no command waits (log entry 5): chain time counts
(R41, R44, R46), the collector's slot times, occupancies and its commands of the next tick (R465, R467, R470, R472).
-/
namespace Sys2Proof.Machine

/-- Chain time counts one tick (R41, R44, R46). An offset that is slewed while the lineage is locked moves the phase by one sub-tick at each 1,024th tick (log
entry 5). -/
def State.countTick (s : State) : State :=
  let t := s.time
  if !t.run || s.frozen || t.freeze != 0 then s
  else if t.slew ≠ 0 ∧ (s.flag CLK_STAT.LOCKED ∨ s.refinLineage) ∧ s.flag CTM_STAT.VALID ∧ (t.ticks + 1) % 1024 = 0 then
    let d : Int := if 0 < t.slew then 1 else -1
    { s with time := { (s.setTime (s.stamp.sub + 256 + d)).time with slew := t.slew - d } }
  else { s with time := { t with ticks := (t.ticks + 1) % 2 ^ 64 } }

/-- The bit errors that lane k's checker counts in a tick (R84): those that arrive, none in a near-end loop. -/
def State.checkTick (s : State) (n k : Nat) : State :=
  s.when (bit (s.get (WLT_TEST_CTRL.CHK_EN n)) k && s.flag (WLT_PRBS_ERR.SYNC n k) && !s.looped n) fun t =>
    t.incSat (WLT_PRBS_ERR.ERRORS n k) (Config.bitErrors (WLT_PRBS_ERR.ERRORS n k).addr s.uptime)

/-- A tick is one block time of a lane (R58). A port in training, or on its way out of Sleep, sends the next block of the training
pattern (R64, R65); one in compatibility training its sequence of four symbols each two ticks (R73, R74); checkers count (R84). -/
def State.laneTick (s : State) (n : Port) : State :=
  let st := s.get (WLT_PCS_STAT.TRAIN_STATE n)
  let s1 := if st = 1 ∨ st = 2 ∨ st = 7 then s.trainStep n (s.lane n).enabled
    else if st = 8 ∧ s.uptime % 2 = 0 then (lanesIn (s.lane n).enabled).foldl (fun t k => t.sendSymbols n k (trainSequence k)) s
    else s
  laneList.foldl (fun t k => t.checkTick n k) s1

/-- One lineage tick (log entry 5): the lanes in training send (State.laneTick), running chain time gains one tick unless a freeze holds it, and a
written context command completes (R144). The first tick after Retain or Hold
takes a snapshot, LATE and GAP (R471); a domain that is switched off is isolated after its 10 µs (R392); TLPs that waited for link credit leave (R263); a Power Warning is repeated on a compatibility link (R388). -/
def State.tick (s : State) : State :=
  let s1 := ([0, 1, 2, 3] : List Port).foldl State.laneTick s
  let s2 := { s1 with uptime := s.uptime + 1 }.offTick.hostLinks.countTick.commandRun.warnTick
  if !s.collects then s2
  else
    let s3 := s2.occTick.cycleTick
    let s4 := if s3.cnt.gap then s3.spendDue.snapshot (s3.dueCauses ||| 4) s3.dueTag
      else if s3.cnt.go.isSome then s3.takeNow else s3
    s4.clearDue

/-- CNT_SNAP GO: the snapshot is taken at the tick that follows. -/
def execSnapshotGo (tag : Nat) (s : State) : Out :=
  .next (s.modCnt fun c => { c with go := some (tag % 256) }).tick

/-- CNT_CTRL CLEAR: all counters are 0 from the tick that follows. -/
def execCounterClear (s : State) : Out := .next (s.modCnt fun c => { c with clearing := true }).tick

end Sys2Proof.Machine
end

