-- ==== Sys2Proof/Machine/Wakes.lean ====
section
/-!
DEFINITION. Sys2Proof/Machine/Wakes.lean: the commands that are wake sources of a low chip state (Table 14.10) beside what they do
themselves.
-/
namespace Sys2Proof.Machine

def execChipWake (w : Wake) (s : State) : Out := .next (s.chipWake w)

/-- Tack or activity at a receiver in Sleep (R79, R80): TACK_SEEN, unless the hub is sending Tack itself; latched while Sleep is being
entered. In a low chip state and during its entry it is the wake source of its port (R79, R407). -/
def execTackDetected (n : Port) (s : State) : Out :=
  let asleep := s.get (WLT_PCS_STAT.TRAIN_STATE n) = 6
  if (asleep ∨ (s.lane n).sleepEntering) ∧ (s.flag PWRD_STATE.ENTERING ∨ 2 ≤ s.get PWRD_STATE.STATE) then
    .next ((s.modLane n fun l => { l with tackLatched := true }).wakeBy n.val 0)
  else if asleep ∧ !(s.lane n).tackSending then
    .next ((s.wakeLanes n).raise (EV.tackSeen n))
  else if (s.lane n).sleepEntering then .next (s.modLane n fun l => { l with tackLatched := true })
  else .next s

/-- PFAIL_N has been held low from outside for more than 1 µs (R387): no warning is sent; it is a wake source. -/
def execPfailExternal (s : State) : Out :=
  .next ((s.pfail false false false true).wakeBy 7 0)

/-- PWR is up: the power die works the CFG wires; in Shelf only the shelf latch does (R402). -/
def State.pwrOn (s : State) : Bool := decide (2 ≤ s.chip.power)

/-- Attach or detach on port n is the CFG wake source. -/
def State.cfgWake (s : State) (n : Port) : State := s.wakeBy 4 n.val

def execSourceAttach (n : Port) (cc1 cc2 : Option Nat) (s : State) : Out :=
  .next ((s.when s.pwrOn fun t => t.sourceAttach n cc1 cc2).cfgWake n)
def execSinkAttach (n : Port) (v : Option Nat) (s : State) : Out :=
  .next ((s.when s.pwrOn fun t => t.sinkAttach n v).cfgWake n)
def execDetach (n : Port) (s : State) : Out :=
  .next ((s.when s.pwrOn fun t => t.detachPort n).cfgWake n)

/-- Edges of GPIO group g in one tick, t (R323); lines 0 to 7 that GPIO_WAKE_EN selects are the GPIO wake source. -/
def execGpioEdge (g : Fin 6) (lines levels t : Nat) (s : State) : Out :=
  let s1 := s.gpioEdge g lines levels t
  .next (s1.when (g.val == 0 && (lines % 256 &&& s.get GPIO_WAKE_EN.LINES) != 0) fun u => u.wakeBy 5 0)

end Sys2Proof.Machine
end

