-- ==== Sys2Proof/Machine/Dispatch.lean ====
section
/-!
DEFINITION. Sys2Proof/Machine/Dispatch.lean: one arm per command of spec/opcode_table.json.
-/
namespace Sys2Proof.Machine

/-- The effect of command i on everything but the queue. -/
def exec (i : Instr) (s : State) : Host.Outcome State Fault Refusal :=
  match i with
  | .vstbyPowerUp x pg => Sys2Proof.Machine.execVstbyPowerUp x pg s
  | .railPgTimeout x pg => Sys2Proof.Machine.execRailPgTimeout x pg s
  | .vstbyLoss => Sys2Proof.Machine.execVstbyLoss s
  | .railPgLoss => Sys2Proof.Machine.execRailPgLoss s
  | .rootLinkUpReport ident old => Sys2Proof.Machine.execRootLinkUpReport ident old s
  | .assignIdRx p => Sys2Proof.Machine.execAssignIdRx p s
  | .hubJoined id => Sys2Proof.Machine.execHubJoined id s
  | .rootLinkDownReport => Sys2Proof.Machine.execRootLinkDownReport s
  | .rootHoldExpiry id => Sys2Proof.Machine.execRootHoldExpiry id s
  | .spokeHoldExpiry => Sys2Proof.Machine.execSpokeHoldExpiry s
  | .chainRouteWrite src j v => Sys2Proof.Machine.execChainRouteWrite src j v s
  | .controlPacketRx n q ring => Sys2Proof.Machine.execControlPacketRx n q ring s
  | .refinPresent => Sys2Proof.Machine.execRefinPresent s
  | .refinLoss => Sys2Proof.Machine.execRefinLoss s
  | .spokeRefinLoss => Sys2Proof.Machine.execSpokeRefinLoss s
  | .lineageSlewDone => Sys2Proof.Machine.execLineageSlewDone s
  | .sscEnWrite v => Sys2Proof.Machine.execSscEnWrite v s
  | .sscApply => Sys2Proof.Machine.execSscApply s
  | .holdoverEntry above => Sys2Proof.Machine.execHoldoverEntry above s
  | .forceHoldWrite v => Sys2Proof.Machine.execForceHoldWrite v s
  | .ratioValidSet ppm => Sys2Proof.Machine.execRatioValidSet ppm s
  | .lineagePllLock spread => Sys2Proof.Machine.execLineagePllLock spread s
  | .lineageLocked n => Sys2Proof.Machine.execLineageLocked n s
  | .delayReqTimer => Sys2Proof.Machine.execDelayReqTimer s
  | .delayReqRx n exch => Sys2Proof.Machine.execDelayReqRx n exch s
  | .delayRespRx exch t4 t1 parentFree => Sys2Proof.Machine.execDelayRespRx exch t4 t1 parentFree s
  | .stepNoticeRx n => Sys2Proof.Machine.execStepNoticeRx n s
  | .chainTimeStepApply => Sys2Proof.Machine.execChainTimeStepApply s
  | .freezeEnd => Sys2Proof.Machine.execFreezeEnd s
  | .ctmCapture tag => Sys2Proof.Machine.execCtmCapture tag s
  | .ctmHopReport tag port => Sys2Proof.Machine.execCtmHopReport tag port s
  | .trainingStart n => Sys2Proof.Machine.execTrainingStart n s
  | .alignBlockRx n k b skew => Sys2Proof.Machine.execAlignBlockRx n k b skew s
  | .txOverrideApply n k => Sys2Proof.Machine.execTxOverrideApply n k s
  | .sendRxReady n ctle => Sys2Proof.Machine.execSendRxReady n ctle s
  | .partialReadyTimer n mask ctle => Sys2Proof.Machine.execPartialReadyTimer n mask ctle s
  | .sendGo n => Sys2Proof.Machine.execSendGo n s
  | .trainTimeout n => Sys2Proof.Machine.execTrainTimeout n s
  | .blockLockAcquired n k => Sys2Proof.Machine.execBlockLockAcquired n k s
  | .blockLockLost n k bad => Sys2Proof.Machine.execBlockLockLost n k bad s
  | .compatEntry n => Sys2Proof.Machine.execCompatEntry n s
  | .compatLaneLock n k => Sys2Proof.Machine.execCompatLaneLock n k s
  | .compatLockLoss n k => Sys2Proof.Machine.execCompatLockLoss n k s
  | .skipSetSend n => Sys2Proof.Machine.execSkipSetSend n s
  | .hushEntry n => Sys2Proof.Machine.execHushEntry n s
  | .hushExit n => Sys2Proof.Machine.execHushExit n s
  | .wakeBlocksRx n good => Sys2Proof.Machine.execWakeBlocksRx n good s
  | .sleepEntry n dfe => Sys2Proof.Machine.execSleepEntry n dfe s
  | .tackSend n => Sys2Proof.Machine.execTackSend n s
  | .tackDetected n => Sys2Proof.Machine.execTackDetected n s
  | .sleepExitLanesReady n mask => Sys2Proof.Machine.execSleepExitLanesReady n mask s
  | .sleepExitFallback n => Sys2Proof.Machine.execSleepExitFallback n s
  | .testWrite n v => Sys2Proof.Machine.execTestWrite n v s
  | .retrain n => Sys2Proof.Machine.execRetrain n s
  | .prbsCheckerEnable n k sync => Sys2Proof.Machine.execPrbsCheckerEnable n k sync s
  | .eyeScanGo n => Sys2Proof.Machine.execEyeScanGo n s
  | .eyeScanDone n mismatch => Sys2Proof.Machine.execEyeScanDone n mismatch s
  | .flightSend n => Sys2Proof.Machine.execFlightSend n s
  | .headerSlotRx n b lead => Sys2Proof.Machine.execHeaderSlotRx n b lead s
  | .linkMessageRx n b => Sys2Proof.Machine.execLinkMessageRx n b s
  | .sealRx n slots b skews => Sys2Proof.Machine.execSealRx n slots b skews s
  | .nakRx n ack rpl mask => Sys2Proof.Machine.execNakRx n ack rpl mask s
  | .nakTimeout n => Sys2Proof.Machine.execNakTimeout n s
  | .packetPoisoned a lpn => Sys2Proof.Machine.execPacketPoisoned a lpn s
  | .capRx n c far => Sys2Proof.Machine.execCapRx n c far s
  | .capDoneRx n v => Sys2Proof.Machine.execCapDoneRx n v s
  | .linkDown n reason => Sys2Proof.Machine.execLinkDown n reason s
  | .sessionExpiry n => Sys2Proof.Machine.execSessionExpiry n s
  | .laneReadmit n k => Sys2Proof.Machine.execLaneReadmit n k s
  | .hushRequest n => Sys2Proof.Machine.execHushRequest n s
  | .hushReqRx n at_ => Sys2Proof.Machine.execHushReqRx n at_ s
  | .hushAckRx n at_ => Sys2Proof.Machine.execHushAckRx n at_ s
  | .hushExitTimer n => Sys2Proof.Machine.execHushExitTimer n s
  | .hushExitPacket n => Sys2Proof.Machine.execHushExitPacket n s
  | .sleepRequestWrite n => Sys2Proof.Machine.execSleepRequestWrite n s
  | .sleepReqRx n at_ => Sys2Proof.Machine.execSleepReqRx n at_ s
  | .kxShareRx n share => Sys2Proof.Machine.execKxShareRx n share s
  | .kxAuthRx n pub sig policyOk => Sys2Proof.Machine.execKxAuthRx n pub sig policyOk s
  | .keysInstalled n => Sys2Proof.Machine.execKeysInstalled n s
  | .kxDoneRx n => Sys2Proof.Machine.execKxDoneRx n s
  | .compatFrameRx n f => Sys2Proof.Machine.execCompatFrameRx n f s
  | .compatAckTimer n => Sys2Proof.Machine.execCompatAckTimer n s
  | .contextWrite n o v => Sys2Proof.Machine.execContextWrite n o v s
  | .activate n => Sys2Proof.Machine.execActivate n s
  | .drain n => Sys2Proof.Machine.execDrain n s
  | .drainComplete n => Sys2Proof.Machine.execDrainComplete n s
  | .drainTimeout n => Sys2Proof.Machine.execDrainTimeout n s
  | .tearDown n => Sys2Proof.Machine.execTearDown n s
  | .move n e => Sys2Proof.Machine.execMove n e s
  | .flowPacketArrival a n p lpn => Sys2Proof.Machine.execFlowPacketArrival a n p lpn s
  | .packetAdmission n => Sys2Proof.Machine.execPacketAdmission n s
  | .egressPacketStart n => Sys2Proof.Machine.execEgressPacketStart n s
  | .multicastBranchDrop n a => Sys2Proof.Machine.execMulticastBranchDrop n a s
  | .heldApplyTime => Sys2Proof.Machine.execHeldApplyTime s
  | .rlbPacketRx n => Sys2Proof.Machine.execRlbPacketRx n s
  | .rlbAckTimer n => Sys2Proof.Machine.execRlbAckTimer n s
  | .rlbFlowControlRx n ack nak => Sys2Proof.Machine.execRlbFlowControlRx n ack nak s
  | .rlbRetransmitTimeout n => Sys2Proof.Machine.execRlbRetransmitTimeout n s
  | .partitionApply => Sys2Proof.Machine.execPartitionApply s
  | .fence e lost n => Sys2Proof.Machine.execFence e lost n s
  | .engineFailureDetect e ram lost n => Sys2Proof.Machine.execEngineFailureDetect e ram lost n s
  | .engineWatchdog e lost n => Sys2Proof.Machine.execEngineWatchdog e lost n s
  | .rehomeComplete e => Sys2Proof.Machine.execRehomeComplete e s
  | .epochBoundary => Sys2Proof.Machine.execEpochBoundary s
  | .wheelPacketBoundary w adv => Sys2Proof.Machine.execWheelPacketBoundary w adv s
  | .commitNext wheels tag => Sys2Proof.Machine.execCommitNext wheels tag s
  | .commitAt wheels tag => Sys2Proof.Machine.execCommitAt wheels tag s
  | .commitAbort tag => Sys2Proof.Machine.execCommitAbort tag s
  | .commitStaging => Sys2Proof.Machine.execCommitStaging s
  | .commitApply => Sys2Proof.Machine.execCommitApply s
  | .quotaDrained n => Sys2Proof.Machine.execQuotaDrained n s
  | .mapCopy wheels => Sys2Proof.Machine.execMapCopy wheels s
  | .shadowMapWrite w o v => Sys2Proof.Machine.execShadowMapWrite w o v s
  | .reexpansionDone w => Sys2Proof.Machine.execReexpansionDone w s
  | .headerParityFail a cls lpn n => Sys2Proof.Machine.execHeaderParityFail a cls lpn n s
  | .dataParityFail a n seq egress => Sys2Proof.Machine.execDataParityFail a n seq egress s
  | .cellBufferUncorr n seq => Sys2Proof.Machine.execCellBufferUncorr n seq s
  | .contextUncorr n => Sys2Proof.Machine.execContextUncorr n s
  | .tableUncorr table addr => Sys2Proof.Machine.execTableUncorr table addr s
  | .replayUncorr n => Sys2Proof.Machine.execReplayUncorr n s
  | .awlUncorr => Sys2Proof.Machine.execAwlUncorr s
  | .scrubPass cb tbl => Sys2Proof.Machine.execScrubPass cb tbl s
  | .adapterPacketDecided a => Sys2Proof.Machine.execAdapterPacketDecided a s
  | .regWrite src a be v => Sys2Proof.Machine.execRegWrite src a be v s
  | .pageLock src p v => Sys2Proof.Machine.execPageLock src p v s
  | .softReset src p => Sys2Proof.Machine.execSoftReset src p s
  | .evtEnWrite src p v => Sys2Proof.Machine.execEvtEnWrite src p v s
  | .evtClr src p v => Sys2Proof.Machine.execEvtClr src p v s
  | .evtSet src p v => Sys2Proof.Machine.execEvtSet src p v s
  | .evcSoft src v => Sys2Proof.Machine.execEvcSoft src v s
  | .controlRead n q => Sys2Proof.Machine.execControlRead n q s
  | .controlWrite n q => Sys2Proof.Machine.execControlWrite n q s
  | .controlResponseRx q => Sys2Proof.Machine.execControlResponseRx q s
  | .controlRetry tag => Sys2Proof.Machine.execControlRetry tag s
  | .replayCacheExpiry src tag => Sys2Proof.Machine.execReplayCacheExpiry src tag s
  | .powerDieWriteDone => Sys2Proof.Machine.execPowerDieWriteDone s
  | .popWindowRead p => Sys2Proof.Machine.execPopWindowRead p s
  | .vectorDelivery v => Sys2Proof.Machine.execVectorDelivery v s
  | .eventPacketRx q ring => Sys2Proof.Machine.execEventPacketRx q ring s
  | .echo way => Sys2Proof.Machine.execEcho way s
  | .chipInfo way => Sys2Proof.Machine.execChipInfo way s
  | .chainMap way => Sys2Proof.Machine.execChainMap way s
  | .remoteRead way => Sys2Proof.Machine.execRemoteRead way s
  | .remoteWrite way => Sys2Proof.Machine.execRemoteWrite way s
  | .remoteReadDma way => Sys2Proof.Machine.execRemoteReadDma way s
  | .remoteMbx way => Sys2Proof.Machine.execRemoteMbx way s
  | .pathOpen way pick pid lead => Sys2Proof.Machine.execPathOpen way pick pid lead s
  | .pathClose way => Sys2Proof.Machine.execPathClose way s
  | .mailboxOpRx n q => Sys2Proof.Machine.execMailboxOpRx n q s
  | .mbxDone => Sys2Proof.Machine.execMbxDone s
  | .mbxTimeout => Sys2Proof.Machine.execMbxTimeout s
  | .pcieUpstreamReset kind far => Sys2Proof.Machine.execPcieUpstreamReset kind far s
  | .flr => Sys2Proof.Machine.execFlr s
  | .downstreamTlp t => Sys2Proof.Machine.execDownstreamTlp t s
  | .upstreamTlp t stale => Sys2Proof.Machine.execUpstreamTlp t stale s
  | .rootPortTlpRx n t => Sys2Proof.Machine.execRootPortTlpRx n t s
  | .endPortLinkControl e rp old reset dis => Sys2Proof.Machine.execEndPortLinkControl e rp old reset dis s
  | .rootPortLinkChange v g up speed width present => Sys2Proof.Machine.execRootPortLinkChange v g up speed width present s
  | .hotReset n => Sys2Proof.Machine.execHotReset n s
  | .ethModeWrite n v => Sys2Proof.Machine.execEthModeWrite n v s
  | .ethFrameRx n f => Sys2Proof.Machine.execEthFrameRx n f s
  | .pauseExpiry n => Sys2Proof.Machine.execPauseExpiry n s
  | .pauseSend n => Sys2Proof.Machine.execPauseSend n s
  | .ethFrameTx n => Sys2Proof.Machine.execEthFrameTx n s
  | .ptpMapGo => Sys2Proof.Machine.execPtpMapGo s
  | .ptpMapApply => Sys2Proof.Machine.execPtpMapApply s
  | .bankInitDone b => Sys2Proof.Machine.execBankInitDone b s
  | .rectWrite h n p => Sys2Proof.Machine.execRectWrite h n p s
  | .rectCopy h n p => Sys2Proof.Machine.execRectCopy h n p s
  | .rectFill h n p => Sys2Proof.Machine.execRectFill h n p s
  | .paletteLoad h n p => Sys2Proof.Machine.execPaletteLoad h n p s
  | .flip h n p => Sys2Proof.Machine.execFlip h n p s
  | .displayOpDone h => Sys2Proof.Machine.execDisplayOpDone h s
  | .flipDue h => Sys2Proof.Machine.execFlipDue h s
  | .verticalBlank h => Sys2Proof.Machine.execVerticalBlank h s
  | .genlockWrite h v => Sys2Proof.Machine.execGenlockWrite h v s
  | .dpTrain h => Sys2Proof.Machine.execDpTrain h s
  | .dpTrainDone h ok => Sys2Proof.Machine.execDpTrainDone h ok s
  | .hpdChange h level pulse => Sys2Proof.Machine.execHpdChange h level pulse s
  | .hpdLoss h => Sys2Proof.Machine.execHpdLoss h s
  | .auxGo h => Sys2Proof.Machine.execAuxGo h s
  | .auxDone h reply d => Sys2Proof.Machine.execAuxDone h reply d s
  | .lineReq n p host perr => Sys2Proof.Machine.execLineReq n p host perr s
  | .lineData h n p bad => Sys2Proof.Machine.execLineData h n p bad s
  | .lineFetchRequest h => Sys2Proof.Machine.execLineFetchRequest h s
  | .activeLineStart h perrA perrB pix => Sys2Proof.Machine.execActiveLineStart h perrA perrB pix s
  | .canFrameRx n id d rtr esi crc t rec => Sys2Proof.Machine.execCanFrameRx n id d rtr esi crc t rec s
  | .rateTokenRefill e => Sys2Proof.Machine.execRateTokenRefill e s
  | .i2cTargetWrite n id d t => Sys2Proof.Machine.execI2cTargetWrite n id d t s
  | .i2cTargetRead n k => Sys2Proof.Machine.execI2cTargetRead n k s
  | .uartMessageEnd n cs t => Sys2Proof.Machine.execUartMessageEnd n cs t s
  | .gpioEdge g lines levels t => Sys2Proof.Machine.execGpioEdge g lines levels t s
  | .xferGo tag => Sys2Proof.Machine.execXferGo tag s
  | .xferTimeout => Sys2Proof.Machine.execXferTimeout s
  | .bridgeEgressQueue => Sys2Proof.Machine.execBridgeEgressQueue s
  | .bridgeWrite b r tec => Sys2Proof.Machine.execBridgeWrite b r tec s
  | .bridgeRead b r d => Sys2Proof.Machine.execBridgeRead b r d s
  | .bridgeResp => Sys2Proof.Machine.execBridgeResp s
  | .bridgeEdge => Sys2Proof.Machine.execBridgeEdge s
  | .bridgeSet => Sys2Proof.Machine.execBridgeSet s
  | .semAcq => Sys2Proof.Machine.execSemAcq s
  | .semRel => Sys2Proof.Machine.execSemRel s
  | .wrappedEgress b good => Sys2Proof.Machine.execWrappedEgress b good s
  | .canTxTimeout n => Sys2Proof.Machine.execCanTxTimeout n s
  | .canBusOffRecovery n => Sys2Proof.Machine.execCanBusOffRecovery n s
  | .i2cStretchTimeout n => Sys2Proof.Machine.execI2cStretchTimeout n s
  | .readAheadDiscard n cause => Sys2Proof.Machine.execReadAheadDiscard n cause s
  | .readAheadAge n => Sys2Proof.Machine.execReadAheadAge n s
  | .gpioSchedPush v => Sys2Proof.Machine.execGpioSchedPush v s
  | .schedOutputDue => Sys2Proof.Machine.execSchedOutputDue s
  | .semTimeout k => Sys2Proof.Machine.execSemTimeout k s
  | .semBreak k => Sys2Proof.Machine.execSemBreak k s
  | .yieldConflict n hub depth b => Sys2Proof.Machine.execYieldConflict n hub depth b s
  | .retractRestart n => Sys2Proof.Machine.execRetractRestart n s
  | .sourceAttach n v1 v2 => Sys2Proof.Machine.execSourceAttach n v1 v2 s
  | .sinkAttach n v => Sys2Proof.Machine.execSinkAttach n v s
  | .dbAttach v => Sys2Proof.Machine.execDbAttach v s
  | .detach n => Sys2Proof.Machine.execDetach n s
  | .infoRetry n => Sys2Proof.Machine.execInfoRetry n s
  | .baseContractPg n => Sys2Proof.Machine.execBaseContractPg n s
  | .sinkPowerGood n => Sys2Proof.Machine.execSinkPowerGood n s
  | .ctpAckRx n w => Sys2Proof.Machine.execCtpAckRx n w s
  | .ctpAckTimeout n => Sys2Proof.Machine.execCtpAckTimeout n s
  | .infoRx n w o => Sys2Proof.Machine.execInfoRx n w o s
  | .capsRx n w objs => Sys2Proof.Machine.execCapsRx n w objs s
  | .requestRx n w o => Sys2Proof.Machine.execRequestRx n w o s
  | .acceptRx n w => Sys2Proof.Machine.execAcceptRx n w s
  | .rejectOrWaitRx n w => Sys2Proof.Machine.execRejectOrWaitRx n w s
  | .readyRx n w => Sys2Proof.Machine.execReadyRx n w s
  | .getCapsRx n w => Sys2Proof.Machine.execGetCapsRx n w s
  | .swapReqRx n w => Sys2Proof.Machine.execSwapReqRx n w s
  | .ctpHardResetRx m => Sys2Proof.Machine.execCtpHardResetRx m s
  | .reservedTypeRx n w objs => Sys2Proof.Machine.execReservedTypeRx n w objs s
  | .sequenceLevelWait n => Sys2Proof.Machine.execSequenceLevelWait n s
  | .sequenceTimeout n => Sys2Proof.Machine.execSequenceTimeout n s
  | .transitionSetLevel n => Sys2Proof.Machine.execTransitionSetLevel n s
  | .transitionReady n => Sys2Proof.Machine.execTransitionReady n s
  | .noReadyTimeout n => Sys2Proof.Machine.execNoReadyTimeout n s
  | .transitionBandExit n => Sys2Proof.Machine.execTransitionBandExit n s
  | .sinkWindowExit n => Sys2Proof.Machine.execSinkWindowExit n s
  | .swapOldSourceOff n => Sys2Proof.Machine.execSwapOldSourceOff n s
  | .swapNewSourcePg n => Sys2Proof.Machine.execSwapNewSourcePg n s
  | .swapTimeout n => Sys2Proof.Machine.execSwapTimeout n s
  | .hardResetHoldEnd n => Sys2Proof.Machine.execHardResetHoldEnd n s
  | .hardResetStuck n => Sys2Proof.Machine.execHardResetStuck n s
  | .deadBatteryStart x => Sys2Proof.Machine.execDeadBatteryStart x s
  | .localPgHandover => Sys2Proof.Machine.execLocalPgHandover s
  | .localPgFall => Sys2Proof.Machine.execLocalPgFall s
  | .ctpSend n => Sys2Proof.Machine.execCtpSend n s
  | .ctpHardResetCmd n => Sys2Proof.Machine.execCtpHardResetCmd n s
  | .ctpStatus way => Sys2Proof.Machine.execCtpStatus way s
  | .ctpRenegotiate way => Sys2Proof.Machine.execCtpRenegotiate way s
  | .ctpSwap way => Sys2Proof.Machine.execCtpSwap way s
  | .ctpHardReset way => Sys2Proof.Machine.execCtpHardReset way s
  | .channelCommandedOn c => Sys2Proof.Machine.execChannelCommandedOn c s
  | .rampComplete c => Sys2Proof.Machine.execRampComplete c s
  | .rampNoRise c => Sys2Proof.Machine.execRampNoRise c s
  | .rampTmo c => Sys2Proof.Machine.execRampTmo c s
  | .curveTrip c k => Sys2Proof.Machine.execCurveTrip c k s
  | .fastTrip c => Sys2Proof.Machine.execFastTrip c s
  | .overVoltage c => Sys2Proof.Machine.execOverVoltage c s
  | .feedUnderVoltage f => Sys2Proof.Machine.execFeedUnderVoltage f s
  | .feedWindowRecover f => Sys2Proof.Machine.execFeedWindowRecover f s
  | .reverseCurrent c => Sys2Proof.Machine.execReverseCurrent c s
  | .feedForwardBias f => Sys2Proof.Machine.execFeedForwardBias f s
  | .thermalModelStep c n vp vb tdie ntc => Sys2Proof.Machine.execThermalModelStep c n vp vb tdie ntc s
  | .channelToggle c => Sys2Proof.Machine.execChannelToggle c s
  | .coolDownEnd c => Sys2Proof.Machine.execCoolDownEnd c s
  | .fetFailCheck c => Sys2Proof.Machine.execFetFailCheck c s
  | .feedSwitchover f => Sys2Proof.Machine.execFeedSwitchover f s
  | .primaryTakeback => Sys2Proof.Machine.execPrimaryTakeback s
  | .pfailAssert uv fall => Sys2Proof.Machine.execPfailAssert uv fall s
  | .pfailHoldEnd => Sys2Proof.Machine.execPfailHoldEnd s
  | .pfailExternal => Sys2Proof.Machine.execPfailExternal s
  | .pwarnRx n => Sys2Proof.Machine.execPwarnRx n s
  | .domainSwitchOff d => Sys2Proof.Machine.execDomainSwitchOff d s
  | .domainSwitchOn d => Sys2Proof.Machine.execDomainSwitchOn d s
  | .domainReady d => Sys2Proof.Machine.execDomainReady d s
  | .domainFault d => Sys2Proof.Machine.execDomainFault d s
  | .stateReqRun => Sys2Proof.Machine.execStateReqRun s
  | .stateReqDoze => Sys2Proof.Machine.execStateReqDoze s
  | .stateReqRetain => Sys2Proof.Machine.execStateReqRetain s
  | .stateReqHold wakes => Sys2Proof.Machine.execStateReqHold wakes s
  | .stateReqShelf vstby wakes => Sys2Proof.Machine.execStateReqShelf vstby wakes s
  | .dozeClockGate => Sys2Proof.Machine.execDozeClockGate s
  | .dozeClockUngate => Sys2Proof.Machine.execDozeClockUngate s
  | .retainPortsSlept => Sys2Proof.Machine.execRetainPortsSlept s
  | .retainSleepTimeout => Sys2Proof.Machine.execRetainSleepTimeout s
  | .chipWake w => Sys2Proof.Machine.execChipWake w s
  | .wakeReplayed w => Sys2Proof.Machine.execWakeReplayed w s
  | .wakeTimerExpiry w => Sys2Proof.Machine.execWakeTimerExpiry w s
  | .avsAdjust mv ack => Sys2Proof.Machine.execAvsAdjust mv ack s
  | .bootRomRun corr uncorr good ok => Sys2Proof.Machine.execBootRomRun corr uncorr good ok s
  | .awlRestartPath corr uncorr => Sys2Proof.Machine.execAwlRestartPath corr uncorr s
  | .flashlessBoot good ok => Sys2Proof.Machine.execFlashlessBoot good ok s
  | .policyCheckStart refused => Sys2Proof.Machine.execPolicyCheckStart refused s
  | .keyGenerate m tag k => Sys2Proof.Machine.execKeyGenerate m tag k s
  | .keyDerive m tag src k => Sys2Proof.Machine.execKeyDerive m tag src k s
  | .keyEcdh m tag src k => Sys2Proof.Machine.execKeyEcdh m tag src k s
  | .keyUnwrap m tag src k => Sys2Proof.Machine.execKeyUnwrap m tag src k s
  | .keyClear m tag k => Sys2Proof.Machine.execKeyClear m tag k s
  | .keyPublic m tag src => Sys2Proof.Machine.execKeyPublic m tag src s
  | .keyOpComplete => Sys2Proof.Machine.execKeyOpComplete s
  | .keySlotAttrWrite m k v => Sys2Proof.Machine.execKeySlotAttrWrite m k v s
  | .crySha384 tag => Sys2Proof.Machine.execCrySha384 tag s
  | .cryHmac tag k => Sys2Proof.Machine.execCryHmac tag k s
  | .cryGcmEncrypt tag k => Sys2Proof.Machine.execCryGcmEncrypt tag k s
  | .cryGcmDecrypt tag k => Sys2Proof.Machine.execCryGcmDecrypt tag k s
  | .cryEcdsaSign tag k => Sys2Proof.Machine.execCryEcdsaSign tag k s
  | .cryEcdsaVerify tag => Sys2Proof.Machine.execCryEcdsaVerify tag s
  | .cryMldsaVerify tag => Sys2Proof.Machine.execCryMldsaVerify tag s
  | .cryRandom tag => Sys2Proof.Machine.execCryRandom tag s
  | .cryComplete => Sys2Proof.Machine.execCryComplete s
  | .debugChallenge tag => Sys2Proof.Machine.execDebugChallenge tag s
  | .debugAnswer tag => Sys2Proof.Machine.execDebugAnswer tag s
  | .debugPassword tag => Sys2Proof.Machine.execDebugPassword tag s
  | .debugClose tag => Sys2Proof.Machine.execDebugClose tag s
  | .nonceExpiry => Sys2Proof.Machine.execNonceExpiry s
  | .keyInfo way => Sys2Proof.Machine.execKeyInfo way s
  | .quote way => Sys2Proof.Machine.execQuote way s
  | .lcAdvance way fail veto => Sys2Proof.Machine.execLcAdvance way fail veto s
  | .lcVoid way fail veto => Sys2Proof.Machine.execLcVoid way fail veto s
  | .signerRevoke way fail veto => Sys2Proof.Machine.execSignerRevoke way fail veto s
  | .fwLoad way dma => Sys2Proof.Machine.execFwLoad way dma s
  | .imageHeadRx n p => Sys2Proof.Machine.execImageHeadRx n p s
  | .imageDataRx n p => Sys2Proof.Machine.execImageDataRx n p s
  | .imageAbortRx n p => Sys2Proof.Machine.execImageAbortRx n p s
  | .imageFetchRx n p => Sys2Proof.Machine.execImageFetchRx n p s
  | .sessionIdleTimeout => Sys2Proof.Machine.execSessionIdleTimeout s
  | .imageStaged ok => Sys2Proof.Machine.execImageStaged ok s
  | .fwActivate way veto => Sys2Proof.Machine.execFwActivate way veto s
  | .activationApply => Sys2Proof.Machine.execActivationApply s
  | .fwRollback way => Sys2Proof.Machine.execFwRollback way s
  | .fwCommit way veto => Sys2Proof.Machine.execFwCommit way veto s
  | .fwAbort way => Sys2Proof.Machine.execFwAbort way s
  | .fwStatus way => Sys2Proof.Machine.execFwStatus way s
  | .snapshotPeriodic => Sys2Proof.Machine.execSnapshotPeriodic s
  | .snapshotGo tag => Sys2Proof.Machine.execSnapshotGo tag s
  | .snapshotAtCommand tag => Sys2Proof.Machine.execSnapshotAtCommand tag s
  | .snapshotAtDue => Sys2Proof.Machine.execSnapshotAtDue s
  | .snapshotDeferred => Sys2Proof.Machine.execSnapshotDeferred s
  | .counterClear => Sys2Proof.Machine.execCounterClear s
  | .dumpRecordWritten dmaErr => Sys2Proof.Machine.execDumpRecordWritten dmaErr s
  | .cfgReadingChange n v1 v2 => Sys2Proof.Machine.execCfgReadingChange n v1 v2 s
  | .pcieLinkUp width speed => Sys2Proof.Machine.execPcieLinkUp width speed s
  | .ethLinkChange n up an speed => Sys2Proof.Machine.execEthLinkChange n up an speed s
  | .flashChunkWritten ok => Sys2Proof.Machine.execFlashChunkWritten ok s
  | .returnAuthExpiry => Sys2Proof.Machine.execReturnAuthExpiry s

end Sys2Proof.Machine
end

