-- ==== Sys2Proof/Safety.lean ====
section
/-!
DEFINITION. Sys2Proof/Safety.lean: the terms that claims are stated in: a command that completes, what it leaves alone, the canonical
form of the state.
-/
namespace Sys2Proof.Machine

/-- The command answers a next state, and P holds of it: neither a fault nor a refusal. -/
def Answers (o : Host.Outcome State Fault Refusal) (P : State → Prop) : Prop := ∃ t, o = .next t ∧ P t

/-- Registers beside those of a list hold what they held. -/
def RegsBut (fs : List Fld) (s t : State) : Prop := ∀ f : Fld, (∀ g ∈ fs, g.key ≠ f.key) → t.get f = s.get f

/-- Every frame-store byte holds what it held. -/
def SameBytes (s t : State) : Prop := ∀ a, t.byte a = s.byte a

/-- Frame-store bytes beside those of a list hold what they held. -/
def BytesBut (as : List Nat) (s t : State) : Prop := ∀ a, a ∉ as → t.byte a = s.byte a

/-- The frame-store bytes, by window address, that a rectangle of W × H pixels at (X, Y) of a surface touches (R279). -/
def rectBytes (f : Surf) (b x y w h : Nat) : List Nat :=
  (rectPoints w h).map fun p => fstBase + (f.at_ b (x + p.1) (y + p.2)).1

/-- Every bank that a surface lies in is on and not being zeroed (R278). -/
def Surf.Ready (f : Surf) (s : State) : Prop := ∀ k ∈ f.banks, s.flag (bankOn k) = true ∧ s.flag (bankInit k) = false

/-- The bytes of bank b hold what the last write that waited for each left, or what they held, and can be read (R278). -/
def Landed (s t : State) (b : Nat) : Prop :=
  ∀ a, bankOf a = b →
    t.byte (fstBase + a) = ((s.disp.initWait.reverse.find? fun w => w.1 == a).map Prod.snd).getD (s.byte (fstBase + a))
      ∧ t.fstRead a = t.byte (fstBase + a)

/-- A register frame: beside the fields of a list, no register and no frame-store byte changes. -/
def Frame (fs : List Fld) (s t : State) : Prop := RegsBut fs s t ∧ SameBytes s t

/-- A page frame: registers outside a list of window pages and every frame-store byte hold what they held. -/
def PageFrame (ps : List Nat) (s t : State) : Prop := (∀ f : Fld, f.key / 32768 ∉ ps → t.get f = s.get f) ∧ SameBytes s t

/-- The window pages of contract port n, of its power channel, of the feeds, and the page that holds the armed vectors. -/
def ctpPages (n : Nat) : List Nat :=
  [(CTP_STAT.STATE n).key / 32768, (CTP_RX.DATA n 0 0).key / 32768, (EYE_CH_STAT.STATE n).key / 32768,
   EYE_FEED_STAT.SWITCHES.key / 32768, EVC_ARMED.ARMED.key / 32768]

/-- The window pages of power channel c, of the feeds and of the armed vectors, and of a port channel's contract port. -/
def chanPages (c : Nat) : List Nat :=
  [(EYE_CH_STAT.STATE c).key / 32768, EYE_FEED_STAT.SWITCHES.key / 32768, EVC_ARMED.ARMED.key / 32768]
  ++ (if c < 4 then [(CTP_STAT.STATE c).key / 32768] else [])

/-- The registers that raising an event may write: its page's RAW word and the armed vectors (R240). -/
def evFlds (e : Ev) : List Fld := [EVT_RAW e.page, EVC_ARMED.ARMED]

/-- The registers that a rescale of port n's wheels writes (R192): sizes, reservations, positions, the effective quotas of their
owners, and WHL_RESCALED. -/
def State.rescaleFlds (s : State) (n : Nat) : List Fld :=
  ([n, n + 4].flatMap fun w => [WHLw_SIZE.P w, WHLw_RES.RESERVED w, WHLw_RES.ENTRIES w, WHLw_POS.POSITION w, WHLw_POS.EXPANDING w,
    WHLw_POS.UNRESERVED w] ++ (s.activeMap w).map fun e => CTXP1.EFF_QUOTA e.ctx) ++ evFlds EV.whlRescaled

/-- The registers that a packet charged to wheel w writes (R174, R177): what was lent, and its context's use of the epoch. -/
def chargeFlds (w i : Nat) : List Fld :=
  [WHLw_LEND.SHORT w, WHLw_LEND.POOL w, CTXP4.OWED i, CTXP1.OWN_USE i, CTXP2.BORROWED i, CTX7.EPOCH_USE i]

/-- Packet p on a fixed label waits for its Welt port, in LOCAL's partition or in the port's (R151, R162). -/
def State.queuedFor (s t : State) (n : Nat) (p : Pkt) : Prop :=
  let w : FlowPkt := ⟨p, 2048, 7, s.flows.number % 65536, true, false, n, p.hdr.flow, false⟩
  w ∈ t.flows.waiting ∨ w ∈ t.flows.admitted

/-- What a trip of channel c puts out: a source that supplied more than 24 V goes back to it (R342, R381). -/
def State.tripOut (s : State) (c : Chan) : List Emit :=
  ([0, 1, 2, 3] : List Port).filterMap fun n =>
    if n.val = c.val ∧ s.chanSink c = false ∧ 2 < (s.ctpP n).supply then some (.supply n 2) else none

/-- DSC of channel c is released when its discharge ends (R339, R373). -/
def State.dscOff (s t : State) (c : Chan) : List Emit :=
  if (s.chan c).dis = true ∧ (t.chan c).dis = false then [.pin (["DSC0", "DSC1", "DSC2", "DSC3"].getD c "") 0] else []

/-- The attribute fields of key slot k (R430). -/
def slotFlds (k : Nat) : List Fld :=
  [SLOT0.VALID k, SLOT0.TYPE k, SLOT0.ORIGIN k, SLOT0.MASTERS k, SLOT0.LCS k, SLOT0.USES k, SLOT1.USES_CNT k]

/-- A window of words of 32 bits from field `f 0` on holds n words of the bytes d. -/
def Holds (t : State) (f : Nat → Fld) (n : Nat) (d : List Byte) : Bool :=
  (List.range n).all fun i => t.get (f i) == leNat (byteSlice d (4 * i) 4)

/-- A whole result window (R249): complete, with its tag and status, and its sequence number one on. -/
def Result (s t : State) (w : ResWin) (tag status : Nat) : Prop :=
  t.get w.valid = 1 ∧ t.get w.tag = tag % 256 ∧ t.get w.status = status % 128 ∧ t.get w.seq = (s.get w.seq + 1) % 65536

/-- The fields of word 0 of a result window. -/
def resFlds (w : ResWin) : List Fld := [w.seq, w.tag, w.valid, w.status]

/-- The slots as a session leaves them for the read-back (R451): its image complete in the other bank, the other kinds copied. -/
def State.stagedSlots (s : State) (x : Sess) : State :=
  let k := hKind x.header
  ([0, 1, 2].filter (· != k)).foldl (fun t j => t.putSlot s.otherBank j (s.slotOf s.bootedBank j))
    (s.putSlot s.otherBank k { s.slotOf s.otherBank k with header := x.header, keyBlk := x.keyBlk })

/-- Every check of the read-back passes (R412, R451). -/
def State.readsBack (s : State) (x : Sess) : Bool :=
  let t := s.stagedSlots x
  let k := hKind x.header
  t.slotGood k { s.slotOf s.otherBank k with header := x.header, keyBlk := x.keyBlk }
    && ([0, 1, 2].filter (· != k)).all fun j => (t.slotOf s.otherBank j).header.isEmpty || t.slotGood j (t.slotOf s.otherBank j)

/-- Event e is raised on the way to t while its page's domain is on (R234, R240). -/
def Raised (e : Ev) (s t : State) : Prop := s.pageOn e.page = true → bit (t.get (EVT_RAW e.page)) e.bit = true

/-- One block as lane k of port n sends it next (R58, R59): through the lane's scrambler, inverted with TX_INV. -/
def State.laneBlock (s : State) (n : Port) (k : Nat) (b : Block) : Emit :=
  let x := (scrambleBlock ((s.lane n).scr.getD k 0) b).2
  .blocks n k [if s.flag (WLT_LANE_CTRL.TX_INV n k) then x.inverted else x]

/-- The next data block of lane k's training pattern (R65). -/
def State.trainOut (s : State) (n : Port) (k : Nat) : Emit :=
  s.laneBlock n k ⟨hdrData, (prbsBits 4 64 ((s.lane n).gen.getD k 1)).2⟩

/-- An alignment block as lane k sends it next (R65). -/
def State.alignOut (s : State) (n : Port) (k : Nat) (b : AlignBlock) : Emit := s.laneBlock n k ⟨hdrControl, leNat b⟩

/-- The fields that stored lane settings are loaded into at the exit of Sleep (Table 03.8 step 4). -/
def storedFlds (n : Nat) : List Fld :=
  laneList.flatMap fun k => [WLT_LANE_STAT.PRE_USED n k, WLT_LANE_STAT.POST_USED n k, WLT_LANE_STAT.CTLE n k]

/-- Lane k shows the stored setting x. -/
def State.showsStored (t : State) (n k : Nat) (x : List Nat) : Bool :=
  match x with
  | [pre, post, ctle] => t.get (WLT_LANE_STAT.PRE_USED n k) == pre % 2 ^ (WLT_LANE_STAT.PRE_USED n k).w
      && t.get (WLT_LANE_STAT.POST_USED n k) == post % 2 ^ (WLT_LANE_STAT.POST_USED n k).w
      && t.get (WLT_LANE_STAT.CTLE n k) == ctle % 2 ^ (WLT_LANE_STAT.CTLE n k).w
  | _ => true

/-- The port shows its stored lane settings (Table 03.8 step 4). -/
def State.loaded (s t : State) (n : Port) : Bool := laneList.all fun k => t.showsStored n k ((s.lane n).stored.getD k [])

/-- The first thing put out on the way to t, where it is a flight without a seal-fill slot: port, payload slots, the fields of its
seal, and whether its CRC is good (R93). -/
def State.flightOut (s t : State) : Option (Nat × List (List Byte) × Seal × Bool) :=
  match (t.out.drop s.out.length).head? with
  | some (.flight p l m) => some (p, l, Seal.ofBytes m, flightCrc l false (byteSlice m 0 28) == leNat (byteSlice m 28 4))
  | _ => none

/-- Register fields of port n's lanes that training writes: training and lane state, locks, masks, taps (chapter 03). -/
def laneFlds (n : Nat) : List Fld :=
  [WLT_PCS_STAT.TRAIN_STATE n, WLT_PCS_STAT.LANE_STATE n, WLT_PCS_STAT.COMPAT n, WLT_PCS_STAT.CLASS_USED n,
   WLT_PCS_STAT.RX_MASK n, WLT_PCS_STAT.TX_MASK n, WLT_PCS_STAT.DESKEWED n, WLT_PCS_STAT.BLOCK_LOCK n]
  ++ laneList.flatMap fun k => [WLT_LANE_STAT.BLOCK_LOCK n k, WLT_LANE_STAT.ADAPT_DONE n k, WLT_LANE_STAT.PRE_USED n k,
    WLT_LANE_STAT.POST_USED n k]

/-- Register fields of port n that the start of flights writes beside them: widths, counts cleared at TRAIN_DONE, replay
registers (R69, R112). -/
def upFlds (n : Nat) : List Fld :=
  [WLT_PCS_STAT.TRAIN_ATTEMPTS n, WLT_PCS_ERR.BAD_HDR n, WLT_PCS_ERR.LOCK_LOSS n, WLT_PCS_ERR.DESKEW_ERR n,
   WLT_LANE_HEALTH.LANE_PARKED n, WLT_LINK_STAT.WIDTH_RX n, WLT_LINK_STAT.WIDTH_TX n, WLT_REPLAY_STAT.STORED n,
   WLT_REPLAY_STAT.RPL_ID n]

/-- The registers that one entry into the error log writes, with its debug copy (R199, R481). -/
def logFlds (s : State) : List Fld :=
  let e := s.get LST_ERR_HEAD.NEXT
  let d := s.get DBG_LOG_HEAD.NEXT
  [LST_ERR_LOG0.CAUSE e, LST_ERR_LOG0.UNIT e, LST_ERR_LOG0.INDEX e, LST_ERR_LOG1.TIME e, LST_ERR_HEAD.NEXT,
   LST_ERR_HEAD.TOTAL, DBG_LOG0.CAUSE d, DBG_LOG0.UNIT d, DBG_LOG0.INDEX d, DBG_LOG1.TIME d, DBG_LOG_HEAD.NEXT,
   DBG_LOG_HEAD.TOTAL]

/-- A request as this hub's own control endpoint sends it next: its id, a TAG that is free, HOPS afresh (R238). -/
def State.ownReq (s : State) (p : CtlPkt) : CtlPkt := { p with src := s.hubId, tag := s.freshTag, hops := 33, hdr := none }

/-- The MAILBOX operation that REMOTE_MBX sends: CMD in OPDATA bytes 14 and 15, TAG in byte 16 (log entry 61). -/
def mbxReq (c : MbxCmd) : CtlPkt :=
  { reqPkt 6 (remHub c) 0 0 64 (byteSlice (byteSlice c.req 4 60) 0 64) with
    opdata := leBytes 2 (leNat (byteSlice c.req 2 2)) ++ [BitVec.ofNat 8 c.tag] }

/-- The canonical form of the two sparse tables of a state: register fields by rising address, frame-store bytes by
rising address and none that reads as an unlisted one. -/
def Canonical (s : State) : Prop := Tbl.sorted s.regs = true ∧ Memory.wf s.mem = true

/-- A run of the block that ends neither in a fault nor in a refusal within k steps. -/
def RunsSafely (s : State) (k : Nat) : Prop := ∃ t, Host.Core.run ⟨State, Fault, Refusal, step, State.reset⟩ k s = .next t

end Sys2Proof.Machine
end

