-- ==== Sys2Proof/Certificates/Slice0/Obligations.lean ====
section
/-!
DEFINITION. Sys2Proof/Certificates/Slice0/Obligations.lean: the statements for the provers.
-/
section Statements
open Sys2Proof Sys2Proof.Machine

/-- A step takes the front command; on an empty queue one lineage tick passes (the model's choice, log entry 5)
  (00_scope.md). -/
def Obligations.StepRunsFrontCommand : Prop :=
  -- the front command
  (∀ (c : Instr) (s : State) (rest : List Instr), step { s with pending := c :: rest } = exec c
    { s with pending := rest }) ∧
  -- an empty queue: one tick, log entry 5
  (∀ s : State, s.pending = [] → step s = .next s.tick)

/-- No command ends a run: every command in every state answers a next state, and so does every number of steps
  (00_scope.md, R7, R227, R230). -/
def Obligations.EveryCommandCompletes : Prop :=
  -- every command
  (∀ (c : Instr) (s : State), Answers (exec c s) fun _ => True) ∧
  -- every run
  (∀ (s : State) (k : Nat), RunsSafely s k)

/-- A command's effect leaves the queue of waiting commands alone (00_scope.md). -/
def Obligations.ExecLeavesTheQueue : Prop :=
  -- first in, first out
  (∀ (c : Instr) (s : State), Answers (exec c s) fun t => t.pending = s.pending)

/-- Every step keeps the canonical form of the register and frame-store tables (R7, R172, R183, R278, R279). -/
def Obligations.EveryStepKeepsCanonical : Prop :=
  -- every step
  (∀ s : State, Canonical s → Answers (step s) Canonical)

/-- What power-on leaves: every register at its reset value, an empty store, no command waiting; a spoke (straps
  open, log entry 6) (R9, R12, R13, R22, R278, Table 01.9). -/
def Obligations.TheStateAfterReset : Prop :=
  -- no command, nothing sent
  (State.reset.pending = [] ∧ Canonical State.reset ∧ State.reset.out = []) ∧
  -- every register field
  (∀ f : Fld, State.reset.get f = f.rst) ∧
  -- the frame store
  (∀ a : Nat, State.reset.byte a = 0) ∧
  -- a spoke without an id
  (State.reset.isRoot = false ∧ State.reset.hubId = 255 ∧ State.reset.get CTM_STAT.VALID = 0 ∧ State.reset.now = 0) ∧
  -- chain route entries: NONE
  (∀ i : Nat, i < 256 → State.reset.get (ROUTE.ROUTE i) = 0)

/-- A rollback counter is its number of blown fuses, at most 64, and no command lowers it (R423). -/
def Obligations.RollbackCountersOnlyRise : Prop :=
  -- blown fuses of ROLLBACK_BASE
  (∀ s : State, s.rollBase = ((List.range 64).filter fun i => bit (s.fuseByte (0x18 + i / 8)) (i % 8)).length ∧
    s.rollBase ≤ 64) ∧
  -- blown fuses of ROLLBACK_POLICY
  (∀ s : State, s.rollPolicy = ((List.range 64).filter fun i => bit (s.fuseByte (0x20 + i / 8)) (i % 8)).length ∧
    s.rollPolicy ≤ 64) ∧
  -- a counter only rises
  (∀ (c : Instr) (s : State), Answers (exec c s) fun t => s.rollBase ≤ t.rollBase ∧ s.rollPolicy ≤ t.rollPolicy) ∧
  -- no further than 64
  (∀ (s : State) (o v : Nat), min v 64 ≤ (s.raiseRollback o v).fuseCount o 8 ∧ (s.raiseRollback o v).fuseCount o 8 ≤
    64)

/-- A flow-context write takes the classes of Table 01.3 and refuses every other; control and time packets are CTL
  (R26, Table 01.3, Table 05.14). -/
def Obligations.ClassesOfTunnelTypes : Prop :=
  -- a pair of the table
  (∀ (s : State) (i : CtxNo) (v : Nat), s.ctxLive i = false → (bits v 6 4, bits v 4 2) ∈ ([(0, 2), (1, 3), (1, 2),
    (1, 1), (2, 1), (2, 2), (3, 1), (4, 1), (4, 2)] : List (Nat × Nat)) → Answers (exec (.contextWrite i 0 v) s) fun
    t => t.get (CTX0.TTYPE i) = bits v 6 4 ∧ t.get (CTX0.CLASS i) = bits v 4 2 ∧ Frame (ctxWord i 0) s t) ∧
  -- any other class
  (∀ (s : State) (i : CtxNo) (v : Nat), s.ctxLive i = false → bits v 6 4 ≤ 4 → (bits v 6 4, bits v 4 2) ∉ ([(0, 2),
    (1, 3), (1, 2), (1, 1), (2, 1), (2, 2), (3, 1), (4, 1), (4, 2)] : List (Nat × Nat)) → Answers (exec
    (.contextWrite i 0 v) s) fun t => t.get LST_CTX_STAT.STATUS = 1 ∧ (s.writeCtx i 0 v).2 = 8 ∧ Frame
    [LST_CTX_STAT.STATUS] s t) ∧
  -- CLASS CTL, of any TTYPE
  (∀ (s : State) (i : CtxNo) (v : Nat), s.ctxLive i = false → bits v 4 2 = 0 → Answers (exec (.contextWrite i 0 v) s)
    fun t => t.get LST_CTX_STAT.STATUS = 1 ∧ (s.writeCtx i 0 v).2 = 8 ∧ Frame [LST_CTX_STAT.STATUS] s t) ∧
  -- control and time packets
  (∀ (p : CtlPkt) (now mx : Nat) (info : List Byte), (p.toPkt now).hdr.cls = 0 ∧ (timePkt mx now info).hdr.cls = 0)

/-- A page that Table 18.1 does not list reads zero in every word; a write to it is dropped with ACCESS_ERR (R478).
  -/
def Obligations.ReservedPages : Prop :=
  -- a read
  (∀ (s : State) (p o : Nat), p < 256 → o < 0x1000 → pageInfo p = none → s.readWord (0x1000 * p + o) = (s, 0)) ∧
  -- a write
  (∀ (s : State) (src : Src) (p o be v : Nat), p < 256 → o < 0x1000 → pageInfo p = none → Answers (exec (.regWrite
    src (0x1000 * p + o) be v) s) fun t => t.get CHIP_ACCESS.ERR_SRC = s.srcCode src % 2 ^ 8 ∧ t.get
    CHIP_ACCESS.ERR_PAGE = (0x1000 * p + o) / 1024 ∧ Raised EV.accessErr s t ∧ t.out = s.out ∧ Frame
    ([CHIP_ACCESS.ERR_SRC, CHIP_ACCESS.ERR_PAGE] ++ evFlds EV.accessErr) s t)

/-- PAGE_ID, PAGE_VER and PAGE_CAP of every listed page, dark pages and closed debug pages (R226, R233, R476, R477,
  R481, Table 18.1). -/
def Obligations.HeadersOfPages : Prop :=
  -- R476, R477
  (∀ (s : State) (p : Nat) (i : PageInfo), p < 256 → pageInfo p = some i → s.pageOpen p = true → s.domainOn i.domain
    = true → s.readWord (0x1000 * p) = (s, i.typ * 0x10000 + i.inst * 0x100 + i.page) ∧ s.readWord (0x1000 * p + 4) =
    (s, 0x01000000) ∧ s.readWord (0x1000 * p + 8) = (s, i.domain * 0x100 + 4 + 2 * b2n i.lockable + b2n i.volatile)) ∧
  -- R233: a dark page
  (∀ (s : State) (p : Nat) (i : PageInfo), p < 256 → pageInfo p = some i → s.pageOpen p = true → s.domainOn i.domain
    = false → s.readWord (0x1000 * p) = (s, i.typ * 0x10000 + i.inst * 0x100 + i.page) ∧ (s.readWord (0x1000 * p +
    8)).2 / 4 % 2 = 0) ∧
  -- R481: a closed debug page
  (∀ (s : State) (p o : Nat), 0xF0 ≤ p → p < 256 → o < 0x1000 → s.dbgLevel < dbgPageLevel p → s.readWord (0x1000 * p
    + o) = (s, 0))

/-- Where a pixel lies, the limits of a surface, and what writing one pixel changes (R279). -/
def Obligations.PixelsOfASurface : Prop :=
  -- the registers of a surface
  (∀ (s : State) (h : Head) (k : Nat), (s.regSurf h k).page = s.get (DSP_SURF_BASE.PAGE h k) ∧ (s.regSurf h k).span =
    s.flag (DSP_SURF_BASE.SPAN h k) ∧ (s.regSurf h k).stride = s.get (DSP_SURF_STRIDE.BYTES h k) ∧ (s.regSurf h
    k).width = s.get (DSP_SURF_SIZE.WIDTH h k) ∧ (s.regSurf h k).height = s.get (DSP_SURF_SIZE.HEIGHT h k) ∧ s.bpp h
    = 2 ^ s.get (DSP_CTRL.FMT h)) ∧
  -- the place of a pixel
  (∀ (s : State) (f : Surf) (b x y : Nat), s.flag (bankOn (bankOf (f.page * 4096 + y * f.stride + x * b / 8))) = true
    → s.flag (bankInit (bankOf (f.page * 4096 + y * f.stride + x * b / 8))) = false → s.pixel f b x y = (s.byte
    (0x1000000 + (f.page * 4096 + y * f.stride + x * b / 8))).toNat / 2 ^ (x * b % 8) % 2 ^ b) ∧
  -- the limits
  (∀ (f : Surf) (b : Nat), f.valid b = true ↔ f.stride % 16 = 0 ∧ (f.width * b + 7) / 8 ≤ f.stride ∧ f.width ≤ 7680 ∧
    f.height ≤ 4320 ∧ f.page + (f.stride * f.height + 4095) / 4096 ≤ 8192 ∧ (f.span = true ∨ f.page / 4096 = (f.page
    + ((f.stride * f.height + 4095) / 4096 - 1)) / 4096)) ∧
  -- a pixel written reads back
  (∀ (s : State) (f : Surf) (b x y v : Nat), (b = 1 ∨ b = 2 ∨ b = 4 ∨ b = 8) → (f.at_ b x y).1 < fstBytes → s.flag
    (bankOn (bankOf (f.at_ b x y).1)) = true → s.flag (bankInit (bankOf (f.at_ b x y).1)) = false → (s.setPixel f b x
    y v).pixel f b x y = v % 2 ^ b ∧ (s.setPixel f b x y v).regs = s.regs) ∧
  -- every other pixel
  (∀ (s : State) (f g : Surf) (b x y v x' y' : Nat), (b = 1 ∨ b = 2 ∨ b = 4 ∨ b = 8) → (f.at_ b x y).1 < fstBytes →
    s.flag (bankOn (bankOf (f.at_ b x y).1)) = true → s.flag (bankInit (bankOf (f.at_ b x y).1)) = false → g.at_ b x'
    y' ≠ f.at_ b x y → (s.setPixel f b x y v).pixel g b x' y' = s.pixel g b x' y' ∧ BytesBut [fstBase + (f.at_ b x
    y).1] s (s.setPixel f b x y v))

/-- Header slots, seals and control packets: what is built with any admissible field values is read back field by
  field (R89, R92, R135, R136, R162, R163, Table 04.4, Table 05.1, Table 05.14). -/
def Obligations.CableLayoutsRoundTrip : Prop :=
  -- R135, R136: header slots
  (∀ h : Hdr, h.flow < 2048 → h.cls < 4 → h.len < 512 → h.mx < 32 → h.seq < 65536 → h.ttag < 2 ^ 32 → h.info.length =
    20 → Hdr.ofSlot h.slot = h ∧ h.slot.length = 32 ∧ slotCheckGood h.slot = (h.flow == 0x7FF || decide (h.len ≤
    320))) ∧
  -- R92, Table 04.4: seals
  (∀ x : Seal, x.fseq < 65536 → x.ackSeq < 65536 → x.rplId < 4 → x.resumeBack < 16 → x.rxMask < 16 → x.lstate < 8 →
    x.resumeSlot < 32 → x.lstateAt < 256 → x.clearLpn < 65536 → (x.cred.length = 4 ∧ ∀ c ∈ x.cred, c < 65536) →
    (x.poison.length ≤ (if x.enc then 2 else 4) ∧ ∀ c ∈ x.poison, c < 65536) → (x.txcLo < 2 ^ 32 ∧ (x.enc = false →
    x.txcLo = 0)) → Seal.ofBytes (x.bytes28 x.enc) = x ∧ (x.bytes28 x.enc).length = 28) ∧
  -- R162, Table 05.14: control packets
  (∀ (p : CtlPkt) (now : Nat), p.hdr = none → p.op < 32 → p.dst < 256 → p.src < 256 → p.tag < 65536 → p.offset < 2 ^
    26 → p.bytes < 65536 → p.status < 256 → p.hops < 256 → p.viaId < 256 → p.viaPort < 4 → p.opdata.length = 6 →
    p.data.length % 32 = 0 → p.data.length < 16384 → now < 2 ^ 32 → Pkt.toCtl ⟨Hdr.ofSlot (p.toPkt now).hdr.slot,
    ((p.toPkt now).slots.drop 1).flatten⟩ = { p with hdr := some (p.toPkt now).hdr } ∧ (p.toPkt now).hdr.flow = 0)

/-- REFIN comes, goes and is slewed back to (R28, R29, R505). -/
def Obligations.ReferenceClockEvents : Prop :=
  -- R29: REFIN is back in the Root
  (∀ (s : State), s.refFitted = true → s.isRoot = true → s.clk.everLocked = true → s.clk.pll = .held → Answers (exec
    (.refinPresent) s) fun t => t.clk.pll = .refin ∧ t.clk.slew = true ∧ t.clk.refin = true ∧ t.get CLK_STAT.REF_LOST
    = 0 ∧ t.get CLK_STAT.NO_LOCAL_REF = 0 ∧ Frame [CLK_STAT.REF_LOST, CLK_STAT.NO_LOCAL_REF] s t) ∧
  -- R29: the Root loses REFIN
  (∀ (s : State), s.isRoot = true → s.clk.everLocked = true → s.clk.refin = true → Answers (exec (.refinLoss) s) fun
    t => t.clk.pll = .held ∧ t.clk.refin = false ∧ t.get CLK_STAT.LOCKED = 0 ∧ t.get CLK_STAT.REF_LOST = 1 ∧ t.get
    CTM_STAT.FREE = 1 ∧ Raised EV.lineageLost s t ∧ Frame ([CLK_STAT.LOCKED, CLK_STAT.REF_LOST, CTM_STAT.FREE] ++
    (List.range 4).map WLT_TEST_CTRL.FE_SLIP ++ evFlds EV.lineageLost) s t) ∧
  -- R505: a locked spoke loses REFIN
  (∀ (s : State), s.isRoot = false → s.refFitted = true → s.flag CLK_STAT.LOCKED = true → Answers (exec
    (.spokeRefinLoss) s) fun t => t.clk.pll = s.clk.pll ∧ t.get CLK_STAT.LOCKED = s.get CLK_STAT.LOCKED ∧
    t.clk.ratioRun = false ∧ t.get CLK_STAT.RATIO_VALID = 0 ∧ t.get CLK_STAT.REF_LOST = 1 ∧ t.get
    CLK_STAT.NO_LOCAL_REF = 1 ∧ Raised EV.noLocalRef s t ∧ Frame ([CLK_STAT.RATIO_VALID, CLK_STAT.REF_LOST,
    CLK_STAT.NO_LOCAL_REF] ++ evFlds EV.noLocalRef) s t) ∧
  -- R29: the slew has ended
  (∀ (s : State), s.clk.slew = true → s.isRoot = true → Answers (exec (.lineageSlewDone) s) fun t => t.clk.slew =
    false ∧ t.get CLK_STAT.LOCKED = 1 ∧ t.get CTM_STAT.FREE = 0 ∧ Frame ([CLK_STAT.LOCKED, CTM_STAT.FREE] ++
    (List.range 4).map WLT_TEST_CTRL.FE_SLIP) s t)

/-- Spread spectrum, holdover, FORCE_HOLD and the measured ratio (R30, R33, R34, R36). -/
def Obligations.SpreadAndHoldover : Prop :=
  -- R30: with every port OFF
  (∀ (s : State) (v : Bool), s.isRoot = true → s.locked 2 = false → s.allOff = true → Answers (exec (.sscEnWrite v)
    s) fun t => t.get CLK_CTRL.SSC_EN = b2n v ∧ t.get CLK_STAT.SSC_ACTIVE = b2n v ∧ Frame [CLK_CTRL.SSC_EN,
    CLK_STAT.SSC_ACTIVE] s t) ∧
  -- R30: the last port has become OFF
  (∀ (s : State), s.isRoot = true → s.allOff = true → Answers (exec (.sscApply) s) fun t => t.get CLK_STAT.SSC_ACTIVE
    = s.get CLK_CTRL.SSC_EN % 2 ∧ Frame [CLK_STAT.SSC_ACTIVE] s t) ∧
  -- R33: no counted upstream lane holds block lock
  (∀ (s : State), s.isRoot = false → s.hubId ≠ 255 → s.flag CLK_STAT.LOCKED = true → s.flag CLK_STAT.HOLDOVER = false
    → s.upstreamLocked = false → s.refFitted = true → Answers (exec (.holdoverEntry false) s) fun t => t.clk.pll =
    s.holdMode ∧ t.get CLK_STAT.HOLDOVER = 1 ∧ t.get CLK_STAT.LOCKED = 0 ∧ t.get CTM_STAT.FREE = 1 ∧ Raised
    EV.lineageLost s t ∧ Frame ([CTM_STAT.STEP_PENDING, CLK_STAT.SLIP, CLK_STAT.LOCKED, CLK_STAT.HOLDOVER,
    CTM_STAT.FREE, CLK_STAT.SSC_SEEN] ++ (List.range 4).map WLT_TEST_CTRL.FE_SLIP ++ s.rescaleFlds 0 ++ evFlds
    EV.lineageLost) s t) ∧
  -- R40, log entry 69: a link further up is lost, a pending step is cleared
  (∀ (s : State), Answers (exec (.holdoverEntry true) s) fun t => t.time.pend = none ∧ t.get CTM_STAT.STEP_PENDING =
    0 ∧ t.clk = s.clk ∧ t.out = s.out ∧ Frame [CTM_STAT.STEP_PENDING] s t) ∧
  -- CLK_CTRL.FORCE_HOLD: set, as if the upstream link were lost
  (∀ (s : State), s.isRoot = false → s.hubId ≠ 255 → s.flag CLK_STAT.LOCKED = true → s.flag CLK_STAT.HOLDOVER = false
    → s.refFitted = true → Answers (exec (.forceHoldWrite true) s) fun t => t.get CLK_CTRL.FORCE_HOLD = 1 ∧ t.get
    CLK_STAT.HOLDOVER = 1 ∧ t.get CLK_STAT.LOCKED = 0 ∧ t.get CTM_STAT.FREE = 1 ∧ Raised EV.lineageLost s t ∧ Frame
    ([CLK_CTRL.FORCE_HOLD, CTM_STAT.STEP_PENDING, CLK_STAT.SLIP, CLK_STAT.LOCKED, CLK_STAT.HOLDOVER, CTM_STAT.FREE,
    CLK_STAT.SSC_SEEN] ++ (List.range 4).map WLT_TEST_CTRL.FE_SLIP ++ s.rescaleFlds 0 ++ evFlds EV.lineageLost) s t) ∧
  -- CLK_CTRL.FORCE_HOLD: cleared, the rejoin begins
  (∀ (s : State), s.isRoot = false → s.flag CLK_CTRL.FORCE_HOLD = true → s.flag CLK_STAT.HOLDOVER = true → s.flag
    (WLT_LINK_STAT.ADMITTED 0) = true → s.flag (WLT_PCS_STAT.COMPAT 0) = false → Answers (exec (.forceHoldWrite
    false) s) fun t => t.get CLK_CTRL.FORCE_HOLD = 0 ∧ t.clk.rejoin = true ∧ t.clk.slew = true ∧ t.get CLK_STAT.SLIP
    = 1 ∧ Frame ([CLK_CTRL.FORCE_HOLD, CLK_STAT.SLIP] ++ s.rescaleFlds 0) s t) ∧
  -- R34
  (∀ (s : State) (ppm : Int), s.isRoot = false → s.flag CLK_STAT.LOCKED = true → s.refFitted = true → s.clk.refin =
    true → s.clk.ratioRun = true → Answers (exec (.ratioValidSet ppm) s) fun t => t.get CLK_HOLD_RATIO.PPM_X100 =
    ofInt 32 ppm ∧ t.get CLK_STAT.RATIO_VALID = 1 ∧ Frame [CLK_HOLD_RATIO.PPM_X100, CLK_STAT.RATIO_VALID] s t)

/-- The spoke locks to its parent; time messages leave and arrive (R38, R42, R43, R163, R164, R507). -/
def Obligations.LineageLockAndMessages : Prop :=
  -- R42, R507
  (∀ (s : State) (spread : Bool), s.isRoot = false → s.refinLineage = false → s.flag (WLT_LINK_STAT.ADMITTED 0) =
    true → s.flag CLK_CTRL.FORCE_HOLD = false → s.flag CLK_STAT.LOCKED = false → s.clk.everLocked = false → ([0, 1,
    2, 3] : List Port).all (fun n => !(s.lane n).attach || s.get (WLT_PCS_STAT.TRAIN_STATE n) != 0) = true → Answers
    (exec (.lineagePllLock spread) s) fun t => t.get CLK_STAT.LOCKED = 1 ∧ t.get CLK_STAT.SSC_SEEN = b2n spread ∧
    t.clk.pll = .upstream ∧ t.clk.everLocked = true ∧ t.time.run = true ∧ t.time.ticks = 0 ∧ t.time.phase = 0 ∧ Frame
    ([CLK_STAT.LOCKED, CLK_STAT.SSC_SEEN] ++ (List.range 4).map WLT_TEST_CTRL.FE_SLIP) s t) ∧
  -- R38: the parent end
  (∀ (s : State) (n : Port), s.facesUp n = false → Answers (exec (.lineageLocked n) s) fun t => bit (t.get
    CLK_STAT.PORT_SLIP) n = false ∧ t.time = s.time ∧ t.clk = s.clk ∧ SameBytes s t) ∧
  -- R43: the request waits for port 0
  (∀ (s : State), s.mayExchange = true → s.flag (WLT_PCS_STAT.COMPAT 0) = false → Answers (exec (.delayReqTimer) s)
    fun t => t.time.exch = (s.time.exch + 1) % 65536 ∧ t.time.waiting = none ∧ s.queuedFor t 0 (timePkt 0 s.now32
    (leBytes 2 ((s.time.exch + 1) % 65536) ++ s.stamp.bytes)) ∧ t.out = s.out ∧ Frame [] s t) ∧
  -- R24: the coarse message of a 1.x link
  (∀ (s : State), s.mayExchange = true → s.flag (WLT_PCS_STAT.COMPAT 0) = true → Answers (exec (.delayReqTimer) s)
    fun t => t.time.exch = (s.time.exch + 1) % 65536 ∧ t.time.waiting = some ⟨s.time.ticks, 0⟩ ∧ t.out = s.out ++
    [.time 0 0 (leBytes 2 ((s.time.exch + 1) % 65536) ++ (⟨s.time.ticks, 0⟩ : Stamp).bytes)] ∧ t.flows = s.flows ∧
    Frame [] s t) ∧
  -- R43, R103, R163: the answer waits, the slot is freed
  (∀ (s : State) (n : Port) (exch : Nat), (s.link n).flightBad = false → s.flag CTM_STAT.VALID = true → s.facesUp n =
    false → s.flag (WLT_LINK_STAT.ADMITTED n) = true → s.flag (WLT_PCS_STAT.COMPAT n) = false → Answers (exec
    (.delayReqRx n exch) s) fun t => s.queuedFor t n (timePkt 1 s.now32 (leBytes 2 exch ++ s.stamp.bytes ++
    s.stamp.bytes)) ∧ (t.link n).freed.head? = (s.link n).freed.head?.map (· + 1) ∧ t.time = s.time ∧ t.out = s.out ∧
    Frame [] s t) ∧
  -- R43: d and o of an exchange
  (∀ (s : State) (t3 t4 t1 : Stamp) (parentFree : Bool), s.mayExchange = true → s.flag (WLT_PCS_STAT.COMPAT 0) =
    false → s.time.waiting = some t3 → (s.link 0).flightBad = false → s.time.offs.length < 7 → Answers (exec
    (.delayRespRx s.time.exch t4 t1 parentFree) s) fun t => t.time.waiting = none ∧ t.time.dels = ((((t4.sub -
    t1.sub) - (t3.sub - s.stamp.sub)).tdiv 2) :: s.time.dels).take 8 ∧ t.time.offs = ((s.stamp.sub - t1.sub) -
    (((t4.sub - t1.sub) - (t3.sub - s.stamp.sub)).tdiv 2) - toInt 16 (s.get CTM_ASYM.ASYM)) :: s.time.offs ∧
    t.time.avgValid = s.time.avgValid ∧ t.out = s.out ∧ Frame [CTM_STAT.FREE] s t) ∧
  -- R43: eight exchanges are averaged; with a step pending nothing follows
  (∀ (s : State) (t3 t4 t1 : Stamp) (parentFree : Bool), s.mayExchange = true → s.flag (WLT_PCS_STAT.COMPAT 0) =
    false → s.time.waiting = some t3 → (s.link 0).flightBad = false → s.time.offs.length = 7 → s.time.dels.length = 7
    → s.time.pend.isSome = true → Answers (exec (.delayRespRx s.time.exch t4 t1 parentFree) s) fun t =>
    t.time.waiting = none ∧ t.time.avgValid = true ∧ t.time.avgO = (((s.stamp.sub - t1.sub) - (((t4.sub - t1.sub) -
    (t3.sub - s.stamp.sub)).tdiv 2) - toInt 16 (s.get CTM_ASYM.ASYM)) + s.time.offs.sum).tdiv 8 ∧ t.time.avgD =
    ((((t4.sub - t1.sub) - (t3.sub - s.stamp.sub)).tdiv 2) + s.time.dels.sum).tdiv 8 ∧ t.time.pend = s.time.pend ∧
    t.out = s.out ∧ Frame [CTM_STAT.FREE] s t) ∧
  -- R164: kept, and sent on to each child
  (∀ (s : State) (n : StepNote), s.isRoot = false → (s.link 0).flightBad = false → Answers (exec (.stepNoticeRx n) s)
    fun t => t.time.pend = some n ∧ t.get CTM_STAT.STEP_PENDING = 1 ∧ s.downPorts.all (fun p => !s.flag
    (WLT_LINK_STAT.ADMITTED p) || s.flag (WLT_PCS_STAT.COMPAT p) || (t.flows.waiting ++ t.flows.admitted).any (fun q
    => q.outAtt == p && q.pkt == timePkt 2 s.now32 n.bytes)) = true ∧ Frame [CTM_STAT.STEP_PENDING] s t)

/-- A step is applied at its tick; captures and hop reports fill the CTM result window (R46, R48, R50, R53, R54,
  R249). -/
def Obligations.StepsOfChainTime : Prop :=
  -- R46, R50: a negative step freezes chain time
  (∀ (s : State) (n : StepNote), s.time.pend = some n → n.apply ≤ s.now → s.frozen = false → n.d < 0 → -(400000000 *
    256) ≤ n.d → Answers (exec (.chainTimeStepApply) s) fun t => t.get CTM_LAST_STEP_LO.STEP = ofInt 64 n.d % 2 ^ 32
    ∧ t.get CTM_LAST_STEP_HI.STEP = ofInt 64 n.d / 2 ^ 32 % 2 ^ 32 ∧ t.get CTM_STAT.STEP_SEQ = (s.get
    CTM_STAT.STEP_SEQ + 1) % 256 ∧ t.get CTM_STAT.STEP_PENDING = 0 ∧ t.get CTM_STAT.REBASED = 0 ∧ t.get
    CTM_STAT.FREEZE = 1 ∧ t.time.freeze = n.d.natAbs ∧ t.time.ticks = s.time.ticks ∧ t.time.phase = s.time.phase ∧
    t.time.pend = none ∧ Raised EV.ctmStep s t ∧ Frame ([CTM_LAST_STEP_LO.STEP, CTM_LAST_STEP_HI.STEP,
    CTM_STAT.STEP_SEQ, CTM_STAT.STEP_PENDING, CTM_STAT.REBASED, CTM_STAT.FREE, CTM_STAT.FREEZE] ++ evFlds EV.ctmStep
    ++ wheelNos.map (fun (w : WheelNo) => WHLw_POS.UNRESERVED w)) s t) ∧
  -- R44, R46: a forward step within the tick moves the phase alone
  (∀ (s : State) (n : StepNote), s.time.pend = some n → n.apply ≤ s.now → s.frozen = false → 0 ≤ n.d → s.time.phase +
    n.d < 256 → s.time.ticks < 2 ^ 64 → Answers (exec (.chainTimeStepApply) s) fun t => t.time.ticks = s.time.ticks ∧
    (t.time.phase : Int) = s.time.phase + n.d ∧ t.get CTM_STAT.STEP_SEQ = (s.get CTM_STAT.STEP_SEQ + 1) % 256 ∧ t.get
    CTM_STAT.FREEZE = s.get CTM_STAT.FREEZE ∧ Raised EV.ctmStep s t ∧ Frame ([CTM_LAST_STEP_LO.STEP,
    CTM_LAST_STEP_HI.STEP, CTM_STAT.STEP_SEQ, CTM_STAT.STEP_PENDING, CTM_STAT.REBASED, CTM_STAT.FREE] ++ evFlds
    EV.ctmStep) s t) ∧
  -- R46: counting resumes, with nothing waiting for the held value
  (∀ (s : State), s.frozen = true → s.time.freeze % 256 = 0 → s.bridge.sched = [] → s.flows.held = [] → (s.head
    0).waits = [] → (s.head 1).waits = [] → s.host.ptpStaged = none → s.wheel.commits = [] → s.collects = false →
    s.flag UPD_ACT.PENDING = false → s.time.ticks < 2 ^ 64 → s.time.phase < 256 → Answers (exec (.freezeEnd) s) fun t
    => t.get CTM_STAT.FREEZE = 0 ∧ t.time.freeze = 0 ∧ t.time.ticks = s.time.ticks ∧ t.time.phase = s.time.phase ∧
    Frame ([CTM_STAT.FREEZE, GPIO_SCHED_STAT.QUEUED] ++ wheelNos.map (fun (w : WheelNo) => WHLw_POS.UNRESERVED w)) s
    t) ∧
  -- R53, R249
  (∀ (s : State) (tag : Nat), Answers (exec (.ctmCapture tag) s) fun t => t.get CTM_RES0.STATUS = (if s.flag
    CTM_STAT.VALID then 0 else 1) ∧ t.get CTM_RES0.TAG = tag % 256 ∧ t.get CTM_RES0.VALID = 1 ∧ t.get CTM_RES0.SEQ =
    (s.get CTM_RES0.SEQ + 1) % 65536 ∧ t.get (CTM_RES.DATA 0) = s.now % 2 ^ 32 ∧ t.get (CTM_RES.DATA 1) = s.now / 2 ^
    32 % 2 ^ 32 ∧ t.time = s.time ∧ Frame [CTM_RES0.STATUS, CTM_RES0.TAG, CTM_RES0.VALID, CTM_RES0.SEQ, CTM_RES.DATA
    0, CTM_RES.DATA 1, CTM_RES.DATA 2] s t) ∧
  -- R53: a port that is not upstream
  (∀ (s : State) (tag port : Nat), port ≠ 0 ∨ s.isRoot = true → Answers (exec (.ctmHopReport tag port) s) fun t =>
    t.get CTM_RES0.STATUS = 3 ∧ t.get CTM_RES0.TAG = tag % 256 ∧ t.get CTM_RES0.VALID = 1 ∧ t.get CTM_RES0.SEQ =
    (s.get CTM_RES0.SEQ + 1) % 65536 ∧ t.time = s.time ∧ Frame [CTM_RES0.STATUS, CTM_RES0.TAG, CTM_RES0.VALID,
    CTM_RES0.SEQ, CTM_RES.DATA 0, CTM_RES.DATA 1, CTM_RES.DATA 2] s t) ∧
  -- R53: the last averaged hop delay and offset
  (∀ (s : State) (tag : Nat), s.isRoot = false → s.flag (WLT_LINK_STAT.ADMITTED 0) = true → s.time.avgValid = true →
    s.flag CTM_STAT.VALID = true → Answers (exec (.ctmHopReport tag 0) s) fun t => t.get CTM_RES0.STATUS = 0 ∧ t.get
    CTM_RES0.TAG = tag % 256 ∧ t.get CTM_RES0.VALID = 1 ∧ t.get (CTM_RES.DATA 0) = ofInt 32 s.time.avgD ∧ t.get
    (CTM_RES.DATA 1) = ofInt 32 s.time.avgO ∧ t.time = s.time ∧ Frame [CTM_RES0.STATUS, CTM_RES0.TAG, CTM_RES0.VALID,
    CTM_RES0.SEQ, CTM_RES.DATA 0, CTM_RES.DATA 1, CTM_RES.DATA 2] s t)

/-- The Root enumerates the first hub of a chain, refuses one below depth 16, marks one joined, and holds and drops
  the only hub of its map (R16, R17, R18, R20, R508). -/
def Obligations.EnumerationInTheRoot : Prop :=
  -- R18 step 2: the first hub of a chain, without an identity
  (∀ (s : State) (ident : Nat) (old : Bool) (n : Nat) (rest : List Report), s.isRoot = true → s.hubId = 0 →
    s.chain.asked = none → s.chain.hubs = [] → s.chain.binds = [] → s.chain.reports = ⟨0, n, true⟩ :: rest → n < 4 →
    s.flag (WLT_LINK_STAT.ADMITTED n) = true → (List.range 4).all (fun i => s.get (WLT_PARTNER_IDENT.IDENT n i) == 0)
    = true → Answers (exec (.rootLinkUpReport ident old) s) fun t => t.chain.reports = rest ∧ t.chain.hubs = [(1, ⟨0,
    n, 1, 0, false, false, old, false, false⟩)] ∧ t.get (ROUTE.ROUTE 1) = 4 + n ∧ t.get (ROUTE.DEPTH 1) = 1 ∧ t.out =
    s.out ++ [.ctl n ⟨(assignPkt 0xFF 0 n true 1 1 0 n false).op, 255, 0, s.freshTag, 0, 0, 0, 33, 0, n, true, [1, 1,
    0, BitVec.ofNat 8 n, 0, 0], [], false, none⟩] ∧ Frame [ROUTE.ROUTE 1, ROUTE.DEPTH 1] s t) ∧
  -- R16: the hub would lie at depth 17
  (∀ (s : State) (ident : Nat) (old : Bool) (p n : Nat) (rest : List Report) (r : HubRec), s.isRoot = true →
    s.chain.reports = ⟨p, n, true⟩ :: rest → p ≠ 0 → n ≠ 0 → s.chain.asked = none → s.chain.hubs.find? p = some r →
    r.uh3200 = true → r.depth = 16 → ident = 0 → Answers (exec (.rootLinkUpReport ident old) s) fun t =>
    t.chain.reports = rest ∧ t.chain.hubs = s.chain.hubs ∧ t.chain.refused = some (p, n, false) ∧ t.out = s.out ∧
    Raised EV.enumRefused s t ∧ Frame (evFlds EV.enumRefused) s t) ∧
  -- R18 step 1: the partner's identity is read at the parent by a control READ
  (∀ (s : State) (ident : Nat) (old : Bool) (p n k : Nat) (rest : List Report) (r : HubRec), s.isRoot = true →
    s.hubId = 0 → s.chain.asked = none → s.chain.reports = ⟨p, n, true⟩ :: rest → p ≠ 0 → n ≠ 0 → s.chain.hubs.find?
    p = some r → r.uh3200 = false → s.routeTo p = some k → s.flag (WLT_LINK_STAT.ADMITTED k) = true → Answers (exec
    (.rootLinkUpReport ident old) s) fun t => t.chain.reports = s.chain.reports ∧ t.chain.asked = some old ∧
    t.chain.hubs = s.chain.hubs ∧ t.out = s.out ++ [.ctl k (s.ownReq (reqPkt 0 p 0 (WLT_PARTNER_IDENT.IDENT n 0).addr
    16 []))] ∧ t.ctl.reqs.find? s.freshTag = some ⟨s.ownReq (reqPkt 0 p 0 (WLT_PARTNER_IDENT.IDENT n 0).addr 16 []),
    0, 7⟩ ∧ Frame [] s t) ∧
  -- Table 01.2 step 5
  (∀ (s : State) (id : Nat) (r : HubRec), s.isRoot = true → s.chain.hubs.find? id = some r → s.below id = [] →
    Answers (exec (.hubJoined id) s) fun t => t.chain.hubs.find? id = some { r with joined := true } ∧ Raised
    EV.hubJoined s t ∧ t.out = s.out ∧ Frame (evFlds EV.hubJoined) s t) ∧
  -- R20: the hold of the hub below that port starts
  (∀ (s : State) (n id : Nat) (rest : List Report) (r : HubRec), s.isRoot = true → s.chain.reports = ⟨0, n, false⟩ ::
    rest → s.chain.hubs = [(id, r)] → r.parent = 0 → r.port = n → Answers (exec (.rootLinkDownReport) s) fun t =>
    t.chain.reports = rest ∧ t.chain.hubs = [(id, { r with held := true })] ∧ t.out = s.out ∧ Frame [] s t) ∧
  -- R20: the 2 s are over
  (∀ (s : State) (id : Nat) (r : HubRec), s.isRoot = true → s.chain.hubs = [(id, r)] → r.parent = 0 → r.held = true →
    id ≠ 0 → Answers (exec (.rootHoldExpiry id) s) fun t => t.chain.hubs = [] ∧ t.get (ROUTE.ROUTE id) = 0 ∧ t.get
    (ROUTE.DEPTH id) = 0 ∧ t.out = s.out ∧ Raised EV.hubLeft s t ∧ Frame ([ROUTE.ROUTE id, ROUTE.DEPTH id] ++ evFlds
    EV.hubLeft) s t)

/-- A spoke takes, keeps and loses its id; who may write the chain route table (R19, R20, R22, R23, R508). -/
def Obligations.IdsOfASpoke : Prop :=
  -- R19: ALREADY_ENUMERATED
  (∀ (s : State) (p : CtlPkt) (n : Nat), p.poison = false → s.ctl.pdReads.any (fun r => r.req.src == p.src) = false →
    s.ownWrites p ≤ 16 → s.isRoot = false → s.hubId < 255 → bit (byteAt p.opdata 3) 7 = false → s.routeTo p.src =
    some n → s.flag (WLT_LINK_STAT.ADMITTED n) = true → p.via = false → Answers (exec (.assignIdRx p) s) fun t =>
    t.out = s.out ++ [.ctl n (p.answer s.hubId 3 [])] ∧ t.chain = s.chain ∧ Frame [] s t) ∧
  -- R19: a REASSIGN of the present id
  (∀ (s : State) (p : CtlPkt) (n : Nat), p.poison = false → s.ctl.pdReads.any (fun r => r.req.src == p.src) = false →
    s.ownWrites p ≤ 16 → s.isRoot = false → s.hubId < 255 → bit (byteAt p.opdata 3) 7 = true → byteAt p.opdata 0 =
    s.hubId → s.routeTo p.src = some n → s.flag (WLT_LINK_STAT.ADMITTED n) = true → Answers (exec (.assignIdRx p) s)
    fun t => t.hubId = s.hubId ∧ t.get CHIP_ROLE.DEPTH = byteAt p.opdata 1 ∧ t.get CHIP_HUB_ID.PARENT_ID = byteAt
    p.opdata 2 ∧ t.get CHIP_HUB_ID.PARENT_PORT = byteAt p.opdata 3 % 4 ∧ t.out = s.out ++ [.ctl n (p.answer s.hubId 0
    [])] ∧ t.get (ROUTE.ROUTE s.hubId) = 1 ∧ t.get (ROUTE.DEPTH s.hubId) = byteAt p.opdata 1 ∧ Frame
    [CHIP_ROLE.DEPTH, CHIP_HUB_ID.PARENT_ID, CHIP_HUB_ID.PARENT_PORT, ROUTE.ROUTE s.hubId, ROUTE.DEPTH s.hubId] s t) ∧
  -- R19, R22: an id is taken
  (∀ (s : State) (p : CtlPkt), p.poison = false → s.ctl.pdReads.any (fun r => r.req.src == p.src) = false →
    s.ownWrites p ≤ 16 → s.isRoot = false → s.hubId = 255 → byteAt p.opdata 0 < 255 → Answers (exec (.assignIdRx p)
    s) fun t => t.hubId = byteAt p.opdata 0 ∧ t.get CHIP_ROLE.DEPTH = byteAt p.opdata 1 ∧ t.get (ROUTE.ROUTE (byteAt
    p.opdata 0)) = 1 ∧ Raised EV.idAssigned s t ∧ SameBytes s t) ∧
  -- R20, R22: the id returns to 255
  (∀ (s : State), s.isRoot = false → s.chain.hold0 = true → ([1, 2, 3] : List Port).all (fun n => s.get
    (WLT_PCS_STAT.TRAIN_STATE n) == 0) = true → Answers (exec (.spokeHoldExpiry) s) fun t => t.hubId = 255 ∧
    t.chain.hold0 = false ∧ t.get CHIP_ROLE.DEPTH = 255 ∧ (List.range 256).all (fun i => t.get (ROUTE.ROUTE i) == 0)
    = true ∧ SameBytes s t) ∧
  -- R508: the Root writes an entry of a spoke
  (∀ (s : State) (j v : Nat), s.isRoot = false → j < 256 → Answers (exec (.chainRouteWrite (.hub 0 0) j v) s) fun t
    => t.get (ROUTE.ROUTE j) = bits v 0 3 ∧ t.get (ROUTE.DEPTH j) = bits v 8 8 ∧ t.out = s.out ∧ Frame [ROUTE.ROUTE
    j, ROUTE.DEPTH j] s t) ∧
  -- R508: every other remote writer
  (∀ (s : State) (id port j v : Nat), s.isRoot = true ∨ id ≠ 0 ∨ port ≠ 0 → j < 256 → id < 256 → Answers (exec
    (.chainRouteWrite (.hub id port) j v) s) fun t => t.get (ROUTE.ROUTE j) = s.get (ROUTE.ROUTE j) ∧ t.get
    CHIP_ACCESS.ERR_SRC = id ∧ Raised EV.accessErr s t ∧ Frame ([CHIP_ACCESS.ERR_SRC, CHIP_ACCESS.ERR_PAGE] ++ evFlds
    EV.accessErr) s t)

/-- A control packet is forwarded with one hop less, answered NO_ROUTE at its last hop, or NOT_ENUMERATED (R22, R23,
  R162, R415). -/
def Obligations.ControlPacketsAtAHub : Prop :=
  -- R162: forwarded by the chain route table
  (∀ (s : State) (n : Port) (q : CtlPkt) (ring : Bool) (p : Nat), s.hubId ≠ 255 → s.childFetch n q = false → s.ownVia
    n q = false → q.via = false → q.dst ≠ s.hubId → 1 < q.hops → s.routeTo q.dst = some p → s.flag
    (WLT_LINK_STAT.ADMITTED p) = true → Answers (exec (.controlPacketRx n q ring) s) fun t => (s.flag
    (WLT_PCS_STAT.COMPAT n) = false → t.out = s.out ++ [.ctl p { q with hops := q.hops - 1 }]) ∧ t.out.getLast? =
    some (.ctl p { q with hops := q.hops - 1 }) ∧ t.ctl = s.ctl ∧ Frame [] s t) ∧
  -- R162: HOPS reaches 0 before the target
  (∀ (s : State) (n : Port) (q : CtlPkt) (ring : Bool) (p : Nat), s.hubId ≠ 255 → s.childFetch n q = false → s.ownVia
    n q = false → q.via = false → q.dst ≠ s.hubId → q.hops ≤ 1 → q.op = 0 → s.routeTo q.src = some p → s.flag
    (WLT_LINK_STAT.ADMITTED p) = true → Answers (exec (.controlPacketRx n q ring) s) fun t => (s.flag
    (WLT_PCS_STAT.COMPAT n) = false → t.out = s.out ++ [.ctl p (q.answer s.hubId 1 [])]) ∧ t.out.getLast? = some
    (.ctl p (q.answer s.hubId 1 [])) ∧ t.ctl = s.ctl ∧ Frame [] s t) ∧
  -- R23: NOT_ENUMERATED
  (∀ (s : State) (n : Port) (q : CtlPkt) (ring : Bool), s.hubId = 255 → q.poison = false → s.childFetch n q = false →
    q.op ≤ 1 → 0x10000 < q.offset + q.bytes → s.flag (WLT_LINK_STAT.ADMITTED n) = true → Answers (exec
    (.controlPacketRx n q ring) s) fun t => (s.flag (WLT_PCS_STAT.COMPAT n) = false → t.out = s.out ++ [.ctl n
    (q.answer 255 2 [])]) ∧ t.out.getLast? = some (.ctl n (q.answer 255 2 [])) ∧ t.ctl = s.ctl ∧ Frame [] s t)

/-- A port trains: pattern, alignment blocks, taps, RX_READY, GO and the 50 ms limit (R64, R65, R66, R67, R69, R70,
  R112). -/
def Obligations.TrainingOfAPort : Prop :=
  -- R64: training from step 1
  (∀ (s : State) (n : Port), s.get (WLT_PCS_STAT.TRAIN_STATE n) = 0 → (s.lane n).attach = true → s.portOn n = true →
    s.mayTrain n = true → s.flag (WLT_PCS_CTRL.TEST n) = false → s.flag (WLT_PCS_CTRL.FORCE_COMPAT n) = false →
    (s.lane n).partnerV1 = false → s.flag (WLT_EYE_STAT.BUSY n) = false → Answers (exec (.trainingStart n) s) fun t
    => t.get (WLT_PCS_STAT.TRAIN_STATE n) = 1 ∧ t.get (WLT_PCS_STAT.LANE_STATE n) = 0 ∧ t.get (WLT_PCS_STAT.COMPAT n)
    = 0 ∧ t.get (WLT_PCS_STAT.BLOCK_LOCK n) = 0 ∧ (t.lane n).sentState = 1 ∧ (t.lane n).ready = 0 ∧ t.out = s.out ++
    (lanesIn (s.get (WLT_PCS_CTRL.LANE_EN n))).map (s.trainOut n) ∧ t.flows = s.flows ∧ Frame (laneFlds n) s t) ∧
  -- R63, R65: a good block on the lane it names
  (∀ (s : State) (n : Port) (k : Lane) (b : AlignBlock) (skew : Nat), byteAt b 0 = 0xA5 → alignGood b = true → byteAt
    b 1 / 64 = s.mapLane n k → skew ≤ 96 → (s.lane n).nums.length = 4 → laneList.all (fun j => j == k.val || (s.lane
    n).nums.getD j 4 == 4 || (s.lane n).nums.getD j 4 == s.mapLane n j) = true → Answers (exec (.alignBlockRx n k b
    skew) s) fun t => t.get (WLT_LANE_STAT.PHYS n (s.mapLane n k)) = k ∧ t.get (WLT_LANE_STAT.POL_INV n (s.mapLane n
    k)) = 0 ∧ t.get (WLT_LANE_STAT.SKEW n (s.mapLane n k)) = skew ∧ bit (t.lane n).resolved (s.mapLane n k) = true ∧
    (t.lane n).rcvMask = byteAt b 3 / 16 ∧ t.out = s.out ∧ Frame [WLT_LANE_STAT.PHYS n (s.mapLane n k),
    WLT_LANE_STAT.POL_INV n (s.mapLane n k), WLT_LANE_STAT.SKEW n (s.mapLane n k)] s t) ∧
  -- R65: a failed CHECK
  (∀ (s : State) (n : Port) (k : Lane) (b : AlignBlock) (skew : Nat), alignGood (upright b) = false → Answers (exec
    (.alignBlockRx n k b skew) s) fun t => t = s) ∧
  -- R66, R67: an override
  (∀ (s : State) (n : Port) (k : Lane), s.flag (WLT_PCS_STAT.COMPAT n) = false → s.get (WLT_PCS_STAT.CLASS_USED n) =
    s.presetOf n → 0 < s.get (WLT_PCS_STAT.TRAIN_STATE n) → s.get (WLT_PCS_STAT.TRAIN_STATE n) < 4 → s.get
    (WLT_LANE_STAT.PRE_USED n k) ≠ (s.tapsOf n k).1 → Answers (exec (.txOverrideApply n k) s) fun t => t.get
    (WLT_LANE_STAT.PRE_USED n k) = (s.tapsOf n k).1 ∧ t.get (WLT_LANE_STAT.POST_USED n k) = (s.tapsOf n k).2 ∧
    (t.lane n).presetSeq = ((s.lane n).presetSeq + 1) % 16 ∧ t.out = s.out ++ ((lanesIn (s.lane n).enabled).map fun k
    => s.alignOut n k (alignBlock 0xA5 k (t.get (WLT_PCS_STAT.CLASS_USED n)) (s.lane n).sentState ((s.lane n).ready)
    (t.lane n).presetSeq ((s.lane n).alignTx))) ∧ Frame [WLT_LANE_STAT.PRE_USED n k, WLT_LANE_STAT.POST_USED n k] s
    t) ∧
  -- R66: a new preset, on all lanes
  (∀ (s : State) (n : Port) (k : Lane), s.flag (WLT_PCS_STAT.COMPAT n) = false → laneList.all (fun j => !s.flag
    (WLT_LANE_CTRL.TX_OVR n j)) = true → s.get (WLT_PCS_STAT.CLASS_USED n) ≠ s.presetOf n → 0 < s.get
    (WLT_PCS_STAT.TRAIN_STATE n) → s.get (WLT_PCS_STAT.TRAIN_STATE n) < 4 → s.get (WLT_LANE_STAT.PRE_USED n k) ≠
    (presetTaps (s.presetOf n)).1 → Answers (exec (.txOverrideApply n k) s) fun t => laneList.all (fun j => t.get
    (WLT_LANE_STAT.PRE_USED n j) == (presetTaps (s.presetOf n)).1 && t.get (WLT_LANE_STAT.POST_USED n j) ==
    (presetTaps (s.presetOf n)).2) = true ∧ t.get (WLT_PCS_STAT.CLASS_USED n) = s.presetOf n % 4 ∧ (t.lane
    n).presetSeq = ((s.lane n).presetSeq + 1) % 16 ∧ Frame (WLT_PCS_STAT.CLASS_USED n :: laneList.flatMap fun j =>
    [WLT_LANE_STAT.PRE_USED n j, WLT_LANE_STAT.POST_USED n j]) s t) ∧
  -- R69: all enabled lanes
  (∀ (s : State) (n : Port) (ctle : List Nat), s.get (WLT_PCS_STAT.TRAIN_STATE n) = 1 → (s.lane n).enabled ≠ 0 →
    s.couldBeReady n = (s.lane n).enabled → Answers (exec (.sendRxReady n ctle) s) fun t => t.get
    (WLT_PCS_STAT.TRAIN_STATE n) = 2 ∧ t.get (WLT_PCS_STAT.DESKEWED n) = 1 ∧ (t.lane n).sentState = 2 ∧ (t.lane
    n).ready = (s.lane n).enabled ∧ t.out = s.out ++ ((lanesIn (s.lane n).enabled).map fun k => s.alignOut n k
    (alignBlock 0xA5 k (t.get (WLT_PCS_STAT.CLASS_USED n)) 2 ((s.lane n).enabled) (s.lane n).presetSeq ((s.lane
    n).alignTx))) ∧ Frame ([WLT_PCS_STAT.TRAIN_STATE n, WLT_PCS_STAT.DESKEWED n] ++ laneList.flatMap fun k =>
    [WLT_LANE_STAT.CTLE n k, WLT_LANE_STAT.ADAPT_DONE n k]) s t) ∧
  -- R69: 20 ms after training began
  (∀ (s : State) (n : Port) (mask : Nat) (ctle : List Nat), s.get (WLT_PCS_STAT.TRAIN_STATE n) = 1 → mask &&&
    s.couldBeReady n ≠ 0 → Answers (exec (.partialReadyTimer n mask ctle) s) fun t => t.get (WLT_PCS_STAT.TRAIN_STATE
    n) = 2 ∧ t.get (WLT_PCS_STAT.DESKEWED n) = 1 ∧ (t.lane n).sentState = 2 ∧ (t.lane n).ready = mask &&&
    s.couldBeReady n ∧ t.out = s.out ++ ((lanesIn (s.lane n).enabled).map fun k => s.alignOut n k (alignBlock 0xA5 k
    (t.get (WLT_PCS_STAT.CLASS_USED n)) 2 (mask &&& s.couldBeReady n) (s.lane n).presetSeq ((s.lane n).alignTx))) ∧
    Frame ([WLT_PCS_STAT.TRAIN_STATE n, WLT_PCS_STAT.DESKEWED n] ++ laneList.flatMap fun k => [WLT_LANE_STAT.CTLE n
    k, WLT_LANE_STAT.ADAPT_DONE n k]) s t) ∧
  -- R69, R112: GO
  (∀ (s : State) (n : Port), s.get (WLT_PCS_STAT.TRAIN_STATE n) = 2 → (s.lane n).rcvState = 3 → 0 < (s.lane
    n).rcvMask → (s.lane n).rcvMask < 16 → s.flag (WLT_PCS_STAT.COMPAT n) = false → Answers (exec (.sendGo n) s) fun
    t => t.get (WLT_PCS_STAT.TRAIN_STATE n) = 4 ∧ t.get (WLT_PCS_STAT.RX_MASK n) = activeSet (s.lane n).ready ∧ t.get
    (WLT_PCS_STAT.TX_MASK n) = activeSet (s.lane n).rcvMask ∧ t.get (WLT_PCS_STAT.TRAIN_ATTEMPTS n) = 0 ∧ t.get
    (WLT_LANE_HEALTH.LANE_PARKED n) = 0 ∧ (t.link n).capSent = true ∧ (t.link n).fseq = 0 ∧ (t.link n).txq.map
    TxSlot.bytes = msgSlots 1 2 (t.link n).ownCap ∧ t.out = s.out ++ ((lanesIn (s.lane n).enabled).map fun k =>
    s.alignOut n k (alignBlock 0xA5 k (t.get (WLT_PCS_STAT.CLASS_USED n)) 3 ((s.lane n).ready) (s.lane n).presetSeq
    ((s.lane n).alignTx))) ∧ Raised (EV.trainDone n) s t ∧ Frame ([WLT_PCS_STAT.TRAIN_STATE n, WLT_PCS_STAT.RX_MASK
    n, WLT_PCS_STAT.TX_MASK n, CLK_STAT.RCLK_LANE] ++ upFlds n ++ evFlds (EV.trainDone n)) s t) ∧
  -- R70: 50 ms
  (∀ (s : State) (n : Port), s.get (WLT_PCS_STAT.TRAIN_STATE n) = 1 → (s.lane n).attach = true → s.flag
    (WLT_EYE_STAT.BUSY n) = false → Answers (exec (.trainTimeout n) s) fun t => t.get (WLT_PCS_STAT.TRAIN_STATE n) =
    1 ∧ t.get (WLT_PCS_STAT.TRAIN_ATTEMPTS n) = min (s.get (WLT_PCS_STAT.TRAIN_ATTEMPTS n) + 1) 15 ∧ t.get
    (WLT_PCS_STAT.BLOCK_LOCK n) = 0 ∧ t.out = s.out ++ (lanesIn (s.get (WLT_PCS_CTRL.LANE_EN n))).map (s.trainOut n)
    ∧ Raised (EV.trainTimeout n) s t ∧ Frame (WLT_PCS_STAT.TRAIN_ATTEMPTS n :: laneFlds n ++ evFlds (EV.trainTimeout
    n)) s t)

/-- Block lock gained and lost; compatibility training, lane lock, lock loss and skip sets (R71, R73, R74, R75, R118,
  R134). -/
def Obligations.BlockLockAndCompatibility : Prop :=
  -- R71
  (∀ (s : State) (n : Port) (k : Lane), n ≠ 0 → 0 < s.get (WLT_PCS_STAT.TRAIN_STATE n) → s.get
    (WLT_PCS_STAT.TRAIN_STATE n) < 8 → bit ((s.lane n).enabled) k = true → Answers (exec (.blockLockAcquired n k) s)
    fun t => t.get (WLT_LANE_STAT.BLOCK_LOCK n k) = 1 ∧ bit (t.get (WLT_PCS_STAT.BLOCK_LOCK n)) k = true ∧ Frame
    [WLT_LANE_STAT.BLOCK_LOCK n k, WLT_PCS_STAT.BLOCK_LOCK n] s t ∧ t = { s with regs := t.regs }) ∧
  -- R71: in training
  (∀ (s : State) (n : Port) (k : Lane) (bad : Nat), n ≠ 0 → s.get (WLT_PCS_STAT.TRAIN_STATE n) = 1 → s.flag
    (WLT_LANE_STAT.BLOCK_LOCK n k) = true → s.flag (WLT_EYE_STAT.BUSY n) = false → (s.lane n).sentState = 1 → Answers
    (exec (.blockLockLost n k bad) s) fun t => t.get (WLT_LANE_STAT.BLOCK_LOCK n k) = 0 ∧ bit (t.get
    (WLT_PCS_STAT.BLOCK_LOCK n)) k = false ∧ t.get (WLT_PCS_ERR.LOCK_LOSS n) = satAdd 8 (s.get (WLT_PCS_ERR.LOCK_LOSS
    n)) 1 % 256 ∧ t.get (WLT_PCS_ERR.BAD_HDR n) = satAdd 16 (s.get (WLT_PCS_ERR.BAD_HDR n)) bad % 65536 ∧ bit (t.lane
    n).ready k = false ∧ t.out = s.out ∧ Frame [WLT_LANE_STAT.BLOCK_LOCK n k, WLT_PCS_STAT.BLOCK_LOCK n,
    WLT_PCS_ERR.LOCK_LOSS n, WLT_PCS_ERR.BAD_HDR n] s t) ∧
  -- R73
  (∀ (s : State) (n : Port), s.get (WLT_PCS_STAT.TRAIN_STATE n) < 4 → (s.lane n).attach = true → s.portOn n = true →
    s.flag (WLT_PCS_STAT.COMPAT n) = false → (s.lane n).partnerV1 = true → s.flag (WLT_EYE_STAT.BUSY n) = false →
    Answers (exec (.compatEntry n) s) fun t => t.get (WLT_PCS_STAT.TRAIN_STATE n) = 8 ∧ t.get (WLT_PCS_STAT.COMPAT n)
    = 1 ∧ t.out = s.out ++ ((lanesIn (s.get (WLT_PCS_CTRL.LANE_EN n))).map fun k => Emit.symbols n k (codeRun (bit
    (s.lane n).rd k) (trainSequence k)).1) ∧ Raised (EV.compatEntered n) s t ∧ Frame (laneFlds n ++ evFlds
    (EV.compatEntered n)) s t) ∧
  -- R74: the one enabled lane has lock
  (∀ (s : State) (n : Port) (k : Lane), s.get (WLT_PCS_STAT.TRAIN_STATE n) = 8 → s.flag (WLT_PCS_STAT.COMPAT n) =
    true → (s.lane n).enabled = 2 ^ k.val → Answers (exec (.compatLaneLock n k) s) fun t => t.get
    (WLT_PCS_STAT.TRAIN_STATE n) = 9 ∧ t.get (WLT_LANE_STAT.BLOCK_LOCK n k) = 1 ∧ t.get (WLT_LINK_STAT.WIDTH_RX n) =
    1 ∧ t.get (WLT_LINK_STAT.WIDTH_TX n) = 1 ∧ (t.link n).capSent = true ∧ Raised (EV.trainDone n) s t ∧ Frame
    (laneFlds n ++ upFlds n ++ evFlds (EV.trainDone n)) s t) ∧
  -- R74: before the link runs
  (∀ (s : State) (n : Port) (k : Lane), s.get (WLT_PCS_STAT.TRAIN_STATE n) = 8 → s.flag (WLT_EYE_STAT.BUSY n) = false
    → Answers (exec (.compatLockLoss n k) s) fun t => t.get (WLT_PCS_STAT.TRAIN_STATE n) = 8 ∧ t.get
    (WLT_LANE_STAT.BLOCK_LOCK n k) = 0 ∧ bit (t.lane n).compatLock k = false ∧ t.links = s.links ∧ t.out = s.out ∧
    Frame [WLT_LANE_STAT.BLOCK_LOCK n k, WLT_PCS_STAT.BLOCK_LOCK n, WLT_PCS_ERR.LOCK_LOSS n] s t) ∧
  -- R75
  (∀ (s : State) (n : Port), s.get (WLT_PCS_STAT.TRAIN_STATE n) = 9 → Answers (exec (.skipSetSend n) s) fun t =>
    t.out = s.out ++ ((lanesIn (s.lane n).enabled).map fun k => Emit.symbols n k (codeRun (bit (s.lane n).rd k)
    skipSet).1) ∧ (t.lane n).enabled = (s.lane n).enabled ∧ t.links = s.links ∧ t.flows = s.flows ∧ Frame [] s t)

/-- Hush and Sleep on the lanes: entry at the agreed boundary, exit, Tack, lanes ready again (R77, R78, R79, R80,
  R81). -/
def Obligations.HushSleepAndTack : Prop :=
  -- R77: the child
  (∀ (s : State) (n : Port) (at_ : Nat), (s.link n).agreed = some (1, at_) → s.facesUp n = true → Answers (exec
    (.hushEntry n) s) fun t => t.get (WLT_PCS_STAT.TRAIN_STATE n) = 5 ∧ t.get (WLT_PCS_STAT.LANE_STATE n) = 1 ∧ t =
    { s with regs := t.regs } ∧ Frame [WLT_PCS_STAT.TRAIN_STATE n, WLT_PCS_STAT.LANE_STATE n] s t) ∧
  -- R77, R122
  (∀ (s : State) (n : Port), (s.lane n).alignTx < 65536 → s.get (WLT_PCS_STAT.TRAIN_STATE n) = 5 → s.facesUp n = true
    → Answers (exec (.hushExit n) s) fun t => t.get (WLT_PCS_STAT.TRAIN_STATE n) = 4 ∧ t.get (WLT_PCS_STAT.LANE_STATE
    n) = 0 ∧ (t.link n).agreed = none ∧ t.out = ((List.range (24 + s.free % 32)).foldl (fun (u : State) _ =>
    u.sendAlignOn n (s.get (WLT_PCS_STAT.TX_MASK n)) 0x96 (s.lane n).sentState) s).out ∧ (t.lane n).alignTx =
    ((s.lane n).alignTx + 24 + s.free % 32) % 65536 ∧ t.flows = s.flows ∧ Frame [WLT_PCS_STAT.TRAIN_STATE n,
    WLT_PCS_STAT.LANE_STATE n] s t) ∧
  -- R77: every active lane had valid WAKE blocks
  (∀ (s : State) (n : Port) (good : Nat), s.get (WLT_PCS_STAT.TRAIN_STATE n) = 5 → laneList.all (fun k => !bit (s.get
    (WLT_PCS_STAT.RX_MASK n)) k || bit good k) = true → Answers (exec (.wakeBlocksRx n good) s) fun t => t.get
    (WLT_PCS_STAT.TRAIN_STATE n) = 4 ∧ t.get (WLT_PCS_STAT.LANE_STATE n) = 0 ∧ (t.link n).agreed = none ∧ t.out =
    s.out ∧ Frame [WLT_PCS_STAT.TRAIN_STATE n, WLT_PCS_STAT.LANE_STATE n] s t) ∧
  -- R78: the parent
  (∀ (s : State) (n : Port) (dfe : List Nat) (at_ : Nat), (s.link n).agreed = some (2, at_) → s.facesUp n = false →
    (s.lane n).tackLatched = false → s.flag (WLT_EYE_STAT.BUSY n) = false → laneList.all (fun k => !s.flag
    (WLT_LANE_CTRL.DFE_FREEZE n k)) = true → Answers (exec (.sleepEntry n dfe) s) fun t => t.get
    (WLT_PCS_STAT.TRAIN_STATE n) = 6 ∧ t.get (WLT_PCS_STAT.LANE_STATE n) = 2 ∧ t.get (WLT_PCS_STAT.BLOCK_LOCK n) = 0
    ∧ (t.lane n).dfe = laneList.map (fun k => dfe.getD k 0) ∧ (t.lane n).stored = laneList.map (fun k => [s.get
    (WLT_LANE_STAT.PRE_USED n k), s.get (WLT_LANE_STAT.POST_USED n k), s.get (WLT_LANE_STAT.CTLE n k)]) ∧ (t.link
    n).agreed = none ∧ t.out = s.out ∧ Frame ([WLT_PCS_STAT.TRAIN_STATE n, WLT_PCS_STAT.LANE_STATE n,
    WLT_PCS_STAT.BLOCK_LOCK n] ++ laneList.map (WLT_LANE_STAT.BLOCK_LOCK n)) s t) ∧
  -- R79
  (∀ (s : State) (n : Port), s.get (WLT_PCS_STAT.TRAIN_STATE n) = 6 → Answers (exec (.tackSend n) s) fun t => t.get
    (WLT_PCS_STAT.TRAIN_STATE n) = 7 ∧ (t.lane n).tackSending = true ∧ (t.lane n).sentState = 1 ∧ t.out = s.out ++
    [.tack n tackBursts] ++ (lanesIn (s.lane n).enabled).map (s.trainOut n) ∧ s.loaded t n = true ∧ (s.facesUp n =
    false → bit (t.get CLK_STAT.PORT_SLIP) n = true) ∧ Frame ([WLT_PCS_STAT.TRAIN_STATE n, CLK_STAT.PORT_SLIP] ++
    storedFlds n) s t) ∧
  -- R79, R80
  (∀ (s : State) (n : Port), s.get (WLT_PCS_STAT.TRAIN_STATE n) = 6 → s.flag PWRD_STATE.ENTERING = false → s.get
    PWRD_STATE.STATE < 2 → (s.lane n).tackSending = false → Answers (exec (.tackDetected n) s) fun t => t.get
    (WLT_PCS_STAT.TRAIN_STATE n) = 7 ∧ (t.lane n).sentState = 1 ∧ t.out = s.out ++ (lanesIn (s.lane n).enabled).map
    (s.trainOut n) ∧ s.loaded t n = true ∧ (s.facesUp n = false → bit (t.get CLK_STAT.PORT_SLIP) n = true) ∧ Raised
    (EV.tackSeen n) s t ∧ Frame ([WLT_PCS_STAT.TRAIN_STATE n, CLK_STAT.PORT_SLIP] ++ storedFlds n ++ evFlds
    (EV.tackSeen n)) s t) ∧
  -- R81, R124: the partner is ready too: GO
  (∀ (s : State) (n : Port) (mask : Nat), s.get (WLT_PCS_STAT.TRAIN_STATE n) = 7 → s.facesUp n = false → mask &&&
    s.couldBeReady n = 15 → (s.lane n).rcvState = 2 → (s.lane n).rcvMask = 15 → Answers (exec (.sleepExitLanesReady n
    mask) s) fun t => t.get (WLT_PCS_STAT.TRAIN_STATE n) = 4 ∧ t.get (WLT_PCS_STAT.LANE_STATE n) = 0 ∧ t.get
    (WLT_PCS_STAT.RX_MASK n) = 15 ∧ t.get (WLT_PCS_STAT.TX_MASK n) = 15 ∧ t.get (WLT_LINK_STAT.WIDTH_RX n) = 3 ∧
    t.get (WLT_LINK_STAT.WIDTH_TX n) = 3 ∧ t.get (WLT_LINK_STAT.ADMITTED n) = s.get (WLT_LINK_STAT.ADMITTED n) ∧
    (t.lane n).sentState = 3 ∧ (t.lane n).framed = 0 ∧ SameBytes s t) ∧
  -- R81: RX_READY with the lanes that are ready
  (∀ (s : State) (n : Port) (mask : Nat), s.get (WLT_PCS_STAT.TRAIN_STATE n) = 7 → mask &&& s.couldBeReady n ≠ 0 →
    (s.lane n).rcvState < 2 → Answers (exec (.sleepExitLanesReady n mask) s) fun t => (t.lane n).ready = mask &&&
    s.couldBeReady n ∧ (t.lane n).sentState = 2 ∧ t.out = s.out ++ ((lanesIn (s.lane n).enabled).map fun k =>
    s.alignOut n k (alignBlock 0xA5 k (t.get (WLT_PCS_STAT.CLASS_USED n)) 2 (mask &&& s.couldBeReady n) (s.lane
    n).presetSeq ((s.lane n).alignTx))) ∧ ((lanesIn (s.lane n).enabled).filter fun k => !bit (mask &&& s.couldBeReady
    n) k).all (fun k => t.get (WLT_LANE_STAT.ADAPT_DONE n k) == 0) = true ∧ Frame (laneList.map
    (WLT_LANE_STAT.ADAPT_DONE n)) s t) ∧
  -- R81: 50 ms without a lane
  (∀ (s : State) (n : Port), s.get (WLT_PCS_STAT.TRAIN_STATE n) = 7 → s.flag (WLT_LINK_STAT.ADMITTED n) = false →
    s.flag (WLT_LINK_STAT.HELD n) = false → (s.lane n).attach = true → s.portOn n = true → s.mayTrain n = true →
    s.flag (WLT_PCS_CTRL.TEST n) = false → s.flag (WLT_PCS_CTRL.FORCE_COMPAT n) = false → (s.lane n).partnerV1 =
    false → s.flag (WLT_EYE_STAT.BUSY n) = false → Answers (exec (.sleepExitFallback n) s) fun t => t.get
    (WLT_PCS_STAT.TRAIN_STATE n) = 1 ∧ t.get (WLT_LINK_STAT.DOWN_REASON n) = 8 ∧ t.out = s.out ++ (lanesIn (s.get
    (WLT_PCS_CTRL.LANE_EN n))).map (s.trainOut n) ∧ Frame (WLT_LINK_STAT.DOWN_REASON n :: laneFlds n) s t)

/-- TEST, RETRAIN, the PRBS checker and eye scans (R82, R84, R85, R117). -/
def Obligations.LaneTestsAndScans : Prop :=
  -- R82
  (∀ (s : State) (n : Port), s.flag (WLT_PCS_CTRL.TEST n) = false → s.flag (WLT_LINK_STAT.ADMITTED n) = false →
    s.flag (WLT_LINK_STAT.HELD n) = false → s.flag (WLT_EYE_STAT.BUSY n) = false → Answers (exec (.testWrite n true)
    s) fun t => t.get (WLT_PCS_CTRL.TEST n) = 1 ∧ t.get (WLT_PCS_STAT.TRAIN_STATE n) = 10 ∧ t.get
    (WLT_PCS_STAT.LANE_STATE n) = 0 ∧ t.flag (WLT_PCS_STAT.COMPAT n) = (s.flag (WLT_PCS_STAT.COMPAT n) || s.flag
    (WLT_PCS_CTRL.FORCE_COMPAT n) || (s.lane n).partnerV1) ∧ t.out = s.out ++ laneList.map (fun k => t.testOut n k) ∧
    Frame (WLT_PCS_CTRL.TEST n :: WLT_TEST_CTRL.FE_SLIP n :: laneFlds n ++ laneList.map (WLT_PRBS_ERR.SYNC n)) s t) ∧
  -- R82: cleared with nothing attached
  (∀ (s : State) (n : Port), s.flag (WLT_PCS_CTRL.TEST n) = true → (s.lane n).attach = false → s.flag
    (WLT_EYE_STAT.BUSY n) = false → Answers (exec (.testWrite n false) s) fun t => t.get (WLT_PCS_CTRL.TEST n) = 0 ∧
    t.get (WLT_PCS_STAT.TRAIN_STATE n) = 0 ∧ t.get (WLT_PCS_STAT.LANE_STATE n) = 3 ∧ t.get (WLT_TEST_CTRL.FE_SLIP n)
    = 0 ∧ t.out = s.out ∧ Frame (WLT_PCS_CTRL.TEST n :: WLT_TEST_CTRL.FE_SLIP n :: laneFlds n) s t) ∧
  -- R117: before admission
  (∀ (s : State) (n : Port), s.get (WLT_PCS_STAT.TRAIN_STATE n) ≠ 0 → s.flag (WLT_LINK_STAT.ADMITTED n) = false →
    s.flag (WLT_LINK_STAT.HELD n) = false → (s.lane n).attach = true → s.portOn n = true → s.mayTrain n = true →
    s.flag (WLT_PCS_CTRL.TEST n) = false → s.flag (WLT_PCS_CTRL.FORCE_COMPAT n) = false → (s.lane n).partnerV1 =
    false → s.flag (WLT_EYE_STAT.BUSY n) = false → Answers (exec (.retrain n) s) fun t => t.get
    (WLT_PCS_STAT.TRAIN_STATE n) = 1 ∧ t.get (WLT_PCS_STAT.BLOCK_LOCK n) = 0 ∧ t.out = s.out ++ (lanesIn (s.get
    (WLT_PCS_CTRL.LANE_EN n))).map (s.trainOut n) ∧ Frame (laneFlds n) s t) ∧
  -- R117: reason RETRAIN
  (∀ (s : State) (n : Port), s.flag (WLT_LINK_STAT.ADMITTED n) = true → Answers (exec (.retrain n) s) fun t => t.get
    (WLT_LINK_STAT.ADMITTED n) = 0 ∧ t.get (WLT_LINK_STAT.DOWN_REASON n) = 7 ∧ Raised (EV.linkDown n) s t ∧ SameBytes
    s t) ∧
  -- R84
  (∀ (s : State) (n : Port) (k : Lane) (sync : Bool), bit (s.get (WLT_TEST_CTRL.CHK_EN n)) k = false → s.looped n =
    false → Answers (exec (.prbsCheckerEnable n k sync) s) fun t => bit (t.get (WLT_TEST_CTRL.CHK_EN n)) k = true ∧
    t.get (WLT_PRBS_ERR.ERRORS n k) = 0 ∧ t.get (WLT_PRBS_ERR.SYNC n k) = b2n sync ∧ t = { s with regs := t.regs } ∧
    Frame [WLT_TEST_CTRL.CHK_EN n, WLT_PRBS_ERR.ERRORS n k, WLT_PRBS_ERR.SYNC n k] s t) ∧
  -- R82, R84: a near-end loop
  (∀ (s : State) (n : Port) (k : Lane) (sync : Bool), bit (s.get (WLT_TEST_CTRL.CHK_EN n)) k = false → s.looped n =
    true → Answers (exec (.prbsCheckerEnable n k sync) s) fun t => bit (t.get (WLT_TEST_CTRL.CHK_EN n)) k = true ∧
    t.get (WLT_PRBS_ERR.ERRORS n k) = 0 ∧ t.flag (WLT_PRBS_ERR.SYNC n k) = bit (s.get (WLT_TEST_CTRL.GEN_EN n)) k ∧ t
    = { s with regs := t.regs } ∧ Frame [WLT_TEST_CTRL.CHK_EN n, WLT_PRBS_ERR.ERRORS n k, WLT_PRBS_ERR.SYNC n k] s t) ∧
  -- R85
  (∀ (s : State) (n : Port), s.get (WLT_PCS_STAT.LANE_STATE n) = 0 → Answers (exec (.eyeScanGo n) s) fun t => t.get
    (WLT_EYE_STAT.BUSY n) = 1 ∧ t.get (WLT_EYE_STAT.DONE n) = 0 ∧ t.get (WLT_EYE_STAT.ABORT n) = 0 ∧ t.get
    (WLT_EYE_STAT.MISMATCH n) = 0 ∧ t = { s with regs := t.regs } ∧ Frame [WLT_EYE_STAT.BUSY n, WLT_EYE_STAT.DONE n,
    WLT_EYE_STAT.ABORT n, WLT_EYE_STAT.MISMATCH n] s t) ∧
  -- R85
  (∀ (s : State) (n : Port) (m : Nat), s.flag (WLT_EYE_STAT.BUSY n) = true → Answers (exec (.eyeScanDone n m) s) fun
    t => t.get (WLT_EYE_STAT.BUSY n) = 0 ∧ t.get (WLT_EYE_STAT.DONE n) = 1 ∧ t.get (WLT_EYE_STAT.MISMATCH n) = min m
    (2 ^ 29 - 1) ∧ t.out = s.out ∧ Raised (EV.eyeDone n) s t ∧ Frame ([WLT_EYE_STAT.BUSY n, WLT_EYE_STAT.DONE n,
    WLT_EYE_STAT.MISMATCH n] ++ evFlds (EV.eyeDone n)) s t)

/-- Flights go out and come in: new and EMPTY flights, header checks, seals, NAK and replay (R90, R91, R93, R94, R97,
  R98, R100, R101, R107). -/
def Obligations.FlightsAndSeals : Prop :=
  -- R98, R100: a new flight without contents
  (∀ (s : State) (n : Port), s.get (WLT_PCS_STAT.TRAIN_STATE n) = 4 → (s.link n).replayAt = none → (s.link n).fseq <
    65536 → (s.link n).replay.length < 256 → (s.link n).fillNext = false → (s.link n).txq = [] → (s.link n).outs = []
    → (s.link n).openAt = none → (s.link n).kxDoneSent = false → (s.link n).widthNext = false → (s.link n).sleepWant
    = false → Answers (exec (.flightSend n) s) fun t => (t.link n).fseq = ((s.link n).fseq + 1) % 65536 ∧ (t.link
    n).replay = (s.link n).replay ++ [⟨(s.link n).fseq, List.replicate 31 idleSlot, 15, 0, 0, false, false, false,
    []⟩] ∧ t.get (WLT_REPLAY_STAT.STORED n) = (s.link n).replay.length + 1 ∧ t.out.take s.out.length = s.out ∧
    (s.flightOut t).map (fun x => (x.1, x.2.1, x.2.2.1.fseq, x.2.2.1.empty, x.2.2.2)) = some (n.val, List.replicate
    31 idleSlot, (s.link n).fseq, false, true) ∧ t.flows = s.flows ∧ Frame [WLT_REPLAY_STAT.STORED n,
    WLT_POISON_CNT.TX_LISTED n] s t) ∧
  -- R100: an EMPTY flight
  (∀ (s : State) (n : Port), s.get (WLT_PCS_STAT.TRAIN_STATE n) = 4 → (s.link n).replayAt = none → 256 ≤ (s.link
    n).replay.length → (s.link n).fillNext = false → (s.link n).kxDoneSent = false → (s.link n).outs = [] → (s.link
    n).widthNext = false → (s.link n).sleepWant = false → Answers (exec (.flightSend n) s) fun t => (t.link n).fseq =
    (s.link n).fseq ∧ (t.link n).replay = (s.link n).replay ∧ t.out.take s.out.length = s.out ∧ (s.flightOut t).map
    (fun x => (x.1, x.2.1, x.2.2.1.fseq, x.2.2.1.empty, x.2.2.2)) = some (n.val, List.replicate 31 idleSlot, ((s.link
    n).fseq + 65535) % 65536, true, true) ∧ t.flows = s.flows ∧ (s.get (WLT_POISON_CNT.TX_LISTED n) < 2 ^ 16 → t.get
    (WLT_POISON_CNT.TX_LISTED n) = s.get (WLT_POISON_CNT.TX_LISTED n)) ∧ Frame [WLT_POISON_CNT.TX_LISTED n] s t) ∧
  -- R90: a failed header check
  (∀ (s : State) (n : Port) (b : List Byte) (lead : Bool), (s.link n).flightBad = false → slotCheckGood b = false →
    Answers (exec (.headerSlotRx n b lead) s) fun t => (t.link n).flightBad = true ∧ (t.link n).nak = true ∧ t.get
    (WLT_FLIGHT_ERR.HDR_FAIL n) = satAdd 8 (s.get (WLT_FLIGHT_ERR.HDR_FAIL n)) 1 % 256 ∧ t.flows = s.flows ∧ t.out =
    s.out ∧ Frame [WLT_FLIGHT_ERR.HDR_FAIL n] s t) ∧
  -- R105: a packet header takes the next number
  (∀ (s : State) (n : Port) (b : List Byte), (s.link n).flightBad = false → slotCheckGood b = true → (Hdr.ofSlot
    b).flow ≠ 0x7FF → Answers (exec (.headerSlotRx n b false) s) fun t => (t.link n).rxLpn = ((s.link n).rxLpn + 1) %
    65536 ∧ (t.link n).current = (s.link n).current ++ [(s.link n).rxLpn] ∧ t.out = s.out ∧ Frame [] s t) ∧
  -- R91: a message of one segment
  (∀ (s : State) (n : Port) (b : List Byte), (s.link n).flightBad = false → byteAt b 3 = 0 → Answers (exec
    (.linkMessageRx n b) s) fun t => (t.link n).lastMsg = some (byteAt b 2, byteSlice b 4 26) ∧ t.out = s.out ∧ Frame
    [] s t) ∧
  -- R93, R97: a flight with a bad CRC
  (∀ (s : State) (n : Port) (slots : List (List Byte)) (b : List Byte) (skews : List Nat), s.get
    (WLT_PCS_STAT.TRAIN_STATE n) = 4 → ((s.lane n).framed < 4 ∨ slots.length = 31) → (lanesIn (s.rxActive n)).all
    (fun k => !s.deskewBad n skews k) = true → losesLock (s.lane n).hist = false → (s.link n).fillIn = false →
    flightCrc slots false (byteSlice b 0 28) ≠ leNat (byteSlice b 28 4) → s.flows.waiting = [] → s.flows.admitted =
    [] → Answers (exec (.sealRx n slots b skews) s) fun t => t.get (WLT_FLIGHT_ERR.CRC_FAIL n) = satAdd 16 (s.get
    (WLT_FLIGHT_ERR.CRC_FAIL n)) 1 % 65536 ∧ (t.link n).nak = true ∧ (t.link n).current = [] ∧ (t.link n).ackSeq =
    (s.link n).ackSeq ∧ t.out = s.out ∧ Frame [WLT_FLIGHT_ERR.CRC_FAIL n, WLT_PCS_ERR.BAD_HDR n] s t) ∧
  -- R94: the next flight in order
  (∀ (s : State) (n : Port) (slots : List (List Byte)) (b : List Byte) (skews : List Nat), s.get
    (WLT_PCS_STAT.TRAIN_STATE n) = 4 → ((s.lane n).framed < 4 ∨ slots.length = 31) → (lanesIn (s.rxActive n)).all
    (fun k => !s.deskewBad n skews k) = true → losesLock (s.lane n).hist = false → (s.link n).fillIn = false →
    flightCrc slots false (byteSlice b 0 28) = leNat (byteSlice b 28 4) → (s.link n).flightBad = false → (s.link
    n).kxDoneRcvd = false → (s.link n).nak = false → (s.link n).leadIn = false → (Seal.ofBytes b).enc = false →
    (Seal.ofBytes b).empty = false → (Seal.ofBytes b).fseq = ((s.link n).ackSeq + 1) % 65536 → Answers (exec (.sealRx
    n slots b skews) s) fun t => (t.link n).ackSeq = (Seal.ofBytes b).fseq ∧ (t.link n).nak = false ∧ (t.link
    n).current = [] ∧ (t.link n).fillIn = (Seal.ofBytes b).fillNext ∧ t.out = s.out ∧ SameBytes s t) ∧
  -- R97, R98: a replay from the failed flight
  (∀ (s : State) (n : Port) (ack rpl : Nat), rpl = s.get (WLT_REPLAY_STAT.RPL_ID n) → s.flag (WLT_LINK_STAT.ADMITTED
    n) = true → (s.link n).failSeq ≠ (ack + 1) % 65536 → (s.link n).replay = [] → (s.link n).ackBack = 15 → Answers
    (exec (.nakRx n ack rpl 0) s) fun t => (t.link n).replayAt = some ((ack + 1) % 65536) ∧ (t.link n).failures = 1 ∧
    t.get (WLT_REPLAY_STAT.RPL_ID n) = (rpl + 1) % 4 ∧ t.get (WLT_REPLAY_STAT.REPLAYS n) = satAdd 16 (s.get
    (WLT_REPLAY_STAT.REPLAYS n)) 1 % 65536 ∧ t.out = s.out ∧ Frame [WLT_REPLAY_STAT.RPL_ID n, WLT_REPLAY_STAT.REPLAYS
    n] s t) ∧
  -- R101: the ninth failure
  (∀ (s : State) (n : Port) (ack rpl mask : Nat), rpl = s.get (WLT_REPLAY_STAT.RPL_ID n) → s.flag
    (WLT_LINK_STAT.ADMITTED n) = true → (s.link n).failSeq = (ack + 1) % 65536 → (s.link n).failures = 8 → Answers
    (exec (.nakRx n ack rpl mask) s) fun t => Raised (EV.replayExhausted n) s t ∧ t.get (WLT_LINK_STAT.ADMITTED n) =
    0 ∧ t.get (WLT_LINK_STAT.DOWN_REASON n) = 3 ∧ Raised (EV.linkDown n) s t ∧ SameBytes s t) ∧
  -- R101: 64 us
  (∀ (s : State) (n : Port), (s.link n).nak = true → s.flag (WLT_LINK_STAT.ADMITTED n) = true → Answers (exec
    (.nakTimeout n) s) fun t => Raised (EV.replayExhausted n) s t ∧ t.get (WLT_LINK_STAT.ADMITTED n) = 0 ∧ t.get
    (WLT_LINK_STAT.DOWN_REASON n) = 3 ∧ Raised (EV.linkDown n) s t ∧ SameBytes s t) ∧
  -- R107
  (∀ (s : State) (a lpn : Nat) (p : FlowPkt), s.flows.waiting = [] → s.flows.admitted = [p] → p.inAtt = a → p.lpn =
    lpn → p.decided = false → p.begun = false → p.outAtt < 4 → Answers (exec (.packetPoisoned a lpn) s) fun t =>
    t.flows.admitted = [] ∧ t.out = s.out ∧ SameBytes s t)

/-- Capabilities are agreed, a link is admitted, goes down by DETACH, its session expires, a lane is ready again
  (R13, R81, R96, R98, R101, R113, R114, R115, R117, R120, R126). -/
def Obligations.AdmissionAndLoss : Prop :=
  -- R113, R114: the two ends agree
  (∀ (s : State) (n : Port) (c : Cap) (far : Port), s.get (WLT_PCS_STAT.TRAIN_STATE n) = 4 → s.flag
    (WLT_LINK_STAT.ADMITTED n) = false → c.upFacing ≠ s.facesUp n → c.majorMax = 2 → c.majorMin ≤ 2 → 1 ≤ c.minor →
    c.encMandatory = false → c.encWanted = false → bit (byteAt (s.link n).ownCap 2) 2 = false → bit (byteAt (s.link
    n).ownCap 2) 3 = false → (s.link n).capDoneRcvd = none → Answers (exec (.capRx n c far) s) fun t => t.get
    (WLT_LINK_STAT.MAJOR n) = 2 ∧ t.get (WLT_LINK_STAT.MINOR n) = 1 ∧ t.get (WLT_LINK_STAT.FEATURES n) = (c.features
    &&& leNat (byteSlice (s.link n).ownCap 6 2)) % 256 ∧ t.get (WLT_LINK_STAT.FACING_MISMATCH n) = 0 ∧ (t.link
    n).capDoneSent = some 1 ∧ (t.link n).capRcvd = true ∧ Frame ([WLT_LINK_STAT.MAJOR n, WLT_LINK_STAT.MINOR n,
    WLT_LINK_STAT.FEATURES n, WLT_LINK_STAT.FACING_MISMATCH n] ++ (List.range 13).map (fun i => WLT_PARTNER_CAP.DATA
    n i) ++ (List.range 4).map (fun i => WLT_PARTNER_IDENT.IDENT n i)) s t) ∧
  -- R13: two ends that face alike
  (∀ (s : State) (n : Port) (c : Cap) (far : Port), s.get (WLT_PCS_STAT.TRAIN_STATE n) = 4 → s.flag
    (WLT_LINK_STAT.ADMITTED n) = false → c.upFacing = s.facesUp n → s.flag (WLT_LINK_STAT.HELD n) = false → Answers
    (exec (.capRx n c far) s) fun t => t.get (WLT_LINK_STAT.FACING_MISMATCH n) = 1 ∧ (t.link n).capDoneSent = some 10
    ∧ t.get (WLT_LINK_STAT.ADMITTED n) = s.get (WLT_LINK_STAT.ADMITTED n) ∧ Frame ([WLT_LINK_STAT.FACING_MISMATCH n]
    ++ (List.range 13).map (fun i => WLT_PARTNER_CAP.DATA n i) ++ (List.range 4).map (fun i =>
    WLT_PARTNER_IDENT.IDENT n i)) s t) ∧
  -- R115: every condition holds
  (∀ (s : State) (n : Port), s.get (WLT_PCS_STAT.TRAIN_STATE n) = 4 → s.flag (WLT_LINK_STAT.ADMITTED n) = false →
    (s.link n).capSent = true → (s.link n).capRcvd = true → (s.link n).capDoneSent = some 1 → (s.link n).encAgreed =
    false → Answers (exec (.capDoneRx n 1) s) fun t => t.get (WLT_LINK_STAT.ADMITTED n) = 1 ∧ t.get
    (WLT_LINK_STAT.ENC n) = 0 ∧ t.get (WLT_REPLAY_STAT.REPLAYS n) = 0 ∧ t.get (WLT_FLIGHT_ERR.CRC_FAIL n) = 0 ∧ t.get
    (WLT_POISON_CNT.TX_LISTED n) = 0 ∧ (t.link n).capDoneRcvd = some 1 ∧ Raised (EV.linkUp n) s t ∧ SameBytes s t) ∧
  -- R117: DETACH
  (∀ (s : State) (n : Port), s.flag (WLT_LINK_STAT.ADMITTED n) = true → Answers (exec (.linkDown n 1) s) fun t =>
    t.get (WLT_PCS_STAT.TRAIN_STATE n) = 0 ∧ t.get (WLT_PCS_STAT.LANE_STATE n) = 3 ∧ t.get (WLT_LINK_STAT.ADMITTED n)
    = 0 ∧ t.get (WLT_LINK_STAT.DOWN_REASON n) = 1 ∧ Raised (EV.linkDown n) s t ∧ SameBytes s t) ∧
  -- R126
  (∀ (s : State) (n : Port), s.flag (WLT_LINK_STAT.HELD n) = true → (s.link n).capInTime = false → Answers (exec
    (.sessionExpiry n) s) fun t => t.get (WLT_LINK_STAT.HELD n) = 0 ∧ t.get (WLT_LINK_STAT.ADMITTED n) = s.get
    (WLT_LINK_STAT.ADMITTED n) ∧ Raised (EV.sessionExpired n) s t ∧ SameBytes s t) ∧
  -- R120: a lane whose adaptation stands
  (∀ (s : State) (n : Port) (k : Lane), n ≠ 0 → s.get (WLT_PCS_STAT.TRAIN_STATE n) = 4 → bit (s.couldBeReady n) k =
    true → s.flag (WLT_LANE_STAT.ADAPT_DONE n k) = true → bit (s.get (WLT_LANE_HEALTH.LANE_PARKED n)) k = false →
    s.flag (WLT_PCS_STAT.COMPAT n) = false → Answers (exec (.laneReadmit n k) s) fun t => bit (t.lane n).ready k =
    true ∧ t.get (WLT_PCS_STAT.RX_MASK n) = s.get (WLT_PCS_STAT.RX_MASK n) ∧ t.out = s.out ∧ Frame [] s t) ∧
  -- R81, R120: a lane that adapts afresh
  (∀ (s : State) (n : Port) (k : Lane), n ≠ 0 → s.get (WLT_PCS_STAT.TRAIN_STATE n) = 4 → bit (s.couldBeReady n) k =
    true → s.flag (WLT_LANE_STAT.ADAPT_DONE n k) = false → bit (s.get (WLT_LANE_HEALTH.LANE_PARKED n)) k = false →
    s.flag (WLT_PCS_STAT.COMPAT n) = false → Answers (exec (.laneReadmit n k) s) fun t => bit (t.lane n).ready k =
    true ∧ t.get (WLT_LANE_STAT.ADAPT_DONE n k) = 1 ∧ t.get (WLT_PCS_STAT.RX_MASK n) = s.get (WLT_PCS_STAT.RX_MASK n)
    ∧ t.out = s.out ∧ Frame [WLT_LANE_STAT.ADAPT_DONE n k, WLT_LANE_STAT.CTLE n k] s t) ∧
  -- R98, R100: flights go on while the link has nothing to send
  (∀ (s : State) (n : Port), s.get (WLT_PCS_STAT.TRAIN_STATE n) = 4 → (s.link n).replayAt = none → (s.link n).fseq <
    65536 → (s.link n).replay.length < 256 → (s.link n).fillNext = false → (s.link n).txq = [] → (s.link n).outs = []
    → (s.link n).openAt = none → (s.link n).kxDoneSent = false → (s.link n).widthNext = false → (s.link n).sleepWant
    = false → Answers (exec (.flightSend n) s) fun t => (t.link n).fseq = ((s.link n).fseq + 1) % 65536 ∧ (t.link
    n).replay.length = (s.link n).replay.length + 1 ∧ t.get (WLT_REPLAY_STAT.STORED n) = (s.link n).replay.length + 1
    ∧ t.flows = s.flows ∧ Frame [WLT_REPLAY_STAT.STORED n, WLT_POISON_CNT.TX_LISTED n] s t) ∧
  -- R96: a flight next in order
  (∀ (s : State) (n : Port) (slots : List (List Byte)) (b : List Byte) (skews : List Nat), s.get
    (WLT_PCS_STAT.TRAIN_STATE n) = 4 → ((s.lane n).framed < 4 ∨ slots.length = 31) → (lanesIn (s.rxActive n)).all
    (fun k => !s.deskewBad n skews k) = true → losesLock (s.lane n).hist = false → (s.link n).fillIn = false →
    flightCrc slots false (byteSlice b 0 28) = leNat (byteSlice b 28 4) → (s.link n).flightBad = false → (s.link
    n).kxDoneRcvd = false → (s.link n).nak = false → (s.link n).leadIn = false → (Seal.ofBytes b).enc = false →
    (Seal.ofBytes b).empty = false → (Seal.ofBytes b).fseq = ((s.link n).ackSeq + 1) % 65536 → Answers (exec (.sealRx
    n slots b skews) s) fun t => (t.link n).ackSeq = ((s.link n).ackSeq + 1) % 65536 ∧ (t.link n).rxLpnStart =
    (t.link n).rxLpn ∧ t.out = s.out ∧ SameBytes s t) ∧
  -- R98, R101: the same flight fails again, and is replayed again
  (∀ (s : State) (n : Port) (ack rpl : Nat), rpl = s.get (WLT_REPLAY_STAT.RPL_ID n) → s.flag (WLT_LINK_STAT.ADMITTED
    n) = true → (s.link n).failSeq = (ack + 1) % 65536 → (s.link n).failures < 8 → (s.link n).replay = [] → (s.link
    n).ackBack = 15 → Answers (exec (.nakRx n ack rpl 0) s) fun t => (t.link n).replayAt = some ((ack + 1) % 65536) ∧
    (t.link n).failures = (s.link n).failures + 1 ∧ t.get (WLT_REPLAY_STAT.RPL_ID n) = (rpl + 1) % 4 ∧ t.get
    (WLT_LINK_STAT.ADMITTED n) = 1 ∧ t.out = s.out ∧ Frame [WLT_REPLAY_STAT.RPL_ID n, WLT_REPLAY_STAT.REPLAYS n] s t) ∧
  -- R101: no flight accepted for 64 us
  (∀ (s : State) (n : Port), (s.link n).nak = true → s.flag (WLT_LINK_STAT.ADMITTED n) = true → Answers (exec
    (.nakTimeout n) s) fun t => Raised (EV.replayExhausted n) s t ∧ t.get (WLT_LINK_STAT.ADMITTED n) = 0 ∧ t.get
    (WLT_LINK_STAT.DOWN_REASON n) = 3 ∧ Raised (EV.linkDown n) s t ∧ SameBytes s t)

/-- HUSH_REQ, HUSH_ACK, the exits from Hush, SLEEP_REQ and its answers (R121, R122, R123). -/
def Obligations.HushAndSleepAgreement : Prop :=
  -- R121
  (∀ (s : State) (n : Port), s.facesUp n = true → s.flag (WLT_LINK_STAT.ADMITTED n) = true → s.get
    (WLT_PCS_STAT.TRAIN_STATE n) = 4 → s.feature n 4 = true → s.flag (WLT_PCS_CTRL.ALLOW_HUSH n) = true → s.fillOn n
    = false → s.get (WLT_LINK_CTRL.HUSH_IDLE n) ≠ 0 → s.get (WLT_LINK_CTRL.HUSH_IDLE n) ≤ (s.link n).idleFlights →
    s.quiet n = true → (s.link n).hushLapse = 0 → Answers (exec (.hushRequest n) s) fun t => (t.link n).lstateTx = 1
    ∧ (t.link n).lstateAt = ((s.link n).fseq + 4) % 256 ∧ (t.link n).hushLapse = 69 ∧ t.out = s.out ∧ t.flows =
    s.flows ∧ Frame [] s t) ∧
  -- R121: the parent agrees
  (∀ (s : State) (n : Port) (at_ : Nat), s.facesUp n = false → s.flag (WLT_PCS_STAT.COMPAT n) = false → s.fillOn n =
    false → s.flag (WLT_PCS_CTRL.ALLOW_HUSH n) = true → s.feature n 4 = true → Answers (exec (.hushReqRx n at_) s)
    fun t => (t.link n).lstateTx = 2 ∧ (t.link n).lstateAt = at_ % 256 ∧ (t.link n).agreed = some (1, at_ % 256) ∧
    t.out = s.out ∧ Frame [] s t) ∧
  -- R121: in time
  (∀ (s : State) (n : Port) (at_ : Nat), (s.link n).lstateAt = at_ % 256 → s.facesUp n = true → before 8 ((s.link
    n).fseq + 255) at_ = true → Answers (exec (.hushAckRx n at_) s) fun t => (t.link n).agreed = some (1, at_ % 256)
    ∧ (t.link n).lstateTx = 0 ∧ (t.link n).hushLapse = 0 ∧ t.out = s.out ∧ Frame [] s t) ∧
  -- R121: too late
  (∀ (s : State) (n : Port) (at_ : Nat), (s.link n).lstateAt = at_ % 256 → s.facesUp n = true → before 8 ((s.link
    n).fseq + 255) at_ = false → ((s.link n).fseq + 255) % 256 ≠ at_ % 256 → Answers (exec (.hushAckRx n at_) s) fun
    t => (t.link n).agreed = (s.link n).agreed ∧ (t.link n).hushLapse = (s.link n).hushLapse ∧ (t.link n).lstateTx =
    0 ∧ t.out = s.out ∧ Frame [] s t) ∧
  -- R122: 32 flights
  (∀ (s : State) (n : Port), s.get (WLT_PCS_STAT.TRAIN_STATE n) = 5 → s.facesUp n = true → (s.link n).hushOwes = true
    → Answers (exec (.hushExitTimer n) s) fun t => t.get (WLT_PCS_STAT.TRAIN_STATE n) = 4 ∧ t.get
    (WLT_PCS_STAT.LANE_STATE n) = 0 ∧ (t.link n).agreed = none ∧ t.out = ((List.range (24 + s.free % 32)).foldl (fun
    (u : State) _ => u.sendAlignOn n (s.get (WLT_PCS_STAT.TX_MASK n)) 0x96 (s.lane n).sentState) s).out ∧ Frame
    [WLT_PCS_STAT.TRAIN_STATE n, WLT_PCS_STAT.LANE_STATE n] s t) ∧
  -- R122: a packet is queued
  (∀ (s : State) (n : Port), s.get (WLT_PCS_STAT.TRAIN_STATE n) = 5 → s.facesUp n = true → (s.link n).txq ≠ [] →
    Answers (exec (.hushExitPacket n) s) fun t => t.get (WLT_PCS_STAT.TRAIN_STATE n) = 4 ∧ t.get
    (WLT_PCS_STAT.LANE_STATE n) = 0 ∧ (t.link n).agreed = none ∧ t.out = ((List.range (24 + s.free % 32)).foldl (fun
    (u : State) _ => u.sendAlignOn n (s.get (WLT_PCS_STAT.TX_MASK n)) 0x96 (s.lane n).sentState) s).out ∧ Frame
    [WLT_PCS_STAT.TRAIN_STATE n, WLT_PCS_STAT.LANE_STATE n] s t) ∧
  -- R123
  (∀ (s : State) (n : Port), s.flag (WLT_LINK_STAT.ADMITTED n) = true → s.flag (WLT_PCS_STAT.COMPAT n) = false →
    s.quiet n = true → s.flag (WLT_PCS_CTRL.ALLOW_SLEEP n) = true → s.feature n 6 = true → s.get
    (WLT_PCS_STAT.TRAIN_STATE n) = 4 → Answers (exec (.sleepRequestWrite n) s) fun t => (t.link n).lstateTx = 3 ∧
    (t.link n).lstateAt = ((s.link n).fseq + 4) % 256 ∧ (t.link n).sleepWant = false ∧ t.out = s.out ∧ Frame [] s t) ∧
  -- R123: SLEEP_ACK
  (∀ (s : State) (n : Port) (at_ : Nat), s.quiet n = true → s.flag (WLT_PCS_CTRL.ALLOW_SLEEP n) = true → s.feature n
    6 = true → s.flag (WLT_PCS_STAT.COMPAT n) = false → (s.link n).lstateTx ≠ 3 → Answers (exec (.sleepReqRx n at_)
    s) fun t => (t.link n).lstateTx = 4 ∧ (t.link n).lstateAt = at_ % 256 ∧ (t.link n).agreed = some (2, at_ % 256) ∧
    (t.lane n).sleepEntering = true ∧ t.out = s.out ∧ Frame [] s t)

/-- Key exchange on a link, and frames of a 1.x link (R91, R128, R129, R130, R131, R133, R134). -/
def Obligations.LinkKeysAndOldFrames : Prop :=
  -- R128
  (∀ (s : State) (n : Port) (share : List Byte), s.flag (WLT_LINK_STAT.ADMITTED n) = false → (s.link n).encAgreed =
    true → s.flag (WLT_PCS_STAT.COMPAT n) = false → Answers (exec (.kxShareRx n share) s) fun t => (t.link
    n).shareRcvd = some share ∧ (t.link n).transcript = s.transcriptOf n share ∧ (t.link n).txq.length = (s.link
    n).txq.length + 8 ∧ t.out = s.out ∧ Frame [] s t) ∧
  -- R129, R130
  (∀ (s : State) (n : Port) (pub sig : List Byte) (policyOk : Bool) (share : List Byte), (s.link n).shareRcvd = some
    share → s.flag (WLT_LINK_STAT.ADMITTED n) = false → Answers (exec (.kxAuthRx n pub sig policyOk) s) fun t =>
    (policyOk = true → Config.ecdsaVerify pub (weltLink ++ (s.link n).transcript) sig = true → byteSlice
    (Config.sha384 pub) 0 16 = s.windowBytes (fun i => WLT_PARTNER_IDENT.IDENT n i) 4 → (Config.ecdh (s.link n).eph
    share).isSome = true → t.get (WLT_ENC_STAT.KX_STATE n) = 2 ∧ (t.link n).authOk = true ∧ (t.link n).keys =
    Config.kdf ((Config.ecdh (s.link n).eph share).getD []) [0x57, 0x45, 0x4C, 0x54] (s.link n).transcript 72) ∧
    (Config.ecdh (s.link n).eph share = none → t.get (WLT_LINK_STAT.DOWN_REASON n) = 4) ∧ (Config.ecdsaVerify pub
    (weltLink ++ (s.link n).transcript) sig = false → t.get (WLT_LINK_STAT.DOWN_REASON n) = 4) ∧ SameBytes s t) ∧
  -- R130
  (∀ (s : State) (n : Port), (s.link n).authOk = true → s.flag (WLT_LINK_STAT.ADMITTED n) = false → s.get
    (WLT_ENC_STAT.KX_STATE n) ≠ 3 → s.flag (WLT_PCS_STAT.COMPAT n) = false → Answers (exec (.keysInstalled n) s) fun
    t => t.get (WLT_ENC_STAT.KX_STATE n) = 3 ∧ t.get (SLOT0.VALID (5 + n)) = 1 ∧ t.get (SLOT0.TYPE (5 + n)) = 4 ∧
    (t.link n).kxDoneSent = (s.link n).kxDoneSent ∧ (t.link n).txq.length = (s.link n).txq.length + 1 ∧ t.out = s.out
    ∧ Frame [WLT_ENC_STAT.KX_STATE n, SLOT0.VALID (5 + n), SLOT0.TYPE (5 + n), SLOT0.ORIGIN (5 + n), SLOT0.MASTERS (5
    + n), SLOT0.LCS (5 + n), SLOT0.USES (5 + n)] s t) ∧
  -- R131
  (∀ (s : State) (n : Port), (s.link n).encAgreed = true → s.flag (WLT_LINK_STAT.ADMITTED n) = false → (s.link
    n).kxDoneSent = false → Answers (exec (.kxDoneRx n) s) fun t => (t.link n).kxDoneRcvd = true ∧ (t.link n).rxTxc =
    0 ∧ t.out = s.out ∧ Frame [] s t) ∧
  -- R133: a PACKET in order
  (∀ (s : State) (n : Port) (f : Frame1x), s.get (WLT_PCS_STAT.TRAIN_STATE n) = 9 → f.badEnd = false → crc32 (leBytes
    4 f.word ++ f.body) = f.crc → f.word / 2 ^ 28 = 0 → bits f.word 16 12 = ((s.link n).pseqRx + 1) % 4096 → Answers
    (exec (.compatFrameRx n f) s) fun t => (t.link n).pseqRx = ((s.link n).pseqRx + 1) % 4096 ∧ t.out = s.out ∧ Frame
    [] s t) ∧
  -- R133: an ACK
  (∀ (s : State) (n : Port) (f : Frame1x), s.get (WLT_PCS_STAT.TRAIN_STATE n) = 9 → f.badEnd = false → crc32 (leBytes
    4 f.word ++ f.body) = f.crc → f.word / 2 ^ 28 = 1 → Answers (exec (.compatFrameRx n f) s) fun t => (t.link
    n).frames = (s.link n).frames.filter (fun y => before 12 (bits f.word 0 12) y.pseq) ∧ t.out = s.out ∧ Frame [] s
    t) ∧
  -- R134
  (∀ (s : State) (n : Port), s.get (WLT_PCS_STAT.TRAIN_STATE n) = 9 → Answers (exec (.compatAckTimer n) s) fun t =>
    t.out.take (s.out.length + 1) = s.out ++ [.frame n (Frame1x.build 1 0 (s.link n).pseqRx [])] ∧ t.links = s.links
    ∧ t.flows = s.flows ∧ Frame [] s t) ∧
  -- R91: the first of two segments is kept
  (∀ (s : State) (n : Port) (b : List Byte), (s.link n).flightBad = false → (s.link n).partial_ = [] → byteAt b 3 = 1
    → Answers (exec (.linkMessageRx n b) s) fun t => (t.link n).partial_ = [(byteAt b 2, [byteSlice b 4 26])] ∧
    (t.link n).lastMsg = (s.link n).lastMsg ∧ t.out = s.out ∧ Frame [] s t) ∧
  -- R91: the second of two completes the message
  (∀ (s : State) (n : Port) (b : List Byte) (m : Nat) (d : List Byte), (s.link n).flightBad = false → byteAt b 2 = m
    → byteAt b 3 = 17 → (s.link n).partial_ = [(m, [d])] → Answers (exec (.linkMessageRx n b) s) fun t => (t.link
    n).partial_ = [] ∧ (t.link n).lastMsg = some (m, d ++ byteSlice b 4 26) ∧ t.out = s.out ∧ Frame [] s t)

/-- Context words are written only while idle; ACTIVATE, DRAIN, TEAR_DOWN and MOVE act and report (R143, R144, R145,
  R147, R152, R165). -/
def Obligations.ContextCommands : Prop :=
  -- R143: while idle
  (∀ (s : State) (i : CtxNo) (v : Nat), s.ctxLive i = false → Answers (exec (.contextWrite i 8 v) s) fun t => t.get
    (CTX2.QUOTA i) = bits v 0 16 ∧ t.get (CTX2.DECLARED i) = bits v 16 16 ∧ t = { s with regs := t.regs } ∧ Frame
    [CTX2.QUOTA i, CTX2.DECLARED i] s t) ∧
  -- R143: in use
  (∀ (s : State) (i : CtxNo) (o v : Nat), s.ctxLive i = true → (ctxWord i (o / 4 * 4 % 256)).any (fun f => f.acc ==
    .rw) = true → Answers (exec (.contextWrite i o v) s) fun t => t.get LST_CTX_STAT.CTX_BUSY = 1 ∧ t =
    { s with regs := t.regs } ∧ Frame [LST_CTX_STAT.CTX_BUSY] s t) ∧
  -- R144, R145, R152: every check passes
  (∀ (s : State) (i : CtxNo), s.isRoot = false → s.ctxLive i = false → s.activateStatus i = 0 → s.flag
    (CTX0.HOME_AUTO i) = false → s.get (CTX0.CLASS i) ≠ 1 → s.quotaMapped i = false → Answers (exec (.activate i) s)
    fun t => t.get (CTX5.ACTIVE i) = 1 ∧ t.get (CTX5.WARMING i) = 1 ∧ t.get (CTX5.WARM_LEFT i) = 16 % 2 ^ 4 ∧ t.get
    (CTXP0.PRED_X16 i) = 16 * s.get (CTX2.DECLARED i) % 2 ^ 20 ∧ t.get (CTXP1.EFF_QUOTA i) = s.get (CTX2.QUOTA i) % 2
    ^ 16 ∧ t.get (FE_STAT.HOMED (s.get (CTX0.HOME i))) = s.get (FE_STAT.HOMED (s.get (CTX0.HOME i))) + 1 ∧ t.get
    LST_CTX_STAT.INDEX = i ∧ t.get LST_CTX_STAT.STATUS = 0 ∧ t.get LST_CTX_STAT.CTX_BUSY = 0 ∧ Raised EV.ctxCmdDone s
    t ∧ t.flows = s.flows ∧ Frame ([LST_CTX_STAT.INDEX, LST_CTX_STAT.STATUS, LST_CTX_STAT.CTX_BUSY,
    LST_BUF_PLAN.LATCHED, CTX0.HOME i, FE_STAT.HOMED (s.get (CTX0.HOME i)), CTX5.ACTIVE i, CTX5.WARMING i,
    CTX5.WARM_LEFT i, CTX5.REHOMED i, CTXP0.PRED_X16 i, CTXP1.EFF_QUOTA i] ++ evFlds EV.ctxCmdDone) s t) ∧
  -- R152: AUTO
  (∀ (s : State) (i : CtxNo) (b : Nat), s.ctxLive i = false → s.activateStatus i = 0 → s.flag (CTX0.HOME_AUTO i) =
    true → s.bestEngine = some b → Answers (exec (.activate i) s) fun t => t.get (CTX0.HOME i) = b ∧ t.get
    (FE_STAT.HOMED b) = (s.get (FE_STAT.HOMED b) + 1) % 256 ∧ t.get (CTX5.ACTIVE i) = 1 ∧ t.get (CTX5.WARMING i) = 1
    ∧ t.get (CTX5.WARM_LEFT i) = 16 % 2 ^ 4 ∧ t.get (CTX5.REHOMED i) = 0 ∧ t.get (CTXP0.PRED_X16 i) = 16 * s.get
    (CTX2.DECLARED i) % 2 ^ 20 ∧ t.get LST_BUF_PLAN.LATCHED = 1 ∧ t.get LST_CTX_STAT.INDEX = i ∧ t.get
    LST_CTX_STAT.STATUS = 0 ∧ t.get LST_CTX_STAT.CTX_BUSY = 0 ∧ Raised EV.ctxCmdDone s t ∧ t.flows = s.flows ∧
    SameBytes s t) ∧
  -- R144, R145, R165: at any hub, in any class
  (∀ (s : State) (i : CtxNo), s.ctxLive i = false → s.activateStatus i = 0 → s.flag (CTX0.HOME_AUTO i) = false →
    Answers (exec (.activate i) s) fun t => t.get (CTX0.HOME i) = s.get (CTX0.HOME i) ∧ t.get (FE_STAT.HOMED (s.get
    (CTX0.HOME i))) = (s.get (FE_STAT.HOMED (s.get (CTX0.HOME i))) + 1) % 256 ∧ t.get (CTX5.ACTIVE i) = 1 ∧ t.get
    (CTX5.WARMING i) = 1 ∧ t.get (CTX5.WARM_LEFT i) = 16 % 2 ^ 4 ∧ t.get (CTX5.REHOMED i) = 0 ∧ t.get (CTXP0.PRED_X16
    i) = 16 * s.get (CTX2.DECLARED i) % 2 ^ 20 ∧ t.get LST_BUF_PLAN.LATCHED = 1 ∧ t.get LST_CTX_STAT.INDEX = i ∧
    t.get LST_CTX_STAT.STATUS = 0 ∧ t.get LST_CTX_STAT.CTX_BUSY = 0 ∧ Raised EV.ctxCmdDone s t ∧ t.flows = s.flows ∧
    SameBytes s t) ∧
  -- Table 05.7: a check fails
  (∀ (s : State) (i : CtxNo), s.ctxLive i = false → s.activateStatus i ≠ 0 → Answers (exec (.activate i) s) fun t =>
    t.get (CTX5.ACTIVE i) = 0 ∧ t.get LST_BUF_PLAN.LATCHED = 1 ∧ t.get LST_CTX_STAT.INDEX = i ∧ t.get
    LST_CTX_STAT.STATUS = s.activateStatus i ∧ t.get LST_CTX_STAT.CTX_BUSY = 0 ∧ Raised EV.ctxCmdDone s t ∧ t.flows =
    s.flows ∧ t.out = s.out ∧ Frame ([LST_CTX_STAT.INDEX, LST_CTX_STAT.STATUS, LST_CTX_STAT.CTX_BUSY,
    LST_BUF_PLAN.LATCHED] ++ evFlds EV.ctxCmdDone) s t) ∧
  -- R147
  (∀ (s : State) (i : CtxNo), s.flag (CTX5.ACTIVE i) = true → s.flag (CTX5.DRAINING i) = false → Answers (exec
    (.drain i) s) fun t => t.get (CTX5.DRAINING i) = 1 ∧ t.get LST_CTX_STAT.INDEX = i ∧ t.get LST_CTX_STAT.STATUS = 0
    ∧ t.get LST_CTX_STAT.CTX_BUSY = 0 ∧ Raised EV.ctxCmdDone s t ∧ t.flows = s.flows ∧ Frame ([LST_CTX_STAT.INDEX,
    LST_CTX_STAT.STATUS, LST_CTX_STAT.CTX_BUSY, CTX5.DRAINING i] ++ evFlds EV.ctxCmdDone) s t) ∧
  -- Table 05.7: NOT_ACTIVE
  (∀ (s : State) (i : CtxNo), s.flag (CTX5.ACTIVE i) = false → Answers (exec (.drain i) s) fun t => t.get
    LST_CTX_STAT.INDEX = i ∧ t.get LST_CTX_STAT.STATUS = 7 ∧ t.get LST_CTX_STAT.CTX_BUSY = 0 ∧ Raised EV.ctxCmdDone s
    t ∧ t.flows = s.flows ∧ Frame ([LST_CTX_STAT.INDEX, LST_CTX_STAT.STATUS, LST_CTX_STAT.CTX_BUSY] ++ evFlds
    EV.ctxCmdDone) s t) ∧
  -- R147: nothing is left of the flow
  (∀ (s : State) (i : CtxNo), s.flag (CTX5.DRAINING i) = true → s.drained i = true → Answers (exec (.drainComplete i)
    s) fun t => t.get (CTX5.ACTIVE i) = 0 ∧ t.get (CTX5.WARMING i) = 0 ∧ t.get (CTX5.HELD i) = 0 ∧ t.get
    (CTX5.DRAINING i) = 0 ∧ t.get (CTX5.LAST_CAUSE i) = 2 ∧ t.flows.waiting = s.flows.waiting.filter (fun p => p.ctx
    != i.val) ∧ SameBytes s t) ∧
  -- R147: 10 ms
  (∀ (s : State) (i : CtxNo), s.flag (CTX5.DRAINING i) = true → Answers (exec (.drainTimeout i) s) fun t => t.get
    (CTX5.ACTIVE i) = 0 ∧ t.get (CTX5.WARMING i) = 0 ∧ t.get (CTX5.HELD i) = 0 ∧ t.get (CTX5.DRAINING i) = 0 ∧ t.get
    (CTX5.LAST_CAUSE i) = 3 ∧ t.flows.waiting = s.flows.waiting.filter (fun p => p.ctx != i.val) ∧ SameBytes s t) ∧
  -- R147: TEAR_DOWN
  (∀ (s : State) (i : CtxNo), s.ctxLive i = true → Answers (exec (.tearDown i) s) fun t => t.get LST_CTX_STAT.INDEX =
    i ∧ t.get LST_CTX_STAT.STATUS = 0 ∧ t.get LST_CTX_STAT.CTX_BUSY = 0 ∧ Raised EV.ctxCmdDone s t ∧ t.get
    (CTX5.ACTIVE i) = 0 ∧ t.get (CTX5.WARMING i) = 0 ∧ t.get (CTX5.HELD i) = 0 ∧ t.get (CTX5.DRAINING i) = 0 ∧ t.get
    (CTX5.LAST_CAUSE i) = 1 ∧ t.flows.waiting = s.flows.waiting.filter (fun p => p.ctx != i.val) ∧ SameBytes s t) ∧
  -- R152
  (∀ (s : State) (i : CtxNo) (e : Engine), s.flag (CTX5.ACTIVE i) = true → s.flag (CTX5.DRAINING i) = false → s.flag
    (FE_STAT.FENCED e) = false → s.homed e < 128 → s.get (CTX0.HOME i) ≠ e → Answers (exec (.move i e) s) fun t =>
    t.get (CTX0.HOME i) = e ∧ t.get (FE_STAT.HOMED e) = s.get (FE_STAT.HOMED e) + 1 ∧ t.get (FE_STAT.HOMED (s.get
    (CTX0.HOME i))) = (s.get (FE_STAT.HOMED (s.get (CTX0.HOME i))) - 1) % 256 ∧ t.get LST_CTX_STAT.INDEX = i ∧ t.get
    LST_CTX_STAT.STATUS = 0 ∧ t.get LST_CTX_STAT.CTX_BUSY = 0 ∧ Raised EV.ctxCmdDone s t ∧ t.flows = s.flows ∧ Frame
    ([LST_CTX_STAT.INDEX, LST_CTX_STAT.STATUS, LST_CTX_STAT.CTX_BUSY, CTX0.HOME i, FE_STAT.HOMED e, FE_STAT.HOMED
    (s.get (CTX0.HOME i))] ++ evFlds EV.ctxCmdDone) s t)

/-- A packet arrives, is admitted, leaves by its egress, and is decided at an end adapter (R105, R107, R138, R141,
  R151, R153, R154, R157, R208, R210, R259, R261). -/
def Obligations.PacketsThroughTheHub : Prop :=
  -- R141: no flow on the label
  (∀ (s : State) (a : Port) (i : CtxNo) (p : Pkt) (lpn : Nat), (s.link a).flightBad = false → i ≠ 0 → i ≠ 1 → i ≠
    0x7FF → s.flag (CTX5.ACTIVE i) = false → s.flag (CTX5.DRAINING i) = false → Answers (exec (.flowPacketArrival a i
    p lpn) s) fun t => t.get LST_DISCARD.NO_CTX = satAdd 16 (s.get LST_DISCARD.NO_CTX) 1 % 65536 ∧ t.get
    (CTX7.DISCARDS i) = satAdd 16 (s.get (CTX7.DISCARDS i)) 1 % 65536 ∧ t.flows = s.flows ∧ (t.link a).freed = (if
    (s.link a).paid.contains lpn then (s.link a).freed else (s.link a).freed.set p.hdr.cls ((s.link a).freed.getD
    p.hdr.cls 0 + p.n)) ∧ (s.flag (WLT_PCS_STAT.COMPAT a) = false → t.out = s.out) ∧ t.out.take s.out.length = s.out
    ∧ Frame [LST_DISCARD.NO_CTX, CTX7.DISCARDS i] s t) ∧
  -- R141, R153: in order
  (∀ (s : State) (a : Port) (i : CtxNo) (p : Pkt) (lpn : Nat), (s.link a).flightBad = false → i ≠ 0 → i ≠ 1 → i ≠
    0x7FF → s.flag (CTX5.ACTIVE i) = true → s.get (CTX0.IN_ATT i) = a → s.get (CTX0.CLASS i) = p.hdr.cls → s.flag
    (CTX5.HELD i) = false → s.flag (FE_STAT.FENCED (s.get (CTX0.HOME i))) = false → p.hdr.seq % 65536 = s.get
    (CTX4.NEXT_SEQ i) → Answers (exec (.flowPacketArrival a i p lpn) s) fun t => t.flows.waiting = s.flows.waiting ++
    [⟨p, i, a, lpn % 65536, s.flag (WLT_PCS_STAT.COMPAT a), false, 0, 0, false⟩] ∧ t.get (CTX4.NEXT_SEQ i) =
    (p.hdr.seq + 1) % 65536 ∧ t.flows.admitted = s.flows.admitted ∧ t.out = s.out ∧ Frame [CTX4.NEXT_SEQ i] s t) ∧
  -- R151: from an adapter, with room
  (∀ (s : State) (i : CtxNo) (p : FlowPkt), s.flows.waiting = [p] → p.ctx = i → (4 ≤ p.inAtt ∨ s.flag
    (WLT_PCS_STAT.COMPAT p.inAtt) = true) → s.flag (FE_STAT.FENCED (s.get (CTX0.HOME i))) = false → s.flag
    (CTX0.MCAST i) = false → s.roomFor p (s.ctxOuts i) = true → s.bridge.xfer = none → Answers (exec
    (.packetAdmission i) s) fun t => t.flows.waiting = [] ∧ t.flows.admitted = s.flows.admitted ++
    [{ p with outAtt := s.get (CTX1.OUT_ATT i), outLabel := s.get (CTX1.OUT_LABEL i) }] ∧ t.get (CTX6.OCCUPANCY i) =
    (s.get (CTX6.OCCUPANCY i) + p.pkt.n) % 2 ^ 18 ∧ t.get (CTXP3.ADMITTED_OCC i) = (s.get (CTXP3.ADMITTED_OCC i) +
    p.pkt.n) % 2 ^ 18 ∧ t.out = s.out ∧ Frame [CTX6.OCCUPANCY i, CTXP3.ADMITTED_OCC i, CTXC.PKTS_LO i, CTXD.PKTS_HI
    i, CTXE.SLOTS_LO i, CTXF.SLOTS_HI i] s t) ∧
  -- R151: R168: from a native Welt port, as its RX wheel picks it
  (∀ (s : State) (i : CtxNo) (p : FlowPkt) (a : Port) (k : Pick), s.flows.waiting = [p] → p.ctx = i → p.inAtt = a.val
    → s.flag (WLT_PCS_STAT.COMPAT a) = false → s.pick ⟨4 + a.val, by omega⟩ = some k → k.pkt = p → s.flag (CTX0.MCAST
    i) = false → s.bridge.xfer = none → Answers (exec (.packetAdmission i) s) fun t => t.flows.waiting = [] ∧
    t.flows.admitted = s.flows.admitted ++
    [{ p with outAtt := s.get (CTX1.OUT_ATT i), outLabel := s.get (CTX1.OUT_LABEL i) }] ∧ t.get (CTX6.OCCUPANCY i) =
    (s.get (CTX6.OCCUPANCY i) + p.pkt.n) % 2 ^ 18 ∧ t.get (CTXP3.ADMITTED_OCC i) = (s.get (CTXP3.ADMITTED_OCC i) +
    p.pkt.n) % 2 ^ 18 ∧ t.out = s.out ∧ Frame ([CTX6.OCCUPANCY i, CTXP3.ADMITTED_OCC i, CTXC.PKTS_LO i, CTXD.PKTS_HI
    i, CTXE.SLOTS_LO i, CTXF.SLOTS_HI i] ++ chargeFlds (4 + a) i) s t) ∧
  -- R154, R175: a control packet on a native link
  (∀ (s : State) (n : Port) (p : FlowPkt), s.flag (WLT_LINK_STAT.ADMITTED n) = true → s.flag (WLT_PCS_STAT.COMPAT n)
    = false → s.flag (WHLw_POS.UNRESERVED n) = true → s.flows.admitted = [p] → p.outAtt = n → p.begun = false → p.ctx
    = 2048 → p.pkt.hdr.cls = 0 → p.pkt.n ≤ (s.link n).avail 0 → Answers (exec (.egressPacketStart n) s) fun t =>
    t.flows.admitted = [{ p with begun := true }] ∧ (t.link n).txq = (s.link n).txq ++ p.txSlots (s.link n).txLpn ∧
    (t.link n).txLpn = ((s.link n).txLpn + 1) % 65536 ∧ t.out = s.out ∧ Frame [WLT_CRED_AVAIL.LO n 0,
    WLT_CRED_AVAIL.HI n 0, WLT_CRED_AVAIL.LO n 1, WLT_CRED_AVAIL.HI n 1] s t) ∧
  -- R157
  (∀ (s : State) (i : CtxNo) (a : Nat) (p : FlowPkt), s.flows.admitted = [p] → p.ctx = i → p.outAtt = a → p.begun =
    false → s.flag (CTX0.MCAST i) = true → s.branchBlocked a p = true → Answers (exec (.multicastBranchDrop i a) s)
    fun t => t.flows.admitted = [] ∧ t.flows.waiting = s.flows.waiting ∧ t.out = s.out ∧ SameBytes s t) ∧
  -- R138: TTAG is reached
  (∀ (s : State) (p : FlowPkt), s.flows.held = [p] → p.outAtt = 7 → p.pkt.hdr.held = true → s.due p.pkt.hdr.ttag =
    true → p.bad = false → p.pkt.hdr.sealed = false → p.pkt.hdr.cls ≠ 1 → s.queueRoom (brBus p) (byteAt
    p.pkt.hdr.info 3 % 4) = true → (s.head 0).waits = [] → (s.head 1).waits = [] → Answers (exec (.heldApplyTime) s)
    fun t => t.flows.held = [] ∧ t.bridge.queue.map (fun (m : BrMsg) => (m.bus, m.prio, m.ctx, m.pkt)) =
    s.bridge.queue.map (fun (m : BrMsg) => (m.bus, m.prio, m.ctx, m.pkt)) ++ [(brBus p, byteAt p.pkt.hdr.info 3 % 4,
    p.ctx, p.pkt)] ∧ t.out = s.out ++ [.packet 7 ⟨{ p.pkt.hdr with flow := p.outLabel }, p.pkt.data⟩] ∧ SameBytes s
    t) ∧
  -- R210: a good packet
  (∀ (s : State) (a : Nat) (p : FlowPkt), s.flows.admitted = [p] → p.decided = true → p.ctx ≠ 2048 → p.begun = false
    → s.domainOn (p.outAtt + 6) = true → p.bad = false → p.pkt.hdr.poison = false → p.pkt.hdr.sealed = false →
    s.flows.held = [] → p.outAtt = a → a = 4 → p.pkt.hdr.cls = 3 → isFlowControl p.pkt = false → s.isRoot = true →
    Answers (exec (.adapterPacketDecided a) s) fun t => t.flows.admitted = [] ∧ t.out = s.out ++ [.host
    (s.hostChannel p.outLabel) ⟨{ p.pkt.hdr with flow := p.outLabel }, p.pkt.data⟩] ∧ t.flows.waiting =
    s.flows.waiting ∧ Frame ([CTX6.OCCUPANCY p.ctx, CTXP3.ADMITTED_OCC p.ctx] ++ evFlds EV.tlpPoisoned) s t) ∧
  -- R210: a poisoned packet
  (∀ (s : State) (a : Nat) (p : FlowPkt), s.flows.admitted = [p] → p.decided = true → p.ctx ≠ 2048 → p.begun = false
    → s.domainOn (p.outAtt + 6) = true → p.bad = true → p.pkt.hdr.poison = false → p.pkt.hdr.sealed = false →
    s.flows.held = [] → p.outAtt = a → 4 ≤ a → Answers (exec (.adapterPacketDecided a) s) fun t => t.flows.admitted =
    [] ∧ t.get LST_END_DISCARD.POISONED = satAdd 16 (s.get LST_END_DISCARD.POISONED) 1 % 65536 ∧ t.out = s.out ∧
    Frame [LST_END_DISCARD.POISONED, CTX6.OCCUPANCY p.ctx, CTXP3.ADMITTED_OCC p.ctx] s t) ∧
  -- R105: the header slot of a packet
  (∀ (s : State) (n : Port) (b : List Byte), (s.link n).flightBad = false → slotCheckGood b = true → (Hdr.ofSlot
    b).flow ≠ 0x7FF → Answers (exec (.headerSlotRx n b false) s) fun t => (t.link n).rxLpn = ((s.link n).rxLpn + 1) %
    65536 ∧ (t.link n).flightBad = false ∧ t.flows = s.flows ∧ t.out = s.out ∧ Frame [] s t) ∧
  -- R107: one for an end adapter goes on as bad, to be discarded there
  (∀ (s : State) (a lpn : Nat) (p : FlowPkt), s.flows.waiting = [] → s.flows.admitted = [p] → p.inAtt = a → p.lpn =
    lpn → p.decided = false → p.begun = false → 4 ≤ p.outAtt → Answers (exec (.packetPoisoned a lpn) s) fun t =>
    t.flows.admitted = [{ p with decided := true, bad := true }] ∧ t.out = s.out ∧ SameBytes s t) ∧
  -- R261: a TLP of a root port enters the chain as a packet
  (∀ (s : State) (n : Fin 2) (x : Tlp), s.isRoot = false → x.malformed = false → x.intx = false → s.flag
    (PCIE_RP_CTX.BIND n) = true → s.flag (CTX5.ACTIVE (s.get (PCIE_RP_CTX.REV_CTX n))) = true → s.flag (CTX5.HELD
    (s.get (PCIE_RP_CTX.REV_CTX n))) = false → s.adapterOn 4 = true → s.flag (CTX5.DRAINING (s.get
    (PCIE_RP_CTX.REV_CTX n))) = false → s.get (CTX0.CLASS (s.get (PCIE_RP_CTX.REV_CTX n))) = 2 → s.get (CTX0.IN_ATT
    (s.get (PCIE_RP_CTX.REV_CTX n))) = 4 → s.flag (FE_STAT.FENCED (s.get (CTX0.HOME (s.get (PCIE_RP_CTX.REV_CTX
    n))))) = false → s.flag (CTX0.SEAL (s.get (PCIE_RP_CTX.REV_CTX n))) = false → s.rlbRoom (s.get
    (PCIE_RP_CTX.REV_CTX n)) (Tlp.toPkt x).n = true → x.ep = false → Answers (exec (.rootPortTlpRx n x) s) fun t =>
    t.flows.waiting.dropLast = s.flows.waiting ∧ (t.flows.waiting.getLast?.map fun q => (q.ctx, q.inAtt,
    q.pkt.hdr.mx, q.pkt.hdr.info)) = some ((s.get (PCIE_RP_CTX.REV_CTX n)), 4, (Tlp.toPkt x).hdr.mx, (Tlp.toPkt
    x).hdr.info) ∧ (t.rlbInOf (s.get (PCIE_RP_CTX.REV_CTX n))).kept.length = (s.rlbInOf (s.get (PCIE_RP_CTX.REV_CTX
    n))).kept.length + 1 ∧ t.out = s.out ∧ SameBytes s t) ∧
  -- R259: a TLP out of a storage tunnel leaves for the host
  (∀ (s : State) (x : Tlp), s.isRoot = true → x.ep = false → s.host.queue = [] → Answers (exec (.upstreamTlp x false)
    s) fun t => t.out = s.out ++ (if Config.linkCredit 16 x.kind 0 s.uptime = true then [.tlp 16 (Tlp.bytes x)] else
    []) ∧ t.flows = s.flows ∧ Frame [] s t)

/-- Reliable bulk accepts in order, acknowledges, frees and sends again; partitions are applied while idle (R158,
  R159, R160, R166). -/
def Obligations.ReliableBulkAndPartitions : Prop :=
  -- R159: in order
  (∀ (s : State) (i : CtxNo) (p : FlowPkt), s.flows.admitted = [p] → p.decided = true → p.ctx ≠ 2048 → p.begun =
    false → s.domainOn (p.outAtt + 6) = true → p.bad = false → p.pkt.hdr.poison = false → p.pkt.hdr.sealed = false →
    s.flows.held = [] → p.ctx = i → p.outAtt = 4 → s.isRoot = true → p.pkt.hdr.cls = 2 → isFlowControl p.pkt = false
    → p.pkt.hdr.seq % 65536 = ((s.rlbOutOf i).ackSeq + 1) % 65536 → (s.rlbOutOf i).unacked < 15 → Answers (exec
    (.rlbPacketRx i) s) fun t => (t.rlbOutOf i).ackSeq = p.pkt.hdr.seq % 65536 ∧ (t.rlbOutOf i).unacked = (s.rlbOutOf
    i).unacked + 1 ∧ t.flows.admitted = [] ∧ t.out = s.out ++ [.host (s.hostChannel p.outLabel)
    ⟨{ p.pkt.hdr with flow := p.outLabel }, p.pkt.data⟩] ∧ Frame ([CTX6.OCCUPANCY p.ctx, CTXP3.ADMITTED_OCC p.ctx] ++
    evFlds EV.tlpPoisoned) s t) ∧
  -- R159: an ACK
  (∀ (s : State) (i : CtxNo), 0 < (s.rlbOutOf i).unacked → s.flag (CTX0.PAIR_VALID i) = true → s.flag (CTX5.ACTIVE
    (s.get (CTX0.PAIR i))) = true → s.flag (CTX5.HELD (s.get (CTX0.PAIR i))) = false → s.get (CTX0.CLASS (s.get
    (CTX0.PAIR i))) = 2 → s.flag (FE_STAT.FENCED (s.get (CTX0.HOME (s.get (CTX0.PAIR i))))) = false → Answers (exec
    (.rlbAckTimer i) s) fun t => (t.rlbOutOf i).unacked = 0 ∧ (t.rlbOutOf i).ackSeq = (s.rlbOutOf i).ackSeq ∧
    t.flows.waiting.dropLast = s.flows.waiting ∧ (t.flows.waiting.getLast?.map fun p => (p.ctx, p.pkt.hdr.mx,
    p.pkt.hdr.info.take 3)) = some (s.get (CTX0.PAIR i), 0x1F, leBytes 2 (s.rlbOutOf i).ackSeq ++ [0]) ∧ t.out =
    s.out ∧ SameBytes s t) ∧
  -- R160: an ACK frees
  (∀ (s : State) (i : CtxNo) (ack : Nat), s.flag (CTX0.PAIR_VALID i) = true → s.get (CTX0.CLASS i) = 2 →
    s.flows.backlog = [] → Answers (exec (.rlbFlowControlRx i ack false) s) fun t => (t.rlbInOf (s.get (CTX0.PAIR
    i))).kept = (s.rlbInOf (s.get (CTX0.PAIR i))).kept.filter (fun p => before 16 ack p.hdr.seq) ∧ t.flows.waiting =
    s.flows.waiting ∧ t.out = s.out ∧ Frame [] s t) ∧
  -- R160: a timeout
  (∀ (s : State) (i : CtxNo) (p : Pkt), (s.rlbInOf i).kept = [p] → s.flag (CTX5.ACTIVE i) = true → s.flag (CTX5.HELD
    i) = false → s.flag (CTX0.SEAL i) = false → s.flag (FE_STAT.FENCED (s.get (CTX0.HOME i))) = false → Answers (exec
    (.rlbRetransmitTimeout i) s) fun t => (t.rlbInOf i).timeout = min (2 * (s.rlbInOf i).timeout) 10000 ∧ (t.rlbInOf
    i).kept = [p] ∧ t.flows.waiting.dropLast = s.flows.waiting ∧ (t.flows.waiting.getLast?.map fun q => (q.ctx,
    q.pkt.hdr.seq, q.pkt.data)) = some (i.val, p.hdr.seq % 65536, byteSlice p.data 0 (32 * ceilDiv p.data.length 32))
    ∧ t.out = s.out ∧ SameBytes s t) ∧
  -- R166
  (∀ (s : State), (ctxRange.any fun i => s.ctxLive i) = false → ((List.range 64).map fun m => s.get (LST_PART.KIB
    m)).sum ≤ 6144 → ((List.range 4).all fun a => (List.range 4).all fun c => decide (11 ≤ s.get (LST_PART.KIB (8 * a
    + c)))) = true → Answers (exec (.partitionApply) s) fun t => t.flows.parts = (List.range 64).map (fun m => s.get
    (LST_PART.KIB m)) ∧ t.get LST_PART_CTRL.PART_ERR = 0 ∧ t.get LST_PART_CTRL.FREE_KIB = 6144 - ((List.range 64).map
    fun m => s.get (LST_PART.KIB m)).sum ∧ t.out = s.out ∧ Frame [LST_PART_CTRL.PART_ERR, LST_PART_CTRL.FREE_KIB] s
    t) ∧
  -- R166: refused while a context is in use
  (∀ (s : State) (i : Nat), s.ctxLive i = true → i < 2048 → Answers (exec (.partitionApply) s) fun t => t.get
    LST_PART_CTRL.PART_ERR = 1 ∧ t.flows = s.flows ∧ Raised EV.partErr s t ∧ Frame (LST_PART_CTRL.PART_ERR :: evFlds
    EV.partErr) s t)

/-- A new epoch, a packet boundary of a wheel, the end of a re-expansion (R50, R169, R174, R175, R179, R191, R192).
  -/
def Obligations.EpochsAndBoundaries : Prop :=
  -- R174, R179
  (∀ (s : State), Answers (exec (.epochBoundary) s) fun t => t.get WHL_EPOCH.EPOCH = s.epochNow % 2 ^ 32 ∧
    wheelNos.all (fun (w : WheelNo) => t.get (WHLw_POS.POSITION w) == 0 && (t.wh w).use.isEmpty && (t.wh
    w).sent.isEmpty) = true ∧ t.wheel.engines = [] ∧ (List.range 16).all (fun e => t.get (FE_LOAD.SLOTS e) == min
    (s.wheel.engines.getD e 0) (2 ^ 18 - 1)) = true ∧ t.flows = s.flows ∧ t.out = s.out ∧ SameBytes s t) ∧
  -- R169: positions pass
  (∀ (s : State) (w : WheelNo) (adv : Nat), s.get (WHLw_SIZE.P w) ≠ 0 → s.flag CTM_STAT.FREEZE = false → s.flag
    (WHLw_POS.UNRESERVED w) = true → s.flows.waiting = [] → s.flows.admitted = [] → Answers (exec
    (.wheelPacketBoundary w adv) s) fun t => t.get (WHLw_POS.POSITION w) = min (s.get (WHLw_POS.POSITION w) + adv)
    (s.get (WHLw_SIZE.P w)) % 2 ^ 16 ∧ t = { s with regs := t.regs } ∧ Frame [WHLw_POS.POSITION w] s t) ∧
  -- R50, R175: in a freeze a candidate starts and no position passes
  (∀ (s : State) (w : WheelNo) (adv : Nat) (n : Port) (p : FlowPkt), w.val = n.val → s.get (WHLw_SIZE.P w) ≠ 0 →
    s.flag CTM_STAT.FREEZE = true → s.flag (WHLw_POS.UNRESERVED w) = true → s.flag (WLT_PCS_STAT.COMPAT n) = false →
    s.flows.admitted = [p] → p.outAtt = n → p.begun = false → p.ctx = 2048 → p.pkt.hdr.cls = 0 → p.pkt.n ≤ (s.link
    n).avail 0 → Answers (exec (.wheelPacketBoundary w adv) s) fun t => t.flows.admitted = [{ p with begun := true }]
    ∧ (t.link n).txq = (s.link n).txq ++ p.txSlots (s.link n).txLpn ∧ t.get (WHLw_POS.POSITION w) = s.get
    (WHLw_POS.POSITION w) ∧ t.out = s.out ∧ SameBytes s t) ∧
  -- R192, R50
  (∀ (s : State) (w : WheelNo), s.flag (WHLw_POS.EXPANDING w) = true → Answers (exec (.reexpansionDone w) s) fun t =>
    t.get (WHLw_POS.EXPANDING w) = 0 ∧ t.get (WHLw_POS.UNRESERVED w) = s.get CTM_STAT.FREEZE % 2 ∧ t =
    { s with regs := t.regs } ∧ Frame [WHLw_POS.EXPANDING w, WHLw_POS.UNRESERVED w] s t)

/-- A commit is written, checked, staged, aborted and applied (R182, R183, R184, R185, R187, R249). -/
def Obligations.CommitsOfWheelMaps : Prop :=
  -- R182: the next boundary at least 4 us away
  (∀ (s : State) (wheels tag : Nat), 51200 * (s.epochNow + 1) ≥ s.now + 1600 → Answers (exec (.commitNext wheels tag)
    s) fun t => t.wheel.commits = s.wheel.commits ++ [⟨wheels % 256, (s.epochNow + 1) % 2 ^ 32, false, tag % 256,
    s.now, false⟩] ∧ t.get WHL_RES0.VALID = 0 ∧ t.out = s.out ∧ Frame [WHL_RES0.VALID] s t) ∧
  -- R182
  (∀ (s : State) (wheels tag : Nat), Answers (exec (.commitAt wheels tag) s) fun t => t.wheel.commits =
    s.wheel.commits ++ [⟨wheels % 256, s.get WHL_COMMIT_EPOCH.EPOCH, true, tag % 256, s.now, false⟩] ∧ t.get
    WHL_RES0.VALID = 0 ∧ t.out = s.out ∧ Frame [WHL_RES0.VALID] s t) ∧
  -- R184: staged
  (∀ (s : State) (c : Commit) (w : WheelNo), s.wheel.commits = [c] → c.ready = false → s.checkCommit c = none →
    c.wheels = 2 ^ w.val → Answers (exec (.commitStaging) s) fun t => t.wheel.commits = [{ c with ready := true }] ∧
    t.get WHL_STAT.STAGED = 2 ^ w.val ∧ t.get WHL_STAT.AT = b2n c.atEpoch ∧ t.get WHL_STAGED_EPOCH.EPOCH = c.epoch %
    2 ^ 32 ∧ t.get (MAPS_HDR.BASIS w) = s.get (WHLw_SIZE.BASIS w) % 2 ^ 16 ∧ t.flows = s.flows ∧ t.out = s.out ∧
    Frame ([WHL_STAT.STAGED, WHL_STAT.AT, WHL_STAGED_EPOCH.EPOCH] ++ [MAPS_HDR.BASIS w]) s t) ∧
  -- R184, Table 06.6: refused
  (∀ (s : State) (c : Commit) (r : Refuse), s.wheel.commits = [c] → c.ready = false → s.checkCommit c = some r →
    Answers (exec (.commitStaging) s) fun t => t.wheel.commits = [] ∧ t.get WHL_RES0.STATUS = r.code % 2 ^ 7 ∧ t.get
    WHL_RES0.TAG = c.tag % 256 ∧ t.get WHL_RES0.VALID = 1 ∧ t.get WHL_RES0.SEQ = (s.get WHL_RES0.SEQ + 1) % 65536 ∧
    Raised EV.whlCommitRefused s t ∧ t.flows = s.flows ∧ t.out = s.out ∧ Frame ([WHL_RES0.SEQ, WHL_RES0.TAG,
    WHL_RES0.VALID, WHL_RES0.STATUS, WHL_RES1.EPOCH, WHL_RES2.WHEEL, WHL_RES2.ENTRY, WHL_RES2.WHEEL_VALID,
    WHL_RES3.NEED, WHL_RES3.BASIS] ++ evFlds EV.whlCommitRefused) s t) ∧
  -- R185: ABORTED
  (∀ (s : State) (tag : Nat) (c : Commit), s.wheel.commits = [c] → c.ready = true → s.now + 1600 ≤ epochStart s.now
    c.epoch → Answers (exec (.commitAbort tag) s) fun t => t.wheel.commits = [] ∧ t.get WHL_RES0.STATUS = 10 ∧ t.get
    WHL_RES0.TAG = tag % 256 ∧ t.get WHL_RES0.VALID = 1 ∧ t.get WHL_RES0.SEQ = (s.get WHL_RES0.SEQ + 1) % 65536 ∧
    t.get WHL_STAT.STAGED = 0 ∧ Raised EV.whlCommitRefused s t ∧ t.out = s.out ∧ Frame ([WHL_RES0.SEQ, WHL_RES0.TAG,
    WHL_RES0.VALID, WHL_RES0.STATUS, WHL_RES1.EPOCH, WHL_RES2.WHEEL, WHL_RES2.ENTRY, WHL_RES2.WHEEL_VALID,
    WHL_RES3.NEED, WHL_RES3.BASIS] ++ [WHL_STAT.STAGED, WHL_STAT.AT, WHL_STAGED_EPOCH.EPOCH] ++ evFlds
    EV.whlCommitRefused) s t) ∧
  -- R185: NOTHING_STAGED
  (∀ (s : State) (tag : Nat), s.wheel.commits = [] → Answers (exec (.commitAbort tag) s) fun t => t.wheel.commits =
    [] ∧ t.get WHL_RES0.STATUS = 11 ∧ t.get WHL_RES0.TAG = tag % 256 ∧ t.get WHL_RES0.VALID = 1 ∧ t.get WHL_RES0.SEQ
    = (s.get WHL_RES0.SEQ + 1) % 65536 ∧ Raised EV.whlCommitRefused s t ∧ t.out = s.out ∧ Frame ([WHL_RES0.SEQ,
    WHL_RES0.TAG, WHL_RES0.VALID, WHL_RES0.STATUS, WHL_RES1.EPOCH, WHL_RES2.WHEEL, WHL_RES2.ENTRY,
    WHL_RES2.WHEEL_VALID, WHL_RES3.NEED, WHL_RES3.BASIS] ++ evFlds EV.whlCommitRefused) s t) ∧
  -- R183: the maps change places
  (∀ (s : State) (c : Commit) (w : WheelNo), s.frozen = false → s.wheel.commits = [c] → c.ready = true → c.epoch =
    s.epochNow % 2 ^ 32 → c.wheels = 2 ^ w.val → s.get (MAPA_HDR.COUNT w) = 0 → s.get (MAPS_HDR.COUNT w) = 0 →
    Answers (exec (.commitApply) s) fun t => t.wheel.commits = [] ∧ t.get WHL_RES0.STATUS = 0 ∧ t.get WHL_RES0.TAG =
    c.tag % 256 ∧ t.get WHL_RES0.VALID = 1 ∧ t.get WHL_RES0.SEQ = (s.get WHL_RES0.SEQ + 1) % 65536 ∧ t.get
    WHL_RES1.EPOCH = c.epoch ∧ t.get WHL_STAT.STAGED = 0 ∧ t.get (MAPA_HDR.BASIS w) = s.get (MAPS_HDR.BASIS w) ∧
    t.get (MAPS_HDR.BASIS w) = s.get (MAPA_HDR.BASIS w) ∧ t.get (WHLw_RES.RESERVED w) = 500 ∧ t.get (WHLw_RES.ENTRIES
    w) = 0 ∧ Raised EV.whlCommitDone s t ∧ t.flows = s.flows ∧ t.out = s.out ∧ SameBytes s t)

/-- COPY, writes of a shadow map, and a drained quota (R172, R185, R190). -/
def Obligations.MapsAndQuotas : Prop :=
  -- R185
  (∀ (s : State) (w : WheelNo) (e : Nat), bit (s.get WHL_STAT.STAGED) w = false → e < 1023 → Answers (exec (.mapCopy
    (2 ^ w.val)) s) fun t => t.get (MAPS_HDR.COUNT w) = s.get (MAPA_HDR.COUNT w) ∧ t.get (MAPS0.CTX w e) = s.get
    (MAPA0.CTX w e) ∧ t.get (MAPS0.QUOTA w e) = s.get (MAPA0.QUOTA w e) ∧ t.get (MAPS1.SHARE w e) = s.get
    (MAPA1.SHARE w e) ∧ t = { s with regs := t.regs } ∧ PageFrame [0x1C2 + 4 * w.val, 0x1C3 + 4 * w.val] s t) ∧
  -- R172: word 0 of an entry
  (∀ (s : State) (w : WheelNo) (e v : Nat), bit (s.get WHL_STAT.STAGED) w = false → e < 1023 → Answers (exec
    (.shadowMapWrite w (0x2008 + 8 * e) v) s) fun t => t.get (MAPS0.CTX w e) = bits v 0 11 ∧ t.get (MAPS0.CLASS w e)
    = bits v 11 2 ∧ t.get (MAPS0.QUOTA w e) = bits v 16 16 ∧ t = { s with regs := t.regs } ∧ Frame [MAPS0.CTX w e,
    MAPS0.CLASS w e, MAPS0.QUOTA w e] s t) ∧
  -- R185: a staged wheel
  (∀ (s : State) (w : WheelNo) (o v : Nat), 0x2000 ≤ o % 0x4000 → bit (s.get WHL_STAT.STAGED) w = true → Answers
    (exec (.shadowMapWrite w o v) s) fun t => t.get WHL_STAT.SHADOW_DROPS = satAdd 8 (s.get WHL_STAT.SHADOW_DROPS) 1
    % 256 ∧ t = { s with regs := t.regs } ∧ Frame [WHL_STAT.SHADOW_DROPS] s t) ∧
  -- R185: the active map
  (∀ (s : State) (w : WheelNo) (o v : Nat), o % 0x4000 < 0x2000 → Answers (exec (.shadowMapWrite w o v) s) fun t => t
    = s) ∧
  -- R190
  (∀ (s : State) (i : CtxNo), s.flag (CTX5.OVER_QUOTA i) = true → s.get (CTXP3.ADMITTED_OCC i) ≤ s.get (CTX2.QUOTA i)
    → s.get (CTXP1.OWN_USE i) ≤ s.get (CTX2.QUOTA i) → Answers (exec (.quotaDrained i) s) fun t => t.get
    (CTX5.OVER_QUOTA i) = 0 ∧ t.get WHL_FLOW_EVT.DRAINED_CTX = i ∧ Raised EV.quotaDrained s t ∧ t.flows = s.flows ∧
    t.out = s.out ∧ Frame ([CTX5.OVER_QUOTA i, WHL_FLOW_EVT.DRAINED_CTX] ++ evFlds EV.quotaDrained) s t)

/-- Parity and uncorrectable memory: what is discarded, counted, logged and raised (R195, R196, R197, R198, R199,
  R200). -/
def Obligations.MemoryAndParityFailures : Prop :=
  -- R197
  (∀ (s : State) (a : Port) (cls lpn n : Nat), Answers (exec (.headerParityFail a cls lpn n) s) fun t => t.get
    LST_PARITY.INGRESS = satAdd 16 (s.get LST_PARITY.INGRESS) 1 % 2 ^ 16 ∧ t.get (LST_ERR_LOG0.CAUSE (s.get
    LST_ERR_HEAD.NEXT)) = 4 ∧ t.get LST_ERR_HEAD.NEXT = (s.get LST_ERR_HEAD.NEXT + 1) % 16 ∧ t.flows = s.flows ∧
    (t.link a).freed = (if (s.link a).paid.contains lpn then (s.link a).freed else (s.link a).freed.set (cls % 4)
    ((s.link a).freed.getD (cls % 4) 0 + n)) ∧ (s.flag (WLT_PCS_STAT.COMPAT a) = false → t.out = s.out) ∧ t.out.take
    s.out.length = s.out ∧ Frame (LST_PARITY.INGRESS :: logFlds s) s t) ∧
  -- R195: at an ingress
  (∀ (s : State) (a i seq : Nat) (p : FlowPkt), s.flows.waiting = [p] → s.flows.admitted = [] → p.ctx = i →
    p.pkt.hdr.seq = seq → Answers (exec (.dataParityFail a i seq false) s) fun t => t.flows.waiting = [] ∧ t.get
    LST_PARITY.INGRESS = satAdd 16 (s.get LST_PARITY.INGRESS) 1 % 2 ^ 16 ∧ t.get (LST_ERR_LOG0.CAUSE (s.get
    LST_ERR_HEAD.NEXT)) = 4 ∧ t.get LST_ERR_HEAD.NEXT = (s.get LST_ERR_HEAD.NEXT + 1) % 16 ∧ ((p.inAtt < 4 → s.flag
    (WLT_PCS_STAT.COMPAT p.inAtt) = false) → t.out = s.out) ∧ t.out.take s.out.length = s.out ∧ Frame
    (LST_PARITY.INGRESS :: logFlds s) s t) ∧
  -- R198
  (∀ (s : State) (i seq : Nat) (p : FlowPkt), s.flows.waiting = [p] → s.flows.admitted = [] → p.ctx = i →
    p.pkt.hdr.seq = seq → Answers (exec (.cellBufferUncorr i seq) s) fun t => t.flows.waiting = [] ∧ t.get
    LST_ECC_CB.UNCORR = satAdd 16 (s.get LST_ECC_CB.UNCORR) 1 % 2 ^ 16 ∧ t.get (LST_ERR_LOG0.CAUSE (s.get
    LST_ERR_HEAD.NEXT)) = 1 ∧ t.get LST_ERR_HEAD.NEXT = (s.get LST_ERR_HEAD.NEXT + 1) % 16 ∧ Raised EV.memUncorr s t
    ∧ ((p.inAtt < 4 → s.flag (WLT_PCS_STAT.COMPAT p.inAtt) = false) → t.out = s.out) ∧ t.out.take s.out.length =
    s.out ∧ Frame (LST_ECC_CB.UNCORR :: logFlds s ++ evFlds EV.memUncorr) s t) ∧
  -- R199: a context word
  (∀ (s : State) (i : CtxNo), s.ctxLive i = true → Answers (exec (.contextUncorr i) s) fun t => t.get
    LST_ECC_TBL.UNCORR = satAdd 16 (s.get LST_ECC_TBL.UNCORR) 1 % 2 ^ 16 ∧ t.get (CTX5.ACTIVE i) = 0 ∧ t.get
    (CTX5.HELD i) = 0 ∧ t.get (CTX5.DRAINING i) = 0 ∧ t.get (CTX5.LAST_CAUSE i) = 1 ∧ Raised EV.memUncorr s t ∧
    t.flows.waiting = s.flows.waiting.filter (fun p => p.ctx != i.val) ∧ SameBytes s t) ∧
  -- R199: a word of a shadow map
  (∀ (s : State) (table : Nat) (w : WheelNo) (e : Nat), table % 7 = 1 → e < 1023 → Answers (exec (.tableUncorr table
    (0x01C2008 + 0x4000 * w.val + 8 * e)) s) fun t => t.get (MAPS0.CTX w e) = 0 ∧ t.get (MAPS0.CLASS w e) = 0 ∧ t.get
    (MAPS0.QUOTA w e) = 0 ∧ t.get LST_ECC_TBL.UNCORR = satAdd 16 (s.get LST_ECC_TBL.UNCORR) 1 % 2 ^ 16 ∧ Raised
    EV.memUncorr s t ∧ t.flows = s.flows ∧ t.out = s.out ∧ Frame ([LST_ECC_TBL.UNCORR, MAPS0.CTX w e, MAPS0.CLASS w
    e, MAPS0.QUOTA w e] ++ logFlds s ++ evFlds EV.memUncorr) s t) ∧
  -- R200
  (∀ (s : State) (n : Port), (s.link n).replay ≠ [] → s.flag (WLT_LINK_STAT.ADMITTED n) = true → Answers (exec
    (.replayUncorr n) s) fun t => t.get (WLT_LINK_STAT.ADMITTED n) = 0 ∧ t.get (WLT_LINK_STAT.DOWN_REASON n) = 3 ∧
    Raised EV.memUncorr s t ∧ Raised (EV.replayExhausted n) s t ∧ Raised (EV.linkDown n) s t ∧ SameBytes s t) ∧
  -- R201
  (∀ (s : State), Answers (exec (.awlUncorr) s) fun t => t.get MBX_STAT.AWL_UP = 0 ∧ t.integ.awlDown = true ∧ t.get
    (LST_ERR_LOG0.CAUSE (s.get LST_ERR_HEAD.NEXT)) = 10 ∧ t.get LST_ERR_HEAD.NEXT = (s.get LST_ERR_HEAD.NEXT + 1) %
    16 ∧ t.flows = s.flows ∧ t.out = s.out ∧ Frame (MBX_STAT.AWL_UP :: logFlds s) s t) ∧
  -- R196
  (∀ (s : State) (cb tbl : Nat), Answers (exec (.scrubPass cb tbl) s) fun t => t.get LST_ECC_CB.CORR = satAdd 16
    (s.get LST_ECC_CB.CORR) cb % 2 ^ 16 ∧ t.get LST_ECC_TBL.CORR = satAdd 16 (s.get LST_ECC_TBL.CORR) tbl % 2 ^ 16 ∧
    t.flows = s.flows ∧ t.out = s.out ∧ Frame [LST_ECC_CB.CORR, LST_ECC_TBL.CORR] s t)

/-- An engine is fenced by command or on failure, and its flows are re-homed (R213, R214, R215). -/
def Obligations.EngineFencing : Prop :=
  -- R213, R214: FEnn_CTRL.FENCE
  (∀ (s : State) (e : Engine) (n : Nat), s.flag (FE_STAT.FENCED e) = false → Answers (exec (.fence e [] n) s) fun t
    => t.get (FE_STAT.FENCED e) = 1 ∧ t.get (FE_STAT.CAUSE e) = 4 ∧ bit (t.get LST_ENGINES.FENCED) e = true ∧ t.get
    (FE_FENCE_TIME.TIME e) = s.now32 ∧ t.get (FE_FENCE_LOSS.PACKETS e) = 0 ∧ t.get (FE_FENCE_LOSS.SLOTS e) = min n 88
    ∧ t.integ.rehome = s.integ.rehome ++ [e.val] ∧ Raised EV.engineFenced s t ∧ t.flows = s.flows ∧ t.out = s.out ∧
    Frame ([FE_STAT.FENCED e, FE_STAT.CAUSE e, LST_ENGINES.FENCED, FE_FENCE_TIME.TIME e, FE_FENCE_LOSS.PACKETS e,
    FE_FENCE_LOSS.SLOTS e, LST_REHOME.MOVED, LST_REHOME.NO_ROOM] ++ logFlds s ++ evFlds EV.engineFenced ++ evFlds
    (EV.feFenced e)) s t) ∧
  -- an engine already fenced
  (∀ (s : State) (e : Engine) (lost : List (Nat × Nat)) (n : Nat), s.flag (FE_STAT.FENCED e) = true → Answers (exec
    (.fence e lost n) s) fun t => t = s) ∧
  -- R213: output re-check, staging RAM
  (∀ (s : State) (e : Engine) (ram : Bool) (n : Nat), s.flag (FE_STAT.FENCED e) = false → Answers (exec
    (.engineFailureDetect e ram [] n) s) fun t => t.get (FE_STAT.FENCED e) = 1 ∧ t.get (FE_STAT.CAUSE e) = (if ram
    then 3 else 1) ∧ bit (t.get LST_ENGINES.FENCED) e = true ∧ t.get (FE_FENCE_TIME.TIME e) = s.now32 ∧ t.get
    (FE_FENCE_LOSS.PACKETS e) = 0 ∧ t.get (FE_FENCE_LOSS.SLOTS e) = min n 88 ∧ t.integ.rehome = s.integ.rehome ++
    [e.val] ∧ Raised EV.engineFenced s t ∧ t.flows = s.flows ∧ t.out = s.out ∧ Frame ([FE_STAT.FENCED e,
    FE_STAT.CAUSE e, LST_ENGINES.FENCED, FE_FENCE_TIME.TIME e, FE_FENCE_LOSS.PACKETS e, FE_FENCE_LOSS.SLOTS e,
    LST_REHOME.MOVED, LST_REHOME.NO_ROOM] ++ logFlds s ++ evFlds EV.engineFenced ++ evFlds (EV.feFenced e)) s t) ∧
  -- R213: 2 us without delivery
  (∀ (s : State) (e : Engine) (n : Nat), s.flag (FE_STAT.FENCED e) = false → Answers (exec (.engineWatchdog e [] n)
    s) fun t => t.get (FE_STAT.FENCED e) = 1 ∧ t.get (FE_STAT.CAUSE e) = 2 ∧ bit (t.get LST_ENGINES.FENCED) e = true
    ∧ t.get (FE_FENCE_TIME.TIME e) = s.now32 ∧ t.get (FE_FENCE_LOSS.PACKETS e) = 0 ∧ t.get (FE_FENCE_LOSS.SLOTS e) =
    min n 88 ∧ t.integ.rehome = s.integ.rehome ++ [e.val] ∧ Raised EV.engineFenced s t ∧ t.flows = s.flows ∧ t.out =
    s.out ∧ Frame ([FE_STAT.FENCED e, FE_STAT.CAUSE e, LST_ENGINES.FENCED, FE_FENCE_TIME.TIME e,
    FE_FENCE_LOSS.PACKETS e, FE_FENCE_LOSS.SLOTS e, LST_REHOME.MOVED, LST_REHOME.NO_ROOM] ++ logFlds s ++ evFlds
    EV.engineFenced ++ evFlds (EV.feFenced e)) s t) ∧
  -- R215
  (∀ (s : State) (e : Engine) (i b : Nat), s.integ.rehome = [e.val] → (ctxRange.filter fun i => s.ctxLive i && s.get
    (CTX0.HOME i) == e.val) = [i] → i < 2048 → s.bestEngine = some b → b ≠ e → Answers (exec (.rehomeComplete e) s)
    fun t => t.get (CTX0.HOME i) = b ∧ t.get (CTX5.REHOMED i) = 1 ∧ t.get LST_REHOME.LAST_CTX = i ∧ t.get
    LST_REHOME.MOVED = (s.get LST_REHOME.MOVED + 1) % 256 ∧ t.integ.rehome = [] ∧ Raised EV.flowRehomed s t ∧ t.flows
    = s.flows ∧ t.out = s.out ∧ Frame ([CTX0.HOME i, CTX5.REHOMED i, LST_REHOME.LAST_CTX, LST_REHOME.MOVED,
    FE_STAT.HOMED e, FE_STAT.HOMED b] ++ evFlds EV.flowRehomed) s t)

/-- A word write reaches its register, a dark page, a closed page or the power die; a pop window gives one entry
  (R224, R225, R226, R227, R229, R232, R233, R235, R260). -/
def Obligations.WordsOfTheControlWindow : Prop :=
  -- R226: a register without further effect
  (∀ (s : State) (src : Src) (v : Nat), s.pageOn 3 = true → Answers (exec (.regWrite src CTM_ASYM.ASYM.addr 15 v) s)
    fun t => t.get CTM_ASYM.ASYM = v % 2 ^ 16 ∧ t = { s with regs := t.regs } ∧ Frame [CTM_ASYM.ASYM] s t) ∧
  -- R233
  (∀ (s : State) (src : Src) (p o v : Nat), p < 0xA0 → o < 0x1000 → o % 4 = 0 → p ≠ 1 → (pageInfo p).isSome = true →
    s.pageOn p = false → Answers (exec (.regWrite src (0x1000 * p + o) 15 v) s) fun t => t.get CHIP_ACCESS.DARK_SRC =
    s.srcCode src % 2 ^ 8 ∧ t.get CHIP_DARK_ADDR.OFFSET = 0x1000 * p + o ∧ Raised EV.writeToDark s t ∧ t.out = s.out
    ∧ Frame ([CHIP_ACCESS.DARK_SRC, CHIP_DARK_ADDR.OFFSET] ++ evFlds EV.writeToDark) s t) ∧
  -- R227
  (∀ (s : State) (src : Src) (p o v : Nat), p < 0xF0 → o < 0x1000 → o % 4 = 0 → pageInfo p = none → Answers (exec
    (.regWrite src (0x1000 * p + o) 15 v) s) fun t => t.get CHIP_ACCESS.ERR_SRC = s.srcCode src % 2 ^ 8 ∧ t.get
    CHIP_ACCESS.ERR_PAGE = (0x1000 * p + o) / 1024 ∧ Raised EV.accessErr s t ∧ t.out = s.out ∧ Frame
    ([CHIP_ACCESS.ERR_SRC, CHIP_ACCESS.ERR_PAGE] ++ evFlds EV.accessErr) s t) ∧
  -- R229: queued
  (∀ (s : State) (src : Src) (p o v : Nat), 0xA0 ≤ p → p < 0xC0 → o < 0x1000 → o % 4 = 0 → (pageInfo p).isSome = true
    → Answers (exec (.regWrite src (0x1000 * p + o) 15 v) s) fun t => t.ctl.pdq = s.ctl.pdq ++ [⟨0x1000 * p + o, 15,
    v % 2 ^ 32, src, none, 0⟩] ∧ t.regs = s.regs ∧ t.out = s.out ∧ Frame [] s t) ∧
  -- R229: a write of EVT_EN takes effect
  (∀ (s : State) (p v : Nat) (src : Src), s.ctl.pdq = [⟨0x1000 * p + 0x14, 15, v, src, none, 0⟩] → s.ctl.pdReads = []
    → 0xA0 ≤ p → p < 0xC0 → s.pageOn p = true → s.get (EVT_RAW p) = 0 → Answers (exec (.powerDieWriteDone) s) fun t
    => t.ctl.pdq = [] ∧ t.get (EVT_EN p) = v % 2 ^ (EVT_EN p).w ∧ t.out = s.out ∧ Frame [EVT_EN p] s t) ∧
  -- R235
  (∀ (s : State) (e : Nat) (l : List Nat), s.pageOn 6 = true → s.ctl.pdq = [] → s.ctl.awlLog = e :: l → Answers (exec
    (.popWindowRead 6) s) fun t => t.out = s.out ++ [.hostRead 0x6048 (leBytes 4 (2 ^ 31 + e % 2 ^ 31))] ∧ t =
    { s with ctl := { s.ctl with awlLog := l }, out := t.out } ∧ Frame [] s t) ∧
  -- R225: where the host puts the window
  (∀ (s : State) (b : Nat), s.isRoot = true → Answers (exec (.downstreamTlp (.bar0 b)) s) fun t => t.host.bar0 = b %
    2 ^ 64 / 2 ^ 26 * 2 ^ 26 + 4 ∧ t.host.memOn = s.host.memOn ∧ t.out = s.out ∧ Frame [] s t) ∧
  -- R260: a function-level reset takes it away
  (∀ (s : State), s.isRoot = true → Answers (exec (.flr) s) fun t => t.host.bar0 = 4 ∧ t.host.memOn = false ∧
    t.host.msix = [] ∧ t.host.msixOn = false ∧ Raised EV.flr s t ∧ t.out = s.out ∧ Frame (evFlds EV.flr) s t)

/-- PAGE_LOCK, SOFT_RESET, the event registers, vector delivery and the remote event ring (R230, R231, R240, R241,
  R242, R244). -/
def Obligations.PageHeadersAndEvents : Prop :=
  -- R231
  (∀ (s : State) (src : Src) (p : Nat), p < 0xA0 → s.pageOn p = true → (pageInfo p).isSome = true → (pageInfo p).any
    (fun i => i.lockable) = true → s.locked p = false → src ≠ .awlNormal → Answers (exec (.pageLock src p 0x4C4B) s)
    fun t => t.get (PAGE_LOCK.LOCKED p) = 1 ∧ t.out = s.out ∧ t.mem = s.mem ∧ Frame [PAGE_LOCK.LOCKED p] s t) ∧
  -- R167, R223: an engine page
  (∀ (s : State) (src : Src) (e : Engine), s.pageOn (0x40 + e.val) = true → src ≠ .awlNormal → Answers (exec
    (.softReset src (0x40 + e.val)) s) fun t => t.get (FE_STAT.FENCED e) = 0 ∧ t.get (FE_STAT.CAUSE e) = 0 ∧ bit
    (t.get LST_ENGINES.FENCED) e = false ∧ t.get (FE_FENCE_TIME.TIME e) = 0 ∧ t.get (FE_FENCE_LOSS.SLOTS e) = 0 ∧
    t.get (EVT_RAW (0x40 + e.val)) = 0 ∧ t.get (EVT_EN (0x40 + e.val)) = 0) ∧
  -- R240: nothing raised
  (∀ (s : State) (src : Src) (p v : Nat), p < 0xA0 → s.pageOn p = true → (pageInfo p).isSome = true → src ≠
    .awlNormal → s.get (EVT_RAW p) = 0 → Answers (exec (.evtEnWrite src p v) s) fun t => t.get (EVT_EN p) = v % 2 ^
    32 % 2 ^ (EVT_EN p).w ∧ t = { s with regs := t.regs } ∧ Frame [EVT_EN p] s t) ∧
  -- R240: an enabled event already raised
  (∀ (s : State) (src : Src) (p v b : Nat), p < 0xA0 → s.pageOn p = true → (pageInfo p).isSome = true → src ≠
    .awlNormal → b < eventsOf p → bit v b = true → bit (s.get (EVT_EN p)) b = false → bit (s.get (EVT_RAW p)) b =
    true → s.get (EVC_MAP.VECTOR (evFirst p + b)) < 32 → Answers (exec (.evtEnWrite src p v) s) fun t => bit (t.get
    EVC_ARMED.ARMED) (s.get (EVC_MAP.VECTOR (evFirst p + b))) = true ∧ t.out = s.out ∧ Frame [EVT_EN p,
    EVC_ARMED.ARMED] s t) ∧
  -- R240
  (∀ (s : State) (src : Src) (p v : Nat), p < 0xA0 → s.pageOn p = true → (pageInfo p).isSome = true → src ≠
    .awlNormal → Answers (exec (.evtClr src p v) s) fun t => (List.range 32).all (fun b => bit (t.get (EVT_RAW p)) b
    == (bit (s.get (EVT_RAW p)) b && !bit v b)) = true ∧ t = { s with regs := t.regs } ∧ Frame [EVT_RAW p] s t) ∧
  -- R230: debug open
  (∀ (s : State) (src : Src) (p v : Nat), p < 0xA0 → s.pageOn p = true → (pageInfo p).isSome = true → src ≠
    .awlNormal → s.dbgLevel ≠ 0 → Answers (exec (.evtSet src p v) s) fun t => (List.range (eventsOf p)).all (fun b =>
    !bit v b || bit (t.get (EVT_RAW p)) b) = true ∧ t.out = s.out ∧ Frame [EVT_RAW p, EVC_ARMED.ARMED] s t) ∧
  -- R230: debug closed
  (∀ (s : State) (src : Src) (p v : Nat), p < 0xA0 → s.pageOn p = true → (pageInfo p).isSome = true → src ≠
    .awlNormal → s.dbgLevel = 0 → Answers (exec (.evtSet src p v) s) fun t => t = s) ∧
  -- R240: an Awl master
  (∀ (s : State) (src : Src) (v : Nat), s.pageOn 5 = true → src = .awlSecure ∨ src = .awlNormal → Answers (exec
    (.evcSoft src v) s) fun t => (List.range 16).all (fun b => !bit v b || bit (t.get (EVT_RAW 5)) b) = true ∧ t.out
    = s.out ∧ Frame [EVT_RAW 5, EVC_ARMED.ARMED] s t) ∧
  -- R240: the host
  (∀ (s : State) (v : Nat), s.pageOn 5 = true → Answers (exec (.evcSoft .host v) s) fun t => t = s) ∧
  -- R241, R242: by MSI-X
  (∀ (s : State) (v : Fin 32), s.isRoot = true → s.timing v = false → bit (s.get EVC_ARMED.ARMED) v = true →
    s.ctl.armings.getD v 0 ≤ 1 → s.host.msixOn = true → (s.msixEnt v).mask = false → s.host.msixFMask = false →
    Answers (exec (.vectorDelivery v) s) fun t => bit (t.get EVC_ARMED.ARMED) v = false ∧ t.timing v = decide (0 <
    s.coalesce v) ∧ t.out = s.out ++ [.msix v] ∧ Frame [EVC_ARMED.ARMED] s t) ∧
  -- R241: one armed while its timer runs waits
  (∀ (s : State) (v : Fin 32), s.timing v = true → Answers (exec (.vectorDelivery v) s) fun t => t = s) ∧
  -- R243, R244
  (∀ (s : State) (q : CtlPkt), s.isRoot = true → byteAt q.opdata 0 < 0x16 → s.get EVC_RING_HEAD.HEAD < 1023 → s.get
    EVC_RING_HEAD.HEAD + 1 ≠ s.get EVC_RING_TAIL.TAIL → s.get EVC_CTRL.REMOTE_VEC < 32 → Answers (exec
    (.eventPacketRx q true) s) fun t => t.get (EVRING.DATA (2 * s.get EVC_RING_HEAD.HEAD)) = byteAt q.opdata 0 +
    byteAt q.opdata 1 * 2 ^ 16 + q.src % 256 * 2 ^ 8 ∧ t.get (EVRING.DATA (2 * s.get EVC_RING_HEAD.HEAD + 1)) = leNat
    (byteSlice q.opdata 2 4) ∧ t.get EVC_RING_HEAD.HEAD = s.get EVC_RING_HEAD.HEAD + 1 ∧ bit (t.get EVC_ARMED.ARMED)
    (s.get EVC_CTRL.REMOTE_VEC) = true ∧ t.chain = s.chain ∧ t.out = s.out ∧ Frame [EVRING.DATA (2 * s.get
    EVC_RING_HEAD.HEAD), EVRING.DATA (2 * s.get EVC_RING_HEAD.HEAD + 1), EVC_RING_HEAD.HEAD, EVC_ARMED.ARMED] s t)

/-- Control READ, WRITE and MAILBOX requests, responses, re-sending, and the replay cache (R226, R228, R238, R239,
  R247, R251, R258, R260, R504). -/
def Obligations.ControlOperations : Prop :=
  -- R226, R504: one word
  (∀ (s : State) (n : Port) (q : CtlPkt) (p : Nat), s.hubId ≠ 255 → s.ctl.pdReads = [] → s.ctl.pdq = [] → s.routeTo
    q.src = some p → s.flag (WLT_LINK_STAT.ADMITTED p) = true → readOk { q with op := 0 } = true → q.bytes = 4 →
    isPop q.offset = false → Answers (exec (.controlRead n q) s) fun t => t.out = s.out ++ [.ctl p
    (({ q with op := 0 } : CtlPkt).answer s.hubId 0 (leBytes 4 (s.readWord q.offset).2))] ∧ t.ctl = s.ctl ∧ Frame []
    s t) ∧
  -- R504: BAD_ADDR
  (∀ (s : State) (n : Port) (q : CtlPkt) (p : Nat), s.hubId ≠ 255 → s.ctl.pdReads = [] → s.ctl.pdq = [] → s.routeTo
    q.src = some p → s.flag (WLT_LINK_STAT.ADMITTED p) = true → readOk { q with op := 0 } = false → Answers (exec
    (.controlRead n q) s) fun t => t.out = s.out ++ [.ctl p (({ q with op := 0 } : CtlPkt).answer s.hubId 5 [])] ∧
    t.ctl = s.ctl ∧ Frame [] s t) ∧
  -- R239, R504
  (∀ (s : State) (n : Port) (q : CtlPkt) (p : Nat), s.hubId ≠ 255 → s.ctl.pdReads = [] → s.ctl.pdq = [] → s.routeTo
    q.src = some p → s.flag (WLT_LINK_STAT.ADMITTED p) = true → q.offset = CTM_ASYM.ASYM.addr → q.bytes = 4 → writeOk
    { q with op := 1 } = true → s.pageOn 3 = true → s.ctl.cache = [] → Answers (exec (.controlWrite n q) s) fun t =>
    t.get CTM_ASYM.ASYM = leNat (byteSlice q.data 0 4) % 2 ^ 16 ∧ t.out = s.out ++ [.ctl p (({ q with op := 1 } :
    CtlPkt).answer s.hubId 0 [])] ∧ t.ctl.cache = [⟨q.src, q.tag, 1, q.offset, some (({ q with op := 1 } :
    CtlPkt).answer s.hubId 0 [])⟩] ∧ Frame [CTM_ASYM.ASYM] s t) ∧
  -- R247
  (∀ (s : State) (n : Port) (q : CtlPkt), s.ctl.pdReads = [] → s.cached { q with op := 6 } = none → s.get
    MBX_STAT.QUEUED < 4 → s.ctl.cache = [] → Answers (exec (.mailboxOpRx n q) s) fun t => t.ctl.mbxQueue =
    s.ctl.mbxQueue ++ [mbxNew (leNat (byteSlice q.opdata 0 2)) (byteAt q.opdata 2) (byteSlice q.data 0 64) (some
    (n.val, { q with op := 6 }))] ∧ t.get MBX_STAT.QUEUED = (t.ctl.mbxQueue.filter fun (c : MbxCmd) =>
    c.remote.isSome).length % 2 ^ 3 ∧ t.out = s.out ∧ Frame [MBX_STAT.QUEUED] s t) ∧
  -- R238: a final response
  (∀ (s : State) (q : CtlPkt) (r : OutReq), s.ctl.reqs.find? q.tag = some r → q.status ≠ 16 → r.purpose = 0 → Answers
    (exec (.controlResponseRx q) s) fun t => t.ctl.reqs = s.ctl.reqs.del q.tag ∧ t.out = s.out ∧ Frame [] s t) ∧
  -- R238: IN_PROGRESS
  (∀ (s : State) (q : CtlPkt) (r : OutReq), s.ctl.reqs.find? q.tag = some r → q.status = 16 → Answers (exec
    (.controlResponseRx q) s) fun t => t.ctl.reqs.find? q.tag = some { r with attempts := 0 } ∧ t.out = s.out ∧ Frame
    [] s t) ∧
  -- R238: INTERVAL without a response
  (∀ (s : State) (tag : Nat) (r : OutReq) (p : Nat), s.ctl.reqs.find? tag = some r → r.attempts < s.get
    CHIP_CTL_RETRY.RETRIES → r.pkt.via = false → s.routeTo r.pkt.dst = some p → s.flag (WLT_LINK_STAT.ADMITTED p) =
    true → Answers (exec (.controlRetry tag) s) fun t => t.ctl.reqs.find? tag = some
    { r with attempts := r.attempts + 1 } ∧ t.out = s.out ++ [.ctl p r.pkt] ∧ Frame [] s t) ∧
  -- R239
  (∀ (s : State) (src tag : Nat), Answers (exec (.replayCacheExpiry src tag) s) fun t => t.ctl.cache =
    s.ctl.cache.filter (fun (e : CacheEnt) => !(e.src == src && e.tag == tag && e.answer.isSome)) ∧ t.out = s.out ∧
    Frame [] s t) ∧
  -- R238, R258: the control WRITE of a far root port
  (∀ (s : State) (e : Nat) (rp : Fin 2) (old : Nat) (dis : Bool) (p : Nat), s.isRoot = true → s.endBind e = true →
    s.routeTo (s.get (CTX1.END_HUB (s.endCtx e))) = some p → s.flag (WLT_LINK_STAT.ADMITTED p) = true → Answers (exec
    (.endPortLinkControl e rp old false dis) s) fun t => t.out = s.out ++ [.ctl p (s.ownReq (reqPkt 1 (s.get
    (CTX1.END_HUB (s.endCtx e))) 0 (0x63040 + 0x20 * (rp.val)) 4 (leBytes 4 (rpCtrlWord old false dis))))] ∧
    (t.ctl.reqs.find? s.freshTag).map (fun (r : OutReq) => (r.attempts, r.purpose)) = some (0, 0) ∧ Frame [] s t) ∧
  -- R260: the control WRITE that carries a reset on
  (∀ (s : State) (e rp old p : Nat), s.isRoot = true → (List.range 272).filter s.endBind = [e] → s.flag (endPresent
    e) = false → rp < 2 → s.routeTo (s.get (CTX1.END_HUB (s.endCtx e))) = some p → s.flag (WLT_LINK_STAT.ADMITTED p)
    = true → Answers (exec (.pcieUpstreamReset 1 [(e, rp, old)]) s) fun t => t.out = s.out ++ [.ctl p (s.ownReq
    (reqPkt 1 (s.get (CTX1.END_HUB (s.endCtx e))) 0 (0x63040 + 0x20 * (rp)) 4 (leBytes 4 (rpCtrlWord old true (bit
    old 1)))))] ∧ t.host.ports = [] ∧ SameBytes s t) ∧
  -- R258: the status word that a control READ then finds
  (∀ (s : State) (v : Nat) (g : Option Nat) (speed width : Nat) (present : Bool), s.isRoot = false → linkShape 4
    width speed = true → Answers (exec (.rootPortLinkChange v g true speed width present) s) fun t => t.get
    (PCIE_RP_STAT.DL_ACTIVE (v % 2)) = 1 ∧ t.get (PCIE_RP_STAT.SPEED (v % 2)) = speed ∧ t.get (PCIE_RP_STAT.WIDTH (v
    % 2)) = width ∧ t.out = s.out ∧ Frame [PCIE_RP_STAT.DL_ACTIVE (v % 2), PCIE_RP_STAT.SPEED (v % 2),
    PCIE_RP_STAT.WIDTH (v % 2), PCIE_RP_STAT.PRESENT (v % 2)] s t) ∧
  -- R258: HOT_RESET
  (∀ (s : State) (n : Fin 2), Answers (exec (.hotReset n) s) fun t => t.out = s.out ++ [.pcieReset n] ∧ t.ctl = s.ctl
    ∧ Frame [] s t) ∧
  -- R251
  (∀ (s : State) (width speed : Nat), s.isRoot = true → linkShape 8 width speed = true → Answers (exec (.pcieLinkUp
    width speed) s) fun t => t.get PCIE_STAT.WIDTH = width ∧ t.get PCIE_STAT.SPEED = speed ∧ t.get
    PCIE_STAT.DL_ACTIVE = 1 ∧ Raised EV.pcieLinkUp s t ∧ t.ctl.reqs = s.ctl.reqs ∧ t.out = s.out ∧ Frame
    ([PCIE_STAT.WIDTH, PCIE_STAT.SPEED, PCIE_STAT.DL_ACTIVE, PCIE_STAT.PERST] ++ evFlds EV.pcieLinkUp) s t)

/-- Mailbox commands at the head of the Awl's queue: results at once, remote operations sent, completion (R146, R245,
  R246, R248, R249, R250, R506). -/
def Obligations.MailboxCommands : Prop :=
  -- ECHO
  (∀ (s : State) (c : MbxCmd), s.ctl.mbxQueue = [c] → c.cmd = 0x0001 → s.awlServes = true → c.result = none → c.begun
    = false → Answers (exec (.echo .run) s) fun t => t.ctl.mbxQueue.map (fun (d : MbxCmd) => d.result) = [some (0,
    byteSlice c.req 0 60)] ∧ t.out = s.out ∧ Frame [] s t) ∧
  -- R246: the doorbell, with a command ahead
  (∀ (s : State) (tag : Nat), s.flag MBX_STAT.BUSY = false → s.ctl.mbxQueue ≠ [] → Answers (exec (.echo (.ring tag))
    s) fun t => t.get MBX_STAT.BUSY = 1 ∧ t.get MBX_RES0.VALID = 0 ∧ t.ctl.mbxQueue = s.ctl.mbxQueue ++ [mbxNew 1
    (tag % 256) (s.windowBytes MBX_REQ.DATA 16) none] ∧ t.out = s.out ∧ Frame [MBX_STAT.BUSY, MBX_RES0.VALID,
    MBX_STAT.QUEUED] s t) ∧
  -- CHIP_INFO
  (∀ (s : State) (c : MbxCmd), s.ctl.mbxQueue = [c] → c.cmd = 0x0002 → s.awlServes = true → c.result = none → c.begun
    = false → Answers (exec (.chipInfo .run) s) fun t => t.ctl.mbxQueue.map (fun (d : MbxCmd) => d.result) = [some
    (0, s.chipInfo)] ∧ s.chipInfo.take 2 = [0x40, 0x96] ∧ t.out = s.out ∧ Frame [] s t) ∧
  -- CHAIN_MAP with no hub below the Root
  (∀ (s : State) (c : MbxCmd), s.ctl.mbxQueue = [c] → c.cmd = 0x0010 → s.awlServes = true → c.result = none → c.begun
    = false → s.isRoot = true → s.chain.hubs = [] → byteAt c.req 0 = 0 → Answers (exec (.chainMap .run) s) fun t =>
    t.ctl.mbxQueue.map (fun (d : MbxCmd) => d.result) = [some (0, [1, 0, 0, 0, 0, 255, 0, 0, BitVec.ofNat 8 (2 *
    s.get CTM_STAT.FREE)])] ∧ t.out = s.out ∧ Frame [] s t) ∧
  -- REMOTE_READ
  (∀ (s : State) (c : MbxCmd) (p : Nat), s.ctl.mbxQueue = [c] → c.cmd = 0x0011 → s.awlServes = true → c.result = none
    → c.begun = false → s.isRoot = true → remHub c ≠ s.hubId → s.routeTo (remHub c) = some p → s.flag
    (WLT_LINK_STAT.ADMITTED p) = true → bytesOk (remBytes c) 60 = true → Answers (exec (.remoteRead .run) s) fun t =>
    t.out = s.out ++ [.ctl p (s.ownReq (reqPkt 0 (remHub c) 0 (remOff c) (remBytes c) []))] ∧ Frame [] s t) ∧
  -- REMOTE_WRITE
  (∀ (s : State) (c : MbxCmd) (p : Nat), s.ctl.mbxQueue = [c] → c.cmd = 0x0012 → s.awlServes = true → c.result = none
    → c.begun = false → s.isRoot = true → remHub c ≠ s.hubId → s.routeTo (remHub c) = some p → s.flag
    (WLT_LINK_STAT.ADMITTED p) = true → bytesOk (remBytes c) 48 = true → remOff c + remBytes c ≤ 0x01A0000 → Answers
    (exec (.remoteWrite .run) s) fun t => t.out = s.out ++ [.ctl p (s.ownReq (reqPkt 1 (remHub c) 0 (remOff c)
    (remBytes c) (byteSlice c.req 16 (remBytes c))))] ∧ Frame [] s t) ∧
  -- REMOTE_WRITE of the chain route table is denied
  (∀ (s : State) (c : MbxCmd), s.ctl.mbxQueue = [c] → c.cmd = 0x0012 → s.awlServes = true → c.result = none → c.begun
    = false → s.isRoot = true → bytesOk (remBytes c) 48 = true → remOff c = 0x01A0010 → Answers (exec (.remoteWrite
    .run) s) fun t => t.ctl.mbxQueue.map (fun (d : MbxCmd) => d.result) = [some (14, [])] ∧ t.out = s.out ∧ Frame []
    s t) ∧
  -- REMOTE_READ_DMA
  (∀ (s : State) (c : MbxCmd) (p : Nat), s.ctl.mbxQueue = [c] → c.cmd = 0x0013 → s.awlServes = true → c.result = none
    → c.begun = false → s.isRoot = true → remHub c ≠ s.hubId → s.routeTo (remHub c) = some p → s.flag
    (WLT_LINK_STAT.ADMITTED p) = true → bytesOk (remBytes c) 4096 = true → leNat (byteSlice c.req 16 8) % 4 = 0 →
    Answers (exec (.remoteReadDma .run) s) fun t => t.out = s.out ++ [.ctl p (s.ownReq (reqPkt 0 (remHub c) 0 (remOff
    c) (remBytes c) []))] ∧ Frame [] s t) ∧
  -- REMOTE_MBX
  (∀ (s : State) (c : MbxCmd) (p : Nat), s.ctl.mbxQueue = [c] → c.cmd = 0x0014 → s.awlServes = true → c.result = none
    → c.begun = false → s.isRoot = true → remHub c ≠ s.hubId → s.routeTo (remHub c) = some p → s.flag
    (WLT_LINK_STAT.ADMITTED p) = true → Answers (exec (.remoteMbx .run) s) fun t => t.out = s.out ++ [.ctl p
    (s.ownReq (mbxReq c))] ∧ Frame [] s t) ∧
  -- PATH_OPEN: an end hub is unknown
  (∀ (s : State) (c : MbxCmd) (pick : List Nat) (pid lead : Nat), s.ctl.mbxQueue = [c] → c.cmd = 0x0020 → s.awlServes
    = true → c.result = none → c.begun = false → s.isRoot = true → byteAt c.req 0 = 0 → byteAt c.req 1 = 2 → byteAt
    c.req 5 = 4 → byteAt c.req 9 = 5 → leNat (byteSlice c.req 6 2) < 2048 → leNat (byteSlice c.req 10 2) < 2048 →
    leNat (byteSlice c.req 12 2) ≤ 49600 → byteAt c.req 8 ≠ 0 → s.chain.hubs = [] → Answers (exec (.pathOpen .run
    pick pid lead) s) fun t => t.ctl.mbxQueue.map (fun (d : MbxCmd) => d.result) = [some (1, [])] ∧ t.chain = s.chain
    ∧ t.out = s.out ∧ Frame [] s t) ∧
  -- PATH_OPEN: a path from one attachment of the Root to another
  (∀ (s : State) (c : MbxCmd) (pid lead : Nat), s.ctl.mbxQueue = [c] → c.cmd = 0x0020 → s.awlServes = true → c.result
    = none → c.begun = false → s.isRoot = true → s.hubId = 0 → s.chain.hubs = [] → s.chain.paths = [] → s.ctxLive 2 =
    false → s.domainOn 3 = true → s.bestEngine.isSome = true → s.ctl.pdq = [] → s.get LST_CTX_STAT.BUSY = 0 → c.tags
    = [] → c.fate = 0 → c.got = [] → c.req = [1, 3, 0, 0, 0, 4, 1, 0, 0, 5, 1, 0, 8, 0, 8, 0] ++ List.replicate 48 0
    → Answers (exec (.pathOpen .run [2] pid lead) s) fun t => t.chain.paths = [(pid % 65536, [⟨0, 4, 5, 2⟩])] ∧ t.get
    (CTX5.ACTIVE 2) = 1 ∧ t.get (CTX2.QUOTA 2) = 8 ∧ t.get (CTX1.OUT_ATT 2) = 5 ∧ t.ctl.mbxQueue.map (fun (d :
    MbxCmd) => d.result) = [some (0, leBytes 2 pid ++ [0, 0, 2, 0, 0, 0])] ∧ SameBytes s t ∧ t.disp = s.disp) ∧
  -- PATH_CLOSE: no such path
  (∀ (s : State) (c : MbxCmd), s.ctl.mbxQueue = [c] → c.cmd = 0x0021 → s.awlServes = true → c.result = none → c.begun
    = false → s.isRoot = true → s.chain.paths = [] → Answers (exec (.pathClose .run) s) fun t => t.ctl.mbxQueue.map
    (fun (d : MbxCmd) => d.result) = [some (13, [])] ∧ t.chain = s.chain ∧ t.out = s.out ∧ Frame [] s t) ∧
  -- PATH_CLOSE: one hop of the Root, torn down
  (∀ (s : State) (c : MbxCmd), s.ctl.mbxQueue = [c] → c.cmd = 0x0021 → s.awlServes = true → c.result = none → c.begun
    = false → s.isRoot = true → s.hubId = 0 → s.chain.paths = [(0, [⟨0, 4, 5, 7⟩])] → leNat (byteSlice c.req 0 3) = 0
    → s.flag (CTX5.ACTIVE 7) = true → s.pageOn 0x30 = true → s.pageOpen 0x30 = true → s.ctl.pdq = [] → s.locked 0x30
    = false → Answers (exec (.pathClose .run) s) fun t => t.chain.paths = [] ∧ t.get (CTX5.ACTIVE 7) = 0 ∧
    t.ctl.mbxQueue.map (fun (d : MbxCmd) => d.result) = [some (0, [1])] ∧ SameBytes s t ∧ t.disp = s.disp) ∧
  -- R249
  (∀ (s : State) (c : MbxCmd) (st : Nat) (d : List Byte), s.ctl.mbxQueue = [c] → c.result = some (st, d) → c.remote =
    none → c.cmd = 1 → d.length = 60 → s.awlServes = true → Answers (exec (.mbxDone) s) fun t => t.ctl.mbxQueue = []
    ∧ t.get MBX_STAT.BUSY = 0 ∧ t.get MBX_RES0.STATUS = st % 2 ^ 7 ∧ t.get MBX_RES0.TAG = c.tag % 256 ∧ t.get
    MBX_RES0.VALID = 1 ∧ t.get MBX_RES0.SEQ = (s.get MBX_RES0.SEQ + 1) % 65536 ∧ (List.range 15).all (fun i => t.get
    (MBX_RES.DATA i) == leNat (byteSlice d (4 * i) 4)) = true ∧ Raised EV.mbxDone s t ∧ t.out = s.out ∧ Frame
    ([MBX_STAT.BUSY, MBX_STAT.QUEUED, MBX_RES0.STATUS, MBX_RES0.TAG, MBX_RES0.VALID, MBX_RES0.SEQ] ++ (List.range
    15).map MBX_RES.DATA ++ evFlds EV.mbxDone) s t) ∧
  -- R248: 2 s
  (∀ (s : State) (c : MbxCmd), s.ctl.mbxQueue = [c] → c.remote = none → Answers (exec (.mbxTimeout) s) fun t =>
    t.ctl.mbxQueue = [] ∧ t.get MBX_STAT.BUSY = 0 ∧ t.get MBX_RES0.STATUS = 11 ∧ t.get MBX_RES0.TAG = c.tag % 256 ∧
    t.get MBX_RES0.VALID = 1 ∧ Raised EV.mbxDone s t ∧ t.out = s.out ∧ Frame ([MBX_STAT.BUSY, MBX_STAT.QUEUED,
    MBX_RES0.STATUS, MBX_RES0.TAG, MBX_RES0.VALID, MBX_RES0.SEQ] ++ (List.range 15).map MBX_RES.DATA ++ evFlds
    EV.mbxDone) s t)

/-- PCI Express: resets, BARs, routing of TLPs into and out of tunnels, link credit, end-port controls and link
  status (R225, R251, R253, R256, R257, R258, R259, R260, R261, R262, R263). -/
def Obligations.StorageAndPciExpress : Prop :=
  -- R260: a hot reset
  (∀ (s : State) (far : List (Nat × Nat × Nat)), s.isRoot = true → Answers (exec (.pcieUpstreamReset 1 far) s) fun t
    => t.host.ports = [] ∧ t.host.bar0 = 4 ∧ t.host.memOn = false ∧ t.host.queue = s.host.queue.filter (fun x => x.1
    != 16) ∧ t.host.msix = [] ∧ t.host.msixOn = false ∧ t.get PCIE_STAT.WIDTH = 0 ∧ t.get PCIE_STAT.SPEED = 0 ∧ t.get
    PCIE_STAT.DL_ACTIVE = 0 ∧ (List.range 16).all (fun v => t.get (PCIE_VDP.GROUP_ACTIVE v) == s.get
    (PCIE_VDP.GROUP_ACTIVE v)) = true ∧ Raised EV.pcieReset s t ∧ ((List.range 272).all (fun e => !s.endBind e) =
    true → t.flows = s.flows) ∧ SameBytes s t) ∧
  -- R254, R260: a fundamental reset
  (∀ (s : State) (far : List (Nat × Nat × Nat)), s.isRoot = true → Answers (exec (.pcieUpstreamReset 0 far) s) fun t
    => t.host.ports = [] ∧ t.get PCIE_STAT.PERST = 0 ∧ (List.range 16).all (fun v => t.get (PCIE_VDP.GROUP_ACTIVE v)
    == s.get (PCIE_VDP.GROUP v) % 2) = true ∧ Raised EV.pcieReset s t ∧ ((List.range 272).all (fun e => !s.endBind e)
    = true → t.flows = s.flows) ∧ SameBytes s t) ∧
  -- R260: the reset reaches the root port of a bound end port
  (∀ (s : State) (e rp old p : Nat), s.isRoot = true → (List.range 272).filter s.endBind = [e] → s.flag (endPresent
    e) = false → rp < 2 → s.routeTo (s.get (CTX1.END_HUB (s.endCtx e))) = some p → s.flag (WLT_LINK_STAT.ADMITTED p)
    = true → Answers (exec (.pcieUpstreamReset 1 [(e, rp, old)]) s) fun t => t.out = s.out ++ [.ctl p (s.ownReq
    (reqPkt 1 (s.get (CTX1.END_HUB (s.endCtx e))) 0 (0x63040 + 0x20 * (rp)) 4 (leBytes 4 (rpCtrlWord old true (bit
    old 1)))))] ∧ Raised EV.pcieReset s t ∧ SameBytes s t) ∧
  -- R260
  (∀ (s : State), s.isRoot = true → Answers (exec (.flr) s) fun t => t.host.msix = [] ∧ t.host.msixOn = false ∧
    t.host.ports = s.host.ports ∧ Raised EV.flr s t ∧ t.out = s.out ∧ Frame (evFlds EV.flr) s t) ∧
  -- R256: into the forward context
  (∀ (s : State) (x : Tlp) (e : Nat), s.isRoot = true → x.malformed = false → x.intx = false → x.pmeTurnOff = false →
    x.cfg = none → s.windowOf x = none → s.tableOf x = none → s.routeTlp x = some e → s.endReady e = true →
    s.adapterOn 4 = true → s.flag (CTX5.DRAINING (s.endCtx e)) = false → s.get (CTX0.CLASS (s.endCtx e)) = 2 → s.get
    (CTX0.IN_ATT (s.endCtx e)) = 4 → s.flag (FE_STAT.FENCED (s.get (CTX0.HOME (s.endCtx e)))) = false → s.flag
    (CTX0.SEAL (s.endCtx e)) = false → s.rlbRoom (s.endCtx e) (Tlp.toPkt x).n = true → x.ep = false → Answers (exec
    (.downstreamTlp (.route x)) s) fun t => t.flows.waiting.dropLast = s.flows.waiting ∧
    (t.flows.waiting.getLast?.map fun q => (q.ctx, q.inAtt, q.pkt.hdr.mx, q.pkt.hdr.info)) = some ((s.endCtx e), 4,
    (Tlp.toPkt x).hdr.mx, (Tlp.toPkt x).hdr.info) ∧ (t.rlbInOf (s.endCtx e)).kept.length = (s.rlbInOf (s.endCtx
    e)).kept.length + 1 ∧ t.out = s.out ∧ SameBytes s t) ∧
  -- R256: no port takes it
  (∀ (s : State) (x : Tlp), s.isRoot = true → x.malformed = false → x.intx = false → x.pmeTurnOff = false →
    s.windowOf x = none → s.tableOf x = none → s.routeTlp x = none → x.posted = false → x.completion = false →
    Answers (exec (.downstreamTlp (.route x)) s) fun t => t.out = s.out ++ [.unsupported 16] ∧ t.flows = s.flows ∧
    t.host = s.host ∧ Frame [] s t) ∧
  -- R253: an MSI-X table entry
  (∀ (s : State) (v addr data : Nat) (mask : Bool), s.isRoot = true → v < 64 → s.host.msixOn = false → Answers (exec
    (.downstreamTlp (.msixEntry v addr data mask)) s) fun t => t.msixEnt v = ⟨addr, data, mask, (s.msixEnt
    v).pending⟩ ∧ t.out = s.out ∧ Frame [] s t) ∧
  -- R225: BAR0 keeps the bits of a 64 MiB, 64-bit base
  (∀ (s : State) (b : Nat), s.isRoot = true → Answers (exec (.downstreamTlp (.bar0 b)) s) fun t => t.host.bar0 = b %
    2 ^ 64 / 2 ^ 26 * 2 ^ 26 + 4 ∧ t.host.bar2 = s.host.bar2 ∧ t.out = s.out ∧ Frame [] s t) ∧
  -- R225: what the host reads of it
  (∀ (s : State), s.isRoot = true → Answers (exec (.downstreamTlp (.barRead 0)) s) fun t => t =
    { s with out := s.out ++ [.barRead s.host.bar0] }) ∧
  -- R259, R263: upstream, with link credit
  (∀ (s : State) (x : Tlp), s.isRoot = true → x.ep = false → s.host.queue = [] → Answers (exec (.upstreamTlp x false)
    s) fun t => t.out = s.out ++ (if Config.linkCredit 16 x.kind 0 s.uptime = true then [.tlp 16 (Tlp.bytes x)] else
    []) ∧ t.host.queue = (if Config.linkCredit 16 x.kind 0 s.uptime = true then [] else [(16, x)]) ∧ t.flows =
    s.flows ∧ Frame [] s t) ∧
  -- R263: a posted request or a completion passes a non-posted request
  (∀ (s : State) (x y : Tlp), s.isRoot = true → x.ep = false → s.host.queue = [(16, y)] → y.kind = 1 → x.kind ≠ 1 →
    Answers (exec (.upstreamTlp x false) s) fun t => t.out = s.out ++ (if Config.linkCredit 16 y.kind 0 s.uptime =
    true then [.tlp 16 (Tlp.bytes y)] else []) ++ (if Config.linkCredit 16 x.kind 1 s.uptime = true then [.tlp 16
    (Tlp.bytes x)] else []) ∧ t.flows = s.flows ∧ Frame [] s t) ∧
  -- R261: from the tunnel onto the link of the root port
  (∀ (s : State) (p : FlowPkt) (x : Tlp), s.isRoot = false → s.flows.admitted = [p] → p.decided = true → p.ctx ≠ 2048
    → p.begun = false → s.domainOn 10 = true → p.bad = false → p.pkt.hdr.poison = false → p.pkt.hdr.sealed = false →
    s.flows.held = [] → p.outAtt = 4 → p.pkt.hdr.cls = 3 → isFlowControl p.pkt = false → s.flag (PCIE_RP_CTX.BIND
    (p.outLabel % 2)) = true → s.host.queue = [] → bit p.pkt.hdr.mx 2 = false → x =
    ({ p.pkt with hdr := { p.pkt.hdr with flow := p.outLabel } } : Pkt).toTlp → Answers (exec (.adapterPacketDecided
    4) s) fun t => t.flows.admitted = [] ∧ t.out = s.out ++ (if Config.linkCredit (p.outLabel % 2) x.kind 0 s.uptime
    = true then [.tlp (p.outLabel % 2) (Tlp.bytes x)] else []) ∧ Frame [CTX6.OCCUPANCY p.ctx, CTXP3.ADMITTED_OCC
    p.ctx] s t) ∧
  -- R260: a completion from before the reset
  (∀ (s : State) (x : Tlp), s.isRoot = true → x.completion = true → Answers (exec (.upstreamTlp x true) s) fun t =>
    t.get PCIE_DROP.DISCARDED = satAdd 16 (s.get PCIE_DROP.DISCARDED) 1 % 2 ^ 16 ∧ t.out = s.out ∧ Frame
    [PCIE_DROP.DISCARDED] s t) ∧
  -- R261: into the reverse context
  (∀ (s : State) (n : Fin 2) (x : Tlp), s.isRoot = false → x.malformed = false → x.intx = false → s.flag
    (PCIE_RP_CTX.BIND n) = true → s.flag (CTX5.ACTIVE (s.get (PCIE_RP_CTX.REV_CTX n))) = true → s.flag (CTX5.HELD
    (s.get (PCIE_RP_CTX.REV_CTX n))) = false → s.adapterOn 4 = true → s.flag (CTX5.DRAINING (s.get
    (PCIE_RP_CTX.REV_CTX n))) = false → s.get (CTX0.CLASS (s.get (PCIE_RP_CTX.REV_CTX n))) = 2 → s.get (CTX0.IN_ATT
    (s.get (PCIE_RP_CTX.REV_CTX n))) = 4 → s.flag (FE_STAT.FENCED (s.get (CTX0.HOME (s.get (PCIE_RP_CTX.REV_CTX
    n))))) = false → s.flag (CTX0.SEAL (s.get (PCIE_RP_CTX.REV_CTX n))) = false → s.rlbRoom (s.get
    (PCIE_RP_CTX.REV_CTX n)) (Tlp.toPkt x).n = true → x.ep = false → Answers (exec (.rootPortTlpRx n x) s) fun t =>
    t.flows.waiting.dropLast = s.flows.waiting ∧ (t.flows.waiting.getLast?.map fun q => (q.ctx, q.inAtt,
    q.pkt.hdr.mx, q.pkt.hdr.info)) = some ((s.get (PCIE_RP_CTX.REV_CTX n)), 4, (Tlp.toPkt x).hdr.mx, (Tlp.toPkt
    x).hdr.info) ∧ (t.rlbInOf (s.get (PCIE_RP_CTX.REV_CTX n))).kept.length = (s.rlbInOf (s.get (PCIE_RP_CTX.REV_CTX
    n))).kept.length + 1 ∧ t.out = s.out ∧ SameBytes s t) ∧
  -- R261: not bound
  (∀ (s : State) (n : Fin 2) (x : Tlp), s.isRoot = false → x.malformed = false → x.intx = false → s.flag
    (PCIE_RP_CTX.BIND n) = false → x.posted = false → x.completion = false → Answers (exec (.rootPortTlpRx n x) s)
    fun t => t.get PCIE_DROP.UR_SENT = satAdd 16 (s.get PCIE_DROP.UR_SENT) 1 % 2 ^ 16 ∧ t.out = s.out ++
    [.unsupported n] ∧ t.flows = s.flows ∧ Frame [PCIE_DROP.UR_SENT] s t) ∧
  -- R258: to the root port behind end port e
  (∀ (s : State) (e : Nat) (rp : Fin 2) (old : Nat) (reset dis : Bool) (p : Nat), s.isRoot = true → s.endBind e =
    true → s.routeTo (s.get (CTX1.END_HUB (s.endCtx e))) = some p → s.flag (WLT_LINK_STAT.ADMITTED p) = true →
    Answers (exec (.endPortLinkControl e rp old reset dis) s) fun t => t.out = s.out ++ [.ctl p (s.ownReq (reqPkt 1
    (s.get (CTX1.END_HUB (s.endCtx e))) 0 (0x63040 + 0x20 * (rp.val)) 4 (leBytes 4 (rpCtrlWord old reset dis))))] ∧
    t.ctl.nextTag = (s.freshTag + 1) % 65536 ∧ Frame [] s t) ∧
  -- R258: in a spoke
  (∀ (s : State) (v : Nat) (g : Option Nat) (up : Bool) (speed width : Nat) (present : Bool), s.isRoot = false → (up
    = true → linkShape 4 width speed = true) → Answers (exec (.rootPortLinkChange v g up speed width present) s) fun
    t => t.get (PCIE_RP_STAT.DL_ACTIVE (v % 2)) = b2n up ∧ t.get (PCIE_RP_STAT.SPEED (v % 2)) = speed % 2 ^
    (PCIE_RP_STAT.SPEED 0).w ∧ t.get (PCIE_RP_STAT.WIDTH (v % 2)) = width % 2 ^ (PCIE_RP_STAT.WIDTH 0).w ∧ t.get
    (PCIE_RP_STAT.PRESENT (v % 2)) = b2n present ∧ t = { s with regs := t.regs } ∧ Frame [PCIE_RP_STAT.DL_ACTIVE (v %
    2), PCIE_RP_STAT.SPEED (v % 2), PCIE_RP_STAT.WIDTH (v % 2), PCIE_RP_STAT.PRESENT (v % 2)] s t) ∧
  -- R258: the Root's end port mirrors it
  (∀ (s : State) (v : Nat) (up : Bool) (speed width : Nat) (present : Bool), s.isRoot = true → v < 16 → (up = true →
    linkShape 4 width speed = true) → s.endBind v = false → s.flag (endPresent v) = false → Answers (exec
    (.rootPortLinkChange v none up speed width present) s) fun t => t.host.ends.find? v = some ⟨up, speed, width⟩ ∧
    t.out = s.out ∧ Frame [] s t) ∧
  -- R258
  (∀ (s : State) (n : Fin 2), Answers (exec (.hotReset n) s) fun t => t = { s with out := s.out ++ [.pcieReset n] }) ∧
  -- R251
  (∀ (s : State) (width speed : Nat), s.isRoot = true → linkShape 8 width speed = true → Answers (exec (.pcieLinkUp
    width speed) s) fun t => t.get PCIE_STAT.WIDTH = width % 2 ^ PCIE_STAT.WIDTH.w ∧ t.get PCIE_STAT.SPEED = speed %
    2 ^ PCIE_STAT.SPEED.w ∧ t.get PCIE_STAT.DL_ACTIVE = 1 ∧ Raised EV.pcieLinkUp s t ∧ t.out = s.out ∧ Frame
    ([PCIE_STAT.WIDTH, PCIE_STAT.SPEED, PCIE_STAT.DL_ACTIVE, PCIE_STAT.PERST] ++ evFlds EV.pcieLinkUp) s t)

/-- Ethernet links, frames in and out, pause, and the PTP map set (R265, R266, R267, R268, R270, R271, R274). -/
def Obligations.EthernetAndTimeStamps : Prop :=
  -- R265
  (∀ (s : State) (n : Fin 2) (v : Nat), s.get (ETH_CTRL.MODE n) ≠ bits v 0 3 → Answers (exec (.ethModeWrite n v) s)
    fun t => t.get (ETH_CTRL.MODE n) = bits v 0 3 ∧ t.get (ETH_STAT.LINK_UP n) = 0 ∧ t.get (ETH_STAT.PAUSED n) = 0 ∧
    (s.flag (ETH_STAT.LINK_UP n) = true → Raised (EV.ethLinkDown n) s t) ∧ t.out = s.out ∧ Frame (ETH_CTRL.all n ++
    [ETH_STAT.LINK_UP n, ETH_STAT.AN_DONE n, ETH_STAT.PAUSED n] ++ evFlds (EV.ethLinkDown n)) s t) ∧
  -- R265: the link comes up
  (∀ (s : State) (n : Fin 2) (an : Bool) (speed : Nat), s.domainOn 11 = true → 1 ≤ s.get (ETH_CTRL.MODE n) → s.get
    (ETH_CTRL.MODE n) ≤ 4 → s.flag (ETH_STAT.LINK_UP n) = false → Answers (exec (.ethLinkChange n true an speed) s)
    fun t => t.get (ETH_STAT.LINK_UP n) = 1 ∧ t.get (ETH_STAT.AN_DONE n) = b2n (an && decide (3 ≤ s.get
    (ETH_CTRL.MODE n)) && s.flag (ETH_CTRL.AN n)) ∧ t.get (ETH_STAT.SGMII_SPEED n) = (if s.get (ETH_CTRL.MODE n) = 4
    then speed else 0) % 2 ^ (ETH_STAT.SGMII_SPEED 0).w ∧ Raised (EV.ethLinkUp n) s t ∧ t.out = s.out ∧ Frame
    ([ETH_STAT.LINK_UP n, ETH_STAT.AN_DONE n, ETH_STAT.SGMII_SPEED n] ++ evFlds (EV.ethLinkUp n)) s t) ∧
  -- R267, R271: a PAUSE frame
  (∀ (s : State) (n : Fin 2) (f : List Byte), s.flag (ETH_STAT.LINK_UP n) = true → be16 f 12 = 0x8808 → be16 f 14 = 1
    → s.flag (ETH_CTRL.PAUSE_RX n) = true → Answers (exec (.ethFrameRx n f) s) fun t => t.get (ETH_STAT.PAUSED n) =
    b2n (be16 f 16 != 0) ∧ t.flows = s.flows ∧ t.out = s.out ∧ Frame [ETH_STAT.PAUSED n] s t) ∧
  -- R267, R268: a good frame
  (∀ (s : State) (n : Fin 2) (f : List Byte) (i : Nat), s.flag (ETH_STAT.LINK_UP n) = true → be16 f 12 ≠ 0x8808 → 64
    ≤ f.length → f.length ≤ s.maxFrame n → fcsGood f = true → s.ptpAt f = none → s.classifyFrame n f = some (i,
    false) → s.flag (ETH_CTRL.TS_ALL n) = false → s.adapterOn 5 = true → s.flag (CTX5.ACTIVE i) = true → s.flag
    (CTX5.DRAINING i) = false → s.flag (CTX5.HELD i) = false → s.get (CTX0.IN_ATT i) = 5 → s.get (CTX0.CLASS i) = 3 →
    s.flag (CTX0.SEAL i) = false → s.flag (FE_STAT.FENCED (s.get (CTX0.HOME i))) = false → Answers (exec (.ethFrameRx
    n f) s) fun t => t.flows.waiting.dropLast = s.flows.waiting ∧ (t.flows.waiting.getLast?.map fun q => (q.ctx,
    q.inAtt, q.pkt.hdr.mx, q.pkt.hdr.info.take 2, q.pkt.data.take f.length)) = some (i, 5, 0, leBytes 2 f.length, f)
    ∧ t.out = s.out ∧ SameBytes s t) ∧
  -- R267: a bad FCS
  (∀ (s : State) (n : Fin 2) (f : List Byte), s.flag (ETH_STAT.LINK_UP n) = true → be16 f 12 ≠ 0x8808 → 64 ≤ f.length
    → f.length ≤ s.maxFrame n → fcsGood f = false → s.flag (ETH_CTRL.FWD_BAD n) = false → Answers (exec (.ethFrameRx
    n f) s) fun t => t.get (ETH_DROP0.FCS_BAD n) = satAdd 16 (s.get (ETH_DROP0.FCS_BAD n)) 1 % 2 ^ 16 ∧ Raised
    (EV.fcsBad n) s t ∧ t.flows = s.flows ∧ t.out = s.out ∧ Frame (ETH_DROP0.FCS_BAD n :: evFlds (EV.fcsBad n)) s t) ∧
  -- R271
  (∀ (s : State) (n : Fin 2), Answers (exec (.pauseExpiry n) s) fun t => t.get (ETH_STAT.PAUSED n) = 0 ∧ t =
    { s with regs := t.regs } ∧ Frame [ETH_STAT.PAUSED n] s t) ∧
  -- R271: XOFF
  (∀ (s : State) (n : Fin 2), s.flag (ETH_CTRL.PAUSE_EN n) = true → 32 * s.get (ETH_PAUSE.XOFF_KIB n) ≤ s.netFill →
    Answers (exec (.pauseSend n) s) fun t => t = { s with out := s.out ++ [.pause n (s.get (ETH_PAUSE.QUANTA n))] }) ∧
  -- R270
  (∀ (s : State) (n : Fin 2) (p : FlowPkt), s.flag (ETH_STAT.PAUSED n) = false → s.flag (ETH_STAT.LINK_UP n) = true →
    s.flows.netq = [p] → p.outLabel % 2 = n → bit p.outLabel 1 = false → bit p.outLabel 2 = false → s.ptpAt
    (p.pkt.data.take (leNat (byteSlice p.pkt.hdr.info 0 2))) = none → Answers (exec (.ethFrameTx n) s) fun t =>
    t.flows.netq = [] ∧ t.out = s.out ++ [.eth n (p.pkt.data.take (leNat (byteSlice p.pkt.hdr.info 0 2)))] ∧
    t.flows.waiting = s.flows.waiting ∧ Frame [] s t) ∧
  -- R274: GO
  (∀ (s : State), Answers (exec (.ptpMapGo) s) fun t => t.host.ptpStaged = some s.host.ptpWritten ∧ t.get
    PTP_MAP_CTRL.STAGED = 1 ∧ t.out = s.out ∧ Frame [PTP_MAP_CTRL.STAGED] s t) ∧
  -- R274: at its epoch
  (∀ (s : State) (a ns lo hi adj e : Nat), s.host.ptpStaged = some [a, ns, lo, hi, adj, e] → s.frozen = false →
    epochStart s.now e = s.epochNow * 51200 → Answers (exec (.ptpMapApply) s) fun t => t.host.ptpStaged = none ∧
    t.get PTP_ANCHOR_EPOCH.EPOCH = a % 2 ^ 32 ∧ t.get PTP_ANCHOR_NS.NS = ns % 2 ^ PTP_ANCHOR_NS.NS.w ∧ t.get
    PTP_ADJ.ADJ = adj % 2 ^ 32 ∧ t.get PTP_MAP_CTRL.STAGED = 0 ∧ t.get PTP_MAP_CTRL.LATE = 0 ∧ t.out = s.out ∧ Frame
    [PTP_ANCHOR_EPOCH.EPOCH, PTP_ANCHOR_NS.NS, PTP_ANCHOR_SEC_LO.SEC, PTP_ANCHOR_SEC_HI.SEC, PTP_ADJ.ADJ,
    PTP_APPLY.EPOCH, PTP_MAP_CTRL.STAGED, PTP_MAP_CTRL.LATE] s t)

/-- Display operations write the rectangle, colours or flip they name, wait, or are rejected; a zeroed bank takes the
  writes that waited (R278, R279, R284, R285, R286, R287, R288, Table 10.2). -/
def Obligations.OperationsOnSurfaces : Prop :=
  -- R284, Table 10.2: RECT_WRITE
  (∀ (s : State) (h : Head) (i : CtxNo) (p : Pkt), s.domainOn 12 = true → s.toHead i h = true → byteAt p.hdr.info 0 =
    h.val → (s.head h).waits = [] → (s.head h).busy = none → (s.head h).pend = none → p.hdr.held = false → s.opGood h
    ⟨0, i, p⟩ = true → s.opDark h ⟨0, i, p⟩ = false → Answers (exec (.rectWrite h i p) s) fun t => t.mem =
    (s.rectWrite (s.surf h (s.surfNo h (DispOp.front ⟨0, i, p⟩))) (s.bpp h) (DispOp.u ⟨0, i, p⟩ 2) (DispOp.u ⟨0, i,
    p⟩ 4) (DispOp.u ⟨0, i, p⟩ 6) (DispOp.u ⟨0, i, p⟩ 8) p.data).mem ∧ t.disp.initWait = (s.rectWrite (s.surf h
    (s.surfNo h (DispOp.front ⟨0, i, p⟩))) (s.bpp h) (DispOp.u ⟨0, i, p⟩ 2) (DispOp.u ⟨0, i, p⟩ 4) (DispOp.u ⟨0, i,
    p⟩ 6) (DispOp.u ⟨0, i, p⟩ 8) p.data).disp.initWait ∧ (t.head h).busy = some i.val ∧ (t.head h).waits = [] ∧
    (t.head h).counts.getD i 0 = (s.head h).counts.getD i 0 + 1 ∧ t.out = s.out ∧ RegsBut [] s t ∧ BytesBut
    (rectBytes (s.surf h (s.surfNo h (DispOp.front ⟨0, i, p⟩))) (s.bpp h) (DispOp.u ⟨0, i, p⟩ 2) (DispOp.u ⟨0, i, p⟩
    4) (DispOp.u ⟨0, i, p⟩ 6) (DispOp.u ⟨0, i, p⟩ 8)) s t) ∧
  -- RECT_COPY
  (∀ (s : State) (h : Head) (i : CtxNo) (p : Pkt), s.domainOn 12 = true → s.toHead i h = true → byteAt p.hdr.info 0 =
    h.val → (s.head h).waits = [] → (s.head h).busy = none → (s.head h).pend = none → p.hdr.held = false → s.opGood h
    ⟨1, i, p⟩ = true → s.opDark h ⟨1, i, p⟩ = false → Answers (exec (.rectCopy h i p) s) fun t => t.mem = (s.rectCopy
    (s.surf h (s.surfNo h (DispOp.front ⟨1, i, p⟩))) (s.surf h (s.surfNo h (bit (byteAt p.hdr.info 1) 1))) (s.bpp h)
    (DispOp.u ⟨1, i, p⟩ 2) (DispOp.u ⟨1, i, p⟩ 4) (DispOp.u ⟨1, i, p⟩ 6) (DispOp.u ⟨1, i, p⟩ 8) (DispOp.u ⟨1, i, p⟩
    10) (DispOp.u ⟨1, i, p⟩ 12)).mem ∧ t.disp.initWait = (s.rectCopy (s.surf h (s.surfNo h (DispOp.front ⟨1, i, p⟩)))
    (s.surf h (s.surfNo h (bit (byteAt p.hdr.info 1) 1))) (s.bpp h) (DispOp.u ⟨1, i, p⟩ 2) (DispOp.u ⟨1, i, p⟩ 4)
    (DispOp.u ⟨1, i, p⟩ 6) (DispOp.u ⟨1, i, p⟩ 8) (DispOp.u ⟨1, i, p⟩ 10) (DispOp.u ⟨1, i, p⟩ 12)).disp.initWait ∧
    (t.head h).busy = some i.val ∧ (t.head h).waits = [] ∧ (t.head h).counts.getD i 0 = (s.head h).counts.getD i 0 +
    1 ∧ t.out = s.out ∧ RegsBut [] s t ∧ BytesBut (rectBytes (s.surf h (s.surfNo h (DispOp.front ⟨1, i, p⟩))) (s.bpp
    h) (DispOp.u ⟨1, i, p⟩ 2) (DispOp.u ⟨1, i, p⟩ 4) (DispOp.u ⟨1, i, p⟩ 6) (DispOp.u ⟨1, i, p⟩ 8)) s t) ∧
  -- RECT_FILL
  (∀ (s : State) (h : Head) (i : CtxNo) (p : Pkt), s.domainOn 12 = true → s.toHead i h = true → byteAt p.hdr.info 0 =
    h.val → (s.head h).waits = [] → (s.head h).busy = none → (s.head h).pend = none → p.hdr.held = false → s.opGood h
    ⟨2, i, p⟩ = true → s.opDark h ⟨2, i, p⟩ = false → Answers (exec (.rectFill h i p) s) fun t => t.mem = (s.rectFill
    (s.surf h (s.surfNo h (DispOp.front ⟨2, i, p⟩))) (s.bpp h) (DispOp.u ⟨2, i, p⟩ 2) (DispOp.u ⟨2, i, p⟩ 4)
    (DispOp.u ⟨2, i, p⟩ 6) (DispOp.u ⟨2, i, p⟩ 8) (byteAt p.hdr.info 10)).mem ∧ t.disp.initWait = (s.rectFill (s.surf
    h (s.surfNo h (DispOp.front ⟨2, i, p⟩))) (s.bpp h) (DispOp.u ⟨2, i, p⟩ 2) (DispOp.u ⟨2, i, p⟩ 4) (DispOp.u ⟨2, i,
    p⟩ 6) (DispOp.u ⟨2, i, p⟩ 8) (byteAt p.hdr.info 10)).disp.initWait ∧ (t.head h).busy = some i.val ∧ (t.head
    h).waits = [] ∧ (t.head h).counts.getD i 0 = (s.head h).counts.getD i 0 + 1 ∧ t.out = s.out ∧ RegsBut [] s t ∧
    BytesBut (rectBytes (s.surf h (s.surfNo h (DispOp.front ⟨2, i, p⟩))) (s.bpp h) (DispOp.u ⟨2, i, p⟩ 2) (DispOp.u
    ⟨2, i, p⟩ 4) (DispOp.u ⟨2, i, p⟩ 6) (DispOp.u ⟨2, i, p⟩ 8)) s t) ∧
  -- the pixels of a RECT_WRITE
  (∀ (s : State) (f : Surf) (b x y w h x' y' : Nat) (d : List Byte), (b = 1 ∨ b = 2 ∨ b = 4 ∨ b = 8) → f.valid b =
    true → f.holds x y w h = true → f.Ready s → x' < f.width → y' < f.height → (s.rectWrite f b x y w h d).pixel f b
    x' y' = (if x ≤ x' ∧ x' < x + w ∧ y ≤ y' ∧ y' < y + h then bits (byteAt d ((y' - y) * rowBytes w b + (x' - x) * b
    / 8)) ((x' - x) * b % 8) b else s.pixel f b x' y')) ∧
  -- of a RECT_COPY: the source is read first
  (∀ (s : State) (f : Surf) (b x y w h x' y' : Nat) (g : Surf) (sx sy : Nat), (b = 1 ∨ b = 2 ∨ b = 4 ∨ b = 8) →
    f.valid b = true → f.holds x y w h = true → f.Ready s → x' < f.width → y' < f.height → (s.rectCopy f g b x y w h
    sx sy).pixel f b x' y' = (if x ≤ x' ∧ x' < x + w ∧ y ≤ y' ∧ y' < y + h then s.pixel g b (sx + (x' - x)) (sy + (y'
    - y)) else s.pixel f b x' y')) ∧
  -- of a RECT_FILL
  (∀ (s : State) (f : Surf) (b x y w h x' y' : Nat) (v : Nat), (b = 1 ∨ b = 2 ∨ b = 4 ∨ b = 8) → f.valid b = true →
    f.holds x y w h = true → f.Ready s → x' < f.width → y' < f.height → (s.rectFill f b x y w h v).pixel f b x' y' =
    (if x ≤ x' ∧ x' < x + w ∧ y ≤ y' ∧ y' < y + h then v % 2 ^ b else s.pixel f b x' y')) ∧
  -- PALETTE_LOAD
  (∀ (s : State) (h : Head) (i : CtxNo) (p : Pkt), s.domainOn 12 = true → s.toHead i h = true → byteAt p.hdr.info 0 =
    h.val → (s.head h).waits = [] → (s.head h).busy = none → (s.head h).pend = none → p.hdr.held = false → s.opGood h
    ⟨3, i, p⟩ = true → Answers (exec (.paletteLoad h i p) s) fun t => (List.range (DispOp.u ⟨3, i, p⟩ 3)).all (fun k
    => t.get (PAL.COLOUR h (s.palNo h (bit (byteAt p.hdr.info 1) 0)) (byteAt p.hdr.info 2 + k)) == leNat (byteSlice
    p.data (4 * k) 4) % 2 ^ (PAL.COLOUR 0 0 0).w) = true ∧ (t.head h).busy = some i.val ∧ (t.head h).counts.getD i 0
    = (s.head h).counts.getD i 0 + 1 ∧ t.out = s.out ∧ Frame ((List.range (DispOp.u ⟨3, i, p⟩ 3)).map fun k =>
    PAL.COLOUR h (s.palNo h (bit (byteAt p.hdr.info 1) 0)) (byteAt p.hdr.info 2 + k)) s t) ∧
  -- FLIP waits
  (∀ (s : State) (h : Head) (i : CtxNo) (p : Pkt), s.domainOn 12 = true → s.toHead i h = true → byteAt p.hdr.info 0 =
    h.val → (s.head h).waits = [] → Answers (exec (.flip h i p) s) fun t => (t.head h).waits = [⟨4, i, p⟩] ∧ (t.head
    h).pend = (s.head h).pend ∧ t.out = s.out ∧ Frame [] s t) ∧
  -- R288: FLIP arrives and is pending
  (∀ (s : State) (h : Head) (i : CtxNo) (p : Pkt), s.domainOn 12 = true → s.toHead i h = true → byteAt p.hdr.info 0 =
    h.val → (s.head h).waits = [] → (s.head h).busy = none → (s.head h).pend = none → p.hdr.held = false → leNat
    (byteSlice p.hdr.info 2 2) = (s.head h).counts.getD i 0 → Answers (exec (.flip h i p) s) fun t => Answers (exec
    (.flipDue h) t) fun u => (u.head h).pend = some ⟨i.val, s.uptime, bit (byteAt p.hdr.info 1) 1, bit (byteAt
    p.hdr.info 1) 0⟩ ∧ u.get (DSP_STAT.FLIP_PENDING h) = 1 ∧ (u.head h).counts.getD i 0 = 0 ∧ u.out = s.out ∧ Frame
    [DSP_STAT.FLIP_PENDING h] s u) ∧
  -- R284: HEAD names the other head
  (∀ (s : State) (h : Head) (i : CtxNo) (p : Pkt), s.domainOn 12 = true → s.toHead i h = true → byteAt p.hdr.info 0 ≠
    h.val → Answers (exec (.rectWrite h i p) s) fun t => t.get (DSP_OP_ERR.BAD_HEAD h) = satAdd 16 (s.get
    (DSP_OP_ERR.BAD_HEAD h)) 1 % 2 ^ 16 ∧ t.disp = s.disp ∧ t.out = s.out ∧ Frame [DSP_OP_ERR.BAD_HEAD h] s t) ∧
  -- R284: HEAD names the other head
  (∀ (s : State) (h : Head) (i : CtxNo) (p : Pkt), s.domainOn 12 = true → s.toHead i h = true → byteAt p.hdr.info 0 ≠
    h.val → Answers (exec (.rectCopy h i p) s) fun t => t.get (DSP_OP_ERR.BAD_HEAD h) = satAdd 16 (s.get
    (DSP_OP_ERR.BAD_HEAD h)) 1 % 2 ^ 16 ∧ t.disp = s.disp ∧ t.out = s.out ∧ Frame [DSP_OP_ERR.BAD_HEAD h] s t) ∧
  -- R284: HEAD names the other head
  (∀ (s : State) (h : Head) (i : CtxNo) (p : Pkt), s.domainOn 12 = true → s.toHead i h = true → byteAt p.hdr.info 0 ≠
    h.val → Answers (exec (.rectFill h i p) s) fun t => t.get (DSP_OP_ERR.BAD_HEAD h) = satAdd 16 (s.get
    (DSP_OP_ERR.BAD_HEAD h)) 1 % 2 ^ 16 ∧ t.disp = s.disp ∧ t.out = s.out ∧ Frame [DSP_OP_ERR.BAD_HEAD h] s t) ∧
  -- R284: HEAD names the other head
  (∀ (s : State) (h : Head) (i : CtxNo) (p : Pkt), s.domainOn 12 = true → s.toHead i h = true → byteAt p.hdr.info 0 ≠
    h.val → Answers (exec (.paletteLoad h i p) s) fun t => t.get (DSP_OP_ERR.BAD_HEAD h) = satAdd 16 (s.get
    (DSP_OP_ERR.BAD_HEAD h)) 1 % 2 ^ 16 ∧ t.disp = s.disp ∧ t.out = s.out ∧ Frame [DSP_OP_ERR.BAD_HEAD h] s t) ∧
  -- R284: HEAD names the other head
  (∀ (s : State) (h : Head) (i : CtxNo) (p : Pkt), s.domainOn 12 = true → s.toHead i h = true → byteAt p.hdr.info 0 ≠
    h.val → Answers (exec (.flip h i p) s) fun t => t.get (DSP_OP_ERR.BAD_HEAD h) = satAdd 16 (s.get
    (DSP_OP_ERR.BAD_HEAD h)) 1 % 2 ^ 16 ∧ t.disp = s.disp ∧ t.out = s.out ∧ Frame [DSP_OP_ERR.BAD_HEAD h] s t) ∧
  -- R285: rejected, and received
  (∀ (s : State) (h : Head) (i : CtxNo) (p : Pkt), s.domainOn 12 = true → s.toHead i h = true → byteAt p.hdr.info 0 =
    h.val → (s.head h).waits = [] → (s.head h).busy = none → (s.head h).pend = none → p.hdr.held = false → s.opGood h
    ⟨0, i, p⟩ = false → Answers (exec (.rectWrite h i p) s) fun t => t.get (DSP_OP_ERR.BAD_ARG h) = satAdd 16 (s.get
    (DSP_OP_ERR.BAD_ARG h)) 1 % 2 ^ 16 ∧ (t.head h).busy = none ∧ (t.head h).waits = [] ∧ (t.head h).counts.getD i 0
    = (s.head h).counts.getD i 0 + 1 ∧ t.out = s.out ∧ Frame [DSP_OP_ERR.BAD_ARG h] s t) ∧
  -- R285: rejected, and received
  (∀ (s : State) (h : Head) (i : CtxNo) (p : Pkt), s.domainOn 12 = true → s.toHead i h = true → byteAt p.hdr.info 0 =
    h.val → (s.head h).waits = [] → (s.head h).busy = none → (s.head h).pend = none → p.hdr.held = false → s.opGood h
    ⟨1, i, p⟩ = false → Answers (exec (.rectCopy h i p) s) fun t => t.get (DSP_OP_ERR.BAD_ARG h) = satAdd 16 (s.get
    (DSP_OP_ERR.BAD_ARG h)) 1 % 2 ^ 16 ∧ (t.head h).busy = none ∧ (t.head h).waits = [] ∧ (t.head h).counts.getD i 0
    = (s.head h).counts.getD i 0 + 1 ∧ t.out = s.out ∧ Frame [DSP_OP_ERR.BAD_ARG h] s t) ∧
  -- R285: rejected, and received
  (∀ (s : State) (h : Head) (i : CtxNo) (p : Pkt), s.domainOn 12 = true → s.toHead i h = true → byteAt p.hdr.info 0 =
    h.val → (s.head h).waits = [] → (s.head h).busy = none → (s.head h).pend = none → p.hdr.held = false → s.opGood h
    ⟨2, i, p⟩ = false → Answers (exec (.rectFill h i p) s) fun t => t.get (DSP_OP_ERR.BAD_ARG h) = satAdd 16 (s.get
    (DSP_OP_ERR.BAD_ARG h)) 1 % 2 ^ 16 ∧ (t.head h).busy = none ∧ (t.head h).waits = [] ∧ (t.head h).counts.getD i 0
    = (s.head h).counts.getD i 0 + 1 ∧ t.out = s.out ∧ Frame [DSP_OP_ERR.BAD_ARG h] s t) ∧
  -- R285: rejected, and received
  (∀ (s : State) (h : Head) (i : CtxNo) (p : Pkt), s.domainOn 12 = true → s.toHead i h = true → byteAt p.hdr.info 0 =
    h.val → (s.head h).waits = [] → (s.head h).busy = none → (s.head h).pend = none → p.hdr.held = false → s.opGood h
    ⟨3, i, p⟩ = false → Answers (exec (.paletteLoad h i p) s) fun t => t.get (DSP_OP_ERR.BAD_ARG h) = satAdd 16
    (s.get (DSP_OP_ERR.BAD_ARG h)) 1 % 2 ^ 16 ∧ (t.head h).busy = none ∧ (t.head h).waits = [] ∧ (t.head
    h).counts.getD i 0 = (s.head h).counts.getD i 0 + 1 ∧ t.out = s.out ∧ Frame [DSP_OP_ERR.BAD_ARG h] s t) ∧
  -- R286: behind one that is not done
  (∀ (s : State) (h : Head) (i : CtxNo) (p : Pkt), s.domainOn 12 = true → s.toHead i h = true → byteAt p.hdr.info 0 =
    h.val → (s.head h).busy.isSome = true → Answers (exec (.rectWrite h i p) s) fun t => (t.head h).waits = (s.head
    h).waits ++ [⟨0, i, p⟩] ∧ (t.head h).busy = (s.head h).busy ∧ (t.head h).counts = (s.head h).counts ∧ t.out =
    s.out ∧ Frame [] s t) ∧
  -- R286: behind one that is not done
  (∀ (s : State) (h : Head) (i : CtxNo) (p : Pkt), s.domainOn 12 = true → s.toHead i h = true → byteAt p.hdr.info 0 =
    h.val → (s.head h).busy.isSome = true → Answers (exec (.rectCopy h i p) s) fun t => (t.head h).waits = (s.head
    h).waits ++ [⟨1, i, p⟩] ∧ (t.head h).busy = (s.head h).busy ∧ (t.head h).counts = (s.head h).counts ∧ t.out =
    s.out ∧ Frame [] s t) ∧
  -- R286: behind one that is not done
  (∀ (s : State) (h : Head) (i : CtxNo) (p : Pkt), s.domainOn 12 = true → s.toHead i h = true → byteAt p.hdr.info 0 =
    h.val → (s.head h).busy.isSome = true → Answers (exec (.rectFill h i p) s) fun t => (t.head h).waits = (s.head
    h).waits ++ [⟨2, i, p⟩] ∧ (t.head h).busy = (s.head h).busy ∧ (t.head h).counts = (s.head h).counts ∧ t.out =
    s.out ∧ Frame [] s t) ∧
  -- R286: behind one that is not done
  (∀ (s : State) (h : Head) (i : CtxNo) (p : Pkt), s.domainOn 12 = true → s.toHead i h = true → byteAt p.hdr.info 0 =
    h.val → (s.head h).busy.isSome = true → Answers (exec (.paletteLoad h i p) s) fun t => (t.head h).waits = (s.head
    h).waits ++ [⟨3, i, p⟩] ∧ (t.head h).busy = (s.head h).busy ∧ (t.head h).counts = (s.head h).counts ∧ t.out =
    s.out ∧ Frame [] s t) ∧
  -- R286: behind one that is not done
  (∀ (s : State) (h : Head) (i : CtxNo) (p : Pkt), s.domainOn 12 = true → s.toHead i h = true → byteAt p.hdr.info 0 =
    h.val → (s.head h).busy.isSome = true → Answers (exec (.flip h i p) s) fun t => (t.head h).waits = (s.head
    h).waits ++ [⟨4, i, p⟩] ∧ (t.head h).busy = (s.head h).busy ∧ (t.head h).counts = (s.head h).counts ∧ t.out =
    s.out ∧ Frame [] s t) ∧
  -- R284: HELD until its TTAG
  (∀ (s : State) (h : Head) (i : CtxNo) (p : Pkt), s.domainOn 12 = true → s.toHead i h = true → byteAt p.hdr.info 0 =
    h.val → (s.head h).waits = [] → p.hdr.held = true → s.due p.hdr.ttag = false → Answers (exec (.rectWrite h i p)
    s) fun t => (t.head h).waits = [⟨0, i, p⟩] ∧ (t.head h).busy = (s.head h).busy ∧ (t.head h).counts = (s.head
    h).counts ∧ t.out = s.out ∧ Frame [] s t) ∧
  -- R284: HELD until its TTAG
  (∀ (s : State) (h : Head) (i : CtxNo) (p : Pkt), s.domainOn 12 = true → s.toHead i h = true → byteAt p.hdr.info 0 =
    h.val → (s.head h).waits = [] → p.hdr.held = true → s.due p.hdr.ttag = false → Answers (exec (.rectCopy h i p) s)
    fun t => (t.head h).waits = [⟨1, i, p⟩] ∧ (t.head h).busy = (s.head h).busy ∧ (t.head h).counts = (s.head
    h).counts ∧ t.out = s.out ∧ Frame [] s t) ∧
  -- R284: HELD until its TTAG
  (∀ (s : State) (h : Head) (i : CtxNo) (p : Pkt), s.domainOn 12 = true → s.toHead i h = true → byteAt p.hdr.info 0 =
    h.val → (s.head h).waits = [] → p.hdr.held = true → s.due p.hdr.ttag = false → Answers (exec (.rectFill h i p) s)
    fun t => (t.head h).waits = [⟨2, i, p⟩] ∧ (t.head h).busy = (s.head h).busy ∧ (t.head h).counts = (s.head
    h).counts ∧ t.out = s.out ∧ Frame [] s t) ∧
  -- R284: HELD until its TTAG
  (∀ (s : State) (h : Head) (i : CtxNo) (p : Pkt), s.domainOn 12 = true → s.toHead i h = true → byteAt p.hdr.info 0 =
    h.val → (s.head h).waits = [] → p.hdr.held = true → s.due p.hdr.ttag = false → Answers (exec (.paletteLoad h i p)
    s) fun t => (t.head h).waits = [⟨3, i, p⟩] ∧ (t.head h).busy = (s.head h).busy ∧ (t.head h).counts = (s.head
    h).counts ∧ t.out = s.out ∧ Frame [] s t) ∧
  -- R287
  (∀ (s : State) (h : Head), (s.head h).waits = [] → Answers (exec (.displayOpDone h) s) fun t => (t.head h).busy =
    none ∧ (t.head h).waits = [] ∧ (t.head h).counts = (s.head h).counts ∧ t.out = s.out ∧ Frame [] s t) ∧
  -- R287: the next one is carried out
  (∀ (s : State) (h : Head) (o : DispOp), (s.head h).waits = [o] → o.mx < 3 → o.pkt.hdr.held = false → (s.head
    h).pend = none → s.opGood h o = true → s.opDark h o = false → Answers (exec (.displayOpDone h) s) fun t => t.mem
    = (s.opWrite h o).mem ∧ t.disp.initWait = (s.opWrite h o).disp.initWait ∧ (t.head h).busy = some o.ctx ∧ (t.head
    h).waits = [] ∧ (t.head h).counts.getD o.ctx 0 = (s.head h).counts.getD o.ctx 0 + 1 ∧ t.out = s.out ∧ RegsBut []
    s t) ∧
  -- R278: the waiting writes land in order
  (∀ (s : State) (b : Fin 2), s.flag (bankInit b) = true → s.flag (bankOn b) = true → Answers (exec (.bankInitDone b)
    s) fun t => t.get (bankInit b) = 0 ∧ Landed s t b ∧ t.disp.initWait = s.disp.initWait.filter (fun w => bankOf w.1
    != b.val) ∧ t.out = s.out ∧ RegsBut [bankInit b] s t ∧ BytesBut ((s.disp.initWait.filter fun w => bankOf w.1 ==
    b.val).map fun w => fstBase + w.1) s t)

/-- A flip becomes due, is withheld or takes effect at the blank; gen-lock, underrun lines, DisplayPort, AUX and line
  data at further places (R288, R289, R290, R294, R297, R298, R299, R301, R303, R304, R305). -/
def Obligations.FlipsAndBlanks : Prop :=
  -- R288: OPS agrees
  (∀ (s : State) (h : Head) (o : DispOp), (s.head h).pend = none → (s.head h).busy = none → (s.head h).waits = [o] →
    o.mx = 4 → o.pkt.hdr.held = false → o.u 2 = (s.head h).counts.getD o.ctx 0 → Answers (exec (.flipDue h) s) fun t
    => (t.head h).pend = some ⟨o.ctx, s.uptime, bit (o.b 1) 1, bit (o.b 1) 0⟩ ∧ (t.head h).counts.getD o.ctx 0 = 0 ∧
    t.get (DSP_STAT.FLIP_PENDING h) = 1 ∧ (t.head h).waits = [o] ∧ t.out = s.out ∧ Frame [DSP_STAT.FLIP_PENDING h] s
    t) ∧
  -- R288: withheld
  (∀ (s : State) (h : Head) (o : DispOp), (s.head h).pend = none → (s.head h).busy = none → (s.head h).waits = [o] →
    o.mx = 4 → o.pkt.hdr.held = false → o.u 2 ≠ (s.head h).counts.getD o.ctx 0 → Answers (exec (.flipDue h) s) fun t
    => (t.head h).pend = none ∧ (t.head h).waits = [] ∧ (t.head h).counts.getD o.ctx 0 = 0 ∧ t.get
    (DSP_FLIP_WH.WITHHELD h) = satAdd (DSP_FLIP_WH.WITHHELD h).w (s.get (DSP_FLIP_WH.WITHHELD h)) 1 % 2 ^
    (DSP_FLIP_WH.WITHHELD h).w ∧ t.get (DSP_FLIP_CHK.RECEIVED h) = (s.head h).counts.getD o.ctx 0 % 65536 ∧ t.get
    (DSP_FLIP_CHK.EXPECTED h) = o.u 2 % 65536 ∧ Raised (EV.flipWithheld h) s t ∧ t.out = s.out ∧ Frame
    ([DSP_FLIP_WH.WITHHELD h, DSP_FLIP_CHK.RECEIVED h, DSP_FLIP_CHK.EXPECTED h] ++ evFlds (EV.flipWithheld h)) s t) ∧
  -- R289, R290: the flip takes effect
  (∀ (s : State) (h : Head) (q : PendFlip), s.flag (DSP_STAT.RUNNING h) = true → (s.head h).restart = none → (s.head
    h).pend = some q → q.due + 400 ≤ s.uptime → q.syncBack = false → (s.head h).waits = [] → Answers (exec
    (.verticalBlank h) s) fun t => t.get (DSP_STAT.FRONT_SURF h) = 1 - s.get (DSP_STAT.FRONT_SURF h) ∧ t.get
    (DSP_STAT.FRONT_PAL h) = (if q.noPal then s.get (DSP_STAT.FRONT_PAL h) else 1 - s.get (DSP_STAT.FRONT_PAL h)) % 2
    ∧ t.get64 (DSP_FLIP_TIME_LO.TIME h) (DSP_FLIP_TIME_HI.TIME h) = s.now % 2 ^ 64 ∧ t.get (DSP_FLIP_INFO.VALID h) =
    1 ∧ t.get (DSP_STAT.FLIP_PENDING h) = 0 ∧ t.get (DSP_FRAME_CNT.COUNT h) = (s.get (DSP_FRAME_CNT.COUNT h) + 1) % 2
    ^ 32 ∧ t.get (DSP_FLIP_SEQ.SEQ h) = (s.get (DSP_FLIP_SEQ.SEQ h) + 1) % 2 ^ (DSP_FLIP_SEQ.SEQ 0).w ∧ (t.head
    h).pend = none ∧ (t.head h).begun = 0 ∧ t.out = s.out ∧ Raised (EV.flipDone h) s t ∧ SameBytes s t) ∧
  -- R294: gen-lock off
  (∀ (s : State) (h : Head), Answers (exec (.genlockWrite h false) s) fun t => t.get (DSP_CTRL.GENLOCK h) = 0 ∧ t.get
    (DSP_GL.GL_LOCKED h) = 0 ∧ (t.head h).restart = none ∧ t.out = s.out ∧ Frame [DSP_CTRL.GENLOCK h,
    DSP_GL.GL_LOCKED h] s t) ∧
  -- R294: the raster restarts
  (∀ (s : State) (h : Head), s.flag (DSP_CTRL.GENLOCK h) = false → s.flag (BLK_CTRL.ENABLE (State.headPage h)) = true
    → (s.regRaster h).valid = true → Answers (exec (.genlockWrite h true) s) fun t => t.get (DSP_CTRL.GENLOCK h) = 1
    ∧ t.get (DSP_GL.GL_LOCKED h) = 0 ∧ t.get (DSP_STAT.RUNNING h) = 1 ∧ (t.head h).restart = some ((s.regRaster
    h).target (s.now + 400000)) ∧ (t.head h).raster = s.regRaster h ∧ t.out = s.out ∧ Frame [DSP_CTRL.GENLOCK h,
    DSP_GL.GL_LOCKED h, DSP_STAT.RUNNING h, DSP_STAT.PIXCLK_LOCKED h, DSP_STAT.TIMING_ERR h, DSP_STAT.SURF_ERR h,
    DSP_DP_STAT.TRAINED h, DSP_DP_STAT.BW_ERR h] s t) ∧
  -- R305: pixels missing in fall-back
  (∀ (s : State) (h : Head) (pix : List (Nat × Nat)), s.flag (DSP_STAT.RUNNING h) = true → (s.head h).restart = none
    → (s.head h).begun < (s.head h).raster.vactive → s.flag (DSP_FB_STAT.ACTIVE h) = true → s.linePixels h (s.head
    h).begun < (s.head h).raster.hactive → Answers (exec (.activeLineStart h [] [] pix) s) fun t => (t.head h).begun
    = (s.head h).begun + 1 ∧ (t.head h).underLines = (s.head h).underLines + 1 ∧ (t.head h).underPix = (s.head
    h).underPix + ((s.head h).raster.hactive - s.linePixels h (s.head h).begun) ∧ (s.videoOn h = false → t.out =
    s.out) ∧ (s.videoOn h = true → t.out.dropLast = s.out) ∧ Frame [DSP_FB_STAT.HELD h, DSP_FB_STAT.URGENT h] s t) ∧
  -- R297: video stops while the link trains
  (∀ (s : State) (h : Head), s.get (DSP_DP_CTRL.LANES h) ≠ 3 → Answers (exec (.dpTrain h) s) fun t => t.get
    (DSP_DP_STAT.TRAINING h) = 1 ∧ t.get (DSP_DP_STAT.TRAINED h) = 0 ∧ (t.head h).trained = none ∧ (t.head
    h).training = (s.get (DSP_DP_CTRL.RATE h), 2 ^ s.get (DSP_DP_CTRL.LANES h)) ∧ t.out.dropLast = s.out ∧ Frame
    [DSP_DP_STAT.TRAINING h, DSP_DP_STAT.TRAINED h, DSP_DP_STAT.TRAIN_FAIL h] s t) ∧
  -- R297: video is sent
  (∀ (s : State) (h : Head), s.flag (DSP_DP_STAT.TRAINING h) = true → s.bwOk h (s.head h).training.1 (s.head
    h).training.2 = true → Answers (exec (.dpTrainDone h true) s) fun t => t.get (DSP_DP_STAT.TRAINING h) = 0 ∧ t.get
    (DSP_DP_STAT.TRAINED h) = 1 ∧ t.get (DSP_DP_STAT.BW_ERR h) = 0 ∧ t.out = s.out ∧ Frame [DSP_DP_STAT.TRAINING h,
    DSP_DP_STAT.TRAINED h, DSP_DP_STAT.BW_ERR h] s t) ∧
  -- R298: the sink goes away
  (∀ (s : State) (h : Head), s.domainOn 12 = true → s.flag (DSP_DP_STAT.HPD h) = true → Answers (exec (.hpdChange h
    false false) s) fun t => t.get (DSP_DP_STAT.HPD h) = 0 ∧ t.get (DSP_DP_STAT.IRQ_HPD h) = 0 ∧ Raised (EV.hpdChange
    h) s t ∧ t.disp = s.disp ∧ t.out = s.out ∧ Frame ([DSP_DP_STAT.HPD h, DSP_DP_STAT.IRQ_HPD h] ++ evFlds
    (EV.hpdChange h)) s t) ∧
  -- R298: after 2 ms the main link stops, the raster does not
  (∀ (s : State) (h : Head), s.flag (DSP_DP_STAT.HPD h) = false → Answers (exec (.hpdLoss h) s) fun t => t.get
    (DSP_DP_STAT.TRAINED h) = 0 ∧ t.get (DSP_DP_STAT.TRAINING h) = 0 ∧ t.get (DSP_STAT.RUNNING h) = s.get
    (DSP_STAT.RUNNING h) ∧ (t.head h).trained = none ∧ t.out = s.out ∧ Frame [DSP_DP_STAT.TRAINED h,
    DSP_DP_STAT.TRAINING h] s t) ∧
  -- R299: GO
  (∀ (s : State) (h : Head), s.flag (DSP_AUX_STAT.BUSY h) = false → Answers (exec (.auxGo h) s) fun t => t.get
    (DSP_AUX_STAT.BUSY h) = 1 ∧ t.get (DSP_AUX_STAT.DONE h) = 0 ∧ t.out.dropLast = s.out ∧ (t.head h).defers = 0 ∧
    Frame [DSP_AUX_STAT.BUSY h, DSP_AUX_STAT.DONE h] s t) ∧
  -- R299: no reply within 400 us
  (∀ (s : State) (h : Head), s.flag (DSP_AUX_STAT.BUSY h) = true → Answers (exec (.auxDone h 3 []) s) fun t => t.get
    (DSP_AUX_STAT.BUSY h) = 0 ∧ t.get (DSP_AUX_STAT.DONE h) = 1 ∧ t.get (DSP_AUX_STAT.REPLY h) = 3 ∧ t.get
    (DSP_AUX_STAT.COUNT h) = 0 ∧ Raised (EV.auxDone h) s t ∧ t.out = s.out ∧ Frame ([DSP_AUX_STAT.BUSY h,
    DSP_AUX_STAT.DONE h, DSP_AUX_STAT.REPLY h, DSP_AUX_STAT.COUNT h] ++ evFlds (EV.auxDone h)) s t) ∧
  -- R303: lines are asked for ahead of the line being shown
  (∀ (s : State) (h : Head), s.flag (DSP_FB_STAT.ACTIVE h) = true → (s.head h).asked < (s.head h).raster.vactive →
    (s.head h).asked < (s.head h).begun + 16 → s.flag (DSP_FB_CTRL.LOCAL h) = true → Answers (exec (.lineFetchRequest
    h) s) fun t => (t.head h).asked = (s.head h).asked + 1 ∧ (t.head h).begun = (s.head h).begun ∧ t.out.dropLast =
    s.out ∧ Frame [DSP_FB_STAT.HELD h, DSP_FB_STAT.URGENT h] s t) ∧
  -- R221, R301: a parity error in the store is counted, and the answer is bad
  (∀ (s : State) (p : Pkt) (host : Option (List Byte)) (x : Nat), bit (byteAt p.hdr.info 1) 1 = false → leNat
    (byteSlice p.hdr.info 6 8) % 2 ^ 25 ≤ x → x < leNat (byteSlice p.hdr.info 6 8) % 2 ^ 25 + leNat (byteSlice
    p.hdr.info 4 2) → bankOf x = 0 → Answers (exec (.lineReq none p host [x]) s) fun t => t.get FST_PERR.FSA = satAdd
    FST_PERR.FSA.w (s.get FST_PERR.FSA) 1 % 2 ^ FST_PERR.FSA.w ∧ t.out.dropLast = s.out ∧ (t.out.getLast?.map fun o
    => (match o with | .line k l _ bad => (k, l, bad) | _ => (2, 0, false))) = some (byteAt p.hdr.info 0, leNat
    (byteSlice p.hdr.info 2 2), true) ∧ t.disp = s.disp ∧ Frame [FST_PERR.FSA, FST_PERR.FSB] s t) ∧
  -- R211: bad data marks its line bad
  (∀ (s : State) (h : Head) (p : Pkt), byteAt p.hdr.info 0 = h.val → s.flag (DSP_FB_STAT.ACTIVE h) = true → (s.head
    h).begun ≤ leNat (byteSlice p.hdr.info 2 2) → Answers (exec (.lineData h none p true) s) fun t => (t.head
    h).lines.head?.map (fun (l : LineBuf) => (l.line, l.bad)) = some (leNat (byteSlice p.hdr.info 2 2), true) ∧ t.out
    = s.out ∧ Frame [DSP_FB_STAT.HELD h, DSP_FB_STAT.URGENT h] s t)

/-- DisplayPort training, HPD and AUX; a line request of a LOCAL head, the line server, and line data (R297, R298,
  R299, R301, R302, R303, R304). -/
def Obligations.DisplayPortAndLines : Prop :=
  -- R297
  (∀ (s : State) (h : Head), s.get (DSP_DP_CTRL.LANES h) ≠ 3 → Answers (exec (.dpTrain h) s) fun t => t.get
    (DSP_DP_STAT.TRAINING h) = 1 ∧ t.get (DSP_DP_STAT.TRAINED h) = 0 ∧ t.get (DSP_DP_STAT.TRAIN_FAIL h) = 0 ∧ (t.head
    h).training = (s.get (DSP_DP_CTRL.RATE h), 2 ^ s.get (DSP_DP_CTRL.LANES h)) ∧ t.out = s.out ++ [.dpTrain h (s.get
    (DSP_DP_CTRL.RATE h)) (2 ^ s.get (DSP_DP_CTRL.LANES h)) (s.flag (DSP_DP_CTRL.ENH_FRAMING h)) (s.flag
    (DSP_DP_CTRL.DOWNSPREAD h))] ∧ Frame [DSP_DP_STAT.TRAINING h, DSP_DP_STAT.TRAINED h, DSP_DP_STAT.TRAIN_FAIL h] s
    t) ∧
  (∀ (s : State) (h : Head), s.flag (DSP_DP_STAT.TRAINING h) = true → Answers (exec (.dpTrainDone h true) s) fun t =>
    t.get (DSP_DP_STAT.TRAINING h) = 0 ∧ (t.head h).trained = some (s.head h).training ∧ t.get (DSP_DP_STAT.TRAINED
    h) = b2n (s.bwOk h (s.head h).training.1 (s.head h).training.2) ∧ t.get (DSP_DP_STAT.BW_ERR h) = b2n (!s.bwOk h
    (s.head h).training.1 (s.head h).training.2) ∧ t.out = s.out ∧ Frame [DSP_DP_STAT.TRAINING h, DSP_DP_STAT.TRAINED
    h, DSP_DP_STAT.BW_ERR h] s t) ∧
  (∀ (s : State) (h : Head), s.flag (DSP_DP_STAT.TRAINING h) = true → Answers (exec (.dpTrainDone h false) s) fun t
    => t.get (DSP_DP_STAT.TRAINING h) = 0 ∧ t.get (DSP_DP_STAT.TRAIN_FAIL h) = 1 ∧ t.out = s.out ∧ Frame
    [DSP_DP_STAT.TRAINING h, DSP_DP_STAT.TRAIN_FAIL h] s t) ∧
  -- R298: an IRQ_HPD pulse
  (∀ (s : State) (h : Head) (level : Bool), s.domainOn 12 = true → Answers (exec (.hpdChange h level true) s) fun t
    => t.get (DSP_DP_STAT.IRQ_HPD h) = 1 ∧ t.get (DSP_DP_STAT.HPD h) = s.get (DSP_DP_STAT.HPD h) ∧ Raised
    (EV.hpdChange h) s t ∧ t.out = s.out ∧ Frame (DSP_DP_STAT.IRQ_HPD h :: evFlds (EV.hpdChange h)) s t) ∧
  -- R298: a change
  (∀ (s : State) (h : Head) (level : Bool), s.domainOn 12 = true → level ≠ s.flag (DSP_DP_STAT.HPD h) → Answers (exec
    (.hpdChange h level false) s) fun t => t.get (DSP_DP_STAT.HPD h) = b2n level ∧ t.get (DSP_DP_STAT.IRQ_HPD h) = 0
    ∧ Raised (EV.hpdChange h) s t ∧ t.out = s.out ∧ Frame ([DSP_DP_STAT.HPD h, DSP_DP_STAT.IRQ_HPD h] ++ evFlds
    (EV.hpdChange h)) s t) ∧
  -- R298: low for 2 ms
  (∀ (s : State) (h : Head), s.flag (DSP_DP_STAT.HPD h) = false → Answers (exec (.hpdLoss h) s) fun t => t.get
    (DSP_DP_STAT.TRAINED h) = 0 ∧ t.get (DSP_DP_STAT.TRAINING h) = 0 ∧ (t.head h).trained = none ∧ t.out = s.out ∧
    Frame [DSP_DP_STAT.TRAINED h, DSP_DP_STAT.TRAINING h] s t) ∧
  -- R299: GO
  (∀ (s : State) (h : Head), s.flag (DSP_AUX_STAT.BUSY h) = false → Answers (exec (.auxGo h) s) fun t => t.get
    (DSP_AUX_STAT.BUSY h) = 1 ∧ t.get (DSP_AUX_STAT.DONE h) = 0 ∧ t.out = s.out ++ [.aux h (s.get (DSP_AUX_CTRL.CMD
    h)) (s.get (DSP_AUX_CTRL.ADDR h)) ((s.windowBytes (DSP_AUX_DATA.DATA h) 4).take (s.get (DSP_AUX_CTRL.LEN h) +
    1))] ∧ (t.head h).defers = 0 ∧ (t.head h).aux = (s.get (DSP_AUX_CTRL.CMD h), s.get (DSP_AUX_CTRL.ADDR h),
    (s.windowBytes (DSP_AUX_DATA.DATA h) 4).take (s.get (DSP_AUX_CTRL.LEN h) + 1)) ∧ Frame [DSP_AUX_STAT.BUSY h,
    DSP_AUX_STAT.DONE h] s t) ∧
  -- R299: a DEFER is retried
  (∀ (s : State) (h : Head) (d : List Byte), s.flag (DSP_AUX_STAT.BUSY h) = true → (s.head h).defers < 7 → Answers
    (exec (.auxDone h 2 d) s) fun t => (t.head h).defers = (s.head h).defers + 1 ∧ (t.head h).aux = (s.head h).aux ∧
    t.out = s.out ++ [.aux h (s.head h).aux.1 (s.head h).aux.2.1 (s.head h).aux.2.2] ∧ Frame [] s t) ∧
  -- R299: the end
  (∀ (s : State) (h : Head) (reply : Nat) (d : List Byte), s.flag (DSP_AUX_STAT.BUSY h) = true → d.length = 16 →
    (reply ≠ 2 ∨ 7 ≤ (s.head h).defers) → Answers (exec (.auxDone h reply d) s) fun t => t.get (DSP_AUX_STAT.BUSY h)
    = 0 ∧ t.get (DSP_AUX_STAT.DONE h) = 1 ∧ t.get (DSP_AUX_STAT.REPLY h) = reply % 2 ^ (DSP_AUX_STAT.REPLY 0).w ∧
    t.get (DSP_AUX_STAT.COUNT h) = 16 ∧ (List.range 4).all (fun k => t.get (DSP_AUX_DATA.DATA h k) == leNat
    (byteSlice d (4 * k) 4)) = true ∧ Raised (EV.auxDone h) s t ∧ t.out = s.out ∧ Frame ([DSP_AUX_STAT.BUSY h,
    DSP_AUX_STAT.DONE h, DSP_AUX_STAT.REPLY h, DSP_AUX_STAT.COUNT h] ++ (List.range 4).map (DSP_AUX_DATA.DATA h) ++
    evFlds (EV.auxDone h)) s t) ∧
  -- R303, R304: the next LINE_REQ of a head with LOCAL
  (∀ (s : State) (h : Head), s.flag (DSP_FB_STAT.ACTIVE h) = true → (s.head h).asked < (s.head h).raster.vactive →
    (s.head h).asked < (s.head h).begun + 16 → s.flag (DSP_FB_CTRL.LOCAL h) = true → Answers (exec (.lineFetchRequest
    h) s) fun t => (t.head h).asked = (s.head h).asked + 1 ∧ t.out.dropLast = s.out ∧ (t.out.getLast?.map fun o =>
    (match o with | .line k l d _ => (k, l, byteSlice d 2 4, leNat (byteSlice d 6 8)) | _ => (2, 0, [], 0))) = some
    (h.val, (s.head h).asked, leBytes 2 (s.head h).asked ++ leBytes 2 (s.lineBytes h), (s.get64 (DSP_FB_ADDR_LO.ADDR
    h (s.get (DSP_STAT.FRONT_SURF h))) (DSP_FB_ADDR_HI.ADDR h (s.get (DSP_STAT.FRONT_SURF h))) + (s.head h).asked *
    s.get (DSP_FB_STRIDE.BYTES h)) % 2 ^ 64) ∧ Frame [DSP_FB_STAT.HELD h, DSP_FB_STAT.URGENT h] s t) ∧
  -- R301, R302: from the frame store
  (∀ (s : State) (c : CtxNo) (p : Pkt) (host : Option (List Byte)), s.toServer c = true → bit (byteAt p.hdr.info 1) 1
    = false → s.flag (CTX0.PAIR_VALID c) = true → s.adapterOn 6 = true → s.flag (CTX5.DRAINING (s.get (CTX0.PAIR c)))
    = false → s.flag (CTX5.ACTIVE (s.get (CTX0.PAIR c))) = true → s.flag (CTX5.HELD (s.get (CTX0.PAIR c))) = false →
    s.get (CTX0.IN_ATT (s.get (CTX0.PAIR c))) = 6 → s.get (CTX0.CLASS (s.get (CTX0.PAIR c))) < 2 → s.flag
    (FE_STAT.FENCED (s.get (CTX0.HOME (s.get (CTX0.PAIR c))))) = false → Answers (exec (.lineReq (some c) p host [])
    s) fun t => t.flows.waiting.dropLast = s.flows.waiting ∧ (t.flows.waiting.getLast?.map fun e => (e.ctx, e.inAtt,
    e.pkt.hdr.mx, e.pkt.hdr.poison, byteSlice e.pkt.hdr.info 2 4)) = some ((s.get (CTX0.PAIR c)), 6, 9, false,
    byteSlice p.hdr.info 2 4) ∧ (t.flows.waiting.getLast?.map fun e => e.pkt.data.take (leNat (byteSlice p.hdr.info 4
    2))) = some ((List.range (leNat (byteSlice p.hdr.info 4 2))).map fun k => s.fstRead ((leNat (byteSlice p.hdr.info
    6 8) % 2 ^ 25 + k) % 2 ^ 25)) ∧ t.out = s.out ∧ SameBytes s t) ∧
  -- R301: this hub's own head
  (∀ (s : State) (p : Pkt) (host : Option (List Byte)), bit (byteAt p.hdr.info 1) 1 = false → Answers (exec (.lineReq
    none p host []) s) fun t => t.out = s.out ++ [.line (byteAt p.hdr.info 0) (leNat (byteSlice p.hdr.info 2 2))
    ((List.range (leNat (byteSlice p.hdr.info 4 2))).map fun k => s.fstRead ((leNat (byteSlice p.hdr.info 6 8) % 2 ^
    25 + k) % 2 ^ 25)) false] ∧ t = { s with regs := t.regs, out := t.out } ∧ Frame [] s t) ∧
  -- R303: into the line buffer
  (∀ (s : State) (h : Head) (p : Pkt) (bad : Bool), byteAt p.hdr.info 0 = h.val → s.flag (DSP_FB_STAT.ACTIVE h) =
    true → (s.head h).begun ≤ leNat (byteSlice p.hdr.info 2 2) → Answers (exec (.lineData h none p bad) s) fun t =>
    (t.head h).lines = ⟨leNat (byteSlice p.hdr.info 2 2), byteSlice p.data 0 (min (leNat (byteSlice p.hdr.info 4 2))
    7680), bad || p.hdr.poison, none⟩ :: (s.head h).lines.filter (fun l => l.line != leNat (byteSlice p.hdr.info 2
    2)) ∧ t.get (DSP_FB_STAT.HELD h) = t.linesHeld h % 2 ^ (DSP_FB_STAT.HELD 0).w ∧ t.out = s.out ∧ Frame
    [DSP_FB_STAT.HELD h, DSP_FB_STAT.URGENT h] s t)

/-- Messages of CAN, UART, I2C and GPIO meet the routing table: forwarded, kept in a receive FIFO, or counted as a
  miss (R310, R311, R312, R315, R317, R318, R322, R323). -/
def Obligations.FieldBusIngress : Prop :=
  -- R312, R315, R317: no entry, MISS_FIFO
  (∀ (s : State) (n : Fin 4) (id : Nat) (d : List Byte) (rtr esi : Bool) (crc i rec : Nat), s.busEnabled n = true →
    s.get (CAN_STAT.STATE n) ≠ 2 → (bit id 30 = true → s.flag (CAN_CTRL.FD_EN n) = true) → d.length ≤ 64 →
    (s.bridge.canRx.getD n.val []).length + 30 ≤ 512 → s.brtMatch n (id % 2 ^ 32) = none → s.flag (CAN_CTRL.MISS_FIFO
    n) = true → Answers (exec (.canFrameRx n id d rtr esi crc i rec) s) fun t => t.bridge.canRx.getD n.val [] =
    s.bridge.canRx.getD n.val [] ++ canEntries id d rtr esi ∧ t.get BRT_STAT0.MISS = satAdd (BRT_STAT0.MISS.w) (s.get
    BRT_STAT0.MISS) 1 % 2 ^ (BRT_STAT0.MISS.w) ∧ Raised EV.brtMiss s t ∧ t.flows = s.flows ∧ t.out = s.out ∧ Frame
    ([CAN_STAT.TEC n, CAN_STAT.REC n, CAN_STAT.STATE n, BRT_STAT0.MISS] ++ evFlds EV.brtMiss ++ evFlds (EV.canRx n)
    ++ evFlds (EV.busOff n)) s t) ∧
  -- R310: an entry that is LOCAL
  (∀ (s : State) (n : Fin 4) (id : Nat) (d : List Byte) (rtr esi : Bool) (crc i rec : Nat) (e : Nat), s.busEnabled n
    = true → s.get (CAN_STAT.STATE n) ≠ 2 → (bit id 30 = true → s.flag (CAN_CTRL.FD_EN n) = true) → d.length ≤ 64 →
    (s.bridge.canRx.getD n.val []).length + 30 ≤ 512 → s.brtMatch n (id % 2 ^ 32) = some e → s.hasToken e = true →
    s.flag (BRT0.LOCAL e) = true → Answers (exec (.canFrameRx n id d rtr esi crc i rec) s) fun t =>
    t.bridge.canRx.getD n.val [] = s.bridge.canRx.getD n.val [] ++ canEntries id d rtr esi ∧ t.get (BRT7.HITS e) =
    satAdd ((BRT7.HITS e).w) (s.get (BRT7.HITS e)) 1 % 2 ^ ((BRT7.HITS e).w) ∧ t.flows = s.flows ∧ t.out = s.out ∧
    Frame ([CAN_STAT.TEC n, CAN_STAT.REC n, CAN_STAT.STATE n, BRT7.HITS e] ++ evFlds (EV.canRx n) ++ evFlds
    (EV.busOff n)) s t) ∧
  -- R322: a message into the receive FIFO
  (∀ (s : State) (n : Fin 4) (cs : List Nat) (i c : Nat) (l : List Nat), s.busEnabled (8 + n) = true → cs = c :: l →
    cs.length ≤ 1024 → (s.bridge.uartRx.getD n.val []).length + cs.length ≤ 2048 → s.bridge.deUntil.getD n.val 0 ≤
    s.uptime → s.bridge.uartPart.getD n.val [] = [] → l.all (fun x => !bit x 8) = true → cs.all (fun x => !bit x 11)
    = true → s.flag (UART_FRAME.MISS_FIFO n) = true → s.get (UART_FRAME.FRAMING n) = 1 → s.brtMatch (8 + n) (c % 512)
    = none → Answers (exec (.uartMessageEnd n cs i) s) fun t => t.bridge.uartRx.getD n.val [] = s.bridge.uartRx.getD
    n.val [] ++ (cs.dropLast.map fun x => x % 2 ^ 12) ++ [cs.getLastD 0 % 2 ^ 12 + 2 ^ 12] ∧ t.get BRT_STAT0.MISS =
    satAdd (BRT_STAT0.MISS.w) (s.get BRT_STAT0.MISS) 1 % 2 ^ (BRT_STAT0.MISS.w) ∧ Raised EV.brtMiss s t ∧ t.flows =
    s.flows ∧ t.out = s.out ∧ Frame ([UART_STAT.PARITY_ERR n, UART_STAT.FRAMING_ERR n, UART_STAT.BREAKS n,
    BRT_STAT0.MISS] ++ evFlds EV.brtMiss ++ evFlds (EV.uartErr n) ++ evFlds (EV.uartRx n)) s t) ∧
  -- R307, R311, R318: forwarded
  (∀ (s : State) (n : Fin 2) (id : Nat) (d : List Byte) (i e : Nat), s.flag (I2C_CTRL.TEN n) = true → s.busEnabled (4
    + n) = true → id % 2 ^ 11 = s.targetId n → d ≠ [] → d.length ≤ 256 → s.brtMatch (4 + n) (id % 2 ^ 11 + 2 ^ 16 *
    byteAt d 0) = some e → s.hasToken e = true → s.flag (BRT0.LOCAL e) = false → s.flag (CTX0.WRAP (s.get (BRT0.CTX
    e))) = false → s.flag (CTX0.SEAL (s.get (BRT0.CTX e))) = false → s.inRoom 7 (s.get (CTX0.CLASS (s.get (BRT0.CTX
    e)))) 321 = true → (s.flows.backlog.any fun b => b.2.1 == (s.get (BRT0.CTX e))) = false → s.adapterOn 7 = true →
    s.flag (CTX5.DRAINING (s.get (BRT0.CTX e))) = false → s.flag (CTX5.ACTIVE (s.get (BRT0.CTX e))) = true → s.flag
    (CTX5.HELD (s.get (BRT0.CTX e))) = false → s.get (CTX0.IN_ATT (s.get (BRT0.CTX e))) = 7 → s.get (CTX0.CLASS
    (s.get (BRT0.CTX e))) < 2 → s.flag (FE_STAT.FENCED (s.get (CTX0.HOME (s.get (BRT0.CTX e))))) = false → Answers
    (exec (.i2cTargetWrite n id d i) s) fun t => t.bridge.i2cIdx.getD n.val 0 = byteAt d 0 ∧ t.flows.waiting.dropLast
    = s.flows.waiting ∧ (t.flows.waiting.getLast?.map fun e => (e.ctx, e.inAtt, e.pkt.hdr.mx, byteSlice
    e.pkt.hdr.info 0 8, brPayload e.pkt)) = some ((s.get (BRT0.CTX e)), 7, 1, [BitVec.ofNat 8 (s.get (BRT5.DST_BUS
    e)), BitVec.ofNat 8 s.hubId, BitVec.ofNat 8 (4 + n.val), BitVec.ofNat 8 (s.brtOpts e)] ++ leBytes 4 (s.brtId e
    (id % 2 ^ 11 + 2 ^ 16 * byteAt d 0)), d) ∧ t.get (BRT7.HITS e) = satAdd ((BRT7.HITS e).w) (s.get (BRT7.HITS e)) 1
    % 2 ^ ((BRT7.HITS e).w) ∧ t.out = s.out ∧ Frame [BRT7.HITS e, CTX4.NEXT_SEQ (s.get (BRT0.CTX e)), CTX4.GAPS
    (s.get (BRT0.CTX e))] s t) ∧
  -- R318: from the mirror
  (∀ (s : State) (n : Fin 2) (k : Nat), s.flag (I2C_CTRL.TEN n) = true → s.busEnabled (4 + n) = true → Answers (exec
    (.i2cTargetRead n k) s) fun t => t =
    { s with out := s.out ++ [.bus (4 + n) (s.get (I2C_CTRL.TADDR n)) ((List.range k).map fun j => s.mirror n ((s.bridge.i2cIdx.getD n 0 + j) % 256))] }) ∧
  -- R323: edges of one tick
  (∀ (s : State) (g : Fin 6) (lines levels i : Nat), s.domainOn 13 = true → (lines % 256 &&& s.get (GPIO_CFG.EDGE_EN
    g)) ≠ 0 → s.brtMatch 12 (g + 2 ^ 8 * (lines % 256 &&& s.get (GPIO_CFG.EDGE_EN g)) + 2 ^ 16 * (levels % 256)) =
    none → ((s.get GPIO_TS_HEAD.HEAD) + 1) % 16 ≠ s.get GPIO_TS_TAIL.TAIL → Answers (exec (.gpioEdge g lines levels
    i) s) fun t => t.get (GPIO_LEVEL.IN g) = levels % 256 ∧ t.get (GPIO_TS0.GROUP (s.get GPIO_TS_HEAD.HEAD)) = g ∧
    t.get (GPIO_TS0.LINES (s.get GPIO_TS_HEAD.HEAD)) = (lines % 256 &&& s.get (GPIO_CFG.EDGE_EN g)) % 256 ∧ t.get
    (GPIO_TS0.LEVELS (s.get GPIO_TS_HEAD.HEAD)) = levels % 256 ∧ t.get (GPIO_TS1.TICKS (s.get GPIO_TS_HEAD.HEAD)) = i
    % 2 ^ 32 ∧ t.get GPIO_TS_HEAD.HEAD = ((s.get GPIO_TS_HEAD.HEAD) + 1) % 16 ∧ t.get BRT_STAT0.MISS = satAdd
    (BRT_STAT0.MISS.w) (s.get BRT_STAT0.MISS) 1 % 2 ^ (BRT_STAT0.MISS.w) ∧ Raised EV.gpioEdge s t ∧ t.flows = s.flows
    ∧ t.out = s.out ∧ Frame ([GPIO_LEVEL.IN g, GPIO_TS0.GROUP (s.get GPIO_TS_HEAD.HEAD), GPIO_TS0.LINES (s.get
    GPIO_TS_HEAD.HEAD), GPIO_TS0.LEVELS (s.get GPIO_TS_HEAD.HEAD), GPIO_TS1.TICKS (s.get GPIO_TS_HEAD.HEAD),
    GPIO_TS_HEAD.HEAD, BRT_STAT0.MISS] ++ evFlds EV.gpioEdge ++ evFlds EV.gpioWake ++ evFlds EV.brtMiss) s t) ∧
  -- R312
  (∀ (s : State) (e : Fin 4096), Answers (exec (.rateTokenRefill e) s) fun t => t.bridge.spent.getD e 0 =
    s.bridge.spent.getD e 0 - 1 ∧ t.flows = s.flows ∧ t.out = s.out ∧ Frame [] s t)

/-- Packets for the buses are queued and carried out; GPIO outputs are set at once or at their time (R308, R313,
  R316, R318, R319, R323, R327, R328). -/
def Obligations.OutputsAndQueues : Prop :=
  -- R313
  (∀ (s : State) (p : FlowPkt), s.flows.held = [p] → s.brReady p = true → p.bad = false → p.pkt.hdr.cls ≠ 1 →
    p.pkt.hdr.sealed = false → s.queueRoom (brBus p) (byteAt p.pkt.hdr.info 3 % 4) = true → p.ctx < 2048 → Answers
    (exec (.bridgeEgressQueue) s) fun t => t.flows.held = [] ∧ t.bridge.queue = markHeads s.uptime [] (s.bridge.queue
    ++ [⟨brBus p, byteAt p.pkt.hdr.info 3 % 4, p.ctx, p.pkt, none⟩]) ∧ t.flows.waiting = s.flows.waiting ∧ t.out =
    s.out ++ [.packet 7 ⟨{ p.pkt.hdr with flow := p.outLabel }, p.pkt.data⟩] ∧ Frame [CTX6.OCCUPANCY p.ctx,
    CTXP3.ADMITTED_OCC p.ctx] s t) ∧
  -- R308, R318: an I2C write
  (∀ (s : State) (b : BusNo) (r tec : Nat) (q : BrMsg), s.nextMsg b = some q → q.wrapped = false → q.op = 0 → q.fifo
    = false → q.isLocked = false → (b.val = 4 ∨ b.val = 5) → s.busEnabled b = true → r ≠ 1 → r ≠ 10 → Answers (exec
    (.bridgeWrite b r tec) s) fun t => t.bridge.queue = markHeads s.uptime [] (s.bridge.queue.erase q) ∧ t.out =
    s.out ++ [.bus b q.id q.payload] ∧ Raised (EV.i2cDone (b - 4)) s t ∧ t.flows = s.flows ∧ Frame (evFlds
    (EV.i2cDone (b - 4))) s t) ∧
  -- R308, R322: a UART write, framed by DE with RS485
  (∀ (s : State) (b : BusNo) (r tec : Nat) (q : BrMsg), s.nextMsg b = some q → q.wrapped = false → q.op = 0 → q.fifo
    = false → q.isLocked = false → 8 ≤ b.val → b.val < 12 → s.busEnabled b = true → Answers (exec (.bridgeWrite b r
    tec) s) fun t => t.bridge.queue = markHeads s.uptime [] (s.bridge.queue.erase q) ∧ t.out = s.out ++ (if s.flag
    (UART_FRAME.RS485 (b - 8)) then [.de b (s.get (UART_FRAME.DE_LEAD (b - 8))) (s.get (UART_FRAME.DE_LAG (b - 8)))]
    else []) ++ [.uart b (q.payload.map BitVec.toNat)] ∧ t.flows = s.flows ∧ Frame [] s t) ∧
  -- R319: an SPI memory window
  (∀ (s : State) (b : BusNo) (r tec : Nat) (q : BrMsg), s.nextMsg b = some q → q.wrapped = false → q.op = 0 → q.fifo
    = false → q.isLocked = false → 6 ≤ b.val → b.val < 8 → s.busEnabled b = true → bit q.id 29 = true → s.winOk (b -
    6) q q.payload.length = true → Answers (exec (.bridgeWrite b r tec) s) fun t => t.bridge.queue = markHeads
    s.uptime [] (s.bridge.queue.erase q) ∧ t.out = s.out ++ [.spi b (s.get (SPI_WIN_B.CS (b - 6) (winOf q.id)))
    (s.get (SPI_WIN_B.LINES (b - 6) (winOf q.id))) (s.get (SPI_WIN_B.DUMMY (b - 6) (winOf q.id))) (s.winCmd (b - 6) q
    true ++ q.payload)] ∧ Raised (EV.spiDone (b - 6)) s t ∧ t.flows = s.flows ∧ Frame (evFlds (EV.spiDone (b - 6))) s
    t) ∧
  -- R316: a CAN frame
  (∀ (s : State) (b : BusNo) (tec : Nat) (q : BrMsg), s.nextMsg b = some q → q.wrapped = false → q.op = 0 → q.fifo =
    false → q.isLocked = false → b.val < 4 → s.canMay b = true → q.payload.length ≤ 8 → bit (q.m 17) 7 = false →
    Answers (exec (.bridgeWrite b 0 tec) s) fun t => t.bridge.queue = markHeads s.uptime [] (s.bridge.queue.erase q)
    ∧ t.out = s.out ++ [.can b (q.id % 2 ^ 32) false (dlc q.payload.length) (byteSlice q.payload 0 (dlcLen (dlc
    q.payload.length)))] ∧ t.get (CAN_STAT.TEC b) = min tec 255 ∧ t.flows = s.flows ∧ Frame ([CAN_STAT.TEC b,
    CAN_STAT.REC b, CAN_STAT.STATE b] ++ evFlds (EV.busOff b)) s t) ∧
  -- R308: an I2C read answers
  (∀ (s : State) (b : BusNo) (d : List Byte) (q : BrMsg), s.nextMsg b = some q → q.wrapped = false → q.op = 1 →
    q.isLocked = false → (b.val = 4 ∨ b.val = 5) → s.busEnabled b = true → q.readOk = true → d.length = q.count →
    s.flag (CTX0.PAIR_VALID q.ctx) = true → s.flag (CTX0.WRAP (s.get (CTX0.PAIR q.ctx))) = false → s.flag (CTX0.SEAL
    (s.get (CTX0.PAIR q.ctx))) = false → s.inRoom 7 (s.get (CTX0.CLASS (s.get (CTX0.PAIR q.ctx)))) 321 = true →
    (s.flows.backlog.any fun b => b.2.1 == (s.get (CTX0.PAIR q.ctx))) = false → s.adapterOn 7 = true → s.flag
    (CTX5.DRAINING (s.get (CTX0.PAIR q.ctx))) = false → s.flag (CTX5.ACTIVE (s.get (CTX0.PAIR q.ctx))) = true →
    s.flag (CTX5.HELD (s.get (CTX0.PAIR q.ctx))) = false → s.get (CTX0.IN_ATT (s.get (CTX0.PAIR q.ctx))) = 7 → s.get
    (CTX0.CLASS (s.get (CTX0.PAIR q.ctx))) < 2 → s.flag (FE_STAT.FENCED (s.get (CTX0.HOME (s.get (CTX0.PAIR
    q.ctx))))) = false → Answers (exec (.bridgeRead b 0 d) s) fun t => t.bridge.queue = markHeads s.uptime []
    (s.bridge.queue.erase q) ∧ t.out = s.out ++ [.bus b q.id q.cmd] ∧ Raised (EV.i2cDone (b - 4)) s t ∧
    t.flows.waiting.dropLast = s.flows.waiting ∧ (t.flows.waiting.getLast?.map fun e => (e.ctx, e.inAtt, byteSlice
    e.pkt.hdr.info 0 3, byteAt e.pkt.hdr.info 17 % 16, (brPayload e.pkt))) = some ((s.get (CTX0.PAIR q.ctx)), 7,
    [BitVec.ofNat 8 (q.m 2), BitVec.ofNat 8 s.hubId, BitVec.ofNat 8 q.bus], 2, BitVec.ofNat 8 0 :: d) ∧ Frame
    ([CTX4.NEXT_SEQ (s.get (CTX0.PAIR q.ctx)), CTX4.GAPS (s.get (CTX0.PAIR q.ctx))] ++ evFlds (EV.i2cDone (b - 4))) s
    t) ∧
  -- R318: a stretch beyond 25 ms
  (∀ (s : State) (n : Fin 2) (q : BrMsg), s.nextMsg (4 + n) = some q → q.wrapped = false → q.op = 0 → q.isLocked =
    false → Answers (exec (.i2cStretchTimeout n) s) fun t => t.bridge.queue = markHeads s.uptime []
    (s.bridge.queue.erase q) ∧ Raised (EV.i2cDone n) s t ∧ t.flows = s.flows ∧ t.out = s.out ∧ Frame (evFlds
    (EV.i2cDone n)) s t) ∧
  -- R316: TX_TIMEOUT, of the head that has waited longest
  (∀ (s : State) (n : Fin 4) (q : BrMsg), s.oldestHead n = some q → Answers (exec (.canTxTimeout n) s) fun t =>
    t.bridge.queue = markHeads s.uptime [] (s.bridge.queue.erase q) ∧ t.get (CAN_STAT.TX_DROP n) = satAdd
    ((CAN_STAT.TX_DROP n).w) (s.get (CAN_STAT.TX_DROP n)) 1 % 2 ^ ((CAN_STAT.TX_DROP n).w) ∧ t.flows = s.flows ∧
    t.out = s.out ∧ Frame [CAN_STAT.TX_DROP n] s t) ∧
  -- R316
  (∀ (s : State) (n : Fin 4), s.get (CAN_STAT.STATE n) = 2 → s.flag (CAN_CTRL.AUTO_RECOVER n) = true → Answers (exec
    (.canBusOffRecovery n) s) fun t => t.get (CAN_STAT.STATE n) = 0 ∧ t.get (CAN_STAT.TEC n) = 0 ∧ t.get
    (CAN_STAT.REC n) = 0 ∧ t.out = s.out ∧ Frame [CAN_STAT.STATE n, CAN_STAT.TEC n, CAN_STAT.REC n] s t) ∧
  -- R323: an EDGE
  (∀ (s : State) (q : BrMsg), s.nextMsg 12 = some q → q.wrapped = false → q.op = 3 → q.isLocked = false → Answers
    (exec (.bridgeEdge) s) fun t => t.bridge.queue = markHeads s.uptime [] (s.bridge.queue.erase q) ∧ t.out = s.out
    ++ [.bus 12 q.id []] ∧ t.flows = s.flows ∧ Frame [] s t) ∧
  -- R323: a SET
  (∀ (s : State) (q : BrMsg), s.nextMsg 12 = some q → q.wrapped = false → q.op = 4 → q.isLocked = false →
    q.pkt.hdr.held = false → q.id % 8 < 6 → Answers (exec (.bridgeSet) s) fun t => t.bridge.queue = markHeads
    s.uptime [] (s.bridge.queue.erase q) ∧ t.get (GPIO_LEVEL.OUT (q.id % 8)) = ((s.get (GPIO_LEVEL.OUT (q.id % 8))
    &&& (255 ^^^ (bits q.id 8 8) % 256)) ||| ((bits q.id 16 8) &&& (bits q.id 8 8) % 256)) % 256 ∧ t.out = s.out ++
    [.gpio (q.id % 8) (t.gpioDriven (q.id % 8)) (t.get (GPIO_LEVEL.OUT (q.id % 8)))] ∧ Frame [GPIO_LEVEL.OUT (q.id %
    8)] s t) ∧
  -- R328, Table 11.9: an I2C image
  (∀ (s : State) (b : BusNo) (good : Bool) (a : Nat) (d : List Byte) (q : BrMsg), s.nextMsg b = some q → q.wrapped =
    true → q.m 17 % 16 = 1 → q.fifo = false → (b.val = 4 ∨ b.val = 5) → i2cWrites q.payload = [(a, d)] → Answers
    (exec (.wrappedEgress b good) s) fun t => t.bridge.queue = markHeads s.uptime [] (s.bridge.queue.erase q) ∧ t.out
    = s.out ++ [.bus b a d] ∧ Raised (EV.i2cDone (b - 4)) s t ∧ t.flows = s.flows ∧ Frame (evFlds (EV.i2cDone (b -
    4))) s t) ∧
  -- R323: into the schedule
  (∀ (s : State) (v : Nat), s.schedFull = false → s.now ≤ s.get64 GPIO_SCHED_T_LO.T GPIO_SCHED_T_HI.T → Answers (exec
    (.gpioSchedPush v) s) fun t => t.bridge.sched = insertSched ⟨s.get64 GPIO_SCHED_T_LO.T GPIO_SCHED_T_HI.T, bits v
    24 3, bits v 8 8, bits v 0 8⟩ s.bridge.sched ∧ t.get GPIO_SCHED_STAT.QUEUED = t.bridge.sched.length % 2 ^
    GPIO_SCHED_STAT.QUEUED.w ∧ t.out = s.out ∧ Frame [GPIO_SCHED_STAT.QUEUED] s t) ∧
  -- R49, R323: late
  (∀ (s : State) (v : Nat), s.schedFull = false → s.get64 GPIO_SCHED_T_LO.T GPIO_SCHED_T_HI.T < s.now → bits v 24 3 <
    6 → Answers (exec (.gpioSchedPush v) s) fun t => t.bridge.sched = s.bridge.sched ∧ t.get (GPIO_LEVEL.OUT (bits v
    24 3)) = ((s.get (GPIO_LEVEL.OUT (bits v 24 3)) &&& (255 ^^^ (bits v 8 8) % 256)) ||| ((bits v 0 8) &&& (bits v 8
    8) % 256)) % 256 ∧ t.out = s.out ++ [.gpio (bits v 24 3) (t.gpioDriven (bits v 24 3)) (t.get (GPIO_LEVEL.OUT
    (bits v 24 3)))] ∧ Raised EV.schedLate s t ∧ Frame (GPIO_LEVEL.OUT (bits v 24 3) :: evFlds EV.schedLate) s t) ∧
  -- R323: at its time
  (∀ (s : State) (x : Sched), s.bridge.sched = [x] → x.t = s.now → s.frozen = false → x.group < 6 → Answers (exec
    (.schedOutputDue) s) fun t => t.bridge.sched = [] ∧ t.get GPIO_SCHED_STAT.QUEUED = 0 ∧ t.get (GPIO_LEVEL.OUT
    x.group) = ((s.get (GPIO_LEVEL.OUT x.group) &&& (255 ^^^ x.mask % 256)) ||| (x.levels &&& x.mask % 256)) % 256 ∧
    t.out = s.out ++ [.gpio x.group (t.gpioDriven x.group) (t.get (GPIO_LEVEL.OUT x.group))] ∧ Frame [GPIO_LEVEL.OUT
    x.group, GPIO_SCHED_STAT.QUEUED] s t)

/-- Semaphores are granted, refused, released and broken; the transfer window; read-ahead discards; the Yield plan
  (R308, R320, R321, R324, R325, R327, R329). -/
def Obligations.SemaphoresAndTransfers : Prop :=
  -- R324: a free semaphore
  (∀ (s : State) (q : BrMsg), s.nextMsg 14 = some q → q.wrapped = false → q.op = 5 → s.flag (SEM0.HELD (q.id % 32)) =
    false → s.flag (CTX0.PAIR_VALID q.ctx) = true → s.flag (CTX0.WRAP (s.get (CTX0.PAIR q.ctx))) = false → s.flag
    (CTX0.SEAL (s.get (CTX0.PAIR q.ctx))) = false → s.inRoom 7 (s.get (CTX0.CLASS (s.get (CTX0.PAIR q.ctx)))) 321 =
    true → (s.flows.backlog.any fun b => b.2.1 == (s.get (CTX0.PAIR q.ctx))) = false → s.adapterOn 7 = true → s.flag
    (CTX5.DRAINING (s.get (CTX0.PAIR q.ctx))) = false → s.flag (CTX5.ACTIVE (s.get (CTX0.PAIR q.ctx))) = true →
    s.flag (CTX5.HELD (s.get (CTX0.PAIR q.ctx))) = false → s.get (CTX0.IN_ATT (s.get (CTX0.PAIR q.ctx))) = 7 → s.get
    (CTX0.CLASS (s.get (CTX0.PAIR q.ctx))) < 2 → s.flag (FE_STAT.FENCED (s.get (CTX0.HOME (s.get (CTX0.PAIR
    q.ctx))))) = false → Answers (exec (.semAcq) s) fun t => t.bridge.queue = markHeads s.uptime []
    (s.bridge.queue.erase q) ∧ t.get (SEM0.HELD (q.id % 32)) = 1 ∧ t.get (SEM0.HUB (q.id % 32)) = q.m 1 % 2 ^
    (SEM0.HUB 0).w ∧ t.get (SEM0.TAG (q.id % 32)) = q.m 18 % 2 ^ (SEM0.TAG 0).w ∧ t.get (SEM1.CTX (q.id % 32)) =
    q.ctx % 2 ^ (SEM1.CTX 0).w ∧ t.get (SEM2.ACQ_TIME (q.id % 32)) = s.now32 ∧ t.flows.waiting.dropLast =
    s.flows.waiting ∧ (t.flows.waiting.getLast?.map fun e => (e.ctx, e.inAtt, byteSlice e.pkt.hdr.info 0 3, byteAt
    e.pkt.hdr.info 17 % 16, (brPayload e.pkt))) = some ((s.get (CTX0.PAIR q.ctx)), 7, [BitVec.ofNat 8 (q.m 2),
    BitVec.ofNat 8 s.hubId, BitVec.ofNat 8 q.bus], 2, BitVec.ofNat 8 0 :: []) ∧ t.out = s.out ∧ Frame [SEM0.HELD
    (q.id % 32), SEM0.HUB (q.id % 32), SEM0.TAG (q.id % 32), SEM1.CTX (q.id % 32), SEM2.ACQ_TIME (q.id % 32),
    CTX4.NEXT_SEQ (s.get (CTX0.PAIR q.ctx)), CTX4.GAPS (s.get (CTX0.PAIR q.ctx))] s t) ∧
  -- R324: held by another
  (∀ (s : State) (q : BrMsg), s.nextMsg 14 = some q → q.wrapped = false → q.op = 5 → s.flag (SEM0.HELD (q.id % 32)) =
    true → s.semTriple (q.id % 32) ≠ q.triple → s.flag (CTX0.PAIR_VALID q.ctx) = true → s.flag (CTX0.WRAP (s.get
    (CTX0.PAIR q.ctx))) = false → s.flag (CTX0.SEAL (s.get (CTX0.PAIR q.ctx))) = false → s.inRoom 7 (s.get
    (CTX0.CLASS (s.get (CTX0.PAIR q.ctx)))) 321 = true → (s.flows.backlog.any fun b => b.2.1 == (s.get (CTX0.PAIR
    q.ctx))) = false → s.adapterOn 7 = true → s.flag (CTX5.DRAINING (s.get (CTX0.PAIR q.ctx))) = false → s.flag
    (CTX5.ACTIVE (s.get (CTX0.PAIR q.ctx))) = true → s.flag (CTX5.HELD (s.get (CTX0.PAIR q.ctx))) = false → s.get
    (CTX0.IN_ATT (s.get (CTX0.PAIR q.ctx))) = 7 → s.get (CTX0.CLASS (s.get (CTX0.PAIR q.ctx))) < 2 → s.flag
    (FE_STAT.FENCED (s.get (CTX0.HOME (s.get (CTX0.PAIR q.ctx))))) = false → Answers (exec (.semAcq) s) fun t =>
    t.bridge.queue = markHeads s.uptime [] (s.bridge.queue.erase q) ∧ t.flows.waiting.dropLast = s.flows.waiting ∧
    (t.flows.waiting.getLast?.map fun e => (e.ctx, e.inAtt, byteSlice e.pkt.hdr.info 0 3, byteAt e.pkt.hdr.info 17 %
    16, (brPayload e.pkt))) = some ((s.get (CTX0.PAIR q.ctx)), 7, [BitVec.ofNat 8 (q.m 2), BitVec.ofNat 8 s.hubId,
    BitVec.ofNat 8 q.bus], 2, BitVec.ofNat 8 5 :: []) ∧ t.out = s.out ∧ Frame [CTX4.NEXT_SEQ (s.get (CTX0.PAIR
    q.ctx)), CTX4.GAPS (s.get (CTX0.PAIR q.ctx))] s t) ∧
  -- R324: REL by the holder
  (∀ (s : State) (q : BrMsg), s.nextMsg 14 = some q → q.wrapped = false → q.op = 6 → s.flag (SEM0.HELD (q.id % 32)) =
    true → s.semTriple (q.id % 32) = q.triple → s.bridge.holds = [] → s.flag (CTX0.PAIR_VALID q.ctx) = true → s.flag
    (CTX0.WRAP (s.get (CTX0.PAIR q.ctx))) = false → s.flag (CTX0.SEAL (s.get (CTX0.PAIR q.ctx))) = false → s.inRoom 7
    (s.get (CTX0.CLASS (s.get (CTX0.PAIR q.ctx)))) 321 = true → (s.flows.backlog.any fun b => b.2.1 == (s.get
    (CTX0.PAIR q.ctx))) = false → s.adapterOn 7 = true → s.flag (CTX5.DRAINING (s.get (CTX0.PAIR q.ctx))) = false →
    s.flag (CTX5.ACTIVE (s.get (CTX0.PAIR q.ctx))) = true → s.flag (CTX5.HELD (s.get (CTX0.PAIR q.ctx))) = false →
    s.get (CTX0.IN_ATT (s.get (CTX0.PAIR q.ctx))) = 7 → s.get (CTX0.CLASS (s.get (CTX0.PAIR q.ctx))) < 2 → s.flag
    (FE_STAT.FENCED (s.get (CTX0.HOME (s.get (CTX0.PAIR q.ctx))))) = false → Answers (exec (.semRel) s) fun t =>
    t.bridge.queue = markHeads s.uptime [] (s.bridge.queue.erase q) ∧ t.get (SEM0.HELD (q.id % 32)) = 0 ∧ t.get
    (SEM0.HUB (q.id % 32)) = 0 ∧ t.get (SEM0.TAG (q.id % 32)) = 0 ∧ t.get (SEM1.CTX (q.id % 32)) = 0 ∧
    t.flows.waiting.dropLast = s.flows.waiting ∧ (t.flows.waiting.getLast?.map fun e => (e.ctx, e.inAtt, byteSlice
    e.pkt.hdr.info 0 3, byteAt e.pkt.hdr.info 17 % 16, (brPayload e.pkt))) = some ((s.get (CTX0.PAIR q.ctx)), 7,
    [BitVec.ofNat 8 (q.m 2), BitVec.ofNat 8 s.hubId, BitVec.ofNat 8 q.bus], 2, BitVec.ofNat 8 0 :: []) ∧ t.out =
    s.out ∧ Frame [SEM0.HELD (q.id % 32), SEM0.HUB (q.id % 32), SEM0.TAG (q.id % 32), SEM1.CTX (q.id % 32),
    CTX4.NEXT_SEQ (s.get (CTX0.PAIR q.ctx)), CTX4.GAPS (s.get (CTX0.PAIR q.ctx))] s t) ∧
  -- R325
  (∀ (s : State) (k : Fin 32), s.flag (SEM0.HELD k) = true → s.bridge.holds = [] → Answers (exec (.semTimeout k) s)
    fun t => t.get (SEM0.HELD k) = 0 ∧ t.get (SEM3.BROKEN k) = satAdd ((SEM3.BROKEN k).w) (s.get (SEM3.BROKEN k)) 1 %
    2 ^ ((SEM3.BROKEN k).w) ∧ Raised EV.semBroken s t ∧ t.flows = s.flows ∧ t.out = s.out ∧ Frame ([SEM0.HELD k,
    SEM0.HUB k, SEM0.TAG k, SEM1.CTX k, SEM3.BROKEN k] ++ evFlds EV.semBroken) s t) ∧
  -- R325
  (∀ (s : State) (k : Fin 32), s.flag (SEM0.HELD k) = true → s.bridge.holds = [] → Answers (exec (.semBreak k) s) fun
    t => t.get (SEM0.HELD k) = 0 ∧ t.get (SEM3.BROKEN k) = satAdd ((SEM3.BROKEN k).w) (s.get (SEM3.BROKEN k)) 1 % 2 ^
    ((SEM3.BROKEN k).w) ∧ Raised EV.semBroken s t ∧ t.flows = s.flows ∧ t.out = s.out ∧ Frame ([SEM0.HELD k, SEM0.HUB
    k, SEM0.TAG k, SEM1.CTX k, SEM3.BROKEN k] ++ evFlds EV.semBroken) s t) ∧
  -- R329: GO
  (∀ (s : State) (tag e : Nat), s.flag BRT_XFER_STAT.BUSY = false → leNat (byteSlice (s.windowBytes BRT_XREQ.DATA 16)
    6 2) ≤ 56 → byteAt (s.windowBytes BRT_XREQ.DATA 16) 4 % 16 ≤ 6 → s.brtMatch 13 (leNat (byteSlice (s.windowBytes
    BRT_XREQ.DATA 16) 0 4)) = some e → s.hasToken e = true → s.bridge.aheads = [] → s.inRoom 7 (s.get (CTX0.CLASS
    (s.get (BRT0.CTX e)))) 321 = true → (s.flows.backlog.any fun b => b.2.1 == (s.get (BRT0.CTX e))) = false →
    s.adapterOn 7 = true → s.flag (CTX5.DRAINING (s.get (BRT0.CTX e))) = false → s.flag (CTX5.ACTIVE (s.get (BRT0.CTX
    e))) = true → s.flag (CTX5.HELD (s.get (BRT0.CTX e))) = false → s.get (CTX0.IN_ATT (s.get (BRT0.CTX e))) = 7 →
    s.get (CTX0.CLASS (s.get (BRT0.CTX e))) < 2 → s.flag (FE_STAT.FENCED (s.get (CTX0.HOME (s.get (BRT0.CTX e))))) =
    false → Answers (exec (.xferGo tag) s) fun t => t.get BRT_XFER_STAT.BUSY = 1 ∧ t.get BRT_XRES0.VALID = 0 ∧
    (t.bridge.xfer.map fun y => (y.tag, y.ctx)) = some (tag % 256, (s.get (BRT0.CTX e))) ∧ t.flows.waiting.dropLast =
    s.flows.waiting ∧ (t.flows.waiting.getLast?.map fun e => (e.ctx, e.inAtt, byteAt e.pkt.hdr.info 2, byteAt
    e.pkt.hdr.info 18)) = some ((s.get (BRT0.CTX e)), 7, 13, tag % 256) ∧ t.get (BRT7.HITS e) = satAdd ((BRT7.HITS
    e).w) (s.get (BRT7.HITS e)) 1 % 2 ^ ((BRT7.HITS e).w) ∧ t.out = s.out ∧ Frame [BRT_XFER_STAT.BUSY,
    BRT_XRES0.VALID, BRT7.HITS e, CTX4.NEXT_SEQ (s.get (BRT0.CTX e)), CTX4.GAPS (s.get (BRT0.CTX e))] s t) ∧
  -- R329: while BUSY
  (∀ (s : State) (tag : Nat), s.flag BRT_XFER_STAT.BUSY = true → Answers (exec (.xferGo tag) s) fun t => t.get
    BRT_XFER_STAT.LOST = satAdd (BRT_XFER_STAT.LOST.w) (s.get BRT_XFER_STAT.LOST) 1 % 2 ^ (BRT_XFER_STAT.LOST.w) ∧ t
    = { s with regs := t.regs } ∧ Frame [BRT_XFER_STAT.LOST] s t) ∧
  -- R329: no RESP
  (∀ (s : State) (x : Xfer), s.bridge.xfer = some x → x.resp = true → Answers (exec (.xferTimeout) s) fun t =>
    t.bridge.xfer = none ∧ t.get BRT_XFER_STAT.BUSY = 0 ∧ t.get BRT_XRES0.VALID = 1 ∧ t.get BRT_XRES0.TAG = x.tag %
    256 ∧ t.get BRT_XRES0.STATUS = 3 % 128 ∧ t.get BRT_XRES0.SEQ = (s.get BRT_XRES0.SEQ + 1) % 65536 ∧ t.flows =
    s.flows ∧ t.out = s.out ∧ Frame ([BRT_XFER_STAT.BUSY, BRT_XRES0.VALID, BRT_XRES0.TAG, BRT_XRES0.STATUS,
    BRT_XRES0.SEQ] ++ (List.range 15).map BRT_XRES.DATA) s t) ∧
  -- R308, R329: the RESP
  (∀ (s : State) (q : BrMsg) (x : Xfer), s.nextMsg 13 = some q → q.op = 2 → s.bridge.xfer = some x → x.resp = true →
    q.m 18 = x.tag → s.flag (CTX0.PAIR_VALID x.ctx) = true → s.get (CTX0.PAIR x.ctx) = q.ctx → x.stale = 0 → Answers
    (exec (.bridgeResp) s) fun t => t.bridge.queue = markHeads s.uptime [] (s.bridge.queue.erase q) ∧ t.bridge.xfer =
    none ∧ t.get BRT_XFER_STAT.BUSY = 0 ∧ t.get BRT_XRES0.VALID = 1 ∧ t.get BRT_XRES0.TAG = x.tag % 256 ∧ t.get
    BRT_XRES0.STATUS = (byteAt q.payload 0) % 128 ∧ t.get BRT_XRES0.SEQ = (s.get BRT_XRES0.SEQ + 1) % 65536 ∧ t.flows
    = s.flows ∧ t.out = s.out ∧ Frame ([BRT_XFER_STAT.BUSY, BRT_XRES0.VALID, BRT_XRES0.TAG, BRT_XRES0.STATUS,
    BRT_XRES0.SEQ] ++ (List.range 15).map BRT_XRES.DATA) s t) ∧
  -- R320, R321
  (∀ (s : State) (i : CtxNo) (cause : Nat) (a : ReadAhead), s.bridge.aheads.find? i.val = some a → cause < 5 → (cause
    = 3 → s.flag (CTX5.ACTIVE i) = false) → Answers (exec (.readAheadDiscard i cause) s) fun t => t.bridge.aheads =
    s.bridge.aheads.del i ∧ t.get (SPI_DISCARD_LOG0.OFFSET ((a.bus - 6) % 2) (s.get (SPI_DISCARD_HEAD.NEXT ((a.bus -
    6) % 2)))) = a.off % 2 ^ (SPI_DISCARD_LOG0.OFFSET 0 0).w ∧ t.get (SPI_DISCARD_LOG0.WIN ((a.bus - 6) % 2) (s.get
    (SPI_DISCARD_HEAD.NEXT ((a.bus - 6) % 2)))) = a.win % 2 ^ (SPI_DISCARD_LOG0.WIN 0 0).w ∧ t.get
    (SPI_DISCARD_LOG0.CAUSE ((a.bus - 6) % 2) (s.get (SPI_DISCARD_HEAD.NEXT ((a.bus - 6) % 2)))) = cause ∧ t.get
    (SPI_DISCARD_LOG1.BYTES ((a.bus - 6) % 2) (s.get (SPI_DISCARD_HEAD.NEXT ((a.bus - 6) % 2)))) = a.data.length % 2
    ^ (SPI_DISCARD_LOG1.BYTES 0 0).w ∧ t.get (SPI_DISCARD_HEAD.NEXT ((a.bus - 6) % 2)) = ((s.get
    (SPI_DISCARD_HEAD.NEXT ((a.bus - 6) % 2))) + 1) % 2 ^ (SPI_DISCARD_HEAD.NEXT 0).w ∧ t.get (SPI_DISCARD_HEAD.TOTAL
    ((a.bus - 6) % 2)) = satAdd ((SPI_DISCARD_HEAD.TOTAL ((a.bus - 6) % 2)).w) (s.get (SPI_DISCARD_HEAD.TOTAL ((a.bus
    - 6) % 2))) 1 % 2 ^ ((SPI_DISCARD_HEAD.TOTAL ((a.bus - 6) % 2)).w) ∧ Raised (EV.prefetchDiscard ((a.bus - 6) %
    2)) s t ∧ t.flows = s.flows ∧ t.out = s.out ∧ Frame ([SPI_DISCARD_LOG0.OFFSET ((a.bus - 6) % 2) (s.get
    (SPI_DISCARD_HEAD.NEXT ((a.bus - 6) % 2))), SPI_DISCARD_LOG0.WIN ((a.bus - 6) % 2) (s.get (SPI_DISCARD_HEAD.NEXT
    ((a.bus - 6) % 2))), SPI_DISCARD_LOG0.CAUSE ((a.bus - 6) % 2) (s.get (SPI_DISCARD_HEAD.NEXT ((a.bus - 6) % 2))),
    SPI_DISCARD_LOG1.BYTES ((a.bus - 6) % 2) (s.get (SPI_DISCARD_HEAD.NEXT ((a.bus - 6) % 2))), SPI_DISCARD_LOG1.HUB
    ((a.bus - 6) % 2) (s.get (SPI_DISCARD_HEAD.NEXT ((a.bus - 6) % 2))), SPI_DISCARD_LOG1.CTX ((a.bus - 6) % 2)
    (s.get (SPI_DISCARD_HEAD.NEXT ((a.bus - 6) % 2))), SPI_DISCARD_HEAD.NEXT ((a.bus - 6) % 2),
    SPI_DISCARD_HEAD.TOTAL ((a.bus - 6) % 2)] ++ evFlds (EV.prefetchDiscard ((a.bus - 6) % 2))) s t) ∧
  -- R320, R321: too old
  (∀ (s : State) (i : CtxNo) (a : ReadAhead), s.bridge.aheads.find? i.val = some a → Answers (exec (.readAheadAge i)
    s) fun t => t.bridge.aheads = s.bridge.aheads.del i ∧ t.get (SPI_DISCARD_LOG0.OFFSET ((a.bus - 6) % 2) (s.get
    (SPI_DISCARD_HEAD.NEXT ((a.bus - 6) % 2)))) = a.off % 2 ^ (SPI_DISCARD_LOG0.OFFSET 0 0).w ∧ t.get
    (SPI_DISCARD_LOG0.WIN ((a.bus - 6) % 2) (s.get (SPI_DISCARD_HEAD.NEXT ((a.bus - 6) % 2)))) = a.win % 2 ^
    (SPI_DISCARD_LOG0.WIN 0 0).w ∧ t.get (SPI_DISCARD_LOG0.CAUSE ((a.bus - 6) % 2) (s.get (SPI_DISCARD_HEAD.NEXT
    ((a.bus - 6) % 2)))) = 2 ∧ t.get (SPI_DISCARD_LOG1.BYTES ((a.bus - 6) % 2) (s.get (SPI_DISCARD_HEAD.NEXT ((a.bus
    - 6) % 2)))) = a.data.length % 2 ^ (SPI_DISCARD_LOG1.BYTES 0 0).w ∧ t.get (SPI_DISCARD_HEAD.NEXT ((a.bus - 6) %
    2)) = ((s.get (SPI_DISCARD_HEAD.NEXT ((a.bus - 6) % 2))) + 1) % 2 ^ (SPI_DISCARD_HEAD.NEXT 0).w ∧ t.get
    (SPI_DISCARD_HEAD.TOTAL ((a.bus - 6) % 2)) = satAdd ((SPI_DISCARD_HEAD.TOTAL ((a.bus - 6) % 2)).w) (s.get
    (SPI_DISCARD_HEAD.TOTAL ((a.bus - 6) % 2))) 1 % 2 ^ ((SPI_DISCARD_HEAD.TOTAL ((a.bus - 6) % 2)).w) ∧ Raised
    (EV.prefetchDiscard ((a.bus - 6) % 2)) s t ∧ t.flows = s.flows ∧ t.out = s.out ∧ Frame ([SPI_DISCARD_LOG0.OFFSET
    ((a.bus - 6) % 2) (s.get (SPI_DISCARD_HEAD.NEXT ((a.bus - 6) % 2))), SPI_DISCARD_LOG0.WIN ((a.bus - 6) % 2)
    (s.get (SPI_DISCARD_HEAD.NEXT ((a.bus - 6) % 2))), SPI_DISCARD_LOG0.CAUSE ((a.bus - 6) % 2) (s.get
    (SPI_DISCARD_HEAD.NEXT ((a.bus - 6) % 2))), SPI_DISCARD_LOG1.BYTES ((a.bus - 6) % 2) (s.get
    (SPI_DISCARD_HEAD.NEXT ((a.bus - 6) % 2))), SPI_DISCARD_LOG1.HUB ((a.bus - 6) % 2) (s.get (SPI_DISCARD_HEAD.NEXT
    ((a.bus - 6) % 2))), SPI_DISCARD_LOG1.CTX ((a.bus - 6) % 2) (s.get (SPI_DISCARD_HEAD.NEXT ((a.bus - 6) % 2))),
    SPI_DISCARD_HEAD.NEXT ((a.bus - 6) % 2), SPI_DISCARD_HEAD.TOTAL ((a.bus - 6) % 2)] ++ evFlds (EV.prefetchDiscard
    ((a.bus - 6) % 2))) s t) ∧
  -- R327: this hub yields
  (∀ (s : State) (i : CtxNo) (hub depth : Nat) (p : FlowPkt), s.get LST_BUF_PLAN.PLAN = 0 → s.farther hub depth =
    true → s.flows.waiting = [p] → p.ctx = i → p.inAtt = 7 → s.bridge.xfer = none → Answers (exec (.yieldConflict i
    hub depth none) s) fun t => t.flows.waiting = [] ∧ t.bridge.retracted = s.bridge.retracted ++ [(i.val, s.get
    (CTX0.CLASS i) == 2, p.pkt.bare)] ∧ t.get BRT_STAT1.RETRACTS = satAdd (BRT_STAT1.RETRACTS.w) (s.get
    BRT_STAT1.RETRACTS) 1 % 2 ^ (BRT_STAT1.RETRACTS.w) ∧ t.out = s.out ∧ SameBytes s t) ∧
  -- R327: again
  (∀ (s : State) (i : CtxNo) (p : Pkt), s.bridge.retracted = [(i.val, false, p)] → s.inRoom 7 (s.get (CTX0.CLASS
    i.val)) (s.adapterPkt i 0 p).n = true → (s.flows.backlog.any fun b => b.2.1 == i.val) = false → s.adapterOn 7 =
    true → s.flag (CTX5.DRAINING i.val) = false → s.flag (CTX5.ACTIVE i.val) = true → s.flag (CTX5.HELD i.val) =
    false → s.get (CTX0.IN_ATT i.val) = 7 → s.get (CTX0.CLASS i.val) < 2 → s.flag (FE_STAT.FENCED (s.get (CTX0.HOME
    i.val))) = false → Answers (exec (.retractRestart i) s) fun t => t.bridge.retracted = [] ∧
    t.flows.waiting.dropLast = s.flows.waiting ∧ (t.flows.waiting.getLast?.map fun e => (e.ctx, e.inAtt,
    e.pkt.hdr.mx, e.pkt.hdr.info)) = some (i.val, 7, p.hdr.mx, p.hdr.info) ∧ t.out = s.out ∧ Frame [CTX4.NEXT_SEQ i,
    CTX4.GAPS i] s t)

/-- Cable attach and detach, INFO, the base contract, and the supplies of the power die (R333, R334, R335, R338,
  R339, R342, R343, R347, R363, R364, R366, R367). -/
def Obligations.AttachAndDetach : Prop :=
  -- R334, R335, R342: a source, not flipped
  (∀ (s : State) (n : Port) (a b : Nat), 150 ≤ a → a ≤ 1600 → 2000 < b → s.flag (EYE_CH_STAT.COOLING n) = false →
    s.attached n = false → s.sources n = true → s.flag (CTP_CFG.FORCE_V1 n) = false → bit (s.get (CTP_CFG.LEVELS n))
    1 = true → s.get (EYE_CH_STAT.STATE n) ≠ 5 → s.pwrOn = true → s.flag PWRD_STATE.ENTERING = false → s.chip.wake =
    none → s.get PWRD_STATE.STATE < 2 → Answers (exec (.sourceAttach n (some a) (some b)) s) fun t => t.get
    (CTP_STAT.STATE n) = 2 ∧ t.get (CTP_STAT.FLIPPED n) = 0 ∧ Raised (EV.attach n) s t ∧ (t.ctpP n).active = 1 ∧
    ((t.ctpP n).sending.map CtpMsg.typ) = some mINFO ∧ (t.chain, t.flows, t.mem) = (s.chain, s.flows, s.mem) ∧
    (t.ctpP n).applying = true ∧ (t.ctpP n).supply = 2) ∧
  -- R335: a source, flipped
  (∀ (s : State) (n : Port) (a b : Nat), 2000 < a → 150 ≤ b → b ≤ 1600 → s.attached n = false → s.sources n = true →
    s.flag (CTP_CFG.FORCE_V1 n) = false → s.pwrOn = true → s.flag PWRD_STATE.ENTERING = false → s.chip.wake = none →
    s.get PWRD_STATE.STATE < 2 → Answers (exec (.sourceAttach n (some a) (some b)) s) fun t => t.get (CTP_STAT.STATE
    n) = 2 ∧ t.get (CTP_STAT.FLIPPED n) = 1 ∧ Raised (EV.attach n) s t ∧ (t.ctpP n).active = 2 ∧ ((t.ctpP
    n).sending.map CtpMsg.typ) = some mINFO ∧ (t.chain, t.flows, t.mem) = (s.chain, s.flows, s.mem)) ∧
  -- R334: a sink
  (∀ (s : State) (n : Port) (v : Nat), s.attached n = false → s.sources n = false → s.flag (CTP_CFG.FORCE_V1 n) =
    false → 200 ≤ v → v ≤ 1600 → s.pwrOn = true → s.flag PWRD_STATE.ENTERING = false → s.chip.wake = none → s.get
    PWRD_STATE.STATE < 2 → Answers (exec (.sinkAttach n (some v)) s) fun t => t.get (CTP_STAT.STATE n) = 2 ∧ t.get
    (CTP_STAT.FLIPPED n) = 0 ∧ Raised (EV.attach n) s t ∧ (t.ctpP n).active = 1 ∧ ((t.ctpP n).sending.map CtpMsg.typ)
    = some mINFO ∧ (t.chain, t.flows, t.mem) = (s.chain, s.flows, s.mem) ∧ t.get (CTP_STAT.LEVEL n) = b2n (decide
    (600 ≤ v))) ∧
  -- R366
  (∀ (s : State) (v : Nat), s.attached 0 = false → s.sources 0 = false → s.ctp.dbPath = true → s.flag
    (CTP_CFG.FORCE_V1 0) = false → 200 ≤ v → v ≤ 1600 → Answers (exec (.dbAttach (some v)) s) fun t => t.get
    (CTP_STAT.STATE 0) = 2 ∧ t.get (CTP_STAT.FLIPPED 0) = 0 ∧ Raised (EV.attach 0) s t ∧ (t.ctpP 0).active = 1 ∧
    ((t.ctpP 0).sending.map CtpMsg.typ) = some mINFO ∧ (t.chain, t.flows, t.mem) = (s.chain, s.flows, s.mem) ∧ t.get
    (CTP_STAT.DB 0) = 1 ∧ t.get (CTP_STAT.LEVEL 0) = b2n (decide (600 ≤ v))) ∧
  -- R334: PULLDOWN on both wires
  (∀ (s : State) (n : Port) (a b : Nat), 150 ≤ a → a ≤ 1600 → 150 ≤ b → b ≤ 1600 → s.attached n = false → s.sources n
    = true → Answers (exec (.cfgReadingChange n (some a) (some b)) s) fun t => t.get (CTP_STAT.BOTH_RD n) = 1 ∧ t.get
    (CTP_STAT.CFG_SHORT n) = 0 ∧ t.get (CTP_STAT.STATE n) = 0 ∧ t.out = s.out ∧ Frame [CTP_STAT.BOTH_RD n,
    CTP_STAT.CFG_SHORT n, CTP_STAT.STATE n] s t) ∧
  -- R338, R339
  (∀ (s : State) (n : Port), s.attached n = true → s.cfgLost n = true → s.flag (CTP_TX_STAT.BUSY n) = false → (s.ctpP
    n).wired = none → s.pwrOn = true → s.flag PWRD_STATE.ENTERING = false → s.chip.wake = none → s.get
    PWRD_STATE.STATE < 2 → Answers (exec (.detach n) s) fun t => t.get (CTP_CONTRACT.VOLT n) = 0 ∧ t.get
    (CTP_CONTRACT.CURRENT n) = 0 ∧ t.get (CTP_STAT.PG n) = 0 ∧ t.get (CTP_STAT.STATE n) = 0 ∧ t.get (CTP_STAT.REV n)
    = 0 ∧ (t.ctpP n).active = 0 ∧ (t.ctpP n).supply = 0 ∧ (t.ctpP n).sending = none ∧ t.get (CTP_STAT.POWER_ROLE n) =
    s.get (CTP_CFG.WIRED_ROLE n) % 2 ∧ Raised (EV.detach n) s t ∧ SameBytes s t) ∧
  -- R347
  (∀ (s : State) (n : Port), s.attached n = true → (s.ctpP n).infoAcked = false → s.ctpV1 n = false → (s.ctpP
    n).sending = none → (s.ctpP n).next = [] → Answers (exec (.infoRetry n) s) fun t => ((t.ctpP n).sending) = some
    ⟨mINFO, [s.infoObj n], false⟩ ∧ t.out = s.out ++ [.ctp n mINFO ((s.ctpP n).infoId.getD (s.ctpP n).msgId) (ctpWire
    (leBytes 4 (s.ctpHeader n mINFO 1 ((s.ctpP n).infoId.getD (s.ctpP n).msgId)) ++ leBytes 4 (s.infoObj n)))] ∧
    Frame [] s t) ∧
  -- R342
  (∀ (s : State) (n : Port), s.ctpState n = 2 → s.sources n = true → (s.ctpP n).applying = true → s.conducts n = true
    → s.flag (CTP_STAT.PG n) = false → Answers (exec (.baseContractPg n) s) fun t => t.get (CTP_STAT.PG n) = 1 ∧
    t.get (CTP_STAT.STATE n) = 3 ∧ t.get (CTP_CONTRACT.VOLT n) = 2 ∧ t.get (CTP_CONTRACT.CURRENT n) = 50 ∧ t.get
    (CTP_CONTRACT.BASE n) = 1 ∧ t.get (CTP_CONTRACT.SEQ n) = (s.get (CTP_CONTRACT.SEQ n) + 1) % 2 ^ (CTP_CONTRACT.SEQ
    0).w ∧ Raised (EV.contractDone n) s t ∧ t.out = s.out ++ s.dscOff t (n.castLE (by decide)) ∧ PageFrame (ctpPages
    n) s t) ∧
  -- R343
  (∀ (s : State) (n : Port), s.ctpState n = 2 → s.sources n = false → s.flag (CTP_STAT.PG n) = false → Answers (exec
    (.sinkPowerGood n) s) fun t => t.get (CTP_STAT.PG n) = 1 ∧ t.get (CTP_STAT.STATE n) = 3 ∧ t.get
    (CTP_CONTRACT.VOLT n) = 2 ∧ t.get (CTP_CONTRACT.CURRENT n) = 50 ∧ t.get (CTP_CONTRACT.BASE n) = 1 ∧ t.get
    (CTP_CONTRACT.SEQ n) = (s.get (CTP_CONTRACT.SEQ n) + 1) % 2 ^ (CTP_CONTRACT.SEQ 0).w ∧ Raised (EV.contractDone n)
    s t ∧ t.out = s.out ++ s.dscOff t (n.castLE (by decide)) ∧ PageFrame (ctpPages n) s t) ∧
  -- R367
  (∀ (s : State), Answers (exec (.localPgHandover) s) fun t => t.ctp.localPg = true ∧ t.ctp.dbPath = false ∧ t.get
    (CTP_STAT.DB 0) = 0 ∧ t.ctp.ports = s.ctp.ports ∧ t.out = s.out ∧ Frame [CTP_STAT.DB 0] s t) ∧
  -- R367
  (∀ (s : State), Answers (exec (.localPgFall) s) fun t => t.ctp.localPg = false ∧ (640 < s.get (CTP_VCABLE.MV25 0) →
    t.ctp.dbPath = true ∧ t.get (CTP_STAT.DB 0) = 1) ∧ t.ctp.ports = s.ctp.ports ∧ t.out = s.out ∧ Frame [CTP_STAT.DB
    0] s t)

/-- Contract-channel messages: each new one is acknowledged, kept in the RX ring, and acted on; a repeat is only
  acknowledged (R344, R345, R346, R347, R350, R351, R352, R353, R356, R359, Table 12.4). -/
def Obligations.MessagesReceived : Prop :=
  -- R347: INFO
  (∀ (s : State) (n : Port) (w o : Nat), s.attached n = true → bits w 13 2 = 2 → s.get (CTP_STAT.REV n) = 2 → (s.ctpP
    n).lastRx ≠ some (bits w 8 4, bits w 0 5) → s.get (CTP_RX_PTR.HEAD n) < 4 → (s.get (CTP_RX_PTR.HEAD n) + 1) % 4 ≠
    s.get (CTP_RX_PTR.TAIL n) → s.ctpState n ≠ 5 → s.get (WLT_PCS_STAT.TRAIN_STATE n) = 0 → Answers (exec (.infoRx n
    w o) s) fun t => t.out = s.out ++ [(.ctp n 1 (bits w 8 4) (ctpWire (leBytes 4 (s.ctpHeader n 1 0 (bits w 8
    4)))))] ∧ t.get (CTP_RX_PTR.HEAD n) = (s.get (CTP_RX_PTR.HEAD n) + 1) % 4 ∧ t.get (CTP_RX.DATA n (s.get
    (CTP_RX_PTR.HEAD n)) 0) = w % 2 ^ 32 ∧ (t.ctpP n).lastRx = some (bits w 8 4, bits w 0 5) ∧ t.get
    (CTP_STAT.PARTNER_CLASS n) = bits o 0 2 ∧ t.get (CTP_STAT.PARTNER_CLASS_KNOWN n) = bits o 2 1 ∧ t.get
    (CTP_STAT.PARTNER_DB n) = bits o 3 1 ∧ t.get (CTP_STAT.PARTNER_SWAP_OK n) = bits o 4 1 ∧ t.get
    (CTP_STAT.PARTNER_PG n) = bits o 5 1 ∧ PageFrame ((WLT_PCS_STAT.TRAIN_STATE n).key / 32768 :: ctpPages n) s t) ∧
  -- R345: a repeat
  (∀ (s : State) (n : Port) (w o : Nat), s.attached n = true → bits w 13 2 = 2 → s.get (CTP_STAT.REV n) = 2 → (s.ctpP
    n).lastRx = some (bits w 8 4, bits w 0 5) → Answers (exec (.infoRx n w o) s) fun t => t.out = s.out ++ [(.ctp n 1
    (bits w 8 4) (ctpWire (leBytes 4 (s.ctpHeader n 1 0 (bits w 8 4)))))] ∧ t.ctp = s.ctp ∧ Frame [] s t) ∧
  -- R350: CAPS at a sink
  (∀ (s : State) (n : Port) (w : Nat) (objs : List Nat), s.attached n = true → bits w 13 2 = 2 → s.get (CTP_STAT.REV
    n) = 2 → (s.ctpP n).lastRx ≠ some (bits w 8 4, bits w 0 5) → s.get (CTP_RX_PTR.HEAD n) < 4 → (s.get
    (CTP_RX_PTR.HEAD n) + 1) % 4 ≠ s.get (CTP_RX_PTR.TAIL n) → s.ctpState n ≠ 5 → s.sources n = false → Answers (exec
    (.capsRx n w objs) s) fun t => t.out = s.out ++ [(.ctp n 1 (bits w 8 4) (ctpWire (leBytes 4 (s.ctpHeader n 1 0
    (bits w 8 4)))))] ∧ t.get (CTP_RX_PTR.HEAD n) = (s.get (CTP_RX_PTR.HEAD n) + 1) % 4 ∧ t.get (CTP_RX.DATA n (s.get
    (CTP_RX_PTR.HEAD n)) 0) = w % 2 ^ 32 ∧ (t.ctpP n).lastRx = some (bits w 8 4, bits w 0 5) ∧ (t.ctpP n).partner =
    offersOf objs ∧ (t.ctpP n).seq = 2 ∧ (t.ctpP n).await = false ∧ PageFrame (ctpPages n) s t) ∧
  -- R351: a valid REQUEST
  (∀ (s : State) (n : Port) (w o : Nat), s.attached n = true → bits w 13 2 = 2 → s.get (CTP_STAT.REV n) = 2 → (s.ctpP
    n).lastRx ≠ some (bits w 8 4, bits w 0 5) → s.get (CTP_RX_PTR.HEAD n) < 4 → (s.get (CTP_RX_PTR.HEAD n) + 1) % 4 ≠
    s.get (CTP_RX_PTR.TAIL n) → s.ctpState n ≠ 5 → s.sources n = true → (s.ctpP n).seq = 2 → (s.ctpP n).await = true
    → bits ((s.ctpP n).offers.getD (bits o 0 3) 0) 0 2 ≠ 0 → bits o 3 10 ≤ bits ((s.ctpP n).offers.getD (bits o 0 3)
    0) 2 10 → Answers (exec (.requestRx n w o) s) fun t => t.out = s.out ++ [(.ctp n 1 (bits w 8 4) (ctpWire (leBytes
    4 (s.ctpHeader n 1 0 (bits w 8 4)))))] ∧ t.get (CTP_RX_PTR.HEAD n) = (s.get (CTP_RX_PTR.HEAD n) + 1) % 4 ∧ t.get
    (CTP_RX.DATA n (s.get (CTP_RX_PTR.HEAD n)) 0) = w % 2 ^ 32 ∧ (t.ctpP n).lastRx = some (bits w 8 4, bits w 0 5) ∧
    (t.ctpP n).req = some (bits ((s.ctpP n).offers.getD (bits o 0 3) 0) 0 2, bits o 3 10) ∧ (t.ctpP n).await = false
    ∧ PageFrame (ctpPages n) s t) ∧
  -- R351: an invalid one is rejected
  (∀ (s : State) (n : Port) (w o : Nat), s.attached n = true → bits w 13 2 = 2 → s.get (CTP_STAT.REV n) = 2 → (s.ctpP
    n).lastRx ≠ some (bits w 8 4, bits w 0 5) → s.get (CTP_RX_PTR.HEAD n) < 4 → (s.get (CTP_RX_PTR.HEAD n) + 1) % 4 ≠
    s.get (CTP_RX_PTR.TAIL n) → s.ctpState n ≠ 5 → s.sources n = true → (s.ctpP n).seq = 2 → (s.ctpP n).await = true
    → (s.ctpP n).sending = none → bits ((s.ctpP n).offers.getD (bits o 0 3) 0) 0 2 = 0 → Answers (exec (.requestRx n
    w o) s) fun t => (t.ctpP n).sending = some ⟨mREJECT, [], false⟩ ∧ (t.ctpP n).req = (s.ctpP n).req ∧ t.out = s.out
    ++ [(.ctp n 1 (bits w 8 4) (ctpWire (leBytes 4 (s.ctpHeader n 1 0 (bits w 8 4))))), (.ctp n 3 (s.ctpP n).msgId
    (ctpWire (leBytes 4 (s.ctpHeader n 3 0 (s.ctpP n).msgId))))] ∧ Frame [] s t) ∧
  -- R352: the transition begins
  (∀ (s : State) (n : Port) (w v c : Nat), s.attached n = true → bits w 13 2 = 2 → s.get (CTP_STAT.REV n) = 2 →
    (s.ctpP n).lastRx ≠ some (bits w 8 4, bits w 0 5) → s.get (CTP_RX_PTR.HEAD n) < 4 → (s.get (CTP_RX_PTR.HEAD n) +
    1) % 4 ≠ s.get (CTP_RX_PTR.TAIL n) → s.ctpState n ≠ 5 → s.sources n = false → (s.ctpP n).seq = 2 → (s.ctpP
    n).await = true → (s.ctpP n).req = some (v, c) → Answers (exec (.acceptRx n w) s) fun t => t.get (CTP_RX_PTR.HEAD
    n) = (s.get (CTP_RX_PTR.HEAD n) + 1) % 4 ∧ t.get (CTP_RX.DATA n (s.get (CTP_RX_PTR.HEAD n)) 0) = w % 2 ^ 32 ∧
    (t.ctpP n).lastRx = some (bits w 8 4, bits w 0 5) ∧ t.get (CTP_STAT.STATE n) = 5 ∧ (t.ctpP n).shed = true ∧
    (t.ctpP n).await = false ∧ t.out = s.out ++ [(.ctp n 1 (bits w 8 4) (ctpWire (leBytes 4 (s.ctpHeader n 1 0 (bits
    w 8 4))))), .pin "LOADSHED_N" 0] ∧ PageFrame (ctpPages n) s t) ∧
  -- R349: the sequence ends
  (∀ (s : State) (n : Port) (w : Nat), s.attached n = true → bits w 13 2 = 2 → s.get (CTP_STAT.REV n) = 2 → (s.ctpP
    n).lastRx ≠ some (bits w 8 4, bits w 0 5) → s.get (CTP_RX_PTR.HEAD n) < 4 → (s.get (CTP_RX_PTR.HEAD n) + 1) % 4 ≠
    s.get (CTP_RX_PTR.TAIL n) → s.ctpState n ≠ 5 → s.sources n = false → (s.ctpP n).await = true → (s.ctpP n).starts
    = none → Answers (exec (.rejectOrWaitRx n w) s) fun t => t.out = s.out ++ [(.ctp n 1 (bits w 8 4) (ctpWire
    (leBytes 4 (s.ctpHeader n 1 0 (bits w 8 4)))))] ∧ t.get (CTP_RX_PTR.HEAD n) = (s.get (CTP_RX_PTR.HEAD n) + 1) % 4
    ∧ t.get (CTP_RX.DATA n (s.get (CTP_RX_PTR.HEAD n)) 0) = w % 2 ^ 32 ∧ (t.ctpP n).lastRx = some (bits w 8 4, bits w
    0 5) ∧ (t.ctpP n).seq = 0 ∧ (t.ctpP n).await = false ∧ (t.ctpP n).req = none ∧ PageFrame (ctpPages n) s t) ∧
  -- R352: the contract
  (∀ (s : State) (n : Port) (w v c : Nat), s.attached n = true → bits w 13 2 = 2 → s.get (CTP_STAT.REV n) = 2 →
    (s.ctpP n).lastRx ≠ some (bits w 8 4, bits w 0 5) → s.get (CTP_RX_PTR.HEAD n) < 4 → (s.get (CTP_RX_PTR.HEAD n) +
    1) % 4 ≠ s.get (CTP_RX_PTR.TAIL n) → s.ctpState n = 5 → bits w 0 5 = mREADY → s.sources n = false → (s.ctpP
    n).req = some (v, c) → (s.ctpP n).starts = none → (s.ctpP n).owedWait = 0 → Answers (exec (.readyRx n w) s) fun t
    => t.get (CTP_RX_PTR.HEAD n) = (s.get (CTP_RX_PTR.HEAD n) + 1) % 4 ∧ t.get (CTP_RX.DATA n (s.get (CTP_RX_PTR.HEAD
    n)) 0) = w % 2 ^ 32 ∧ (t.ctpP n).lastRx = some (bits w 8 4, bits w 0 5) ∧ t.get (CTP_STAT.STATE n) = 4 ∧ t.get
    (CTP_CONTRACT.VOLT n) = v % 4 ∧ t.get (CTP_CONTRACT.CURRENT n) = c % 2 ^ (CTP_CONTRACT.CURRENT 0).w ∧ t.get
    (CTP_CONTRACT.BASE n) = 0 ∧ (t.ctpP n).shed = false ∧ (t.ctpP n).seq = 0 ∧ Raised (EV.contractDone n) s t ∧
    PageFrame (ctpPages n) s t) ∧
  -- R348, Table 12.6: CAPS follows
  (∀ (s : State) (n : Port) (w : Nat), s.attached n = true → bits w 13 2 = 2 → s.get (CTP_STAT.REV n) = 2 → (s.ctpP
    n).lastRx ≠ some (bits w 8 4, bits w 0 5) → s.get (CTP_RX_PTR.HEAD n) < 4 → (s.get (CTP_RX_PTR.HEAD n) + 1) % 4 ≠
    s.get (CTP_RX_PTR.TAIL n) → s.ctpState n ≠ 5 → s.sources n = true → (s.ctpP n).sending = none → Answers (exec
    (.getCapsRx n w) s) fun t => t.get (CTP_RX_PTR.HEAD n) = (s.get (CTP_RX_PTR.HEAD n) + 1) % 4 ∧ t.get (CTP_RX.DATA
    n (s.get (CTP_RX_PTR.HEAD n)) 0) = w % 2 ^ 32 ∧ (t.ctpP n).lastRx = some (bits w 8 4, bits w 0 5) ∧ ((t.ctpP
    n).sending.map CtpMsg.typ) = some mCAPS ∧ (t.ctpP n).seq = 2 ∧ (t.ctpP n).await = true ∧ PageFrame (ctpPages n) s
    t) ∧
  -- R356: kept for the policy
  (∀ (s : State) (n : Port) (w : Nat), s.attached n = true → bits w 13 2 = 2 → s.get (CTP_STAT.REV n) = 2 → (s.ctpP
    n).lastRx ≠ some (bits w 8 4, bits w 0 5) → s.get (CTP_RX_PTR.HEAD n) < 4 → (s.get (CTP_RX_PTR.HEAD n) + 1) % 4 ≠
    s.get (CTP_RX_PTR.TAIL n) → s.swapRefused n = false → Answers (exec (.swapReqRx n w) s) fun t => t.out = s.out ++
    [(.ctp n 1 (bits w 8 4) (ctpWire (leBytes 4 (s.ctpHeader n 1 0 (bits w 8 4)))))] ∧ t.get (CTP_RX_PTR.HEAD n) =
    (s.get (CTP_RX_PTR.HEAD n) + 1) % 4 ∧ t.get (CTP_RX.DATA n (s.get (CTP_RX_PTR.HEAD n)) 0) = w % 2 ^ 32 ∧ (t.ctpP
    n).lastRx = some (bits w 8 4, bits w 0 5) ∧ (t.ctpP n).seq = 4 ∧ (t.ctpP n).await = false ∧ PageFrame (ctpPages
    n) s t) ∧
  -- R356: refused
  (∀ (s : State) (n : Port) (w : Nat), s.attached n = true → bits w 13 2 = 2 → s.get (CTP_STAT.REV n) = 2 → (s.ctpP
    n).lastRx ≠ some (bits w 8 4, bits w 0 5) → s.get (CTP_RX_PTR.HEAD n) < 4 → (s.get (CTP_RX_PTR.HEAD n) + 1) % 4 ≠
    s.get (CTP_RX_PTR.TAIL n) → (s.ctpState n ≠ 5 ∨ bits w 0 5 = mSWAPREQ) → s.swapRefused n = true → (s.ctpP
    n).sending = none → Answers (exec (.swapReqRx n w) s) fun t => (t.ctpP n).sending = some ⟨mREJECT, [], false⟩ ∧
    t.out = s.out ++ [(.ctp n 1 (bits w 8 4) (ctpWire (leBytes 4 (s.ctpHeader n 1 0 (bits w 8 4))))), (.ctp n 3
    (s.ctpP n).msgId (ctpWire (leBytes 4 (s.ctpHeader n 3 0 (s.ctpP n).msgId))))] ∧ Frame [] s t) ∧
  -- Table 12.4: a reserved type
  (∀ (s : State) (n : Port) (w : Nat) (objs : List Nat), s.attached n = true → bits w 13 2 = 2 → s.get (CTP_STAT.REV
    n) = 2 → (s.ctpP n).lastRx ≠ some (bits w 8 4, bits w 0 5) → s.get (CTP_RX_PTR.HEAD n) < 4 → (s.get
    (CTP_RX_PTR.HEAD n) + 1) % 4 ≠ s.get (CTP_RX_PTR.TAIL n) → s.ctpState n ≠ 5 → (s.ctpP n).sending = none → Answers
    (exec (.reservedTypeRx n w objs) s) fun t => t.get (CTP_RX_PTR.HEAD n) = (s.get (CTP_RX_PTR.HEAD n) + 1) % 4 ∧
    t.get (CTP_RX.DATA n (s.get (CTP_RX_PTR.HEAD n)) 0) = w % 2 ^ 32 ∧ (t.ctpP n).lastRx = some (bits w 8 4, bits w 0
    5) ∧ (t.ctpP n).sending = some ⟨mREJECT, [], false⟩ ∧ t.out = s.out ++ [(.ctp n 1 (bits w 8 4) (ctpWire (leBytes
    4 (s.ctpHeader n 1 0 (bits w 8 4))))), (.ctp n 3 (s.ctpP n).msgId (ctpWire (leBytes 4 (s.ctpHeader n 3 0 (s.ctpP
    n).msgId))))] ∧ PageFrame (ctpPages n) s t) ∧
  -- R359, R360
  (∀ (s : State) (n : Port) (w : Nat), s.attached n = true → s.ctpState n ≠ 7 → Answers (exec (.ctpHardResetRx ⟨n,
    w⟩) s) fun t => t.get (CTP_STAT.STATE n) = 7 ∧ t.get (CTP_STAT.LEVEL n) = 0 ∧ t.get (CTP_CONTRACT.VOLT n) = 0 ∧
    t.get (CTP_CONTRACT.CURRENT n) = 0 ∧ t.get (CTP_STAT.PG n) = 0 ∧ (t.ctpP n).sending = none ∧ (t.ctpP n).seq = 0 ∧
    (t.ctpP n).applying = false ∧ t.get (CTP_HR.COUNT n) = satAdd ((CTP_HR.COUNT n).w) (s.get (CTP_HR.COUNT n)) 1 % 2
    ^ ((CTP_HR.COUNT n).w) ∧ t.get (CTP_HR.CAUSE n) = 7 ∧ Raised (EV.hardReset n) s t ∧ PageFrame (ctpPages n) s t ∧
    (bits w 13 2 = 1 → t.get (CTP_STAT.REV n) = 1))

/-- Sending, acknowledgement and repeats, sequences, transitions, role swaps, hard resets, and the contract mailbox
  commands (R345, R348, R349, R351, R352, R356, R357, R360, R361, R362, Table 12.9, Table 12.13). -/
def Obligations.SequencesAndTransitions : Prop :=
  -- R345: acknowledged
  (∀ (s : State) (n : Port) (w : Nat) (m : CtpMsg), (s.ctpP n).sending = some m → bits w 8 4 = (s.ctpP n).sendId →
    bits w 13 2 = 2 → s.get (CTP_STAT.REV n) = 2 → m.tx = true → m.typ = mREQUEST → (s.ctpP n).next = [] → Answers
    (exec (.ctpAckRx n w) s) fun t => (t.ctpP n).sending = none ∧ (t.ctpP n).msgId = (s.ctpP n).msgId ∧ t.get
    (CTP_TX_STAT.BUSY n) = 0 ∧ t.get (CTP_TX_STAT.OUTCOME n) = 1 ∧ t.out = s.out ∧ Frame [CTP_TX_STAT.BUSY n,
    CTP_TX_STAT.OUTCOME n] s t) ∧
  -- R345: sent again
  (∀ (s : State) (n : Port) (m : CtpMsg), (s.ctpP n).sending = some m → s.ctpRefused n m = false → (s.ctpP n).tries <
    2 → Answers (exec (.ctpAckTimeout n) s) fun t => (t.ctpP n).tries = (s.ctpP n).tries + 1 ∧ (t.ctpP n).sending =
    some m ∧ t.out = s.out ++ [.ctp n m.typ (s.ctpP n).sendId (ctpWire (leBytes 4 (s.ctpHeader n m.typ m.objs.length
    (s.ctpP n).sendId) ++ m.objs.flatMap (leBytes 4)))] ∧ Frame [] s t) ∧
  -- R348
  (∀ (s : State) (n : Port) (m : CtpMsg), (s.ctpP n).starts = some m → s.sources n = true → (s.ctpP n).seq = 0 →
    (s.ctpP n).sending = none → s.ctpRefused n m = false → m.typ ≠ mINFO → Answers (exec (.sequenceLevelWait n) s)
    fun t => (t.ctpP n).starts = none ∧ (t.ctpP n).sending = some m ∧ (t.ctpP n).sendId = (s.ctpP n).msgId ∧ (t.ctpP
    n).msgId = ((s.ctpP n).msgId + 1) % 16 ∧ t.out = s.out ++ [.ctp n m.typ (s.ctpP n).msgId (ctpWire (leBytes 4
    (s.ctpHeader n m.typ m.objs.length (s.ctpP n).msgId) ++ m.objs.flatMap (leBytes 4)))] ∧ Frame [] s t) ∧
  -- R349: at the end that awaits
  (∀ (s : State) (n : Port), (s.ctpP n).await = true → s.ctpState n ≠ 5 → s.ctpState n ≠ 6 → (s.ctpP n).starts = none
    → Answers (exec (.sequenceTimeout n) s) fun t => (t.ctpP n).seq = 0 ∧ (t.ctpP n).await = false ∧ (t.ctpP n).late
    = true ∧ t.out = s.out ∧ Frame [CTP_STAT.LEVEL n] s t) ∧
  -- R349: at the end that owes the answer
  (∀ (s : State) (n : Port), (s.ctpP n).seq ≠ 0 → (s.ctpP n).await = false → s.ctpState n ≠ 5 → s.ctpState n ≠ 6 →
    (s.ctpP n).starts = none → Answers (exec (.sequenceTimeout n) s) fun t => (t.ctpP n).seq = 0 ∧ (t.ctpP n).late =
    false ∧ (s.sources n = true → t.get (CTP_STAT.LEVEL n) = 0) ∧ t.out = s.out ∧ Frame [CTP_STAT.LEVEL n] s t) ∧
  -- R349: a late answer is acknowledged and discarded
  (∀ (s : State) (n : Port) (w : Nat), s.attached n = true → bits w 13 2 = 2 → s.get (CTP_STAT.REV n) = 2 → (s.ctpP
    n).lastRx ≠ some (bits w 8 4, bits w 0 5) → s.get (CTP_RX_PTR.HEAD n) < 4 → (s.get (CTP_RX_PTR.HEAD n) + 1) % 4 ≠
    s.get (CTP_RX_PTR.TAIL n) → s.ctpState n ≠ 5 → (s.ctpP n).await = false → (s.ctpP n).late = true → Answers (exec
    (.acceptRx n w) s) fun t => t.out = s.out ++ [(.ctp n 1 (bits w 8 4) (ctpWire (leBytes 4 (s.ctpHeader n 1 0 (bits
    w 8 4)))))] ∧ (t.ctpP n).seq = (s.ctpP n).seq ∧ (t.ctpP n).lastRx = some (bits w 8 4, bits w 0 5) ∧ Frame [] s t) ∧
  -- R352, Table 12.8: the new level
  (∀ (s : State) (n : Port) (v c : Nat), (s.ctpP n).req = some (v, c) → s.ctpState n = 5 → s.sources n = true →
    (s.ctpP n).levelSet = false → (s.ctpP n).supply ≠ v → Answers (exec (.transitionSetLevel n) s) fun t => (t.ctpP
    n).supply = v ∧ (t.ctpP n).levelSet = true ∧ t.out = s.out ++ [.supply n v] ∧ Frame [] s t) ∧
  -- R352: READY
  (∀ (s : State) (n : Port) (v c : Nat), (s.ctpP n).req = some (v, c) → s.ctpState n = 5 → s.sources n = true →
    s.conducts n = true → (s.ctpP n).levelSet = true → (s.ctpP n).owedWait = 0 → (s.ctpP n).sending = none → Answers
    (exec (.transitionReady n) s) fun t => t.get (CTP_STAT.STATE n) = 4 ∧ t.get (CTP_CONTRACT.VOLT n) = v % 4 ∧ t.get
    (CTP_CONTRACT.CURRENT n) = c % 2 ^ (CTP_CONTRACT.CURRENT 0).w ∧ t.get (CTP_CONTRACT.BASE n) = 0 ∧ (t.ctpP
    n).sending = some ⟨mREADY, [], false⟩ ∧ Raised (EV.contractDone n) s t ∧ PageFrame (ctpPages n) s t) ∧
  -- R352, R359
  (∀ (s : State) (n : Port), s.ctpState n = 5 → s.sources n = false → Answers (exec (.noReadyTimeout n) s) fun t =>
    t.get (CTP_STAT.STATE n) = 7 ∧ t.get (CTP_STAT.LEVEL n) = 0 ∧ t.get (CTP_CONTRACT.VOLT n) = 0 ∧ t.get
    (CTP_CONTRACT.CURRENT n) = 0 ∧ t.get (CTP_STAT.PG n) = 0 ∧ (t.ctpP n).sending = none ∧ (t.ctpP n).seq = 0 ∧
    (t.ctpP n).applying = false ∧ t.get (CTP_HR.COUNT n) = satAdd ((CTP_HR.COUNT n).w) (s.get (CTP_HR.COUNT n)) 1 % 2
    ^ ((CTP_HR.COUNT n).w) ∧ t.get (CTP_HR.CAUSE n) = 2 ∧ Raised (EV.hardReset n) s t ∧ PageFrame (ctpPages n) s t) ∧
  -- R359
  (∀ (s : State) (n : Port), s.ctpState n = 5 → s.sources n = true → Answers (exec (.transitionBandExit n) s) fun t
    => t.get (CTP_STAT.STATE n) = 7 ∧ t.get (CTP_STAT.LEVEL n) = 0 ∧ t.get (CTP_CONTRACT.VOLT n) = 0 ∧ t.get
    (CTP_CONTRACT.CURRENT n) = 0 ∧ t.get (CTP_STAT.PG n) = 0 ∧ (t.ctpP n).sending = none ∧ (t.ctpP n).seq = 0 ∧
    (t.ctpP n).applying = false ∧ t.get (CTP_HR.COUNT n) = satAdd ((CTP_HR.COUNT n).w) (s.get (CTP_HR.COUNT n)) 1 % 2
    ^ ((CTP_HR.COUNT n).w) ∧ t.get (CTP_HR.CAUSE n) = 1 ∧ Raised (EV.hardReset n) s t ∧ PageFrame (ctpPages n) s t) ∧
  -- R359
  (∀ (s : State) (n : Port), s.attached n = true → s.ctpState n ≠ 7 → s.ctpState n ≠ 5 → s.flag (CTP_STAT.PG n) =
    true → s.sources n = false → Answers (exec (.sinkWindowExit n) s) fun t => t.get (CTP_STAT.STATE n) = 7 ∧ t.get
    (CTP_STAT.LEVEL n) = 0 ∧ t.get (CTP_CONTRACT.VOLT n) = 0 ∧ t.get (CTP_CONTRACT.CURRENT n) = 0 ∧ t.get
    (CTP_STAT.PG n) = 0 ∧ (t.ctpP n).sending = none ∧ (t.ctpP n).seq = 0 ∧ (t.ctpP n).applying = false ∧ t.get
    (CTP_HR.COUNT n) = satAdd ((CTP_HR.COUNT n).w) (s.get (CTP_HR.COUNT n)) 1 % 2 ^ ((CTP_HR.COUNT n).w) ∧ t.get
    (CTP_HR.CAUSE n) = 4 ∧ Raised (EV.hardReset n) s t ∧ PageFrame (ctpPages n) s t) ∧
  -- R357, R359
  (∀ (s : State) (n : Port), s.ctpState n = 6 → Answers (exec (.swapTimeout n) s) fun t => t.get (CTP_STAT.STATE n) =
    7 ∧ t.get (CTP_STAT.LEVEL n) = 0 ∧ t.get (CTP_CONTRACT.VOLT n) = 0 ∧ t.get (CTP_CONTRACT.CURRENT n) = 0 ∧ t.get
    (CTP_STAT.PG n) = 0 ∧ (t.ctpP n).sending = none ∧ (t.ctpP n).seq = 0 ∧ (t.ctpP n).applying = false ∧ t.get
    (CTP_HR.COUNT n) = satAdd ((CTP_HR.COUNT n).w) (s.get (CTP_HR.COUNT n)) 1 % 2 ^ ((CTP_HR.COUNT n).w) ∧ t.get
    (CTP_HR.CAUSE n) = 5 ∧ Raised (EV.hardReset n) s t ∧ PageFrame (ctpPages n) s t) ∧
  -- R359, R369
  (∀ (s : State) (n : Port), s.attached n = true → s.ctpState n ≠ 7 → Answers (exec (.ctpHardResetCmd n) s) fun t =>
    t.get (CTP_STAT.STATE n) = 7 ∧ t.get (CTP_STAT.LEVEL n) = 0 ∧ t.get (CTP_CONTRACT.VOLT n) = 0 ∧ t.get
    (CTP_CONTRACT.CURRENT n) = 0 ∧ t.get (CTP_STAT.PG n) = 0 ∧ (t.ctpP n).sending = none ∧ (t.ctpP n).seq = 0 ∧
    (t.ctpP n).applying = false ∧ t.get (CTP_HR.COUNT n) = satAdd ((CTP_HR.COUNT n).w) (s.get (CTP_HR.COUNT n)) 1 % 2
    ^ ((CTP_HR.COUNT n).w) ∧ t.get (CTP_HR.CAUSE n) = 6 ∧ Raised (EV.hardReset n) s t ∧ PageFrame (ctpPages n) s t) ∧
  -- Table 12.9 step 2
  (∀ (s : State) (n : Port), s.ctpState n = 6 → (s.ctpP n).swap = 1 → (s.ctpP n).roleBefore = 1 → (s.ctpP n).sending
    = none → Answers (exec (.swapOldSourceOff n) s) fun t => t.sources n = false ∧ t.get (CTP_STAT.POWER_ROLE n) =
    s.get (CTP_STAT.POWER_ROLE n) ∧ t.get (CTP_STAT.LEVEL n) = 0 ∧ (t.ctpP n).swap = 2 ∧ (t.ctpP n).sending = some
    ⟨mREADY, [], false⟩ ∧ PageFrame (ctpPages n) s t) ∧
  -- Table 12.9 steps 4 and 5
  (∀ (s : State) (n : Port), s.ctpState n = 6 → (s.ctpP n).swap = 2 → (s.ctpP n).roleBefore = 0 → (s.ctpP n).applying
    = true → s.conducts n = true → (s.ctpP n).sending = none → Answers (exec (.swapNewSourcePg n) s) fun t => t.get
    (CTP_STAT.POWER_ROLE n) = 1 ∧ t.get (CTP_STAT.STATE n) = 3 ∧ t.get (CTP_CONTRACT.BASE n) = 1 ∧ t.get
    (CTP_CONTRACT.VOLT n) = 2 ∧ t.get (CTP_STAT.PG n) = 1 ∧ (t.ctpP n).swap = 3 ∧ (t.ctpP n).sending = some ⟨mREADY,
    [], false⟩ ∧ Raised (EV.swapDone n) s t ∧ PageFrame (ctpPages n) s t) ∧
  -- Table 12.9 step 5: at the old source
  (∀ (s : State) (n : Port) (w : Nat), s.attached n = true → bits w 13 2 = 2 → s.get (CTP_STAT.REV n) = 2 → (s.ctpP
    n).lastRx ≠ some (bits w 8 4, bits w 0 5) → s.get (CTP_RX_PTR.HEAD n) < 4 → (s.get (CTP_RX_PTR.HEAD n) + 1) % 4 ≠
    s.get (CTP_RX_PTR.TAIL n) → s.ctpState n = 6 → (s.ctpP n).swap = 2 → (s.ctpP n).roleBefore = 1 → (s.ctpP
    n).starts = none → Answers (exec (.readyRx n w) s) fun t => t.get (CTP_RX_PTR.HEAD n) = (s.get (CTP_RX_PTR.HEAD
    n) + 1) % 4 ∧ t.get (CTP_RX.DATA n (s.get (CTP_RX_PTR.HEAD n)) 0) = w % 2 ^ 32 ∧ (t.ctpP n).lastRx = some (bits w
    8 4, bits w 0 5) ∧ t.get (CTP_STAT.POWER_ROLE n) = 0 ∧ t.get (CTP_STAT.STATE n) = (if s.flag (CTP_STAT.PG n) then
    3 else 2) ∧ (t.ctpP n).swap = 0 ∧ (t.ctpP n).seq = 0 ∧ Raised (EV.swapDone n) s t ∧ PageFrame (ctpPages n) s t) ∧
  -- R360 steps 6 and 7
  (∀ (s : State) (n : Port), s.ctpState n = 7 → s.flag (CTP_HR.STUCK n) = false → s.sources n = false → Answers (exec
    (.hardResetHoldEnd n) s) fun t => t.get (CTP_STAT.STATE n) = 2 ∧ t.ctp = s.ctp ∧ t.out = s.out ∧ Frame
    [CTP_STAT.STATE n] s t) ∧
  -- R361
  (∀ (s : State) (n : Port), s.ctpState n = 7 → s.sources n = true → Answers (exec (.hardResetStuck n) s) fun t =>
    t.get (CTP_HR.STUCK n) = 1 ∧ t.ctp = s.ctp ∧ t.out = s.out ∧ Frame [CTP_HR.STUCK n] s t) ∧
  -- R348, R369: the TX window
  (∀ (s : State) (n : Port), s.get (CTP_TX.DATA n 0) = mREJECT → s.flag (CTP_TX_STAT.BUSY n) = false → s.attached n =
    true → (s.ctpP n).sending = none → Answers (exec (.ctpSend n) s) fun t => t.get (CTP_TX_STAT.BUSY n) = 1 ∧ t.get
    (CTP_TX_STAT.OUTCOME n) = 0 ∧ (t.ctpP n).sending = some ⟨mREJECT, [], true⟩ ∧ t.out = s.out ++ [(.ctp n 3 (s.ctpP
    n).msgId (ctpWire (leBytes 4 (s.ctpHeader n 3 0 (s.ctpP n).msgId))))] ∧ Frame [CTP_TX_STAT.BUSY n,
    CTP_TX_STAT.OUTCOME n] s t) ∧
  -- CTP_STATUS
  (∀ (s : State) (c : MbxCmd) (n : Port), s.ctl.mbxQueue = [c] → c.cmd = 0x0200 → s.awlServes = true → c.result =
    none → c.begun = false → byteAt c.req 0 = n.val → s.ctl.pdq = [] → Answers (exec (.ctpStatus .run) s) fun t =>
    t.ctl.mbxQueue.map (fun (d : MbxCmd) => d.result) = [some (0, s.ctpStatus n)] ∧ t.out = s.out ∧ Frame [] s t) ∧
  -- CTP_RENEGOTIATE at a sink: an Ask sequence
  (∀ (s : State) (c : MbxCmd) (n : Port), s.ctl.mbxQueue = [c] → c.cmd = 0x0201 → s.awlServes = true → c.result =
    none → c.begun = false → byteAt c.req 0 = n.val → s.attached n = true → s.sources n = false → (s.ctpP n).wire =
    .mayStart → (s.ctpP n).starts = none → (s.ctpP n).seq = 0 → (s.ctpP n).sending = none → Answers (exec
    (.ctpRenegotiate .run) s) fun t => t.ctl.mbxQueue.map (fun (d : MbxCmd) => d.result) = [some (0, [])] ∧ (t.ctpP
    n).seq = 3 ∧ (t.ctpP n).await = true ∧ (t.ctpP n).sending = some ⟨mGETCAPS, [], false⟩ ∧ t.out = s.out ++ [(.ctp
    n 6 (s.ctpP n).msgId (ctpWire (leBytes 4 (s.ctpHeader n 6 0 (s.ctpP n).msgId))))] ∧ Frame [] s t) ∧
  -- CTP_SWAP refused
  (∀ (s : State) (c : MbxCmd) (n : Port), s.ctl.mbxQueue = [c] → c.cmd = 0x0202 → s.awlServes = true → c.result =
    none → c.begun = false → byteAt c.req 0 = n.val → s.swapRefused n = true → Answers (exec (.ctpSwap .run) s) fun t
    => t.ctl.mbxQueue.map (fun (d : MbxCmd) => d.result) = [some (14, [])] ∧ t.ctp = s.ctp ∧ t.out = s.out ∧ Frame []
    s t) ∧
  -- CTP_SWAP proposed by a sink
  (∀ (s : State) (c : MbxCmd) (n : Port), s.ctl.mbxQueue = [c] → c.cmd = 0x0202 → s.awlServes = true → c.result =
    none → c.begun = false → byteAt c.req 0 = n.val → s.swapRefused n = false → s.attached n = true → s.sources n =
    false → (s.ctpP n).wire = .mayStart → (s.ctpP n).starts = none → (s.ctpP n).seq = 0 → (s.ctpP n).sending = none →
    Answers (exec (.ctpSwap .run) s) fun t => t.ctl.mbxQueue.map (fun (d : MbxCmd) => d.result) = [some (0, [])] ∧
    (t.ctpP n).sending = some ⟨mSWAPREQ, [], false⟩ ∧ (t.ctpP n).seq = 4 ∧ t.out = s.out ++ [(.ctp n 7 (s.ctpP
    n).msgId (ctpWire (leBytes 4 (s.ctpHeader n 7 0 (s.ctpP n).msgId))))] ∧ Frame [] s t) ∧
  -- CTP_HARD_RESET
  (∀ (s : State) (c : MbxCmd) (n : Port), s.ctl.mbxQueue = [c] → c.cmd = 0x0203 → s.awlServes = true → c.result =
    none → c.begun = false → byteAt c.req 0 = n.val → s.attached n = true → s.ctpState n ≠ 7 → Answers (exec
    (.ctpHardReset .run) s) fun t => t.ctl.mbxQueue.map (fun (d : MbxCmd) => d.result) = [some (0, [])] ∧ t.get
    (CTP_STAT.STATE n) = 7 ∧ t.get (CTP_HR.CAUSE n) = 6 ∧ t.get (CTP_CONTRACT.VOLT n) = 0 ∧ t.get
    (CTP_CONTRACT.CURRENT n) = 0 ∧ t.get (CTP_STAT.PG n) = 0 ∧ PageFrame (ctpPages n) s t)

/-- Power channels turn on, ramp, trip for each cause, cool down and are toggled; the thermal model steps exactly
  (R372, R373, R374, R376, R377, R378, R379, R380, R381, R382, R383, R384). -/
def Obligations.ChannelsAndTrips : Prop :=
  -- R372, R373
  (∀ (s : State) (c : Chan), s.chanReady c = true → (s.chan c).on = false → Answers (exec (.channelCommandedOn c) s)
    fun t => (t.chan c).on = true ∧ (t.chan c).energy = 0 ∧ t.get (EYE_CH_STAT.STATE c) = (if decide (s.chanIn c ≤
    s.chanOut c + 80 ∧ s.chanOut c ≤ s.chanIn c + 80) then 2 else 1) ∧ t.get (EYE_CH_STAT.PENDING c) = 0 ∧ t.out =
    s.out ++ s.dscOff t c ∧ PageFrame (chanPages c) s t) ∧
  -- R373
  (∀ (s : State) (c : Chan), s.get (EYE_CH_STAT.STATE c) = 1 → Answers (exec (.rampComplete c) s) fun t => t.get
    (EYE_CH_STAT.STATE c) = 2 ∧ t.get (EYE_CH_COOL.RAMP_MJ c) = min 65535 ((s.chan c).energy * 1000).floor.toNat %
    65536 ∧ t.eye = s.eye ∧ t.out = s.out ∧ Frame [EYE_CH_STAT.STATE c, EYE_CH_COOL.RAMP_MJ c] s t) ∧
  -- R374: no rise
  (∀ (s : State) (c : Chan), (s.chan c).on = true → s.get (EYE_CH_STAT.STATE c) = 1 → Answers (exec (.rampNoRise c)
    s) fun t => (t.chan c).on = false ∧ (t.chan c).latched = true ∧ (t.chan c).coolLeft = 100000 ∧ t.get
    (EYE_CH_STAT.STATE c) = 4 ∧ t.get (EYE_CH_STAT.CAUSE c) = 1 ∧ t.get (EYE_CH_STAT.COOLING c) = 1 ∧ t.get
    (EYE_CH_STAT.PENDING c) = 0 ∧ t.get (EYE_CH_COOL.LEFT c) = 100 ∧ t.get (EYE_CH_TRIPS.TRIPS c) = satAdd
    ((EYE_CH_TRIPS.TRIPS c).w) (s.get (EYE_CH_TRIPS.TRIPS c)) 1 % 2 ^ ((EYE_CH_TRIPS.TRIPS c).w) ∧ (c.val < 4 →
    s.chanSink c = false → t.get (CTP_CONTRACT.VOLT c) = 0 ∧ t.get (CTP_STAT.PG c) = 0) ∧ Raised (EV.trip c) s t ∧
    t.out = s.out ++ s.tripOut c ∧ t.get (EYE_CH_STAT.RAMP_WHY c) = 2 ∧ PageFrame (chanPages c) s t) ∧
  -- R374: RAMP_TMO
  (∀ (s : State) (c : Chan), (s.chan c).on = true → s.get (EYE_CH_STAT.STATE c) = 1 → Answers (exec (.rampTmo c) s)
    fun t => (t.chan c).on = false ∧ (t.chan c).latched = true ∧ (t.chan c).coolLeft = 100000 ∧ t.get
    (EYE_CH_STAT.STATE c) = 4 ∧ t.get (EYE_CH_STAT.CAUSE c) = 1 ∧ t.get (EYE_CH_STAT.COOLING c) = 1 ∧ t.get
    (EYE_CH_STAT.PENDING c) = 0 ∧ t.get (EYE_CH_COOL.LEFT c) = 100 ∧ t.get (EYE_CH_TRIPS.TRIPS c) = satAdd
    ((EYE_CH_TRIPS.TRIPS c).w) (s.get (EYE_CH_TRIPS.TRIPS c)) 1 % 2 ^ ((EYE_CH_TRIPS.TRIPS c).w) ∧ (c.val < 4 →
    s.chanSink c = false → t.get (CTP_CONTRACT.VOLT c) = 0 ∧ t.get (CTP_STAT.PG c) = 0) ∧ Raised (EV.trip c) s t ∧
    t.out = s.out ++ s.tripOut c ∧ t.get (EYE_CH_STAT.RAMP_WHY c) = 5 ∧ PageFrame (chanPages c) s t) ∧
  -- R376
  (∀ (s : State) (c : Chan) (k : Fin 9), (s.chan c).on = true → s.curveOn c k = true → s.curveTimeOf c k ≤ (s.chan
    c).timers.getD k.val 0 → Answers (exec (.curveTrip c k) s) fun t => (t.chan c).on = false ∧ (t.chan c).latched =
    true ∧ (t.chan c).coolLeft = 100000 ∧ t.get (EYE_CH_STAT.STATE c) = 4 ∧ t.get (EYE_CH_STAT.CAUSE c) = 3 ∧ t.get
    (EYE_CH_STAT.COOLING c) = 1 ∧ t.get (EYE_CH_STAT.PENDING c) = 0 ∧ t.get (EYE_CH_COOL.LEFT c) = 100 ∧ t.get
    (EYE_CH_TRIPS.TRIPS c) = satAdd ((EYE_CH_TRIPS.TRIPS c).w) (s.get (EYE_CH_TRIPS.TRIPS c)) 1 % 2 ^
    ((EYE_CH_TRIPS.TRIPS c).w) ∧ (c.val < 4 → s.chanSink c = false → t.get (CTP_CONTRACT.VOLT c) = 0 ∧ t.get
    (CTP_STAT.PG c) = 0) ∧ Raised (EV.trip c) s t ∧ t.out = s.out ++ s.tripOut c ∧ t.get (EYE_CH_STAT.CURVE_PT c) =
    k.val ∧ PageFrame (chanPages c) s t) ∧
  -- R377
  (∀ (s : State) (c : Chan), (s.chan c).on = true → s.get (EYE_CH_STAT.STATE c) = 2 → Answers (exec (.fastTrip c) s)
    fun t => (t.chan c).on = false ∧ (t.chan c).latched = true ∧ (t.chan c).coolLeft = 100000 ∧ t.get
    (EYE_CH_STAT.STATE c) = 4 ∧ t.get (EYE_CH_STAT.CAUSE c) = 2 ∧ t.get (EYE_CH_STAT.COOLING c) = 1 ∧ t.get
    (EYE_CH_STAT.PENDING c) = 0 ∧ t.get (EYE_CH_COOL.LEFT c) = 100 ∧ t.get (EYE_CH_TRIPS.TRIPS c) = satAdd
    ((EYE_CH_TRIPS.TRIPS c).w) (s.get (EYE_CH_TRIPS.TRIPS c)) 1 % 2 ^ ((EYE_CH_TRIPS.TRIPS c).w) ∧ (c.val < 4 →
    s.chanSink c = false → t.get (CTP_CONTRACT.VOLT c) = 0 ∧ t.get (CTP_STAT.PG c) = 0) ∧ Raised (EV.trip c) s t ∧
    t.out = s.out ++ s.tripOut c ∧ PageFrame (chanPages c) s t) ∧
  -- R374: over the limit in the ramp
  (∀ (s : State) (c : Chan), (s.chan c).on = true → s.get (EYE_CH_STAT.STATE c) = 1 → Answers (exec (.fastTrip c) s)
    fun t => (t.chan c).on = false ∧ (t.chan c).latched = true ∧ (t.chan c).coolLeft = 100000 ∧ t.get
    (EYE_CH_STAT.STATE c) = 4 ∧ t.get (EYE_CH_STAT.CAUSE c) = 1 ∧ t.get (EYE_CH_STAT.COOLING c) = 1 ∧ t.get
    (EYE_CH_STAT.PENDING c) = 0 ∧ t.get (EYE_CH_COOL.LEFT c) = 100 ∧ t.get (EYE_CH_TRIPS.TRIPS c) = satAdd
    ((EYE_CH_TRIPS.TRIPS c).w) (s.get (EYE_CH_TRIPS.TRIPS c)) 1 % 2 ^ ((EYE_CH_TRIPS.TRIPS c).w) ∧ (c.val < 4 →
    s.chanSink c = false → t.get (CTP_CONTRACT.VOLT c) = 0 ∧ t.get (CTP_STAT.PG c) = 0) ∧ Raised (EV.trip c) s t ∧
    t.out = s.out ++ s.tripOut c ∧ t.get (EYE_CH_STAT.RAMP_WHY c) = 1 ∧ PageFrame (chanPages c) s t) ∧
  -- R378
  (∀ (s : State) (c : Chan), (s.chan c).on = true → c.val < 4 → Answers (exec (.overVoltage c) s) fun t => (t.chan
    c).on = false ∧ (t.chan c).latched = true ∧ (t.chan c).coolLeft = 100000 ∧ t.get (EYE_CH_STAT.STATE c) = 4 ∧
    t.get (EYE_CH_STAT.CAUSE c) = 4 ∧ t.get (EYE_CH_STAT.COOLING c) = 1 ∧ t.get (EYE_CH_STAT.PENDING c) = 0 ∧ t.get
    (EYE_CH_COOL.LEFT c) = 100 ∧ t.get (EYE_CH_TRIPS.TRIPS c) = satAdd ((EYE_CH_TRIPS.TRIPS c).w) (s.get
    (EYE_CH_TRIPS.TRIPS c)) 1 % 2 ^ ((EYE_CH_TRIPS.TRIPS c).w) ∧ (c.val < 4 → s.chanSink c = false → t.get
    (CTP_CONTRACT.VOLT c) = 0 ∧ t.get (CTP_STAT.PG c) = 0) ∧ Raised (EV.trip c) s t ∧ t.out = s.out ++ s.tripOut c ∧
    PageFrame (chanPages c) s t) ∧
  -- R379: a port channel
  (∀ (s : State) (c : Chan), (s.chan c).on = true → c.val < 4 → Answers (exec (.reverseCurrent c) s) fun t => (t.chan
    c).on = false ∧ (t.chan c).latched = true ∧ (t.chan c).coolLeft = 100000 ∧ t.get (EYE_CH_STAT.STATE c) = 4 ∧
    t.get (EYE_CH_STAT.CAUSE c) = 5 ∧ t.get (EYE_CH_STAT.COOLING c) = 1 ∧ t.get (EYE_CH_STAT.PENDING c) = 0 ∧ t.get
    (EYE_CH_COOL.LEFT c) = 100 ∧ t.get (EYE_CH_TRIPS.TRIPS c) = satAdd ((EYE_CH_TRIPS.TRIPS c).w) (s.get
    (EYE_CH_TRIPS.TRIPS c)) 1 % 2 ^ ((EYE_CH_TRIPS.TRIPS c).w) ∧ (c.val < 4 → s.chanSink c = false → t.get
    (CTP_CONTRACT.VOLT c) = 0 ∧ t.get (CTP_STAT.PG c) = 0) ∧ Raised (EV.trip c) s t ∧ t.out = s.out ++ s.tripOut c ∧
    PageFrame (chanPages c) s t) ∧
  -- R379: a feed
  (∀ (s : State) (c : Chan), (s.chan c).on = true → 4 ≤ c.val → Answers (exec (.reverseCurrent c) s) fun t => (t.chan
    c).on = true ∧ t.get (EYE_CH_STAT.STATE c) = 3 ∧ t.eye = s.eye ∧ t.out = s.out ∧ PageFrame (chanPages c) s t) ∧
  -- R376, R380: one step
  (∀ (s : State) (c : Chan) (i : Int) (vp vb : Nat) (tdie ntc : Int), s.get (EYE_CH_THERM0.TAU1 c) ≠ 0 → s.get
    (EYE_CH_THERM1.TAU2 c) ≠ 0 → vp < 4096 → vb < 4096 → Answers (exec (.thermalModelStep c i vp vb tdie ntc) s) fun
    t => (t.chan c).dt1 = (s.chan c).dt1 + ((if s.flag (EYE_CH_STAT.COOLING c) then (0 : Rat) else ((i * (if c.val <
    4 ∧ s.chanSink c = false then (vb : Int) - vp else (vp : Int) - vb) : Int) : Rat) / 4000) * ((s.get
    (EYE_CH_THERM0.THETA1 c) : Rat) / 100) - (s.chan c).dt1) * (1 / 10) / s.get (EYE_CH_THERM0.TAU1 c) ∧ (t.chan
    c).dt2 = (s.chan c).dt2 + ((if s.flag (EYE_CH_STAT.COOLING c) then (0 : Rat) else ((i * (if c.val < 4 ∧
    s.chanSink c = false then (vb : Int) - vp else (vp : Int) - vb) : Int) : Rat) / 4000) * ((s.get
    (EYE_CH_THERM1.THETA2 c) : Rat) / 10) - (s.chan c).dt2) * (1 / 1000) / s.get (EYE_CH_THERM1.TAU2 c) ∧ (t.chan
    c).timers = s.curveStep c i ∧ t.get (EYE_CH_MEAS_I.I c) = ofInt 16 i % 65536 ∧ t.get (EYE_CH_MEAS_V.V_PORT c) =
    vp ∧ t.get (EYE_CH_MEAS_V.V_BOARD c) = vb ∧ t.get (EYE_CH_TEMP.T_NTC c) = ofInt 9 ntc % 512 ∧ t.out = s.out ∧
    SameBytes s t) ∧
  -- R382: pending in the cool-down
  (∀ (s : State) (c : Chan), (s.chan c).latched = true → s.get (EYE_CH_STAT.STATE c) ≠ 5 → s.flag
    (EYE_CH_STAT.COOLING c) = true → Answers (exec (.channelToggle c) s) fun t => (t.chan c).latched = false ∧ t.get
    (EYE_CH_STAT.STATE c) = 0 ∧ t.get (EYE_CH_STAT.PENDING c) = 1 ∧ t.out = s.out ∧ Frame [EYE_CH_STAT.STATE c,
    EYE_CH_STAT.PENDING c] s t) ∧
  -- R382
  (∀ (s : State) (c : Chan), s.flag (EYE_CH_STAT.COOLING c) = true → (s.chan c).coolLeft = 0 → (s.chan c).dt1 +
    (s.chan c).dt2 ≤ s.get (EYE_CH_TLIM.COOL_RISE c) → (s.chan c).tUsed ≤ s.get (EYE_CH_TLIM.T_WARN c) → Answers
    (exec (.coolDownEnd c) s) fun t => t.get (EYE_CH_STAT.COOLING c) = 0 ∧ t.get (EYE_CH_COOL.LEFT c) = 0 ∧ t.get
    (EYE_CH_STAT.PENDING c) = 0 ∧ Raised EV.coolDone s t ∧ t.out = s.out ∧ PageFrame (chanPages c) s t) ∧
  -- R384
  (∀ (s : State) (c : Chan), (s.chan c).on = false → s.get (EYE_CH_STAT.STATE c) ≠ 5 → s.chanIn c < 10 * s.chanOut c
    → 1 < (toInt 16 (s.get (EYE_CH_MEAS_I.I c))).natAbs → Answers (exec (.fetFailCheck c) s) fun t => t.get
    (EYE_CH_STAT.STATE c) = 5 ∧ t.get (EYE_CH_STAT.CAUSE c) = 7 ∧ (t.chan c).latched = true ∧ (c.val < 4 → t.get
    (CTP_STAT.NO_SUPPLY c) = 1) ∧ Raised (EV.fetFail c) s t ∧ t.out = s.out ∧ Frame ([EYE_CH_STAT.STATE c,
    EYE_CH_STAT.CAUSE c, CTP_STAT.NO_SUPPLY c] ++ evFlds (EV.fetFail c)) s t)

/-- Feeds leave, come back and switch over; the early warning is raised, shown, followed and ended (R378, R379, R385,
  R386, R387, R388). -/
def Obligations.FeedsAndWarnings : Prop :=
  -- R378: below UV
  (∀ (s : State) (f : Fin 2), (s.chan (feedChan f)).on = true → Answers (exec (.feedUnderVoltage f) s) fun t => t.get
    (feedPresent f) = 0 ∧ (t.chan (feedChan f)).on = false ∧ t.get (EYE_CH_STAT.STATE (feedChan f)) = 0 ∧ t.out =
    s.out ∧ PageFrame (chanPages (feedChan f)) s t) ∧
  -- R378: back in its window
  (∀ (s : State) (f : Fin 2), (s.chan (feedChan f)).on = true → Answers (exec (.feedWindowRecover f) s) fun t =>
    t.get (feedPresent f) = 1 ∧ t.eye = s.eye ∧ t.out = s.out ∧ Frame [feedPresent f] s t) ∧
  -- R379
  (∀ (s : State) (f : Fin 2), s.get (EYE_CH_STAT.STATE (feedChan f)) = 3 → Answers (exec (.feedForwardBias f) s) fun
    t => t.get (EYE_CH_STAT.STATE (feedChan f)) = 2 ∧ t.eye = s.eye ∧ t.out = s.out ∧ PageFrame (chanPages (feedChan
    f)) s t) ∧
  -- R386
  (∀ (s : State) (f : Fin 2), s.chanFree (feedChan f) = true → s.flag (feedPresent f) = true → Answers (exec
    (.feedSwitchover f) s) fun t => (t.chan (feedChan f)).on = true ∧ t.get (EYE_CH_STAT.STATE (feedChan f)) = 2 ∧
    t.out = s.out ∧ PageFrame (chanPages (feedChan f)) s t) ∧
  -- R386
  (∀ (s : State), s.get EYE_FEED_CTRL.MODE = 1 → s.flag (feedPresent 0) = true → s.chanFree 4 = true → Answers (exec
    (.primaryTakeback) s) fun t => (t.chan 4).on = true ∧ t.get (EYE_CH_STAT.STATE 4) = 2 ∧ (t.chan 5).on = false ∧
    t.get (EYE_CH_STAT.STATE 5) = 0 ∧ t.out = s.out ∧ PageFrame (chanPages 4 ++ chanPages 5) s t) ∧
  -- R387
  (∀ (s : State) (uv fall : Bool), s.monitored = true → (uv || fall) = true → s.flag EYE_WARN_CTRL.PWARN_EN = false →
    Answers (exec (.pfailAssert uv fall) s) fun t => t.get EYE_WARN_STAT.ACTIVE = 1 ∧ t.get EYE_WARN_STAT.UV = b2n uv
    ∧ t.get EYE_WARN_STAT.SLOPE = b2n fall ∧ t.get EYE_WARN_STAT.FOLLOWED = 0 ∧ t.get EYE_WARN_STAT.EXTERNAL = 0 ∧
    t.get EYE_WARN_STAT.COUNT = satAdd (EYE_WARN_STAT.COUNT.w) (s.get EYE_WARN_STAT.COUNT) 1 % 2 ^
    (EYE_WARN_STAT.COUNT.w) ∧ Raised EV.pfail s t ∧ t.out = s.out ++ [.pin "PFAIL_N" 0] ∧ t.links = s.links ∧ Frame
    ([EYE_WARN_STAT.ACTIVE, EYE_WARN_STAT.UV, EYE_WARN_STAT.SLOPE, EYE_WARN_STAT.FOLLOWED, EYE_WARN_STAT.EXTERNAL,
    EYE_WARN_STAT.COUNT] ++ evFlds EV.pfail) s t) ∧
  -- R387
  (∀ (s : State), s.flag EYE_WARN_STAT.ACTIVE = true → s.eye.warning = true → Answers (exec (.pfailHoldEnd) s) fun t
    => t.get EYE_WARN_STAT.ACTIVE = 0 ∧ t.out = s.out ++ [.pin "PFAIL_N" 1] ∧ Frame [EYE_WARN_STAT.ACTIVE] s t) ∧
  -- R387
  (∀ (s : State), s.flag PWRD_STATE.ENTERING = false → s.chip.wake = none → s.get PWRD_STATE.STATE < 2 → Answers
    (exec (.pfailExternal) s) fun t => t.get EYE_WARN_STAT.ACTIVE = 1 ∧ t.get EYE_WARN_STAT.UV = 0 ∧ t.get
    EYE_WARN_STAT.SLOPE = 0 ∧ t.get EYE_WARN_STAT.FOLLOWED = 0 ∧ t.get EYE_WARN_STAT.EXTERNAL = 1 ∧ t.get
    EYE_WARN_STAT.COUNT = satAdd (EYE_WARN_STAT.COUNT.w) (s.get EYE_WARN_STAT.COUNT) 1 % 2 ^ (EYE_WARN_STAT.COUNT.w)
    ∧ Raised EV.pfail s t ∧ t.out = s.out ∧ t.links = s.links ∧ Frame ([EYE_WARN_STAT.ACTIVE, EYE_WARN_STAT.UV,
    EYE_WARN_STAT.SLOPE, EYE_WARN_STAT.FOLLOWED, EYE_WARN_STAT.EXTERNAL, EYE_WARN_STAT.COUNT] ++ evFlds EV.pfail) s
    t) ∧
  -- R388
  (∀ (s : State) (n : Port), s.facesUp n = true → s.flag EYE_WARN_CTRL.FOLLOW = true → s.flag EYE_WARN_CTRL.PWARN_EN
    = false → Answers (exec (.pwarnRx n) s) fun t => t.get EYE_WARN_STAT.ACTIVE = 1 ∧ t.get EYE_WARN_STAT.UV = 0 ∧
    t.get EYE_WARN_STAT.SLOPE = 0 ∧ t.get EYE_WARN_STAT.FOLLOWED = 1 ∧ t.get EYE_WARN_STAT.EXTERNAL = 0 ∧ t.get
    EYE_WARN_STAT.COUNT = satAdd (EYE_WARN_STAT.COUNT.w) (s.get EYE_WARN_STAT.COUNT) 1 % 2 ^ (EYE_WARN_STAT.COUNT.w)
    ∧ Raised EV.pfail s t ∧ Raised (EV.pwarnRx n) s t ∧ t.out = s.out ++ [.pin "PFAIL_N" 0] ∧ Frame
    ([EYE_WARN_STAT.ACTIVE, EYE_WARN_STAT.UV, EYE_WARN_STAT.SLOPE, EYE_WARN_STAT.FOLLOWED, EYE_WARN_STAT.EXTERNAL,
    EYE_WARN_STAT.COUNT] ++ evFlds EV.pfail ++ evFlds (EV.pwarnRx n)) s t)

/-- The block is powered up, retried and lost: what starts in its reset state and what survives (R1, R9, R330, R365,
  R401, R492, R493, R494, R495). -/
def Obligations.PowerUpAndLoss : Prop :=
  -- R493: RAIL_PG in time
  (∀ (s : State) (x : Straps), s.chip.power = 0 → Answers (exec (.vstbyPowerUp x true) s) fun t => t.chip.power = 3 ∧
    t.get CHIP_ROLE.ROLE = b2n (!x.root) ∧ t.get CHIP_HUB_ID.HUB_ID = (if x.root then 0 else 255) ∧ t.flows =
    State.reset.flows ∧ t.pending = s.pending ∧ t.nv = s.nv ∧ t.mem = [] ∧ t.out = s.out ++ [.pin "RAIL_EN0" 1, .pin
    "RAIL_EN1" 1, .pin "RAIL_EN2" 1, .pin "RAIL_EN3" 1] ∧ t.chip.attempts = 1) ∧
  -- R493, R494: RAIL_PG awaited
  (∀ (s : State) (x : Straps), s.chip.power = 0 → Answers (exec (.vstbyPowerUp x false) s) fun t => t.chip.power = 2
    ∧ t.chip.attempts = 1 ∧ t.out = s.out ++ [.pin "RAIL_EN0" 1, .pin "RAIL_EN1" 1, .pin "RAIL_EN2" 1, .pin
    "RAIL_EN3" 1] ∧ t.nv = s.nv ∧ t.pending = s.pending) ∧
  -- R494: again
  (∀ (s : State) (x : Straps), s.chip.power = 2 → s.chip.attempts < 3 → Answers (exec (.railPgTimeout x true) s) fun
    t => t.chip.power = 3 ∧ t.get CHIP_ROLE.ROLE = b2n (!x.root) ∧ t.get CHIP_HUB_ID.HUB_ID = (if x.root then 0 else
    255) ∧ t.flows = State.reset.flows ∧ t.pending = s.pending ∧ t.nv = s.nv ∧ t.mem = [] ∧ t.out = s.out ++ [.pin
    "RAIL_EN3" 0, .pin "RAIL_EN2" 0, .pin "RAIL_EN1" 0, .pin "RAIL_EN0" 0] ++ [.pin "RAIL_EN0" 1, .pin "RAIL_EN1" 1,
    .pin "RAIL_EN2" 1, .pin "RAIL_EN3" 1] ∧ t.chip.attempts = s.chip.attempts + 1) ∧
  -- R494: the third failed
  (∀ (s : State) (x : Straps) (pg : Bool), s.chip.power = 2 → 3 ≤ s.chip.attempts → Answers (exec (.railPgTimeout x
    pg) s) fun t => t.chip.power = 1 ∧ t.get PWRD_STATE.STATE = 4 ∧ t.get PWRD_STATE.ENTERING = 0 ∧ t.get
    PWRD_DOMAIN_STAT.POWERED = 0x4000 ∧ t.ctp = CtpSt.reset ∧ t.mem = [] ∧ t.pending = s.pending ∧ t.nv = s.nv ∧ (∀ c
    : Chan, (t.chan c).on = false) ∧ t.chip.wake = none) ∧
  -- R495
  (∀ (s : State), Answers (exec (.vstbyLoss) s) fun t => t.chip.power = 0 ∧ t.pending = s.pending ∧ t.nv = s.nv ∧
    t.ctp = CtpSt.reset ∧ t.eye = EyeSt.reset ∧ t.flows = State.reset.flows ∧ t.get PWRD_DOMAIN_STAT.POWERED = 0 ∧
    t.out.drop (t.out.length - 4) = [.pin "RAIL_EN3" 0, .pin "RAIL_EN2" 0, .pin "RAIL_EN1" 0, .pin "RAIL_EN0" 0] ∧
    Frame [PWRD_DOMAIN_STAT.POWERED] State.reset t) ∧
  -- R495
  (∀ (s : State), s.chip.power = 3 → s.get PWRD_STATE.STATE ≤ 2 → Answers (exec (.railPgLoss) s) fun t =>
    t.chip.power = 1 ∧ t.get PWRD_STATE.STATE = 4 ∧ t.get PWRD_STATE.ENTERING = 0 ∧ t.get PWRD_DOMAIN_STAT.POWERED =
    0x4000 ∧ t.ctp = CtpSt.reset ∧ t.mem = [] ∧ t.pending = s.pending ∧ t.nv = s.nv ∧ (∀ c : Chan, (t.chan c).on =
    false) ∧ t.chip.wake = none) ∧
  -- R365
  (∀ (s : State) (x : Straps), s.chip.power = 0 → Answers (exec (.deadBatteryStart x) s) fun t => t.chip.power = 3 ∧
    t.get CHIP_ROLE.ROLE = b2n (!x.root) ∧ t.get CHIP_HUB_ID.HUB_ID = (if x.root then 0 else 255) ∧ t.flows =
    State.reset.flows ∧ t.pending = s.pending ∧ t.nv = s.nv ∧ t.mem = [] ∧ t.ctp.dbPath = true ∧ t.get
    (EYE_CH_CTRL.ON 0) = 0 ∧ t.out = s.out ++ [.pin "RAIL_EN0" 1, .pin "RAIL_EN1" 1, .pin "RAIL_EN2" 1, .pin
    "RAIL_EN3" 1]) ∧
  -- R405, R492
  (∀ (s : State) (mv : Nat), s.get PWRD_STATE.STATE < 2 → 650 ≤ mv → mv ≤ 850 → mv % 5 = 0 → s.chip.avsNack = false →
    Answers (exec (.avsAdjust mv true) s) fun t => t.get PWRD_AVS.VDD_MV = mv ∧ t.get PWRD_AVS.VSRAM_MV = (if mv ≤
    700 then 750 else if mv ≤ 780 then 800 else 850) ∧ t.chip.assist = (if mv ≤ 700 then (0, 60) else if mv ≤ 780
    then (20, 40) else (40, 20)) ∧ t.out = s.out ++ (if s.get PWRD_AVS.VDD_MV ≤ mv then [.pmbus 0x41 0x21 (if mv ≤
    700 then 750 else if mv ≤ 780 then 800 else 850), .pmbus 0x40 0x21 mv] else [.pmbus 0x40 0x21 mv, .pmbus 0x41
    0x21 (if mv ≤ 700 then 750 else if mv ≤ 780 then 800 else 850)]) ∧ Frame [PWRD_AVS.VDD_MV, PWRD_AVS.VSRAM_MV,
    PWRD_AVS.BIAS] s t) ∧
  -- R492: no acknowledge
  (∀ (s : State) (mv : Nat), s.get PWRD_STATE.STATE < 2 → 650 ≤ mv → mv ≤ 850 → mv % 5 = 0 → s.chip.avsNack = false →
    Answers (exec (.avsAdjust mv false) s) fun t => t.get PWRD_AVS.VDD_MV = 800 ∧ t.chip.avsNack = true ∧ t.out =
    s.out ++ (if s.get PWRD_AVS.VDD_MV ≤ mv then [.pmbus 0x41 0x21 (if mv ≤ 700 then 750 else if mv ≤ 780 then 800
    else 850), .pmbus 0x40 0x21 mv] else [.pmbus 0x40 0x21 mv, .pmbus 0x41 0x21 (if mv ≤ 700 then 750 else if mv ≤
    780 then 800 else 850)]) ∧ Frame [PWRD_AVS.VDD_MV, PWRD_AVS.VSRAM_MV, PWRD_AVS.BIAS] s t)

/-- Domains are switched, come up and fail; the boot ROM, the restart path and flashless boot (R201, R390, R391,
  R392, R393, R410, R414, R415, R416, Table 15.1). -/
def Obligations.DomainsAndBoot : Prop :=
  -- R391, R392
  (∀ (s : State) (d : Fin 16), s.switchable d = true → s.domainOn d = true → Answers (exec (.domainSwitchOff d) s)
    fun t => bit (t.get PWRD_DOMAIN_CTRL.ON) d = false ∧ bit (t.get PWRD_DOMAIN_STAT.POWERED) d = false ∧
    (domainPages d).all (fun p => t.get (BLK_STAT.DOMAIN_OFF p) == 1 && t.get (BLK_STAT.READY p) == 0 && t.get
    (EVT_RAW p) == 0) = true) ∧
  -- R391, R392
  (∀ (s : State) (d : Fin 16), s.switchable d = true → bit (s.get PWRD_DOMAIN_CTRL.ON) d = false → Answers (exec
    (.domainSwitchOn d) s) fun t => bit (t.get PWRD_DOMAIN_CTRL.ON) d = true ∧ bit (t.get PWRD_DOMAIN_STAT.POWERED) d
    = true ∧ bit (t.get PWRD_DOMAIN_STAT.FAULT) d = false ∧ t.flows = s.flows ∧ t.out = s.out) ∧
  -- R392
  (∀ (s : State) (d : Fin 16), s.domainOn d = true → (d.val < 6 ∨ 10 ≤ d.val) → Answers (exec (.domainReady d) s) fun
    t => (domainPages d).all (fun p => t.get (BLK_STAT.READY p) == 1) = true ∧ t.out = s.out ∧ t.flows = s.flows ∧
    Frame ((domainPages d).map BLK_STAT.READY) s t) ∧
  -- R393
  (∀ (s : State) (d : Fin 16), s.domainOn d = true → s.switchable d = true → Answers (exec (.domainFault d) s) fun t
    => bit (t.get PWRD_DOMAIN_STAT.POWERED) d = false ∧ bit (t.get PWRD_DOMAIN_STAT.FAULT) d = true ∧ (domainPages
    d).all (fun p => t.get (BLK_STAT.DOMAIN_OFF p) == 1) = true ∧ Raised EV.domainFault s t) ∧
  -- R393: the main die starts again
  (∀ (s : State) (d : Fin 16), s.domainOn d = true → d.val < 4 → Answers (exec (.domainFault d) s) fun t =>
    t.chip.power = 3 ∧ t.flows = State.reset.flows ∧ t.pending = s.pending ∧ t.nv = s.nv ∧ t.mem = [] ∧ t.ctp = s.ctp
    ∧ t.eye = s.eye ∧ t.get CHIP_ROLE.ROLE = b2n (!s.isRoot) ∧ t.out = s.out) ∧
  -- Table 15.1: no flash, in the Root
  (∀ (s : State) (corr good : Nat) (ok : Bool), s.chip.power = 3 → s.flag FUSE_STAT.READ_DONE = false → s.sec.halted
    = false → s.lc = 0 → s.nv.flash.fitted = false → s.isRoot = true → Answers (exec (.bootRomRun corr false good ok)
    s) fun t => t.sec.halted = true ∧ t.get MBX_STAT.AWL_UP = 0 ∧ t.get FUSE_STAT.READ_DONE = 1 ∧ t.get
    FUSE_STAT.CORR = min corr 65535 ∧ t.get FUSE_LC.STATE = 0 ∧ t.get KEY_STAT.DBG_LEVEL = 3 ∧ t.out = s.out ∧
    SameBytes s t) ∧
  -- R415: flashless
  (∀ (s : State) (corr good : Nat) (ok : Bool), s.chip.power = 3 → s.flag FUSE_STAT.READ_DONE = false → s.sec.halted
    = false → s.lc = 0 → s.nv.flash.fitted = false → s.isRoot = false → bit s.protect 5 = true → s.chip.wake = none →
    Answers (exec (.bootRomRun corr false good ok) s) fun t => t.sec.halted = false ∧ t.get BOOT_STAT.FLASHLESS = 1 ∧
    t.get MBX_STAT.AWL_UP = 0 ∧ t.get FUSE_STAT.READ_DONE = 1 ∧ Raised EV.flashlessBoot s t ∧ t.out = s.out ∧
    SameBytes s t) ∧
  -- R410: an uncorrectable word
  (∀ (s : State) (corr good : Nat) (ok : Bool), s.chip.power = 3 → s.flag FUSE_STAT.READ_DONE = false → s.sec.halted
    = false → Answers (exec (.bootRomRun corr true good ok) s) fun t => t.sec.halted = true ∧ t.get FUSE_STAT.UNCORR
    = 1 ∧ t.get FUSE_STAT.READ_DONE = 0 ∧ t.out = s.out ∧ t.nv = s.nv ∧ SameBytes s t) ∧
  -- R201, R414: without an image
  (∀ (s : State) (corr : Nat), s.integ.awlDown = true → s.ctl.mbxQueue = [] → s.get PWRD_STATE.STATE = 0 →
    s.nv.flash.fitted = false → s.isRoot = true → Answers (exec (.awlRestartPath corr false) s) fun t => Raised
    EV.awlRestart s t ∧ t.get FUSE_STAT.READ_DONE = 1 ∧ t.get KEY_STAT.ROOT_OK = b2n s.sec.root.isSome ∧ t.sec.halted
    = true ∧ t.get MBX_STAT.AWL_UP = 0 ∧ t.out = s.out ∧ SameBytes s t) ∧
  -- R415: the base is asked for
  (∀ (s : State) (good : Nat) (ok : Bool), s.flag BOOT_STAT.FLASHLESS = true → s.flag MBX_STAT.AWL_UP = false →
    s.sec.halted = false → s.sec.fetch = none → s.flag (WLT_LINK_STAT.ADMITTED 0) = true → s.lc = 0 → Answers (exec
    (.flashlessBoot good ok) s) fun t => t.sec.fetch = some ⟨0, 0xFFFF, 0, [], good⟩ ∧ t.ctl.nextTag = (s.ctl.nextTag
    + 1) % 65536 ∧ t.out = s.out ++ [.ctl 0
    { reqPkt 5 0 0 0 0 [] with opdata := imgOp 0 3 0xFFFF 0 false, src := s.hubId, tag := s.ctl.nextTag, hops := 33, dst := s.get (WLT_PARTNER_CAP.DATA 0 1) % 256 }]
    ∧ Frame [] s t) ∧
  -- R416: nothing to refuse
  (∀ (s : State) (refused : Nat), s.flag MBX_STAT.AWL_UP = true → refused % 16 = 0 → Answers (exec (.policyCheckStart
    refused) s) fun t => t = s) ∧
  -- R416: POLICY
  (∀ (s : State) (refused : Nat), s.flag MBX_STAT.AWL_UP = true → s.flag (WLT_LINK_STAT.ADMITTED 2) = true → refused
    = 4 → Answers (exec (.policyCheckStart refused) s) fun t => t.get (WLT_LINK_STAT.ADMITTED 2) = 0 ∧ t.get
    (WLT_LINK_STAT.DOWN_REASON 2) = 9)

/-- Requests for Run, Doze, Retain, Hold and Shelf; entries, wakes, replays and exits (R394, R395, R396, R397, R400,
  R401, R403, R404, R406, R407, Table 14.4). -/
def Obligations.ChipStatesAndWakes : Prop :=
  -- R395
  (∀ (s : State), s.get PWRD_STATE.STATE = 0 → s.stateBusy = false → Answers (exec (.stateReqRun) s) fun t => t.get
    PWRD_STATE.RESULT = 0 ∧ t.get PWRD_STATE.STATE = 0 ∧ t.chip = s.chip ∧ t.out = s.out ∧ Frame [PWRD_STATE.RESULT]
    s t) ∧
  -- R396: Doze ends
  (∀ (s : State), s.get PWRD_STATE.STATE = 1 → s.stateBusy = false → Answers (exec (.stateReqRun) s) fun t => t.get
    PWRD_STATE.RESULT = 0 ∧ t.get PWRD_STATE.STATE = 0 ∧ t.get PWRD_STATE.LAST_LOW = 1 ∧ t.chip.gated = false ∧ t.out
    = s.out ∧ Frame [PWRD_STATE.RESULT, PWRD_STATE.STATE, PWRD_STATE.LAST_LOW] s t) ∧
  -- R395, R396
  (∀ (s : State), s.get PWRD_STATE.STATE = 0 → s.stateBusy = false → Answers (exec (.stateReqDoze) s) fun t => t.get
    PWRD_STATE.RESULT = 0 ∧ t.get PWRD_STATE.STATE = 1 ∧ t.chip = s.chip ∧ t.out = s.out ∧ Frame [PWRD_STATE.RESULT,
    PWRD_STATE.STATE] s t) ∧
  -- Table 14.4: BUSY
  (∀ (s : State), s.get PWRD_STATE.STATE ≠ 1 → s.stateBusy = true → Answers (exec (.stateReqDoze) s) fun t => t.get
    PWRD_STATE.RESULT = 1 ∧ t = { s with regs := t.regs } ∧ Frame [PWRD_STATE.RESULT] s t) ∧
  -- R397
  (∀ (s : State), s.get PWRD_STATE.STATE = 0 → s.stateBusy = false → s.refuseHold = 0 → s.admittedPorts = [] →
    Answers (exec (.stateReqRetain) s) fun t => t.get PWRD_STATE.ENTERING = 1 ∧ t.get PWRD_STATE.RESULT = 0 ∧
    t.chip.wake = none ∧ t.chip.seen = 0 ∧ SameBytes s t) ∧
  -- R400
  (∀ (s : State) (wakes : List (Nat × Nat)), s.get PWRD_STATE.STATE = 0 → s.stateBusy = false → s.refuseHold = 0 →
    wakes = [] → s.isRoot = true → Answers (exec (.stateReqHold wakes) s) fun t => t.get PWRD_STATE.STATE = 3 ∧ t.get
    PWRD_DOMAIN_STAT.POWERED = 0xC001 ∧ t.chip.t0 = s.now ∧ t.get CHIP_HUB_ID.HUB_ID = s.get CHIP_HUB_ID.HUB_ID ∧
    t.ctp = s.ctp ∧ t.eye = s.eye ∧ t.nv = s.nv ∧ t.mem = [] ∧ t.sec.root = s.sec.root ∧ t.flows = State.reset.flows
    ∧ t.out.drop (t.out.length - 4) = [.pin "RAIL_EN3" 0, .pin "RAIL_EN2" 0, .pin "RAIL_EN1" 0, .pin "RAIL_EN0" 0] ∧
    t.pending = s.pending) ∧
  -- R401
  (∀ (s : State) (wakes : List (Nat × Nat)), s.get PWRD_STATE.STATE = 0 → s.stateBusy = false → wakes = [] → Answers
    (exec (.stateReqShelf true wakes) s) fun t => t.chip.power = 1 ∧ t.get PWRD_STATE.STATE = 4 ∧ t.get
    PWRD_STATE.ENTERING = 0 ∧ t.get PWRD_DOMAIN_STAT.POWERED = 0x4000 ∧ t.get PWRD_STATE.RESULT = 0 ∧ t.ctp =
    CtpSt.reset ∧ t.mem = [] ∧ t.pending = s.pending ∧ t.nv = s.nv ∧ (∀ c : Chan, (t.chan c).on = false)) ∧
  -- Table 14.4: VSTBY
  (∀ (s : State) (wakes : List (Nat × Nat)), s.get PWRD_STATE.STATE = 0 → s.stateBusy = false → Answers (exec
    (.stateReqShelf false wakes) s) fun t => t.get PWRD_STATE.RESULT = 6 ∧ t = { s with regs := t.regs } ∧ Frame
    [PWRD_STATE.RESULT] s t) ∧
  -- R396
  (∀ (s : State), s.get PWRD_STATE.STATE = 1 → s.flows.waiting = [] → s.flows.admitted = [] → s.flows.held = [] →
    Answers (exec (.dozeClockGate) s) fun t => t = { s with chip := { s.chip with gated := true } }) ∧
  -- R396
  (∀ (s : State), Answers (exec (.dozeClockUngate) s) fun t => t = { s with chip := { s.chip with gated := false } }) ∧
  -- R397, Table 14.5
  (∀ (s : State), s.flag PWRD_STATE.ENTERING = true → (s.admittedPorts.all fun n => s.get (WLT_PCS_STAT.TRAIN_STATE
    n) == 6) = true → Answers (exec (.retainPortsSlept) s) fun t => t.get PWRD_STATE.ENTERING = 0 ∧ t.get
    PWRD_STATE.STATE = 2 ∧ t.get PWRD_DOMAIN_STAT.POWERED = 0xC001 ∧ t.get PWRD_AVS.VSRAM_MV = 550 ∧ t.chip.t0 =
    s.now ∧ t.chip.domains = s.get PWRD_DOMAIN_STAT.POWERED ∧ t.out = s.out ++ [.pin "RAIL_EN1" 0, .pin "VSRAM_RET"
    1] ∧ t.flows.held = [] ∧ SameBytes s t) ∧
  -- Table 14.5: not asleep in time
  (∀ (s : State), s.flag PWRD_STATE.ENTERING = true → s.admittedPorts = [] → s.flag (BLK_CTRL.ENABLE 0x80) = false →
    s.flag (BLK_CTRL.ENABLE 0x84) = false → Answers (exec (.retainSleepTimeout) s) fun t => t.get PWRD_STATE.ENTERING
    = 0 ∧ t.get PWRD_STATE.RESULT = 3 ∧ t.get PWRD_STATE.AWAKE_PORTS = 0 ∧ t.chip.wake = none ∧ t.out = s.out ∧ Frame
    [PWRD_STATE.ENTERING, PWRD_STATE.RESULT, PWRD_STATE.AWAKE_PORTS] s t) ∧
  -- R403, R404, R406: out of Retain
  (∀ (s : State) (w : Wake), s.get PWRD_STATE.STATE = 2 → s.chip.power = 3 → s.flag PWRD_STATE.ENTERING = false →
    s.chip.wake = none → s.wakes 2 w.src = true → Answers (exec (.chipWake w) s) fun t => t.get PWRD_STATE.STATE = 0
    ∧ t.get PWRD_STATE.LAST_LOW = 2 ∧ t.get PWRD_WAKE_SRC.FROM = 2 ∧ t.now = (s.chip.t0 + ((2 * w.cycles * w.ratio +
    65536) / 131072 + w.ticks)) % 2 ^ 64 ∧ t.get CTM_STAT.FREE = b2n (!s.isRoot) ∧ t.chip.wake = none ∧ t.get
    PWRD_WAKE_SRC.FIRST = w.src ∧ t.get PWRD_WAKE_SRC.REPLAYED = b2n s.chip.replay) ∧
  -- R407: latched in the entry
  (∀ (s : State) (w : Wake), s.flag PWRD_STATE.ENTERING = true → s.wakes 2 w.src = true → s.chip.wake = none →
    Answers (exec (.chipWake w) s) fun t => t =
    { s with chip := { s.chip with wake := some (w.src, w.cfg), seen := setBit s.chip.seen w.src } }) ∧
  -- R407: replayed
  (∀ (s : State) (w : Wake) (src cfg : Nat), s.get PWRD_STATE.STATE = 2 → s.chip.power = 3 → s.flag
    PWRD_STATE.ENTERING = false → s.flag PWRD_STATE.EXITING = false → s.chip.wake = some (src, cfg) → s.chip.replay =
    false → bit s.chip.domains 14 = true → Answers (exec (.wakeReplayed w) s) fun t => t.get PWRD_STATE.STATE = 0 ∧
    t.get PWRD_STATE.LAST_LOW = 2 ∧ t.get PWRD_WAKE_SRC.FROM = 2 ∧ t.now = (s.chip.t0 + ((2 * w.cycles * w.ratio +
    65536) / 131072 + w.ticks)) % 2 ^ 64 ∧ t.get CTM_STAT.FREE = b2n (!s.isRoot) ∧ t.chip.wake = none ∧ t.get
    PWRD_WAKE_SRC.FIRST = src % 2 ^ PWRD_WAKE_SRC.FIRST.w ∧ t.get PWRD_WAKE_SRC.REPLAYED = 1 ∧ Raised EV.wakeReplayed
    s t) ∧
  -- Table 14.10: in Run it only disarms
  (∀ (s : State) (w : Wake), s.chip.timerAt ≠ 0 → s.get PWRD_STATE.STATE = 0 → s.flag PWRD_STATE.ENTERING = false →
    s.chip.wake = none → Answers (exec (.wakeTimerExpiry w) s) fun t => t.chip.timerAt = 0 ∧ t.get PWRD_TIMER.MS = 0
    ∧ t.get PWRD_STATE.STATE = 0 ∧ t.out = s.out ∧ Frame [PWRD_TIMER.MS] s t) ∧
  -- Table 14.10: the TIMER wake
  (∀ (s : State) (w : Wake), s.chip.timerAt ≠ 0 → s.get PWRD_STATE.STATE = 2 → s.chip.power = 3 → s.flag
    PWRD_STATE.ENTERING = false → s.chip.wake = none → s.wakes 2 8 = true → Answers (exec (.wakeTimerExpiry w) s) fun
    t => t.get PWRD_STATE.STATE = 0 ∧ t.get PWRD_STATE.LAST_LOW = 2 ∧ t.get PWRD_WAKE_SRC.FROM = 2 ∧ t.now =
    (s.chip.t0 + ((2 * w.cycles * w.ratio + 65536) / 131072 + w.ticks)) % 2 ^ 64 ∧ t.get CTM_STAT.FREE = b2n
    (!s.isRoot) ∧ t.chip.wake = none ∧ t.get PWRD_WAKE_SRC.FIRST = 8 ∧ t.chip.timerAt = 0)

/-- Slot operations: GENERATE, DERIVE, ECDH, UNWRAP, CLEAR, PUBLIC, attributes, and their results (R430, R431, R432,
  R433, R434, R435, R436, Table 15.9). -/
def Obligations.KeySlots : Prop :=
  -- Table 15.9: GENERATE
  (∀ (s : State) (m : Fin 5) (tag k : Nat), s.targetOk (k % 32) = true → s.takesKeys = true → 1 ≤ s.opType → s.opType
    ≤ 3 → bit (leNat (byteSlice s.opData 0 4)) (21 + m.val) = true → Answers (exec (.keyGenerate m tag k) s) fun t =>
    t.get KEY_RES0.VALID = 0 ∧ t.sec.keyDone = s.sec.keyDone ++ [(tag, 0)] ∧ t.get (SLOT0.VALID (k % 32)) = 1 ∧ t.get
    (SLOT0.TYPE (k % 32)) = s.opType % 2 ^ (SLOT0.TYPE 0).w ∧ t.get (SLOT0.ORIGIN (k % 32)) = 1 ∧ t.get
    (SLOT0.MASTERS (k % 32)) = (bits (leNat (byteSlice s.opData 0 4)) 21 5) % 32 ∧ t.get (SLOT0.LCS (k % 32)) = (bits
    (leNat (byteSlice s.opData 0 4)) 15 6) % 32 ∧ t.get (SLOT0.USES (k % 32)) = (bits (leNat (byteSlice s.opData 0
    4)) 9 6) % 64 ∧ t.get (SLOT1.USES_CNT (k % 32)) = 0 ∧ t.slotVal (k % 32) = s.random (if s.opType = 1 then 32 else
    48) ∧ t.freeCtr = s.freeCtr + (if s.opType = 1 then 32 else 48) ∧ t.out = s.out ∧ Frame (KEY_RES0.VALID ::
    slotFlds (k % 32)) s t) ∧
  -- R436: no such target
  (∀ (s : State) (m : Fin 5) (tag k : Nat), s.targetOk (k % 32) = false → Answers (exec (.keyGenerate m tag k) s) fun
    t => t.get KEY_RES0.VALID = 0 ∧ t.sec.keyDone = s.sec.keyDone ++ [(tag, 13)] ∧ t.sec.values = s.sec.values ∧
    t.out = s.out ∧ Frame [KEY_RES0.VALID] s t) ∧
  -- R434: DERIVE
  (∀ (s : State) (m : Fin 5) (tag src k : Nat), s.targetOk (k % 32) = true → s.takesKeys = true → s.keyTypeOk = true
    → s.useOk m (src % 32) 4 = true → (src % 32) ≠ (k % 32) → Answers (exec (.keyDerive m tag src k) s) fun t =>
    t.get KEY_RES0.VALID = 0 ∧ t.sec.keyDone = s.sec.keyDone ++ [(tag, 0)] ∧ t.get (SLOT0.VALID (k % 32)) = 1 ∧ t.get
    (SLOT0.TYPE (k % 32)) = s.opType % 2 ^ (SLOT0.TYPE 0).w ∧ t.get (SLOT0.ORIGIN (k % 32)) = 2 ∧ t.get
    (SLOT0.MASTERS (k % 32)) = (s.get (SLOT0.MASTERS (k % 32)) &&& s.get (SLOT0.MASTERS (src % 32))) % 32 ∧ t.get
    (SLOT0.LCS (k % 32)) = (s.get (SLOT0.LCS (k % 32)) &&& s.get (SLOT0.LCS (src % 32))) % 32 ∧ t.get (SLOT0.USES (k
    % 32)) = (s.get (SLOT0.USES (k % 32))) % 64 ∧ t.get (SLOT1.USES_CNT (k % 32)) = 0 ∧ t.slotVal (k % 32) =
    Config.kdf (s.slotVal (src % 32)) (byteSlice s.opData 16 16) (BitVec.ofNat 8 m.val :: byteSlice s.opData 32 32)
    (if s.opType = 1 then 32 else 48) ∧ t.slotVal (src % 32) = s.slotVal (src % 32) ∧ t.get (SLOT1.USES_CNT (src %
    32)) = satAdd ((SLOT1.USES_CNT (src % 32)).w) (s.get (SLOT1.USES_CNT (src % 32))) 1 % 2 ^ ((SLOT1.USES_CNT (src %
    32)).w) ∧ t.out = s.out ∧ Frame (KEY_RES0.VALID :: SLOT1.USES_CNT (src % 32) :: slotFlds (k % 32)) s t) ∧
  -- R433: denied
  (∀ (s : State) (m : Fin 5) (tag src k : Nat), s.targetOk (k % 32) = true → s.keyTypeOk = true → s.useOk m (src %
    32) 4 = false → Answers (exec (.keyDerive m tag src k) s) fun t => t.get KEY_RES0.VALID = 0 ∧ t.sec.keyDone =
    s.sec.keyDone ++ [(tag, 14)] ∧ Raised EV.keyDenied s t ∧ t.sec.values = s.sec.values ∧ t.out = s.out ∧ Frame
    (KEY_RES0.VALID :: evFlds EV.keyDenied) s t) ∧
  -- Table 15.9: ECDH
  (∀ (s : State) (m : Fin 5) (tag src k : Nat), s.targetOk (k % 32) = true → s.takesKeys = true → s.useOk m (src %
    32) 4 = true → s.get (SLOT0.TYPE (src % 32)) = 3 → (src % 32) ≠ (k % 32) → Answers (exec (.keyEcdh m tag src k)
    s) fun t => t.get KEY_RES0.VALID = 0 ∧ t.sec.keyDone = s.sec.keyDone ++ [(tag, if (Config.ecdh (s.slotVal (src %
    32)) (byteSlice s.opData 64 97)).isSome then 0 else 13)] ∧ ((Config.ecdh (s.slotVal (src % 32)) (byteSlice
    s.opData 64 97)).isSome = true → t.get (SLOT0.VALID (k % 32)) = 1 ∧ t.get (SLOT0.ORIGIN (k % 32)) = 3 ∧ t.slotVal
    (k % 32) = (Config.ecdh (s.slotVal (src % 32)) (byteSlice s.opData 64 97)).getD []) ∧ ((Config.ecdh (s.slotVal
    (src % 32)) (byteSlice s.opData 64 97)).isSome = false → t.sec.values = s.sec.values) ∧ t.out = s.out ∧ Frame
    (KEY_RES0.VALID :: SLOT1.USES_CNT (src % 32) :: slotFlds (k % 32)) s t) ∧
  -- Table 15.9: UNWRAP
  (∀ (s : State) (m : Fin 5) (tag src k : Nat), s.targetOk (k % 32) = true → s.takesKeys = true → s.keyTypeOk = true
    → s.useOk m (src % 32) 1 = true → s.get (SLOT0.TYPE (src % 32)) = 1 → (src % 32) ≠ (k % 32) → Answers (exec
    (.keyUnwrap m tag src k) s) fun t => t.get KEY_RES0.VALID = 0 ∧ t.sec.keyDone = s.sec.keyDone ++ [(tag, if
    (Config.unwrap (s.slotVal (src % 32)) (byteSlice s.opData 64 192)).isSome then 0 else 13)] ∧ ((Config.unwrap
    (s.slotVal (src % 32)) (byteSlice s.opData 64 192)).isSome = true → t.get (SLOT0.VALID (k % 32)) = 1 ∧ t.get
    (SLOT0.ORIGIN (k % 32)) = 3 ∧ t.slotVal (k % 32) = (Config.unwrap (s.slotVal (src % 32)) (byteSlice s.opData 64
    192)).getD []) ∧ ((Config.unwrap (s.slotVal (src % 32)) (byteSlice s.opData 64 192)).isSome = false →
    t.sec.values = s.sec.values) ∧ t.out = s.out ∧ Frame (KEY_RES0.VALID :: SLOT1.USES_CNT (src % 32) :: slotFlds (k
    % 32)) s t) ∧
  -- Table 15.9: CLEAR
  (∀ (s : State) (m : Fin 5) (tag k : Nat), 9 ≤ (k % 32) → (m.val = 0 ∨ bit (s.get (SLOT0.MASTERS (k % 32))) m =
    true) → Answers (exec (.keyClear m tag k) s) fun t => t.get KEY_RES0.VALID = 0 ∧ t.sec.keyDone = s.sec.keyDone ++
    [(tag, 0)] ∧ t.get (SLOT0.VALID (k % 32)) = 0 ∧ t.slotVal (k % 32) = [] ∧ t.out = s.out ∧ Frame (KEY_RES0.VALID
    :: slotFlds (k % 32)) s t) ∧
  -- Table 15.9: PUBLIC
  (∀ (s : State) (m : Fin 5) (tag src : Nat), s.flag (SLOT0.VALID (src % 32)) = true → bit (s.get (SLOT0.MASTERS (src
    % 32))) m = true → bit (s.get (SLOT0.LCS (src % 32))) s.lc = true → s.get (SLOT0.TYPE (src % 32)) = 3 → Answers
    (exec (.keyPublic m tag src) s) fun t => t.get KEY_RES0.VALID = 0 ∧ t.sec.keyDone = s.sec.keyDone ++ [(tag, 0)] ∧
    Holds t KEY_PUB.DATA 32 (byteSlice (Config.p384Public (s.slotVal (src % 32))) 0 97) = true ∧ t.out = s.out ∧
    Frame (KEY_RES0.VALID :: (List.range 32).map KEY_PUB.DATA) s t) ∧
  -- R436
  (∀ (s : State) (tag st : Nat) (l : List (Nat × Nat)), s.sec.keyDone = (tag, st) :: l → Answers (exec
    (.keyOpComplete) s) fun t => t.sec.keyDone = l ∧ Result s t resKEY tag st ∧ t.get (KEY_RES.DATA 0) = 0 ∧ Raised
    EV.keyDone s t ∧ t.out = s.out ∧ Frame (KEY_RES.DATA 0 :: resFlds resKEY ++ evFlds EV.keyDone) s t) ∧
  -- R432
  (∀ (s : State) (k v : Nat), 9 ≤ (k % 32) → s.flag (SLOT0.VALID (k % 32)) = false → Answers (exec (.keySlotAttrWrite
    0 k v) s) fun t => t.get (SLOT0.MASTERS (k % 32)) = bits v 21 5 ∧ t.get (SLOT0.LCS (k % 32)) = bits v 15 5 ∧
    t.get (SLOT0.USES (k % 32)) = bits v 9 6 ∧ t.out = s.out ∧ Frame [SLOT0.MASTERS (k % 32), SLOT0.LCS (k % 32),
    SLOT0.USES (k % 32)] s t) ∧
  -- R432: another master
  (∀ (s : State) (m : Fin 5) (k v : Nat), m ≠ 0 → Answers (exec (.keySlotAttrWrite m k v) s) fun t => Raised
    EV.keyDenied s t ∧ t.sec = s.sec ∧ t.out = s.out ∧ Frame (evFlds EV.keyDenied) s t)

/-- The host's crypto operations under a slot key or none, and the completion of one (R433, R437, Table 15.10). -/
def Obligations.HostCrypto : Prop :=
  -- SHA-384
  (∀ (s : State) (tag : Nat), s.flag CRY_STAT.BUSY = false → Answers (exec (.crySha384 tag) s) fun t => t.get
    CRY_STAT.BUSY = 1 ∧ t.get CRY_RES0.VALID = 0 ∧ t.sec.cryDone = some ⟨tag, 0, Config.sha384 s.cryIn, []⟩ ∧
    t.sec.values = s.sec.values ∧ t.out = s.out ∧ Frame [CRY_STAT.BUSY, CRY_RES0.VALID] s t) ∧
  -- HMAC
  (∀ (s : State) (tag : Nat) (k : Fin 32), s.flag CRY_STAT.BUSY = false → s.useOk 2 k 2 = true → Answers (exec
    (.cryHmac tag k) s) fun t => t.get CRY_STAT.BUSY = 1 ∧ t.get CRY_RES0.VALID = 0 ∧ t.sec.cryDone = some ⟨tag, 0,
    Config.hmac384 (s.slotVal k) s.cryIn, []⟩ ∧ t.get (SLOT1.USES_CNT k) = satAdd ((SLOT1.USES_CNT k).w) (s.get
    (SLOT1.USES_CNT k)) 1 % 2 ^ ((SLOT1.USES_CNT k).w) ∧ t.sec.values = s.sec.values ∧ t.out = s.out ∧ Frame
    [CRY_STAT.BUSY, CRY_RES0.VALID, SLOT1.USES_CNT k] s t) ∧
  -- GCM encryption
  (∀ (s : State) (tag : Nat) (k : Fin 32), s.flag CRY_STAT.BUSY = false → s.useOk 2 k 0 = true → Answers (exec
    (.cryGcmEncrypt tag k) s) fun t => t.get CRY_STAT.BUSY = 1 ∧ t.get CRY_RES0.VALID = 0 ∧ t.sec.cryDone = some
    ⟨tag, 0, [], Config.cryEncrypt (s.slotVal k) s.cryIn⟩ ∧ t.get (SLOT1.USES_CNT k) = satAdd ((SLOT1.USES_CNT k).w)
    (s.get (SLOT1.USES_CNT k)) 1 % 2 ^ ((SLOT1.USES_CNT k).w) ∧ t.sec.values = s.sec.values ∧ t.out = s.out ∧ Frame
    [CRY_STAT.BUSY, CRY_RES0.VALID, SLOT1.USES_CNT k] s t) ∧
  -- GCM decryption
  (∀ (s : State) (tag : Nat) (k : Fin 32), s.flag CRY_STAT.BUSY = false → s.useOk 2 k 1 = true → Answers (exec
    (.cryGcmDecrypt tag k) s) fun t => t.get CRY_STAT.BUSY = 1 ∧ t.get CRY_RES0.VALID = 0 ∧ t.sec.cryDone = some
    ⟨tag, (if (Config.cryDecrypt (s.slotVal k) s.cryIn).isSome then 0 else 13), [], (Config.cryDecrypt (s.slotVal k)
    s.cryIn).getD []⟩ ∧ t.get (SLOT1.USES_CNT k) = satAdd ((SLOT1.USES_CNT k).w) (s.get (SLOT1.USES_CNT k)) 1 % 2 ^
    ((SLOT1.USES_CNT k).w) ∧ t.sec.values = s.sec.values ∧ t.out = s.out ∧ Frame [CRY_STAT.BUSY, CRY_RES0.VALID,
    SLOT1.USES_CNT k] s t) ∧
  -- an ECDSA signature
  (∀ (s : State) (tag : Nat) (k : Fin 32), s.flag CRY_STAT.BUSY = false → s.useOk 2 k 2 = true → Answers (exec
    (.cryEcdsaSign tag k) s) fun t => t.get CRY_STAT.BUSY = 1 ∧ t.get CRY_RES0.VALID = 0 ∧ t.sec.cryDone = some ⟨tag,
    0, [], byteSlice (Config.ecdsaSign (s.slotVal k) s.cryIn) 0 96⟩ ∧ t.get (SLOT1.USES_CNT k) = satAdd
    ((SLOT1.USES_CNT k).w) (s.get (SLOT1.USES_CNT k)) 1 % 2 ^ ((SLOT1.USES_CNT k).w) ∧ t.sec.values = s.sec.values ∧
    t.out = s.out ∧ Frame [CRY_STAT.BUSY, CRY_RES0.VALID, SLOT1.USES_CNT k] s t) ∧
  -- an ECDSA check
  (∀ (s : State) (tag : Nat), s.flag CRY_STAT.BUSY = false → Answers (exec (.cryEcdsaVerify tag) s) fun t => t.get
    CRY_STAT.BUSY = 1 ∧ t.get CRY_RES0.VALID = 0 ∧ t.sec.cryDone = some ⟨tag, (if Config.ecdsaVerify (s.cryIn.take
    97) (s.cryIn.drop 193) ((s.cryIn.drop 97).take 96) then 0 else 13), [], []⟩ ∧ t.sec.values = s.sec.values ∧ t.out
    = s.out ∧ Frame [CRY_STAT.BUSY, CRY_RES0.VALID] s t) ∧
  -- an ML-DSA check
  (∀ (s : State) (tag : Nat), s.flag CRY_STAT.BUSY = false → Answers (exec (.cryMldsaVerify tag) s) fun t => t.get
    CRY_STAT.BUSY = 1 ∧ t.get CRY_RES0.VALID = 0 ∧ t.sec.cryDone = some ⟨tag, (if Config.mldsaVerify (s.cryIn.take
    1952) (s.cryIn.drop 5261) ((s.cryIn.drop 1952).take 3309) then 0 else 13), [], []⟩ ∧ t.sec.values = s.sec.values
    ∧ t.out = s.out ∧ Frame [CRY_STAT.BUSY, CRY_RES0.VALID] s t) ∧
  -- random bytes
  (∀ (s : State) (tag : Nat), s.flag CRY_STAT.BUSY = false → Answers (exec (.cryRandom tag) s) fun t => t.get
    CRY_STAT.BUSY = 1 ∧ t.get CRY_RES0.VALID = 0 ∧ t.sec.cryDone = some ⟨tag, 0, s.random 60, []⟩ ∧ t.freeCtr =
    s.freeCtr + 60 ∧ t.sec.values = s.sec.values ∧ t.out = s.out ∧ Frame [CRY_STAT.BUSY, CRY_RES0.VALID] s t) ∧
  -- R433: denied
  (∀ (s : State) (tag : Nat) (k : Fin 32), s.flag CRY_STAT.BUSY = false → s.useOk 2 k 2 = false → Answers (exec
    (.cryHmac tag k) s) fun t => t.get CRY_STAT.BUSY = 1 ∧ t.sec.cryDone = some ⟨tag, 14, [], []⟩ ∧ Raised
    EV.keyDenied s t ∧ t.out = s.out ∧ Frame ([CRY_STAT.BUSY, CRY_RES0.VALID] ++ evFlds EV.keyDenied) s t) ∧
  -- R437
  (∀ (s : State) (c : CryRes), s.sec.cryDone = some c → c.status = 0 → c.out ≠ [] → Answers (exec (.cryComplete) s)
    fun t => t.sec.cryDone = none ∧ Result s t resCRY c.tag 0 ∧ Holds t CRY_RES.DATA 15 c.res = true ∧ Holds t
    CRY_OUT.DATA 1008 c.out = true ∧ t.get CRY_STAT.BUSY = 0 ∧ Raised EV.cryDone s t ∧ t.out = s.out ∧ Frame
    ([CRY_STAT.BUSY, CRY_STAT.WAITING] ++ resFlds resCRY ++ (List.range 15).map CRY_RES.DATA ++ (List.range 1008).map
    CRY_OUT.DATA ++ evFlds EV.cryDone) s t) ∧
  -- R437: an error
  (∀ (s : State) (c : CryRes), s.sec.cryDone = some c → c.status = 13 → c.out = [] → Answers (exec (.cryComplete) s)
    fun t => t.sec.cryDone = none ∧ Result s t resCRY c.tag 13 ∧ t.get CRY_STAT.BUSY = 0 ∧ Raised EV.cryErr s t ∧
    t.out = s.out ∧ Frame ([CRY_STAT.BUSY, CRY_STAT.WAITING] ++ resFlds resCRY ++ (List.range 15).map CRY_RES.DATA ++
    evFlds EV.cryErr) s t)

/-- Debug challenge, answer, password and close; the life cycle forward, VOID and signer revocation; KEY_INFO and
  QUOTE (R419, R420, R421, R424, R438, R439, R440, R441, R442, R443, Table 15.3, Table 15.13). -/
def Obligations.DebugAndLifeCycle : Prop :=
  -- R439: a challenge
  (∀ (s : State) (tag : Nat), Answers (exec (.debugChallenge tag) s) fun t => Result s t resKEY tag 0 ∧ t.sec.nonce =
    true ∧ Holds t KEY_DBG_NONCE.DATA 12 (s.random 32 ++ byteSlice s.hubIdent 0 16) = true ∧ t.freeCtr = s.freeCtr +
    32 ∧ Raised EV.keyDone s t ∧ t.out = s.out ∧ Frame (resFlds resKEY ++ [KEY_RES.DATA 0] ++ evFlds EV.keyDone ++
    (List.range 12).map KEY_DBG_NONCE.DATA) s t) ∧
  -- R440: the vendor's key
  (∀ (s : State) (tag : Nat), s.sec.nonce = true → byteAt (s.windowBytes KEY_DBG_ANSWER.DATA 64) 194 = 0 →
    s.programmed 0xA0 48 = true → s.programmed 0x130 48 = false → s.pathOk false (byteAt (s.windowBytes
    KEY_DBG_ANSWER.DATA 64) 193) = true → Answers (exec (.debugAnswer tag) s) fun t => Result s t resKEY tag (if
    (Config.sha384 (byteSlice (s.windowBytes KEY_DBG_ANSWER.DATA 64) 0 97) == s.fuseBytes 0xA0 48 &&
    Config.ecdsaVerify (byteSlice (s.windowBytes KEY_DBG_ANSWER.DATA 64) 0 97) (ascii "UH9640-DBG" ++ s.windowBytes
    KEY_DBG_NONCE.DATA 12 ++ [BitVec.ofNat 8 (byteAt (s.windowBytes KEY_DBG_ANSWER.DATA 64) 193), BitVec.ofNat 8
    (byteAt (s.windowBytes KEY_DBG_ANSWER.DATA 64) 194), BitVec.ofNat 8 s.lc]) (byteSlice (s.windowBytes
    KEY_DBG_ANSWER.DATA 64) 97 96)) then 0 else 14) ∧ t.sec.nonce = false ∧ Holds t KEY_DBG_NONCE.DATA 12 [] = true ∧
    ((Config.sha384 (byteSlice (s.windowBytes KEY_DBG_ANSWER.DATA 64) 0 97) == s.fuseBytes 0xA0 48 &&
    Config.ecdsaVerify (byteSlice (s.windowBytes KEY_DBG_ANSWER.DATA 64) 0 97) (ascii "UH9640-DBG" ++ s.windowBytes
    KEY_DBG_NONCE.DATA 12 ++ [BitVec.ofNat 8 (byteAt (s.windowBytes KEY_DBG_ANSWER.DATA 64) 193), BitVec.ofNat 8
    (byteAt (s.windowBytes KEY_DBG_ANSWER.DATA 64) 194), BitVec.ofNat 8 s.lc]) (byteSlice (s.windowBytes
    KEY_DBG_ANSWER.DATA 64) 97 96)) = true → t.get KEY_STAT.DBG_LEVEL = max (s.get KEY_STAT.DBG_LEVEL) (byteAt
    (s.windowBytes KEY_DBG_ANSWER.DATA 64) 193) ∧ t.sec.keyPath = true) ∧ ((Config.sha384 (byteSlice (s.windowBytes
    KEY_DBG_ANSWER.DATA 64) 0 97) == s.fuseBytes 0xA0 48 && Config.ecdsaVerify (byteSlice (s.windowBytes
    KEY_DBG_ANSWER.DATA 64) 0 97) (ascii "UH9640-DBG" ++ s.windowBytes KEY_DBG_NONCE.DATA 12 ++ [BitVec.ofNat 8
    (byteAt (s.windowBytes KEY_DBG_ANSWER.DATA 64) 193), BitVec.ofNat 8 (byteAt (s.windowBytes KEY_DBG_ANSWER.DATA
    64) 194), BitVec.ofNat 8 s.lc]) (byteSlice (s.windowBytes KEY_DBG_ANSWER.DATA 64) 97 96)) = false → t.get
    KEY_STAT.DBG_LEVEL = s.get KEY_STAT.DBG_LEVEL ∧ t.sec.keyPath = s.sec.keyPath) ∧ Raised EV.keyDone s t ∧ t.out =
    s.out ∧ SameBytes s t) ∧
  -- R439: no nonce
  (∀ (s : State) (tag : Nat), s.sec.nonce = false → Answers (exec (.debugAnswer tag) s) fun t => Result s t resKEY
    tag 14 ∧ t.get KEY_STAT.DBG_LEVEL = s.get KEY_STAT.DBG_LEVEL ∧ t.out = s.out ∧ Frame (resFlds resKEY ++
    [KEY_RES.DATA 0] ++ evFlds EV.keyDone ++ (List.range 12).map KEY_DBG_NONCE.DATA) s t) ∧
  -- R441
  (∀ (s : State) (tag : Nat), s.lc = 2 → bit s.protect 2 = true → s.passwordSet = true → s.flag KEY_STAT.PWD_LOCKED =
    false → s.sec.pwdUntil ≤ s.uptime → s.get KEY_STAT.PWD_FAILS < 7 → Answers (exec (.debugPassword tag) s) fun t =>
    Result s t resKEY tag (if (Config.sha384 (ascii "UH9640-PWD" ++ s.serial ++ byteSlice (s.windowBytes
    KEY_DBG_ANSWER.DATA 64) 0 32) = s.fuseBytes 0x160 48) then 0 else 14) ∧ (¬(Config.sha384 (ascii "UH9640-PWD" ++
    s.serial ++ byteSlice (s.windowBytes KEY_DBG_ANSWER.DATA 64) 0 32) = s.fuseBytes 0x160 48) → t.get
    KEY_STAT.PWD_FAILS = s.get KEY_STAT.PWD_FAILS + 1 ∧ t.sec.pwdUntil = s.uptime + 40000000 * 2 ^ s.get
    KEY_STAT.PWD_FAILS ∧ t.get KEY_STAT.DBG_LEVEL = s.get KEY_STAT.DBG_LEVEL) ∧ ((Config.sha384 (ascii "UH9640-PWD"
    ++ s.serial ++ byteSlice (s.windowBytes KEY_DBG_ANSWER.DATA 64) 0 32) = s.fuseBytes 0x160 48) → t.get
    KEY_STAT.DBG_LEVEL = max (s.get KEY_STAT.DBG_LEVEL) 1 ∧ t.sec.pwdUntil = s.sec.pwdUntil) ∧ Raised EV.keyDone s t
    ∧ t.out = s.out ∧ SameBytes s t) ∧
  -- R441: too early
  (∀ (s : State) (tag : Nat), s.uptime < s.sec.pwdUntil → Answers (exec (.debugPassword tag) s) fun t => Result s t
    resKEY tag 14 ∧ t.get KEY_STAT.PWD_FAILS = s.get KEY_STAT.PWD_FAILS ∧ t.out = s.out ∧ Frame (resFlds resKEY ++
    [KEY_RES.DATA 0] ++ evFlds EV.keyDone) s t) ∧
  -- R442
  (∀ (s : State) (tag : Nat), Answers (exec (.debugClose tag) s) fun t => Result s t resKEY tag 0 ∧ t.get
    KEY_STAT.DBG_LEVEL = 0 ∧ t.sec.keyPath = false ∧ t.out = s.out ∧ Frame (resFlds resKEY ++ [KEY_RES.DATA 0] ++
    evFlds EV.keyDone ++ [KEY_STAT.DBG_LEVEL]) s t) ∧
  -- R439
  (∀ (s : State), s.sec.nonce = true → Answers (exec (.nonceExpiry) s) fun t => t.sec.nonce = false ∧ Holds t
    KEY_DBG_NONCE.DATA 12 [] = true ∧ t.out = s.out ∧ Frame ((List.range 12).map KEY_DBG_NONCE.DATA) s t) ∧
  -- R440
  (∀ (s : State), Answers (exec (.returnAuthExpiry) s) fun t => t =
    { s with sec := { s.sec with returnAuth := false } }) ∧
  -- KEY_INFO
  (∀ (s : State) (c : MbxCmd), s.ctl.mbxQueue = [c] → c.cmd = 0x0300 → s.awlServes = true → c.result = none → c.begun
    = false → Answers (exec (.keyInfo .run) s) fun t => t.ctl.mbxQueue.map (fun (d : MbxCmd) => d.result) = [some (0,
    s.keyInfo)] ∧ t.out = s.out ∧ Frame [] s t) ∧
  -- QUOTE
  (∀ (s : State) (c : MbxCmd), s.ctl.mbxQueue = [c] → c.cmd = 0x0301 → s.awlServes = true → c.result = none → c.begun
    = false → s.flag (SLOT0.VALID 2) = true → Answers (exec (.quote .run) s) fun t => t.ctl.mbxQueue.map (fun (d :
    MbxCmd) => d.result) = [some (0, [])] ∧ Holds t KEY_QUOTE.DATA 64 (byteSlice (Config.p384Public s.identKey) 0 97
    ++ byteSlice (Config.ecdsaSign s.identKey (ascii "UH9640-QUOTE" ++ byteSlice c.req 0 32 ++ s.mReg ++
    [BitVec.ofNat 8 s.lc])) 0 96) = true ∧ t.out = s.out ∧ Frame (SLOT1.USES_CNT 2 :: (List.range 64).map
    KEY_QUOTE.DATA) s t) ∧
  -- LC_ADVANCE from BLANK
  (∀ (s : State) (c : MbxCmd) (veto : Bool), s.ctl.mbxQueue = [c] → c.cmd = 0x0310 → s.awlServes = true → c.result =
    none → c.begun = false → byteAt c.req 0 = 1 → s.nv.fuse = [] → s.vetoes veto = false → Answers (exec (.lcAdvance
    .run false veto) s) fun t => t.ctl.mbxQueue.map (fun (d : MbxCmd) => d.result) = [some (0, [0, 1])] ∧ t.lc = 1 ∧
    t.get FUSE_LC.STATE = 1 ∧ t.fuseBytes 0x30 12 = byteSlice (s.windowBytes KEY_PROV.DATA 52) 4 12 ∧ t.out = s.out ∧
    SameBytes s t) ∧
  -- LC_ADVANCE to a state that is not next
  (∀ (s : State) (c : MbxCmd) (veto fail : Bool), s.ctl.mbxQueue = [c] → c.cmd = 0x0310 → s.awlServes = true →
    c.result = none → c.begun = false → s.orderOk (byteAt c.req 0) = false → byteAt c.req 0 ≠ 3 → s.vetoes veto =
    false → Answers (exec (.lcAdvance .run fail veto) s) fun t => t.ctl.mbxQueue.map (fun (d : MbxCmd) => d.result) =
    [some (14, [1, BitVec.ofNat 8 s.lc])] ∧ t.nv = s.nv ∧ t.out = s.out ∧ Frame [] s t) ∧
  -- LC_VOID
  (∀ (s : State) (c : MbxCmd) (veto : Bool), s.ctl.mbxQueue = [c] → c.cmd = 0x0311 → s.awlServes = true → c.result =
    none → c.begun = false → s.keyPathOpen = true → s.lc = 1 → byteSlice c.req 0 4 = ascii "VOID" → s.vetoes veto =
    false → Answers (exec (.lcVoid .run false veto) s) fun t => t.ctl.mbxQueue.map (fun (d : MbxCmd) => d.result) =
    [some (0, [0])] ∧ t.lc = 5 ∧ t.get FUSE_LC.STATE = 5 ∧ t.get KEY_STAT.ROOT_OK = 0 ∧ t.get KEY_STAT.CLEARED = 1 ∧
    t.sec.root = none ∧ (List.range 32).all (fun k => t.get (SLOT0.VALID k) == 0) = true ∧ (List.range 32).all (fun k
    => t.slotVal k == []) = true ∧ t.out = s.out ∧ SameBytes s t) ∧
  -- SIGNER_REVOKE of the vendor slot that does not sign the running base
  (∀ (s : State) (c : MbxCmd) (veto : Bool), s.ctl.mbxQueue = [c] → c.cmd = 0x0312 → s.awlServes = true → c.result =
    none → c.begun = false → s.keyPathOpen = true → byteAt c.req 0 = 0 → byteAt c.req 1 = 1 → s.programmed 0x40 48 =
    true → s.revoked 0 = false → s.sec.runBase ≠ [] → hSigner s.sec.runBase = 0 → s.vetoes veto = false → Answers
    (exec (.signerRevoke .run false veto) s) fun t => t.ctl.mbxQueue.map (fun (d : MbxCmd) => d.result) = [some (0,
    [0])] ∧ t.revoked 1 = true ∧ t.get FUSE_LC.REVOKED / 2 % 2 = 1 ∧ t.out = s.out ∧ SameBytes s t)

/-- Image operations: heads checked, segments kept, aborts, FETCH answers; chunks written; the staged image read back
  (R446, R447, R448, R449, R450, R451, R461, Table 16.3, Table 16.4). -/
def Obligations.ImagesArrive : Prop :=
  -- R447: the same header again
  (∀ (s : State) (n : Port) (p : CtlPkt) (x : Sess), p.poison = false → s.ctl.pdReads = [] → s.waitFor (asImage p 0)
    = 0 → s.fw.sess = some x → x.header = (((byteSlice p.data 0 6176).drop 32).take 4096) → x.targets = ((byteSlice
    p.data 0 6176).take 32) → byteAt p.opdata 0 = s.get UPD_STAT.SESSION → s.flag (WLT_LINK_STAT.ADMITTED n) = true →
    Answers (exec (.imageHeadRx n p) s) fun t => t.fw = s.fw ∧ t.out = s.out ++ [.ctl n ((asImage p 0).answer s.hubId
    0 [])] ∧ Frame [] s t) ∧
  -- R448: a session runs
  (∀ (s : State) (n : Port) (p : CtlPkt) (x : Sess), p.poison = false → s.ctl.pdReads = [] → s.waitFor (asImage p 0)
    = 0 → s.fw.sess = some x → x.header ≠ (((byteSlice p.data 0 6176).drop 32).take 4096) → s.flag
    (WLT_LINK_STAT.ADMITTED n) = true → Answers (exec (.imageHeadRx n p) s) fun t => t.fw = s.fw ∧ t.get
    UPD_REFUSE.REASON = 11 ∧ Raised EV.updateRefused s t ∧ t.out = s.out ++ [.ctl n ((asImage p 0).answer s.hubId 14
    [])] ∧ Frame ([UPD_REFUSE.REASON, UPD_REFUSE.CHUNK] ++ evFlds EV.updateRefused) s t) ∧
  -- R446, R447, Table 16.3: the first one
  (∀ (s : State) (n : Port) (p : CtlPkt), p.poison = false → s.ctl.pdReads = [] → s.waitFor (asImage p 0) = 0 →
    s.fw.sess = none → s.flag (WLT_LINK_STAT.ADMITTED n) = true → Answers (exec (.imageHeadRx n p) s) fun t =>
    ((s.openReason ((byteSlice p.data 0 6176).take 32) (((byteSlice p.data 0 6176).drop 32).take 4096) ((byteSlice
    p.data 0 6176).drop 4128)) ≠ 0 → t.fw.sess = none ∧ t.get UPD_STAT.STATE = 5 ∧ t.get UPD_REFUSE.REASON =
    (s.openReason ((byteSlice p.data 0 6176).take 32) (((byteSlice p.data 0 6176).drop 32).take 4096) ((byteSlice
    p.data 0 6176).drop 4128)) % 2 ^ UPD_REFUSE.REASON.w ∧ t.out = s.out ++ [.ctl n ((asImage p 0).answer s.hubId 14
    [])] ∧ Raised EV.updateRefused s t) ∧ t.get UPD_STAT.SESSION = byteAt p.opdata 0 % 2 ^ UPD_STAT.SESSION.w ∧ t.get
    UPD_STAT.CHUNKS_TOTAL = hCount (((byteSlice p.data 0 6176).drop 32).take 4096) % 2 ^ UPD_STAT.CHUNKS_TOTAL.w ∧
    t.get UPD_STAT.TARGET = b2n (inMap ((byteSlice p.data 0 6176).take 32) s.hubId) ∧ SameBytes s t) ∧
  -- R449: a segment
  (∀ (s : State) (n : Port) (p : CtlPkt) (x : Sess), p.poison = false → s.ctl.pdReads = [] → s.waitFor (asImage p 1)
    = 0 → s.fw.sess = some x → s.facesUp n = true → byteAt p.opdata 0 = s.get UPD_STAT.SESSION → (segChunk p) <
    hCount x.header → x.taken ≤ (segChunk p) → p.bytes ≤ 8192 → x.parts.find? (8 * (segChunk p) + segPart p) = none →
    segLast p = false → x.waits = [] → x.src = [] → x.kids = [] → x.over = false → s.flag (WLT_LINK_STAT.ADMITTED n)
    = true → Answers (exec (.imageDataRx n p) s) fun t => (t.fw.sess.map fun y => y.parts) = some (x.parts.put (8 *
    (segChunk p) + segPart p) (byteSlice p.data 0 p.bytes)) ∧ (t.fw.sess.map fun y => y.taken) = some x.taken ∧ t.out
    = s.out ++ [.ctl n ((asImage p 1).answer s.hubId 0 [])] ∧ Frame [] s t) ∧
  -- R449: no session
  (∀ (s : State) (n : Port) (p : CtlPkt), p.poison = false → s.ctl.pdReads = [] → s.waitFor (asImage p 1) = 0 →
    s.fw.sess = none → s.facesUp n = true → byteSlice (byteSlice p.data 0 p.bytes) 0 4 ≠ ascii "PUFH" → s.flag
    (WLT_LINK_STAT.ADMITTED n) = true → Answers (exec (.imageDataRx n p) s) fun t => t.out = s.out ++ [.ctl n
    ((asImage p 1).answer s.hubId 14 [])] ∧ t.fw = s.fw ∧ Frame [] s t) ∧
  -- R450: ABORT
  (∀ (s : State) (n : Port) (p : CtlPkt) (x : Sess), p.poison = false → s.ctl.pdReads = [] → s.waitFor (asImage p 2)
    = 0 → s.fw.sess = some x → x.kids = [] → byteAt p.opdata 0 = s.get UPD_STAT.SESSION → s.flag
    (WLT_LINK_STAT.ADMITTED n) = true → Answers (exec (.imageAbortRx n p) s) fun t => t.fw.sess = none ∧ t.get
    UPD_STAT.STATE = 6 ∧ t.get UPD_REFUSE.REASON = 15 ∧ t.get UPD_REFUSE.SRC_HUB = p.src % 256 ∧ Raised
    EV.forwardFail s t ∧ t.out = s.out ++ [.ctl n ((asImage p 2).answer s.hubId 0 [])] ∧ Frame ([UPD_STAT.STATE,
    UPD_REFUSE.REASON, UPD_REFUSE.SRC_HUB] ++ evFlds EV.forwardFail) s t) ∧
  -- R461: a helper record
  (∀ (s : State) (n : Port) (p : CtlPkt) (r : List Byte), p.poison = false → s.ctl.pdReads = [] → s.waitFor (asImage
    p 3) = 0 → byteAt p.opdata 0 = 3 → segChunk p = 0 → byteAt p.opdata 4 = 0 → byteAt p.opdata 5 = 0 →
    p.opdata.length = 6 → s.nv.flash.foreign.find? (fun r => byteSlice r 8 8 == byteSlice p.data 0 8) = some r →
    s.flag (WLT_LINK_STAT.ADMITTED n) = true → Answers (exec (.imageFetchRx n p) s) fun t => t.out = s.out ++ [.ctl n
    { (asImage p 3).answer s.hubId 0 r with opdata := (asImage p 3).opdata.take 5 ++ [1], bytes := r.length }] ∧ t.fw
    = s.fw ∧ Frame [] s t) ∧
  -- R461: no such image
  (∀ (s : State) (n : Port) (p : CtlPkt), p.poison = false → s.ctl.pdReads = [] → s.waitFor (asImage p 3) = 0 →
    byteAt p.opdata 0 < 3 → (s.ownImage (byteAt p.opdata 0)).header = [] → byteAt p.opdata 5 = 0 → p.opdata.length =
    6 → s.flag (WLT_LINK_STAT.ADMITTED n) = true → Answers (exec (.imageFetchRx n p) s) fun t => t.out = s.out ++
    [.ctl n { (asImage p 3).answer s.hubId 13 [] with opdata := (asImage p 3).opdata.take 5 ++ [0], bytes := 0 }] ∧
    t.fw = s.fw ∧ Frame [] s t) ∧
  -- R450: 10 s
  (∀ (s : State), s.fw.sess.isSome = true → s.isRoot = false → Answers (exec (.sessionIdleTimeout) s) fun t =>
    t.fw.sess = none ∧ t.get UPD_STAT.STATE = 6 ∧ Raised EV.forwardFail s t ∧ t.out = s.out ∧ Frame (UPD_STAT.STATE
    :: evFlds EV.forwardFail) s t) ∧
  -- R451: a chunk is programmed
  (∀ (s : State) (x : Sess) (d : List Byte), s.fw.sess = some x → x.target = true → x.buffer.find? x.written = some d
    → x.kids = [] → x.waits = [] → x.src = [] → hKind x.header < 3 → s.bootedBank < 2 → x.staged = false → Answers
    (exec (.flashChunkWritten true) s) fun t => (t.slotOf s.otherBank (hKind x.header)).chunks = (s.slotOf
    s.otherBank (hKind x.header)).chunks.put x.written d ∧ (t.fw.sess.map fun y => y.written) = some (x.written + 1)
    ∧ t.out = s.out ∧ Frame [] s t) ∧
  -- R452: the flash fails
  (∀ (s : State) (x : Sess) (d : List Byte), s.fw.sess = some x → x.target = true → x.buffer.find? x.written = some d
    → x.kids = [] → Answers (exec (.flashChunkWritten false) s) fun t => t.fw.sess = none ∧ t.get UPD_STAT.STATE = 5
    ∧ t.get UPD_REFUSE.REASON = 12 ∧ t.get UPD_REFUSE.CHUNK = x.written % 2 ^ UPD_REFUSE.CHUNK.w ∧ Raised
    EV.updateRefused s t ∧ t.nv = s.nv ∧ t.out = s.out ∧ Frame ([UPD_STAT.STATE, UPD_REFUSE.REASON, UPD_REFUSE.CHUNK]
    ++ evFlds EV.updateRefused) s t) ∧
  -- R451 step 4
  (∀ (s : State) (x : Sess), s.fw.sess = some x → x.target = true → x.staged = false → x.written = hCount x.header →
    x.taken = hCount x.header → x.kids = [] → hKind x.header < 3 → s.bootedBank < 2 → Answers (exec (.imageStaged
    true) s) fun t => (s.readsBack x = true → t.get UPD_STAT.STATE = 4 ∧ t.fw.sess = none ∧ Raised EV.imageStaged s t
    ∧ (t.slotOf s.otherBank (hKind x.header)).header = x.header) ∧ (s.readsBack x = false → t.get UPD_STAT.STATE = 5
    ∧ t.get UPD_REFUSE.REASON = 12 ∧ t.fw.sess = none ∧ Raised EV.updateRefused s t) ∧ t.out = s.out ∧ SameBytes s t)

/-- The update commands: FW_LOAD, STATUS, ACTIVATE, ROLLBACK, COMMIT, ABORT, and an activation put into force (R445,
  R455, R456, R457, R458, R462, Table 16.7). -/
def Obligations.ActivationAndCommit : Prop :=
  -- FW_STATUS
  (∀ (s : State) (c : MbxCmd), s.ctl.mbxQueue = [c] → c.cmd = 0x0100 → s.awlServes = true → c.result = none → c.begun
    = false → Answers (exec (.fwStatus .run) s) fun t => t.ctl.mbxQueue.map (fun (d : MbxCmd) => d.result) = [some
    (0, s.fwStatus)] ∧ t.out = s.out ∧ Frame [] s t) ∧
  -- FW_LOAD while a session runs
  (∀ (s : State) (c : MbxCmd) (x : Sess) (dma : List Byte), s.ctl.mbxQueue = [c] → c.cmd = 0x0101 → s.awlServes =
    true → c.result = none → c.begun = false → s.isRoot = true → s.fw.sess = some x → Answers (exec (.fwLoad .run
    dma) s) fun t => t.ctl.mbxQueue.map (fun (d : MbxCmd) => d.result) = [some (14, [11])] ∧ t.fw = s.fw ∧ t.get
    UPD_REFUSE.REASON = 11 ∧ Raised EV.updateRefused s t ∧ t.out = s.out ∧ Frame ([UPD_REFUSE.REASON,
    UPD_REFUSE.CHUNK] ++ evFlds EV.updateRefused) s t) ∧
  -- FW_LOAD
  (∀ (s : State) (c : MbxCmd) (dma : List Byte), s.ctl.mbxQueue = [c] → c.cmd = 0x0101 → s.awlServes = true →
    c.result = none → c.begun = false → s.isRoot = true → s.fw.sess = none → (formatCheck (byteSlice (dma.take (leNat
    (byteSlice c.req 12 4))) 0 4096) ≠ 0 ∨ (6144 + hBodyLen (byteSlice (dma.take (leNat (byteSlice c.req 12 4))) 0
    4096) ≤ leNat (byteSlice c.req 12 4) ∧ leNat (byteSlice c.req 12 4) ≤ dma.length)) → Answers (exec (.fwLoad .run
    dma) s) fun t => t.ctl.mbxQueue.map (fun (d : MbxCmd) => d.result) = [some (if (s.openReason (byteSlice c.req 16
    32) (byteSlice (dma.take (leNat (byteSlice c.req 12 4))) 0 4096) (byteSlice (dma.take (leNat (byteSlice c.req 12
    4))) 4096 2048)) = 0 then 0 else 14, [BitVec.ofNat 8 (s.openReason (byteSlice c.req 16 32) (byteSlice (dma.take
    (leNat (byteSlice c.req 12 4))) 0 4096) (byteSlice (dma.take (leNat (byteSlice c.req 12 4))) 4096 2048))])] ∧
    ((s.openReason (byteSlice c.req 16 32) (byteSlice (dma.take (leNat (byteSlice c.req 12 4))) 0 4096) (byteSlice
    (dma.take (leNat (byteSlice c.req 12 4))) 4096 2048)) ≠ 0 → t.get UPD_STAT.STATE = 5 ∧ t.get UPD_REFUSE.REASON =
    (s.openReason (byteSlice c.req 16 32) (byteSlice (dma.take (leNat (byteSlice c.req 12 4))) 0 4096) (byteSlice
    (dma.take (leNat (byteSlice c.req 12 4))) 4096 2048)) % 2 ^ UPD_REFUSE.REASON.w ∧ t.fw.sess = none) ∧ t.get
    UPD_STAT.SESSION = byteAt c.req 0 % 2 ^ UPD_STAT.SESSION.w ∧ t.get UPD_STAT.CHUNKS_TOTAL = hCount (byteSlice
    (dma.take (leNat (byteSlice c.req 12 4))) 0 4096) % 2 ^ UPD_STAT.CHUNKS_TOTAL.w ∧ SameBytes s t) ∧
  -- FW_ACTIVATE
  (∀ (s : State) (c : MbxCmd) (veto : Bool), s.ctl.mbxQueue = [c] → c.cmd = 0x0102 → s.awlServes = true → c.result =
    none → c.begun = false → s.isRoot = false → s.flag (bankValid s.otherBank) = true → s.rollbackOk s.otherBank =
    true → s.vetoes veto = false → Answers (exec (.fwActivate .run veto) s) fun t => t.ctl.mbxQueue.map (fun (d :
    MbxCmd) => d.result) = [some (0, [0, 1])] ∧ t.get UPD_ACT.PENDING = 1 ∧ t.get UPD_ACT.AT = byteAt c.req 0 % 2 ∧
    t.get UPD_ACT_EPOCH.EPOCH = leNat (byteSlice c.req 4 4) ∧ t.out = s.out ∧ Frame [UPD_ACT.PENDING, UPD_ACT.AT,
    UPD_ACT_EPOCH.EPOCH] s t) ∧
  -- FW_ACTIVATE without a valid bank
  (∀ (s : State) (c : MbxCmd) (veto : Bool), s.ctl.mbxQueue = [c] → c.cmd = 0x0102 → s.awlServes = true → c.result =
    none → c.begun = false → s.isRoot = false → s.flag (bankValid s.otherBank) = false → s.vetoes veto = false →
    Answers (exec (.fwActivate .run veto) s) fun t => t.ctl.mbxQueue.map (fun (d : MbxCmd) => d.result) = [some (14,
    [16, 0])] ∧ t.out = s.out ∧ Frame [] s t) ∧
  -- FW_ROLLBACK
  (∀ (s : State) (c : MbxCmd), s.ctl.mbxQueue = [c] → c.cmd = 0x0103 → s.awlServes = true → c.result = none → c.begun
    = false → s.isRoot = false → s.flag (bankValid s.otherBank) = true → s.rollbackOk s.otherBank = true → Answers
    (exec (.fwRollback .run) s) fun t => t.ctl.mbxQueue.map (fun (d : MbxCmd) => d.result) = [some (0, [0, 1])] ∧
    t.get UPD_ACT.PENDING = 1 ∧ t.get UPD_ACT.AT = byteAt c.req 0 % 2 ∧ t.get UPD_ACT_EPOCH.EPOCH = leNat (byteSlice
    c.req 4 4) ∧ t.out = s.out ∧ Frame [UPD_ACT.PENDING, UPD_ACT.AT, UPD_ACT_EPOCH.EPOCH] s t) ∧
  -- FW_COMMIT from no committed value
  (∀ (s : State) (c : MbxCmd) (veto : Bool), s.ctl.mbxQueue = [c] → c.cmd = 0x0104 → s.awlServes = true → c.result =
    none → c.begun = false → s.vetoes veto = false → s.flag BOOT_STAT.FLASHLESS = false → s.nv.fuse = [] → (s.slotOf
    s.bootedBank 1).header = [] → Answers (exec (.fwCommit .run veto) s) fun t => t.rollBase = min (hRollback
    (s.slotOf s.bootedBank 0).header) 64 ∧ t.rollPolicy = 0 ∧ t.ctl.mbxQueue.map (fun (d : MbxCmd) => d.result) =
    [some (0, [0, BitVec.ofNat 8 (min (hRollback (s.slotOf s.bootedBank 0).header) 64), 0])] ∧ t.out = s.out ∧
    SameBytes s t) ∧
  -- FW_ABORT of a session
  (∀ (s : State) (c : MbxCmd) (x : Sess), s.ctl.mbxQueue = [c] → c.cmd = 0x0105 → s.awlServes = true → c.result =
    none → c.begun = false → s.fw.sess = some x → x.kids = [] → Answers (exec (.fwAbort .run) s) fun t =>
    t.ctl.mbxQueue.map (fun (d : MbxCmd) => d.result) = [some (0, [0])] ∧ t.fw.sess = none ∧ t.get UPD_STAT.STATE = 6
    ∧ t.get UPD_REFUSE.REASON = 15 ∧ Raised EV.updateRefused s t ∧ t.out = s.out ∧ Frame ([UPD_STAT.STATE,
    UPD_REFUSE.REASON, UPD_REFUSE.CHUNK] ++ evFlds EV.updateRefused) s t) ∧
  -- FW_ABORT of a staged activation
  (∀ (s : State) (c : MbxCmd), s.ctl.mbxQueue = [c] → c.cmd = 0x0105 → s.awlServes = true → c.result = none → c.begun
    = false → s.fw.sess = none → s.actCancels = true → Answers (exec (.fwAbort .run) s) fun t => t.ctl.mbxQueue.map
    (fun (d : MbxCmd) => d.result) = [some (0, [0])] ∧ t.get UPD_ACT.PENDING = 0 ∧ t.out = s.out ∧ Frame
    [UPD_ACT.PENDING] s t) ∧
  -- R455, R456
  (∀ (s : State), s.flag UPD_ACT.PENDING = true → s.flag UPD_ACT.AT = false → s.ctl.mbxQueue = [] → s.bootedBank < 2
    → (s.slotOf s.otherBank 2).header = [] → s.isRoot = true → s.baseGood s.bootedBank = false → Answers (exec
    (.activationApply) s) fun t => (s.fullSet s.otherBank = true → t.get BOOT_STAT.BOOTED_BANK = s.otherBank ∧ t.get
    UPD_ACT.FAILED = 0 ∧ Raised EV.activated s t) ∧ (s.fullSet s.otherBank = false → t.get UPD_ACT.FAILED = 1 ∧
    t.sec.halted = true ∧ Raised EV.bankFail s t ∧ Raised EV.rolledBack s t) ∧ t.get UPD_ACT.PENDING = 0 ∧ Raised
    EV.awlRestart s t ∧ t.out = s.out ∧ SameBytes s t)

/-- Snapshots copy every counter at one tick; AT and GO; deferral, clearing, and the dump ring (R463, R466, R470,
  R471, R472, R474, R475, Table 17.5). -/
def Obligations.SnapshotsAndCounters : Prop :=
  -- R470: periodic
  (∀ (s : State), s.collects = true → s.cnt.record = none → s.cnt.selPend = [] → s.flag CNT_CTRL.DUMP = false →
    s.periodDue = true → s.lastSnap = none → s.cnt.go = none → s.cnt.armed = none → Answers (exec (.snapshotPeriodic)
    s) fun t => (List.range 192).all (fun i => t.get (CNT_VAL_LO.COUNT (i / 8) (i % 8)) == s.counter i % 2 ^ 32 &&
    t.get (CNT_VAL_HI.COUNT (i / 8) (i % 8)) == s.counter i / 2 ^ 32 % 2 ^ 16) = true ∧ t.get CNT_SNAP_SEQ.SEQ =
    (s.get CNT_SNAP_SEQ.SEQ + 1) % 2 ^ 32 ∧ t.get64 CNT_SNAP_TIME_LO.TIME CNT_SNAP_TIME_HI.TIME = s.now % 2 ^ 64 ∧
    t.cnt.raw = s.cnt.raw ∧ t.out = s.out ∧ RegsBut ([CNT_SNAP_SEQ.SEQ, CNT_SNAP_TIME_LO.TIME, CNT_SNAP_TIME_HI.TIME,
    CNT_STAT.AT_PENDING] ++ (List.range 24).map CNT_PEND.SLOTS ++ (List.range 192).flatMap fun i => [CNT_VAL_LO.COUNT
    (i / 8) (i % 8), CNT_VAL_HI.COUNT (i / 8) (i % 8)]) s t ∧ SameBytes s t) ∧
  -- R470: AT
  (∀ (s : State) (g : Nat), s.collects = true → s.cnt.record = none → s.cnt.selPend = [] → s.flag CNT_CTRL.DUMP =
    false → s.cnt.armed = some (s.now, g) → s.frozen = false → s.lastSnap = none → Answers (exec (.snapshotAtDue) s)
    fun t => (List.range 192).all (fun i => t.get (CNT_VAL_LO.COUNT (i / 8) (i % 8)) == s.counter i % 2 ^ 32 && t.get
    (CNT_VAL_HI.COUNT (i / 8) (i % 8)) == s.counter i / 2 ^ 32 % 2 ^ 16) = true ∧ t.get CNT_SNAP_SEQ.SEQ = (s.get
    CNT_SNAP_SEQ.SEQ + 1) % 2 ^ 32 ∧ t.get64 CNT_SNAP_TIME_LO.TIME CNT_SNAP_TIME_HI.TIME = s.now % 2 ^ 64 ∧ t.cnt.raw
    = s.cnt.raw ∧ t.out = s.out ∧ t.cnt.armed = none ∧ t.get CNT_STAT.AT_PENDING = 0 ∧ RegsBut ([CNT_SNAP_SEQ.SEQ,
    CNT_SNAP_TIME_LO.TIME, CNT_SNAP_TIME_HI.TIME, CNT_STAT.AT_PENDING] ++ (List.range 24).map CNT_PEND.SLOTS ++
    (List.range 192).flatMap fun i => [CNT_VAL_LO.COUNT (i / 8) (i % 8), CNT_VAL_HI.COUNT (i / 8) (i % 8)]) s t ∧
    SameBytes s t) ∧
  -- R474, Table 17.5: the record of a command
  (∀ (s : State) (g : Nat), s.collects = true → s.cnt.record = none → s.cnt.selPend = [] → s.flag CNT_CTRL.DUMP =
    true → s.cnt.go = none → s.cnt.armed = some (s.now, g) → s.frozen = false → s.lastSnap = none → s.flag
    CNT_CTRL.PERIODIC = false → Answers (exec (.snapshotAtDue) s) fun t => (t.cnt.record.map fun r => (r.length,
    r.take 5, byteSlice r 6 2)) = some (1536, ascii "CNTD" ++ [1], [BitVec.ofNat 8 (2 + 8 * b2n s.cnt.gap + 16 *
    s.get CTM_STAT.FREE + 32 * b2n s.cnt.cleared), BitVec.ofNat 8 g]) ∧ t.get CNT_STAT.WRITING = 1 ∧ t.get
    CNT_SNAP_SEQ.SEQ = (s.get CNT_SNAP_SEQ.SEQ + 1) % 2 ^ 32 ∧ t.out = s.out) ∧
  -- R470: CNT_SNAP AT
  (∀ (s : State) (g : Nat), Answers (exec (.snapshotAtCommand g) s) fun t => t.cnt.armed = some (s.get64
    CNT_SNAP_T_LO.T CNT_SNAP_T_HI.T, g % 256) ∧ t.get CNT_STAT.AT_PENDING = 1 ∧ t.out = s.out ∧ Frame
    [CNT_STAT.AT_PENDING] s t) ∧
  -- R471: put off
  (∀ (s : State) (c g : Nat), s.collects = true → s.cnt.record = none → s.cnt.selPend = [] → s.flag CNT_CTRL.DUMP =
    false → s.cnt.deferred = some (c, g) → s.tooSoon = false → Answers (exec (.snapshotDeferred) s) fun t =>
    (List.range 192).all (fun i => t.get (CNT_VAL_LO.COUNT (i / 8) (i % 8)) == s.counter i % 2 ^ 32 && t.get
    (CNT_VAL_HI.COUNT (i / 8) (i % 8)) == s.counter i / 2 ^ 32 % 2 ^ 16) = true ∧ t.get CNT_SNAP_SEQ.SEQ = (s.get
    CNT_SNAP_SEQ.SEQ + 1) % 2 ^ 32 ∧ t.get64 CNT_SNAP_TIME_LO.TIME CNT_SNAP_TIME_HI.TIME = s.now % 2 ^ 64 ∧ t.cnt.raw
    = s.cnt.raw ∧ t.out = s.out ∧ t.cnt.deferred = none ∧ RegsBut ([CNT_SNAP_SEQ.SEQ, CNT_SNAP_TIME_LO.TIME,
    CNT_SNAP_TIME_HI.TIME, CNT_STAT.AT_PENDING] ++ (List.range 24).map CNT_PEND.SLOTS ++ (List.range 192).flatMap fun
    i => [CNT_VAL_LO.COUNT (i / 8) (i % 8), CNT_VAL_HI.COUNT (i / 8) (i % 8)]) s t ∧ SameBytes s t) ∧
  -- R470: GO, while chain time stands
  (∀ (s : State) (g : Nat), s.collects = true → s.cnt.record = none → s.cnt.selPend = [] → s.flag CNT_CTRL.DUMP =
    false → s.cnt.gap = false → s.lastSnap = none → s.cnt.armed = none → s.cnt.sel = [] → s.cnt.clearing = false →
    s.frozen = true → Answers (exec (.snapshotGo g) s) fun t => (List.range 192).all (fun i => t.get
    (CNT_VAL_LO.COUNT (i / 8) (i % 8)) ==
    (((({ s with cnt := { s.cnt with go := some (g % 256) }, uptime := s.uptime + 1 } :
    State).countTick).occTick).cycleTick).counter i % 2 ^ 32 && t.get (CNT_VAL_HI.COUNT (i / 8) (i % 8)) ==
    (((({ s with cnt := { s.cnt with go := some (g % 256) }, uptime := s.uptime + 1 } :
    State).countTick).occTick).cycleTick).counter i / 2 ^ 32 % 2 ^ 16) = true ∧ t.get CNT_SNAP_SEQ.SEQ = (s.get
    CNT_SNAP_SEQ.SEQ + 1) % 2 ^ 32 ∧ t.get64 CNT_SNAP_TIME_LO.TIME CNT_SNAP_TIME_HI.TIME = s.now % 2 ^ 64 ∧ t.cnt.go
    = none ∧ t.uptime = s.uptime + 1 ∧ t.out = s.out ∧ RegsBut ([CNT_SNAP_SEQ.SEQ, CNT_SNAP_TIME_LO.TIME,
    CNT_SNAP_TIME_HI.TIME, CNT_STAT.AT_PENDING] ++ (List.range 24).map CNT_PEND.SLOTS ++ (List.range 192).flatMap fun
    i => [CNT_VAL_LO.COUNT (i / 8) (i % 8), CNT_VAL_HI.COUNT (i / 8) (i % 8)]) s t ∧ SameBytes s t) ∧
  -- R472
  (∀ (s : State), s.collects = true → s.cnt.gap = false → s.cnt.go = none → s.frozen = true → Answers (exec
    (.counterClear) s) fun t => (List.range 192).all (fun i => t.counter i == 0) = true ∧ t.cnt.cleared = true ∧
    t.cnt.clearing = false ∧ t.uptime = s.uptime + 1 ∧ t.out = s.out ∧ Frame [] s t) ∧
  -- R475: into host memory
  (∀ (s : State) (r : List Byte), s.cnt.record = some r → s.cnt.ringRestart = false → s.hostRing = true → (s.get
    CNT_RING_HEAD.HEAD + 1) % s.ringSize ≠ s.get CNT_RING_TAIL.TAIL → Answers (exec (.dumpRecordWritten false) s) fun
    t => t.out = s.out ++ [.dma (64 * s.get CNT_RING_BASE_LO.ADDR + 2 ^ 32 * s.get CNT_RING_BASE_HI.ADDR + 1536 *
    s.get CNT_RING_HEAD.HEAD) r] ∧ t.get CNT_RING_HEAD.HEAD = (s.get CNT_RING_HEAD.HEAD + 1) % s.ringSize % 2 ^
    CNT_RING_HEAD.HEAD.w ∧ t.cnt.record = none ∧ t.get CNT_STAT.WRITING = 0 ∧ Raised EV.counterDump s t ∧ Frame
    ([CNT_RING_HEAD.HEAD, CNT_STAT.WRITING] ++ evFlds EV.counterDump) s t) ∧
  -- R475: a full ring
  (∀ (s : State) (dmaErr : Bool) (r : List Byte), s.cnt.record = some r → s.cnt.ringRestart = false → (s.get
    CNT_RING_HEAD.HEAD + 1) % s.ringSize = s.get CNT_RING_TAIL.TAIL → Answers (exec (.dumpRecordWritten dmaErr) s)
    fun t => t.get CNT_RING_LOST.LOST = satAdd (CNT_RING_LOST.LOST.w) (s.get CNT_RING_LOST.LOST) 1 % 2 ^
    (CNT_RING_LOST.LOST.w) ∧ t.cnt.record = none ∧ t.get CNT_STAT.WRITING = 0 ∧ Raised EV.ringOverrun s t ∧ t.out =
    s.out ∧ Frame ([CNT_RING_LOST.LOST, CNT_STAT.WRITING] ++ evFlds EV.ringOverrun) s t)

end Statements
end

