-- ==== Sys2Proof/Laws/State.lean ====
section
/-!
SUPPORT. Sys2Proof/Laws/State.lean: what each single update leaves, one lemma per field of State and update, all by rfl.
-/
namespace Sys2Proof.Machine

variable (s : State)

@[simp] theorem State.set_mem (f : Fld) (v : Nat) : (s.set f v).mem = s.mem := rfl
@[simp] theorem State.set_pending (f : Fld) (v : Nat) : (s.set f v).pending = s.pending := rfl
@[simp] theorem State.set_hubIdent (f : Fld) (v : Nat) : (s.set f v).hubIdent = s.hubIdent := rfl
@[simp] theorem State.set_identKey (f : Fld) (v : Nat) : (s.set f v).identKey = s.identKey := rfl
@[simp] theorem State.set_out (f : Fld) (v : Nat) : (s.set f v).out = s.out := rfl
@[simp] theorem State.set_freeCtr (f : Fld) (v : Nat) : (s.set f v).freeCtr = s.freeCtr := rfl
@[simp] theorem State.set_chain (f : Fld) (v : Nat) : (s.set f v).chain = s.chain := rfl
@[simp] theorem State.set_clk (f : Fld) (v : Nat) : (s.set f v).clk = s.clk := rfl
@[simp] theorem State.set_time (f : Fld) (v : Nat) : (s.set f v).time = s.time := rfl
@[simp] theorem State.set_lanes (f : Fld) (v : Nat) : (s.set f v).lanes = s.lanes := rfl
@[simp] theorem State.set_links (f : Fld) (v : Nat) : (s.set f v).links = s.links := rfl
@[simp] theorem State.set_flows (f : Fld) (v : Nat) : (s.set f v).flows = s.flows := rfl
@[simp] theorem State.set_wheel (f : Fld) (v : Nat) : (s.set f v).wheel = s.wheel := rfl
@[simp] theorem State.set_integ (f : Fld) (v : Nat) : (s.set f v).integ = s.integ := rfl
@[simp] theorem State.set_ctl (f : Fld) (v : Nat) : (s.set f v).ctl = s.ctl := rfl
@[simp] theorem State.set_cnt (f : Fld) (v : Nat) : (s.set f v).cnt = s.cnt := rfl
@[simp] theorem State.set_host (f : Fld) (v : Nat) : (s.set f v).host = s.host := rfl
@[simp] theorem State.set_disp (f : Fld) (v : Nat) : (s.set f v).disp = s.disp := rfl
@[simp] theorem State.set_bridge (f : Fld) (v : Nat) : (s.set f v).bridge = s.bridge := rfl
@[simp] theorem State.set_ctp (f : Fld) (v : Nat) : (s.set f v).ctp = s.ctp := rfl
@[simp] theorem State.set_eye (f : Fld) (v : Nat) : (s.set f v).eye = s.eye := rfl
@[simp] theorem State.set_nv (f : Fld) (v : Nat) : (s.set f v).nv = s.nv := rfl
@[simp] theorem State.set_sec (f : Fld) (v : Nat) : (s.set f v).sec = s.sec := rfl
@[simp] theorem State.set_fw (f : Fld) (v : Nat) : (s.set f v).fw = s.fw := rfl
@[simp] theorem State.set_uptime (f : Fld) (v : Nat) : (s.set f v).uptime = s.uptime := rfl
@[simp] theorem State.set_chip (f : Fld) (v : Nat) : (s.set f v).chip = s.chip := rfl

@[simp] theorem State.setByte_regs (a : Nat) (b : Byte) : (s.setByte a b).regs = s.regs := rfl
@[simp] theorem State.setByte_pending (a : Nat) (b : Byte) : (s.setByte a b).pending = s.pending := rfl
@[simp] theorem State.setByte_hubIdent (a : Nat) (b : Byte) : (s.setByte a b).hubIdent = s.hubIdent := rfl
@[simp] theorem State.setByte_identKey (a : Nat) (b : Byte) : (s.setByte a b).identKey = s.identKey := rfl
@[simp] theorem State.setByte_out (a : Nat) (b : Byte) : (s.setByte a b).out = s.out := rfl
@[simp] theorem State.setByte_freeCtr (a : Nat) (b : Byte) : (s.setByte a b).freeCtr = s.freeCtr := rfl
@[simp] theorem State.setByte_chain (a : Nat) (b : Byte) : (s.setByte a b).chain = s.chain := rfl
@[simp] theorem State.setByte_clk (a : Nat) (b : Byte) : (s.setByte a b).clk = s.clk := rfl
@[simp] theorem State.setByte_time (a : Nat) (b : Byte) : (s.setByte a b).time = s.time := rfl
@[simp] theorem State.setByte_lanes (a : Nat) (b : Byte) : (s.setByte a b).lanes = s.lanes := rfl
@[simp] theorem State.setByte_links (a : Nat) (b : Byte) : (s.setByte a b).links = s.links := rfl
@[simp] theorem State.setByte_flows (a : Nat) (b : Byte) : (s.setByte a b).flows = s.flows := rfl
@[simp] theorem State.setByte_wheel (a : Nat) (b : Byte) : (s.setByte a b).wheel = s.wheel := rfl
@[simp] theorem State.setByte_integ (a : Nat) (b : Byte) : (s.setByte a b).integ = s.integ := rfl
@[simp] theorem State.setByte_ctl (a : Nat) (b : Byte) : (s.setByte a b).ctl = s.ctl := rfl
@[simp] theorem State.setByte_cnt (a : Nat) (b : Byte) : (s.setByte a b).cnt = s.cnt := rfl
@[simp] theorem State.setByte_host (a : Nat) (b : Byte) : (s.setByte a b).host = s.host := rfl
@[simp] theorem State.setByte_disp (a : Nat) (b : Byte) : (s.setByte a b).disp = s.disp := rfl
@[simp] theorem State.setByte_bridge (a : Nat) (b : Byte) : (s.setByte a b).bridge = s.bridge := rfl
@[simp] theorem State.setByte_ctp (a : Nat) (b : Byte) : (s.setByte a b).ctp = s.ctp := rfl
@[simp] theorem State.setByte_eye (a : Nat) (b : Byte) : (s.setByte a b).eye = s.eye := rfl
@[simp] theorem State.setByte_nv (a : Nat) (b : Byte) : (s.setByte a b).nv = s.nv := rfl
@[simp] theorem State.setByte_sec (a : Nat) (b : Byte) : (s.setByte a b).sec = s.sec := rfl
@[simp] theorem State.setByte_fw (a : Nat) (b : Byte) : (s.setByte a b).fw = s.fw := rfl
@[simp] theorem State.setByte_uptime (a : Nat) (b : Byte) : (s.setByte a b).uptime = s.uptime := rfl
@[simp] theorem State.setByte_chip (a : Nat) (b : Byte) : (s.setByte a b).chip = s.chip := rfl

@[simp] theorem State.emit_regs (e : Emit) : (s.emit e).regs = s.regs := rfl
@[simp] theorem State.emit_mem (e : Emit) : (s.emit e).mem = s.mem := rfl
@[simp] theorem State.emit_pending (e : Emit) : (s.emit e).pending = s.pending := rfl
@[simp] theorem State.emit_hubIdent (e : Emit) : (s.emit e).hubIdent = s.hubIdent := rfl
@[simp] theorem State.emit_identKey (e : Emit) : (s.emit e).identKey = s.identKey := rfl
@[simp] theorem State.emit_freeCtr (e : Emit) : (s.emit e).freeCtr = s.freeCtr := rfl
@[simp] theorem State.emit_chain (e : Emit) : (s.emit e).chain = s.chain := rfl
@[simp] theorem State.emit_clk (e : Emit) : (s.emit e).clk = s.clk := rfl
@[simp] theorem State.emit_time (e : Emit) : (s.emit e).time = s.time := rfl
@[simp] theorem State.emit_lanes (e : Emit) : (s.emit e).lanes = s.lanes := rfl
@[simp] theorem State.emit_links (e : Emit) : (s.emit e).links = s.links := rfl
@[simp] theorem State.emit_flows (e : Emit) : (s.emit e).flows = s.flows := rfl
@[simp] theorem State.emit_wheel (e : Emit) : (s.emit e).wheel = s.wheel := rfl
@[simp] theorem State.emit_integ (e : Emit) : (s.emit e).integ = s.integ := rfl
@[simp] theorem State.emit_ctl (e : Emit) : (s.emit e).ctl = s.ctl := rfl
@[simp] theorem State.emit_cnt (e : Emit) : (s.emit e).cnt = s.cnt := rfl
@[simp] theorem State.emit_host (e : Emit) : (s.emit e).host = s.host := rfl
@[simp] theorem State.emit_disp (e : Emit) : (s.emit e).disp = s.disp := rfl
@[simp] theorem State.emit_bridge (e : Emit) : (s.emit e).bridge = s.bridge := rfl
@[simp] theorem State.emit_ctp (e : Emit) : (s.emit e).ctp = s.ctp := rfl
@[simp] theorem State.emit_eye (e : Emit) : (s.emit e).eye = s.eye := rfl
@[simp] theorem State.emit_nv (e : Emit) : (s.emit e).nv = s.nv := rfl
@[simp] theorem State.emit_sec (e : Emit) : (s.emit e).sec = s.sec := rfl
@[simp] theorem State.emit_fw (e : Emit) : (s.emit e).fw = s.fw := rfl
@[simp] theorem State.emit_uptime (e : Emit) : (s.emit e).uptime = s.uptime := rfl
@[simp] theorem State.emit_chip (e : Emit) : (s.emit e).chip = s.chip := rfl

@[simp] theorem State.emits_regs (es : List Emit) : (s.emits es).regs = s.regs := rfl
@[simp] theorem State.emits_mem (es : List Emit) : (s.emits es).mem = s.mem := rfl
@[simp] theorem State.emits_pending (es : List Emit) : (s.emits es).pending = s.pending := rfl
@[simp] theorem State.emits_hubIdent (es : List Emit) : (s.emits es).hubIdent = s.hubIdent := rfl
@[simp] theorem State.emits_identKey (es : List Emit) : (s.emits es).identKey = s.identKey := rfl
@[simp] theorem State.emits_freeCtr (es : List Emit) : (s.emits es).freeCtr = s.freeCtr := rfl
@[simp] theorem State.emits_chain (es : List Emit) : (s.emits es).chain = s.chain := rfl
@[simp] theorem State.emits_clk (es : List Emit) : (s.emits es).clk = s.clk := rfl
@[simp] theorem State.emits_time (es : List Emit) : (s.emits es).time = s.time := rfl
@[simp] theorem State.emits_lanes (es : List Emit) : (s.emits es).lanes = s.lanes := rfl
@[simp] theorem State.emits_links (es : List Emit) : (s.emits es).links = s.links := rfl
@[simp] theorem State.emits_flows (es : List Emit) : (s.emits es).flows = s.flows := rfl
@[simp] theorem State.emits_wheel (es : List Emit) : (s.emits es).wheel = s.wheel := rfl
@[simp] theorem State.emits_integ (es : List Emit) : (s.emits es).integ = s.integ := rfl
@[simp] theorem State.emits_ctl (es : List Emit) : (s.emits es).ctl = s.ctl := rfl
@[simp] theorem State.emits_cnt (es : List Emit) : (s.emits es).cnt = s.cnt := rfl
@[simp] theorem State.emits_host (es : List Emit) : (s.emits es).host = s.host := rfl
@[simp] theorem State.emits_disp (es : List Emit) : (s.emits es).disp = s.disp := rfl
@[simp] theorem State.emits_bridge (es : List Emit) : (s.emits es).bridge = s.bridge := rfl
@[simp] theorem State.emits_ctp (es : List Emit) : (s.emits es).ctp = s.ctp := rfl
@[simp] theorem State.emits_eye (es : List Emit) : (s.emits es).eye = s.eye := rfl
@[simp] theorem State.emits_nv (es : List Emit) : (s.emits es).nv = s.nv := rfl
@[simp] theorem State.emits_sec (es : List Emit) : (s.emits es).sec = s.sec := rfl
@[simp] theorem State.emits_fw (es : List Emit) : (s.emits es).fw = s.fw := rfl
@[simp] theorem State.emits_uptime (es : List Emit) : (s.emits es).uptime = s.uptime := rfl
@[simp] theorem State.emits_chip (es : List Emit) : (s.emits es).chip = s.chip := rfl

@[simp] theorem State.useFree_regs : (s.useFree).regs = s.regs := rfl
@[simp] theorem State.useFree_mem : (s.useFree).mem = s.mem := rfl
@[simp] theorem State.useFree_pending : (s.useFree).pending = s.pending := rfl
@[simp] theorem State.useFree_hubIdent : (s.useFree).hubIdent = s.hubIdent := rfl
@[simp] theorem State.useFree_identKey : (s.useFree).identKey = s.identKey := rfl
@[simp] theorem State.useFree_out : (s.useFree).out = s.out := rfl
@[simp] theorem State.useFree_chain : (s.useFree).chain = s.chain := rfl
@[simp] theorem State.useFree_clk : (s.useFree).clk = s.clk := rfl
@[simp] theorem State.useFree_time : (s.useFree).time = s.time := rfl
@[simp] theorem State.useFree_lanes : (s.useFree).lanes = s.lanes := rfl
@[simp] theorem State.useFree_links : (s.useFree).links = s.links := rfl
@[simp] theorem State.useFree_flows : (s.useFree).flows = s.flows := rfl
@[simp] theorem State.useFree_wheel : (s.useFree).wheel = s.wheel := rfl
@[simp] theorem State.useFree_integ : (s.useFree).integ = s.integ := rfl
@[simp] theorem State.useFree_ctl : (s.useFree).ctl = s.ctl := rfl
@[simp] theorem State.useFree_cnt : (s.useFree).cnt = s.cnt := rfl
@[simp] theorem State.useFree_host : (s.useFree).host = s.host := rfl
@[simp] theorem State.useFree_disp : (s.useFree).disp = s.disp := rfl
@[simp] theorem State.useFree_bridge : (s.useFree).bridge = s.bridge := rfl
@[simp] theorem State.useFree_ctp : (s.useFree).ctp = s.ctp := rfl
@[simp] theorem State.useFree_eye : (s.useFree).eye = s.eye := rfl
@[simp] theorem State.useFree_nv : (s.useFree).nv = s.nv := rfl
@[simp] theorem State.useFree_sec : (s.useFree).sec = s.sec := rfl
@[simp] theorem State.useFree_fw : (s.useFree).fw = s.fw := rfl
@[simp] theorem State.useFree_uptime : (s.useFree).uptime = s.uptime := rfl
@[simp] theorem State.useFree_chip : (s.useFree).chip = s.chip := rfl

@[simp] theorem State.modLane_regs (n : Port) (f : LanePort → LanePort) : (s.modLane n f).regs = s.regs := rfl
@[simp] theorem State.modLane_mem (n : Port) (f : LanePort → LanePort) : (s.modLane n f).mem = s.mem := rfl
@[simp] theorem State.modLane_pending (n : Port) (f : LanePort → LanePort) : (s.modLane n f).pending = s.pending := rfl
@[simp] theorem State.modLane_hubIdent (n : Port) (f : LanePort → LanePort) : (s.modLane n f).hubIdent = s.hubIdent := rfl
@[simp] theorem State.modLane_identKey (n : Port) (f : LanePort → LanePort) : (s.modLane n f).identKey = s.identKey := rfl
@[simp] theorem State.modLane_out (n : Port) (f : LanePort → LanePort) : (s.modLane n f).out = s.out := rfl
@[simp] theorem State.modLane_freeCtr (n : Port) (f : LanePort → LanePort) : (s.modLane n f).freeCtr = s.freeCtr := rfl
@[simp] theorem State.modLane_chain (n : Port) (f : LanePort → LanePort) : (s.modLane n f).chain = s.chain := rfl
@[simp] theorem State.modLane_clk (n : Port) (f : LanePort → LanePort) : (s.modLane n f).clk = s.clk := rfl
@[simp] theorem State.modLane_time (n : Port) (f : LanePort → LanePort) : (s.modLane n f).time = s.time := rfl
@[simp] theorem State.modLane_links (n : Port) (f : LanePort → LanePort) : (s.modLane n f).links = s.links := rfl
@[simp] theorem State.modLane_flows (n : Port) (f : LanePort → LanePort) : (s.modLane n f).flows = s.flows := rfl
@[simp] theorem State.modLane_wheel (n : Port) (f : LanePort → LanePort) : (s.modLane n f).wheel = s.wheel := rfl
@[simp] theorem State.modLane_integ (n : Port) (f : LanePort → LanePort) : (s.modLane n f).integ = s.integ := rfl
@[simp] theorem State.modLane_ctl (n : Port) (f : LanePort → LanePort) : (s.modLane n f).ctl = s.ctl := rfl
@[simp] theorem State.modLane_cnt (n : Port) (f : LanePort → LanePort) : (s.modLane n f).cnt = s.cnt := rfl
@[simp] theorem State.modLane_host (n : Port) (f : LanePort → LanePort) : (s.modLane n f).host = s.host := rfl
@[simp] theorem State.modLane_disp (n : Port) (f : LanePort → LanePort) : (s.modLane n f).disp = s.disp := rfl
@[simp] theorem State.modLane_bridge (n : Port) (f : LanePort → LanePort) : (s.modLane n f).bridge = s.bridge := rfl
@[simp] theorem State.modLane_ctp (n : Port) (f : LanePort → LanePort) : (s.modLane n f).ctp = s.ctp := rfl
@[simp] theorem State.modLane_eye (n : Port) (f : LanePort → LanePort) : (s.modLane n f).eye = s.eye := rfl
@[simp] theorem State.modLane_nv (n : Port) (f : LanePort → LanePort) : (s.modLane n f).nv = s.nv := rfl
@[simp] theorem State.modLane_sec (n : Port) (f : LanePort → LanePort) : (s.modLane n f).sec = s.sec := rfl
@[simp] theorem State.modLane_fw (n : Port) (f : LanePort → LanePort) : (s.modLane n f).fw = s.fw := rfl
@[simp] theorem State.modLane_uptime (n : Port) (f : LanePort → LanePort) : (s.modLane n f).uptime = s.uptime := rfl
@[simp] theorem State.modLane_chip (n : Port) (f : LanePort → LanePort) : (s.modLane n f).chip = s.chip := rfl

@[simp] theorem State.modLink_regs (n : Port) (f : LinkPort → LinkPort) : (s.modLink n f).regs = s.regs := rfl
@[simp] theorem State.modLink_mem (n : Port) (f : LinkPort → LinkPort) : (s.modLink n f).mem = s.mem := rfl
@[simp] theorem State.modLink_pending (n : Port) (f : LinkPort → LinkPort) : (s.modLink n f).pending = s.pending := rfl
@[simp] theorem State.modLink_hubIdent (n : Port) (f : LinkPort → LinkPort) : (s.modLink n f).hubIdent = s.hubIdent := rfl
@[simp] theorem State.modLink_identKey (n : Port) (f : LinkPort → LinkPort) : (s.modLink n f).identKey = s.identKey := rfl
@[simp] theorem State.modLink_out (n : Port) (f : LinkPort → LinkPort) : (s.modLink n f).out = s.out := rfl
@[simp] theorem State.modLink_freeCtr (n : Port) (f : LinkPort → LinkPort) : (s.modLink n f).freeCtr = s.freeCtr := rfl
@[simp] theorem State.modLink_chain (n : Port) (f : LinkPort → LinkPort) : (s.modLink n f).chain = s.chain := rfl
@[simp] theorem State.modLink_clk (n : Port) (f : LinkPort → LinkPort) : (s.modLink n f).clk = s.clk := rfl
@[simp] theorem State.modLink_time (n : Port) (f : LinkPort → LinkPort) : (s.modLink n f).time = s.time := rfl
@[simp] theorem State.modLink_lanes (n : Port) (f : LinkPort → LinkPort) : (s.modLink n f).lanes = s.lanes := rfl
@[simp] theorem State.modLink_flows (n : Port) (f : LinkPort → LinkPort) : (s.modLink n f).flows = s.flows := rfl
@[simp] theorem State.modLink_wheel (n : Port) (f : LinkPort → LinkPort) : (s.modLink n f).wheel = s.wheel := rfl
@[simp] theorem State.modLink_integ (n : Port) (f : LinkPort → LinkPort) : (s.modLink n f).integ = s.integ := rfl
@[simp] theorem State.modLink_ctl (n : Port) (f : LinkPort → LinkPort) : (s.modLink n f).ctl = s.ctl := rfl
@[simp] theorem State.modLink_cnt (n : Port) (f : LinkPort → LinkPort) : (s.modLink n f).cnt = s.cnt := rfl
@[simp] theorem State.modLink_host (n : Port) (f : LinkPort → LinkPort) : (s.modLink n f).host = s.host := rfl
@[simp] theorem State.modLink_disp (n : Port) (f : LinkPort → LinkPort) : (s.modLink n f).disp = s.disp := rfl
@[simp] theorem State.modLink_bridge (n : Port) (f : LinkPort → LinkPort) : (s.modLink n f).bridge = s.bridge := rfl
@[simp] theorem State.modLink_ctp (n : Port) (f : LinkPort → LinkPort) : (s.modLink n f).ctp = s.ctp := rfl
@[simp] theorem State.modLink_eye (n : Port) (f : LinkPort → LinkPort) : (s.modLink n f).eye = s.eye := rfl
@[simp] theorem State.modLink_nv (n : Port) (f : LinkPort → LinkPort) : (s.modLink n f).nv = s.nv := rfl
@[simp] theorem State.modLink_sec (n : Port) (f : LinkPort → LinkPort) : (s.modLink n f).sec = s.sec := rfl
@[simp] theorem State.modLink_fw (n : Port) (f : LinkPort → LinkPort) : (s.modLink n f).fw = s.fw := rfl
@[simp] theorem State.modLink_uptime (n : Port) (f : LinkPort → LinkPort) : (s.modLink n f).uptime = s.uptime := rfl
@[simp] theorem State.modLink_chip (n : Port) (f : LinkPort → LinkPort) : (s.modLink n f).chip = s.chip := rfl

@[simp] theorem State.setTime_regs (z : Int) : (s.setTime z).regs = s.regs := rfl
@[simp] theorem State.setTime_mem (z : Int) : (s.setTime z).mem = s.mem := rfl
@[simp] theorem State.setTime_pending (z : Int) : (s.setTime z).pending = s.pending := rfl
@[simp] theorem State.setTime_hubIdent (z : Int) : (s.setTime z).hubIdent = s.hubIdent := rfl
@[simp] theorem State.setTime_identKey (z : Int) : (s.setTime z).identKey = s.identKey := rfl
@[simp] theorem State.setTime_out (z : Int) : (s.setTime z).out = s.out := rfl
@[simp] theorem State.setTime_freeCtr (z : Int) : (s.setTime z).freeCtr = s.freeCtr := rfl
@[simp] theorem State.setTime_chain (z : Int) : (s.setTime z).chain = s.chain := rfl
@[simp] theorem State.setTime_clk (z : Int) : (s.setTime z).clk = s.clk := rfl
@[simp] theorem State.setTime_lanes (z : Int) : (s.setTime z).lanes = s.lanes := rfl
@[simp] theorem State.setTime_links (z : Int) : (s.setTime z).links = s.links := rfl
@[simp] theorem State.setTime_flows (z : Int) : (s.setTime z).flows = s.flows := rfl
@[simp] theorem State.setTime_wheel (z : Int) : (s.setTime z).wheel = s.wheel := rfl
@[simp] theorem State.setTime_integ (z : Int) : (s.setTime z).integ = s.integ := rfl
@[simp] theorem State.setTime_ctl (z : Int) : (s.setTime z).ctl = s.ctl := rfl
@[simp] theorem State.setTime_cnt (z : Int) : (s.setTime z).cnt = s.cnt := rfl
@[simp] theorem State.setTime_host (z : Int) : (s.setTime z).host = s.host := rfl
@[simp] theorem State.setTime_disp (z : Int) : (s.setTime z).disp = s.disp := rfl
@[simp] theorem State.setTime_bridge (z : Int) : (s.setTime z).bridge = s.bridge := rfl
@[simp] theorem State.setTime_ctp (z : Int) : (s.setTime z).ctp = s.ctp := rfl
@[simp] theorem State.setTime_eye (z : Int) : (s.setTime z).eye = s.eye := rfl
@[simp] theorem State.setTime_nv (z : Int) : (s.setTime z).nv = s.nv := rfl
@[simp] theorem State.setTime_sec (z : Int) : (s.setTime z).sec = s.sec := rfl
@[simp] theorem State.setTime_fw (z : Int) : (s.setTime z).fw = s.fw := rfl
@[simp] theorem State.setTime_uptime (z : Int) : (s.setTime z).uptime = s.uptime := rfl
@[simp] theorem State.setTime_chip (z : Int) : (s.setTime z).chip = s.chip := rfl

@[simp] theorem State.modCnt_regs (f : CntSt → CntSt) : (s.modCnt f).regs = s.regs := rfl
@[simp] theorem State.modCnt_mem (f : CntSt → CntSt) : (s.modCnt f).mem = s.mem := rfl
@[simp] theorem State.modCnt_pending (f : CntSt → CntSt) : (s.modCnt f).pending = s.pending := rfl
@[simp] theorem State.modCnt_hubIdent (f : CntSt → CntSt) : (s.modCnt f).hubIdent = s.hubIdent := rfl
@[simp] theorem State.modCnt_identKey (f : CntSt → CntSt) : (s.modCnt f).identKey = s.identKey := rfl
@[simp] theorem State.modCnt_out (f : CntSt → CntSt) : (s.modCnt f).out = s.out := rfl
@[simp] theorem State.modCnt_freeCtr (f : CntSt → CntSt) : (s.modCnt f).freeCtr = s.freeCtr := rfl
@[simp] theorem State.modCnt_chain (f : CntSt → CntSt) : (s.modCnt f).chain = s.chain := rfl
@[simp] theorem State.modCnt_clk (f : CntSt → CntSt) : (s.modCnt f).clk = s.clk := rfl
@[simp] theorem State.modCnt_time (f : CntSt → CntSt) : (s.modCnt f).time = s.time := rfl
@[simp] theorem State.modCnt_lanes (f : CntSt → CntSt) : (s.modCnt f).lanes = s.lanes := rfl
@[simp] theorem State.modCnt_links (f : CntSt → CntSt) : (s.modCnt f).links = s.links := rfl
@[simp] theorem State.modCnt_flows (f : CntSt → CntSt) : (s.modCnt f).flows = s.flows := rfl
@[simp] theorem State.modCnt_wheel (f : CntSt → CntSt) : (s.modCnt f).wheel = s.wheel := rfl
@[simp] theorem State.modCnt_integ (f : CntSt → CntSt) : (s.modCnt f).integ = s.integ := rfl
@[simp] theorem State.modCnt_ctl (f : CntSt → CntSt) : (s.modCnt f).ctl = s.ctl := rfl
@[simp] theorem State.modCnt_host (f : CntSt → CntSt) : (s.modCnt f).host = s.host := rfl
@[simp] theorem State.modCnt_disp (f : CntSt → CntSt) : (s.modCnt f).disp = s.disp := rfl
@[simp] theorem State.modCnt_bridge (f : CntSt → CntSt) : (s.modCnt f).bridge = s.bridge := rfl
@[simp] theorem State.modCnt_ctp (f : CntSt → CntSt) : (s.modCnt f).ctp = s.ctp := rfl
@[simp] theorem State.modCnt_eye (f : CntSt → CntSt) : (s.modCnt f).eye = s.eye := rfl
@[simp] theorem State.modCnt_nv (f : CntSt → CntSt) : (s.modCnt f).nv = s.nv := rfl
@[simp] theorem State.modCnt_sec (f : CntSt → CntSt) : (s.modCnt f).sec = s.sec := rfl
@[simp] theorem State.modCnt_fw (f : CntSt → CntSt) : (s.modCnt f).fw = s.fw := rfl
@[simp] theorem State.modCnt_uptime (f : CntSt → CntSt) : (s.modCnt f).uptime = s.uptime := rfl
@[simp] theorem State.modCnt_chip (f : CntSt → CntSt) : (s.modCnt f).chip = s.chip := rfl

@[simp] theorem State.modHost_regs (f : HostSt → HostSt) : (s.modHost f).regs = s.regs := rfl
@[simp] theorem State.modHost_mem (f : HostSt → HostSt) : (s.modHost f).mem = s.mem := rfl
@[simp] theorem State.modHost_pending (f : HostSt → HostSt) : (s.modHost f).pending = s.pending := rfl
@[simp] theorem State.modHost_hubIdent (f : HostSt → HostSt) : (s.modHost f).hubIdent = s.hubIdent := rfl
@[simp] theorem State.modHost_identKey (f : HostSt → HostSt) : (s.modHost f).identKey = s.identKey := rfl
@[simp] theorem State.modHost_out (f : HostSt → HostSt) : (s.modHost f).out = s.out := rfl
@[simp] theorem State.modHost_freeCtr (f : HostSt → HostSt) : (s.modHost f).freeCtr = s.freeCtr := rfl
@[simp] theorem State.modHost_chain (f : HostSt → HostSt) : (s.modHost f).chain = s.chain := rfl
@[simp] theorem State.modHost_clk (f : HostSt → HostSt) : (s.modHost f).clk = s.clk := rfl
@[simp] theorem State.modHost_time (f : HostSt → HostSt) : (s.modHost f).time = s.time := rfl
@[simp] theorem State.modHost_lanes (f : HostSt → HostSt) : (s.modHost f).lanes = s.lanes := rfl
@[simp] theorem State.modHost_links (f : HostSt → HostSt) : (s.modHost f).links = s.links := rfl
@[simp] theorem State.modHost_flows (f : HostSt → HostSt) : (s.modHost f).flows = s.flows := rfl
@[simp] theorem State.modHost_wheel (f : HostSt → HostSt) : (s.modHost f).wheel = s.wheel := rfl
@[simp] theorem State.modHost_integ (f : HostSt → HostSt) : (s.modHost f).integ = s.integ := rfl
@[simp] theorem State.modHost_ctl (f : HostSt → HostSt) : (s.modHost f).ctl = s.ctl := rfl
@[simp] theorem State.modHost_cnt (f : HostSt → HostSt) : (s.modHost f).cnt = s.cnt := rfl
@[simp] theorem State.modHost_disp (f : HostSt → HostSt) : (s.modHost f).disp = s.disp := rfl
@[simp] theorem State.modHost_bridge (f : HostSt → HostSt) : (s.modHost f).bridge = s.bridge := rfl
@[simp] theorem State.modHost_ctp (f : HostSt → HostSt) : (s.modHost f).ctp = s.ctp := rfl
@[simp] theorem State.modHost_eye (f : HostSt → HostSt) : (s.modHost f).eye = s.eye := rfl
@[simp] theorem State.modHost_nv (f : HostSt → HostSt) : (s.modHost f).nv = s.nv := rfl
@[simp] theorem State.modHost_sec (f : HostSt → HostSt) : (s.modHost f).sec = s.sec := rfl
@[simp] theorem State.modHost_fw (f : HostSt → HostSt) : (s.modHost f).fw = s.fw := rfl
@[simp] theorem State.modHost_uptime (f : HostSt → HostSt) : (s.modHost f).uptime = s.uptime := rfl
@[simp] theorem State.modHost_chip (f : HostSt → HostSt) : (s.modHost f).chip = s.chip := rfl

@[simp] theorem State.modHead_regs (h : Head) (f : HeadSt → HeadSt) : (s.modHead h f).regs = s.regs := rfl
@[simp] theorem State.modHead_mem (h : Head) (f : HeadSt → HeadSt) : (s.modHead h f).mem = s.mem := rfl
@[simp] theorem State.modHead_pending (h : Head) (f : HeadSt → HeadSt) : (s.modHead h f).pending = s.pending := rfl
@[simp] theorem State.modHead_hubIdent (h : Head) (f : HeadSt → HeadSt) : (s.modHead h f).hubIdent = s.hubIdent := rfl
@[simp] theorem State.modHead_identKey (h : Head) (f : HeadSt → HeadSt) : (s.modHead h f).identKey = s.identKey := rfl
@[simp] theorem State.modHead_out (h : Head) (f : HeadSt → HeadSt) : (s.modHead h f).out = s.out := rfl
@[simp] theorem State.modHead_freeCtr (h : Head) (f : HeadSt → HeadSt) : (s.modHead h f).freeCtr = s.freeCtr := rfl
@[simp] theorem State.modHead_chain (h : Head) (f : HeadSt → HeadSt) : (s.modHead h f).chain = s.chain := rfl
@[simp] theorem State.modHead_clk (h : Head) (f : HeadSt → HeadSt) : (s.modHead h f).clk = s.clk := rfl
@[simp] theorem State.modHead_time (h : Head) (f : HeadSt → HeadSt) : (s.modHead h f).time = s.time := rfl
@[simp] theorem State.modHead_lanes (h : Head) (f : HeadSt → HeadSt) : (s.modHead h f).lanes = s.lanes := rfl
@[simp] theorem State.modHead_links (h : Head) (f : HeadSt → HeadSt) : (s.modHead h f).links = s.links := rfl
@[simp] theorem State.modHead_flows (h : Head) (f : HeadSt → HeadSt) : (s.modHead h f).flows = s.flows := rfl
@[simp] theorem State.modHead_wheel (h : Head) (f : HeadSt → HeadSt) : (s.modHead h f).wheel = s.wheel := rfl
@[simp] theorem State.modHead_integ (h : Head) (f : HeadSt → HeadSt) : (s.modHead h f).integ = s.integ := rfl
@[simp] theorem State.modHead_ctl (h : Head) (f : HeadSt → HeadSt) : (s.modHead h f).ctl = s.ctl := rfl
@[simp] theorem State.modHead_cnt (h : Head) (f : HeadSt → HeadSt) : (s.modHead h f).cnt = s.cnt := rfl
@[simp] theorem State.modHead_host (h : Head) (f : HeadSt → HeadSt) : (s.modHead h f).host = s.host := rfl
@[simp] theorem State.modHead_bridge (h : Head) (f : HeadSt → HeadSt) : (s.modHead h f).bridge = s.bridge := rfl
@[simp] theorem State.modHead_ctp (h : Head) (f : HeadSt → HeadSt) : (s.modHead h f).ctp = s.ctp := rfl
@[simp] theorem State.modHead_eye (h : Head) (f : HeadSt → HeadSt) : (s.modHead h f).eye = s.eye := rfl
@[simp] theorem State.modHead_nv (h : Head) (f : HeadSt → HeadSt) : (s.modHead h f).nv = s.nv := rfl
@[simp] theorem State.modHead_sec (h : Head) (f : HeadSt → HeadSt) : (s.modHead h f).sec = s.sec := rfl
@[simp] theorem State.modHead_fw (h : Head) (f : HeadSt → HeadSt) : (s.modHead h f).fw = s.fw := rfl
@[simp] theorem State.modHead_uptime (h : Head) (f : HeadSt → HeadSt) : (s.modHead h f).uptime = s.uptime := rfl
@[simp] theorem State.modHead_chip (h : Head) (f : HeadSt → HeadSt) : (s.modHead h f).chip = s.chip := rfl

@[simp] theorem State.modBridge_regs (f : BridgeSt → BridgeSt) : (s.modBridge f).regs = s.regs := rfl
@[simp] theorem State.modBridge_mem (f : BridgeSt → BridgeSt) : (s.modBridge f).mem = s.mem := rfl
@[simp] theorem State.modBridge_pending (f : BridgeSt → BridgeSt) : (s.modBridge f).pending = s.pending := rfl
@[simp] theorem State.modBridge_hubIdent (f : BridgeSt → BridgeSt) : (s.modBridge f).hubIdent = s.hubIdent := rfl
@[simp] theorem State.modBridge_identKey (f : BridgeSt → BridgeSt) : (s.modBridge f).identKey = s.identKey := rfl
@[simp] theorem State.modBridge_out (f : BridgeSt → BridgeSt) : (s.modBridge f).out = s.out := rfl
@[simp] theorem State.modBridge_freeCtr (f : BridgeSt → BridgeSt) : (s.modBridge f).freeCtr = s.freeCtr := rfl
@[simp] theorem State.modBridge_chain (f : BridgeSt → BridgeSt) : (s.modBridge f).chain = s.chain := rfl
@[simp] theorem State.modBridge_clk (f : BridgeSt → BridgeSt) : (s.modBridge f).clk = s.clk := rfl
@[simp] theorem State.modBridge_time (f : BridgeSt → BridgeSt) : (s.modBridge f).time = s.time := rfl
@[simp] theorem State.modBridge_lanes (f : BridgeSt → BridgeSt) : (s.modBridge f).lanes = s.lanes := rfl
@[simp] theorem State.modBridge_links (f : BridgeSt → BridgeSt) : (s.modBridge f).links = s.links := rfl
@[simp] theorem State.modBridge_flows (f : BridgeSt → BridgeSt) : (s.modBridge f).flows = s.flows := rfl
@[simp] theorem State.modBridge_wheel (f : BridgeSt → BridgeSt) : (s.modBridge f).wheel = s.wheel := rfl
@[simp] theorem State.modBridge_integ (f : BridgeSt → BridgeSt) : (s.modBridge f).integ = s.integ := rfl
@[simp] theorem State.modBridge_ctl (f : BridgeSt → BridgeSt) : (s.modBridge f).ctl = s.ctl := rfl
@[simp] theorem State.modBridge_cnt (f : BridgeSt → BridgeSt) : (s.modBridge f).cnt = s.cnt := rfl
@[simp] theorem State.modBridge_host (f : BridgeSt → BridgeSt) : (s.modBridge f).host = s.host := rfl
@[simp] theorem State.modBridge_disp (f : BridgeSt → BridgeSt) : (s.modBridge f).disp = s.disp := rfl
@[simp] theorem State.modBridge_ctp (f : BridgeSt → BridgeSt) : (s.modBridge f).ctp = s.ctp := rfl
@[simp] theorem State.modBridge_eye (f : BridgeSt → BridgeSt) : (s.modBridge f).eye = s.eye := rfl
@[simp] theorem State.modBridge_nv (f : BridgeSt → BridgeSt) : (s.modBridge f).nv = s.nv := rfl
@[simp] theorem State.modBridge_sec (f : BridgeSt → BridgeSt) : (s.modBridge f).sec = s.sec := rfl
@[simp] theorem State.modBridge_fw (f : BridgeSt → BridgeSt) : (s.modBridge f).fw = s.fw := rfl
@[simp] theorem State.modBridge_uptime (f : BridgeSt → BridgeSt) : (s.modBridge f).uptime = s.uptime := rfl
@[simp] theorem State.modBridge_chip (f : BridgeSt → BridgeSt) : (s.modBridge f).chip = s.chip := rfl

@[simp] theorem State.modWh_regs (w : WheelNo) (f : WheelSt → WheelSt) : (s.modWh w f).regs = s.regs := rfl
@[simp] theorem State.modWh_mem (w : WheelNo) (f : WheelSt → WheelSt) : (s.modWh w f).mem = s.mem := rfl
@[simp] theorem State.modWh_pending (w : WheelNo) (f : WheelSt → WheelSt) : (s.modWh w f).pending = s.pending := rfl
@[simp] theorem State.modWh_hubIdent (w : WheelNo) (f : WheelSt → WheelSt) : (s.modWh w f).hubIdent = s.hubIdent := rfl
@[simp] theorem State.modWh_identKey (w : WheelNo) (f : WheelSt → WheelSt) : (s.modWh w f).identKey = s.identKey := rfl
@[simp] theorem State.modWh_out (w : WheelNo) (f : WheelSt → WheelSt) : (s.modWh w f).out = s.out := rfl
@[simp] theorem State.modWh_freeCtr (w : WheelNo) (f : WheelSt → WheelSt) : (s.modWh w f).freeCtr = s.freeCtr := rfl
@[simp] theorem State.modWh_chain (w : WheelNo) (f : WheelSt → WheelSt) : (s.modWh w f).chain = s.chain := rfl
@[simp] theorem State.modWh_clk (w : WheelNo) (f : WheelSt → WheelSt) : (s.modWh w f).clk = s.clk := rfl
@[simp] theorem State.modWh_time (w : WheelNo) (f : WheelSt → WheelSt) : (s.modWh w f).time = s.time := rfl
@[simp] theorem State.modWh_lanes (w : WheelNo) (f : WheelSt → WheelSt) : (s.modWh w f).lanes = s.lanes := rfl
@[simp] theorem State.modWh_links (w : WheelNo) (f : WheelSt → WheelSt) : (s.modWh w f).links = s.links := rfl
@[simp] theorem State.modWh_flows (w : WheelNo) (f : WheelSt → WheelSt) : (s.modWh w f).flows = s.flows := rfl
@[simp] theorem State.modWh_integ (w : WheelNo) (f : WheelSt → WheelSt) : (s.modWh w f).integ = s.integ := rfl
@[simp] theorem State.modWh_ctl (w : WheelNo) (f : WheelSt → WheelSt) : (s.modWh w f).ctl = s.ctl := rfl
@[simp] theorem State.modWh_cnt (w : WheelNo) (f : WheelSt → WheelSt) : (s.modWh w f).cnt = s.cnt := rfl
@[simp] theorem State.modWh_host (w : WheelNo) (f : WheelSt → WheelSt) : (s.modWh w f).host = s.host := rfl
@[simp] theorem State.modWh_disp (w : WheelNo) (f : WheelSt → WheelSt) : (s.modWh w f).disp = s.disp := rfl
@[simp] theorem State.modWh_bridge (w : WheelNo) (f : WheelSt → WheelSt) : (s.modWh w f).bridge = s.bridge := rfl
@[simp] theorem State.modWh_ctp (w : WheelNo) (f : WheelSt → WheelSt) : (s.modWh w f).ctp = s.ctp := rfl
@[simp] theorem State.modWh_eye (w : WheelNo) (f : WheelSt → WheelSt) : (s.modWh w f).eye = s.eye := rfl
@[simp] theorem State.modWh_nv (w : WheelNo) (f : WheelSt → WheelSt) : (s.modWh w f).nv = s.nv := rfl
@[simp] theorem State.modWh_sec (w : WheelNo) (f : WheelSt → WheelSt) : (s.modWh w f).sec = s.sec := rfl
@[simp] theorem State.modWh_fw (w : WheelNo) (f : WheelSt → WheelSt) : (s.modWh w f).fw = s.fw := rfl
@[simp] theorem State.modWh_uptime (w : WheelNo) (f : WheelSt → WheelSt) : (s.modWh w f).uptime = s.uptime := rfl
@[simp] theorem State.modWh_chip (w : WheelNo) (f : WheelSt → WheelSt) : (s.modWh w f).chip = s.chip := rfl

@[simp] theorem State.modCtp_regs (n : Port) (f : CtpPort → CtpPort) : (s.modCtp n f).regs = s.regs := rfl
@[simp] theorem State.modCtp_mem (n : Port) (f : CtpPort → CtpPort) : (s.modCtp n f).mem = s.mem := rfl
@[simp] theorem State.modCtp_pending (n : Port) (f : CtpPort → CtpPort) : (s.modCtp n f).pending = s.pending := rfl
@[simp] theorem State.modCtp_hubIdent (n : Port) (f : CtpPort → CtpPort) : (s.modCtp n f).hubIdent = s.hubIdent := rfl
@[simp] theorem State.modCtp_identKey (n : Port) (f : CtpPort → CtpPort) : (s.modCtp n f).identKey = s.identKey := rfl
@[simp] theorem State.modCtp_out (n : Port) (f : CtpPort → CtpPort) : (s.modCtp n f).out = s.out := rfl
@[simp] theorem State.modCtp_freeCtr (n : Port) (f : CtpPort → CtpPort) : (s.modCtp n f).freeCtr = s.freeCtr := rfl
@[simp] theorem State.modCtp_chain (n : Port) (f : CtpPort → CtpPort) : (s.modCtp n f).chain = s.chain := rfl
@[simp] theorem State.modCtp_clk (n : Port) (f : CtpPort → CtpPort) : (s.modCtp n f).clk = s.clk := rfl
@[simp] theorem State.modCtp_time (n : Port) (f : CtpPort → CtpPort) : (s.modCtp n f).time = s.time := rfl
@[simp] theorem State.modCtp_lanes (n : Port) (f : CtpPort → CtpPort) : (s.modCtp n f).lanes = s.lanes := rfl
@[simp] theorem State.modCtp_links (n : Port) (f : CtpPort → CtpPort) : (s.modCtp n f).links = s.links := rfl
@[simp] theorem State.modCtp_flows (n : Port) (f : CtpPort → CtpPort) : (s.modCtp n f).flows = s.flows := rfl
@[simp] theorem State.modCtp_wheel (n : Port) (f : CtpPort → CtpPort) : (s.modCtp n f).wheel = s.wheel := rfl
@[simp] theorem State.modCtp_integ (n : Port) (f : CtpPort → CtpPort) : (s.modCtp n f).integ = s.integ := rfl
@[simp] theorem State.modCtp_ctl (n : Port) (f : CtpPort → CtpPort) : (s.modCtp n f).ctl = s.ctl := rfl
@[simp] theorem State.modCtp_cnt (n : Port) (f : CtpPort → CtpPort) : (s.modCtp n f).cnt = s.cnt := rfl
@[simp] theorem State.modCtp_host (n : Port) (f : CtpPort → CtpPort) : (s.modCtp n f).host = s.host := rfl
@[simp] theorem State.modCtp_disp (n : Port) (f : CtpPort → CtpPort) : (s.modCtp n f).disp = s.disp := rfl
@[simp] theorem State.modCtp_bridge (n : Port) (f : CtpPort → CtpPort) : (s.modCtp n f).bridge = s.bridge := rfl
@[simp] theorem State.modCtp_eye (n : Port) (f : CtpPort → CtpPort) : (s.modCtp n f).eye = s.eye := rfl
@[simp] theorem State.modCtp_nv (n : Port) (f : CtpPort → CtpPort) : (s.modCtp n f).nv = s.nv := rfl
@[simp] theorem State.modCtp_sec (n : Port) (f : CtpPort → CtpPort) : (s.modCtp n f).sec = s.sec := rfl
@[simp] theorem State.modCtp_fw (n : Port) (f : CtpPort → CtpPort) : (s.modCtp n f).fw = s.fw := rfl
@[simp] theorem State.modCtp_uptime (n : Port) (f : CtpPort → CtpPort) : (s.modCtp n f).uptime = s.uptime := rfl
@[simp] theorem State.modCtp_chip (n : Port) (f : CtpPort → CtpPort) : (s.modCtp n f).chip = s.chip := rfl

@[simp] theorem State.modChan_regs (c : Chan) (f : ChanSt → ChanSt) : (s.modChan c f).regs = s.regs := rfl
@[simp] theorem State.modChan_mem (c : Chan) (f : ChanSt → ChanSt) : (s.modChan c f).mem = s.mem := rfl
@[simp] theorem State.modChan_pending (c : Chan) (f : ChanSt → ChanSt) : (s.modChan c f).pending = s.pending := rfl
@[simp] theorem State.modChan_hubIdent (c : Chan) (f : ChanSt → ChanSt) : (s.modChan c f).hubIdent = s.hubIdent := rfl
@[simp] theorem State.modChan_identKey (c : Chan) (f : ChanSt → ChanSt) : (s.modChan c f).identKey = s.identKey := rfl
@[simp] theorem State.modChan_out (c : Chan) (f : ChanSt → ChanSt) : (s.modChan c f).out = s.out := rfl
@[simp] theorem State.modChan_freeCtr (c : Chan) (f : ChanSt → ChanSt) : (s.modChan c f).freeCtr = s.freeCtr := rfl
@[simp] theorem State.modChan_chain (c : Chan) (f : ChanSt → ChanSt) : (s.modChan c f).chain = s.chain := rfl
@[simp] theorem State.modChan_clk (c : Chan) (f : ChanSt → ChanSt) : (s.modChan c f).clk = s.clk := rfl
@[simp] theorem State.modChan_time (c : Chan) (f : ChanSt → ChanSt) : (s.modChan c f).time = s.time := rfl
@[simp] theorem State.modChan_lanes (c : Chan) (f : ChanSt → ChanSt) : (s.modChan c f).lanes = s.lanes := rfl
@[simp] theorem State.modChan_links (c : Chan) (f : ChanSt → ChanSt) : (s.modChan c f).links = s.links := rfl
@[simp] theorem State.modChan_flows (c : Chan) (f : ChanSt → ChanSt) : (s.modChan c f).flows = s.flows := rfl
@[simp] theorem State.modChan_wheel (c : Chan) (f : ChanSt → ChanSt) : (s.modChan c f).wheel = s.wheel := rfl
@[simp] theorem State.modChan_integ (c : Chan) (f : ChanSt → ChanSt) : (s.modChan c f).integ = s.integ := rfl
@[simp] theorem State.modChan_ctl (c : Chan) (f : ChanSt → ChanSt) : (s.modChan c f).ctl = s.ctl := rfl
@[simp] theorem State.modChan_cnt (c : Chan) (f : ChanSt → ChanSt) : (s.modChan c f).cnt = s.cnt := rfl
@[simp] theorem State.modChan_host (c : Chan) (f : ChanSt → ChanSt) : (s.modChan c f).host = s.host := rfl
@[simp] theorem State.modChan_disp (c : Chan) (f : ChanSt → ChanSt) : (s.modChan c f).disp = s.disp := rfl
@[simp] theorem State.modChan_bridge (c : Chan) (f : ChanSt → ChanSt) : (s.modChan c f).bridge = s.bridge := rfl
@[simp] theorem State.modChan_ctp (c : Chan) (f : ChanSt → ChanSt) : (s.modChan c f).ctp = s.ctp := rfl
@[simp] theorem State.modChan_nv (c : Chan) (f : ChanSt → ChanSt) : (s.modChan c f).nv = s.nv := rfl
@[simp] theorem State.modChan_sec (c : Chan) (f : ChanSt → ChanSt) : (s.modChan c f).sec = s.sec := rfl
@[simp] theorem State.modChan_fw (c : Chan) (f : ChanSt → ChanSt) : (s.modChan c f).fw = s.fw := rfl
@[simp] theorem State.modChan_uptime (c : Chan) (f : ChanSt → ChanSt) : (s.modChan c f).uptime = s.uptime := rfl
@[simp] theorem State.modChan_chip (c : Chan) (f : ChanSt → ChanSt) : (s.modChan c f).chip = s.chip := rfl

@[simp] theorem State.modSec_regs (f : SecSt → SecSt) : (s.modSec f).regs = s.regs := rfl
@[simp] theorem State.modSec_mem (f : SecSt → SecSt) : (s.modSec f).mem = s.mem := rfl
@[simp] theorem State.modSec_pending (f : SecSt → SecSt) : (s.modSec f).pending = s.pending := rfl
@[simp] theorem State.modSec_hubIdent (f : SecSt → SecSt) : (s.modSec f).hubIdent = s.hubIdent := rfl
@[simp] theorem State.modSec_identKey (f : SecSt → SecSt) : (s.modSec f).identKey = s.identKey := rfl
@[simp] theorem State.modSec_out (f : SecSt → SecSt) : (s.modSec f).out = s.out := rfl
@[simp] theorem State.modSec_freeCtr (f : SecSt → SecSt) : (s.modSec f).freeCtr = s.freeCtr := rfl
@[simp] theorem State.modSec_chain (f : SecSt → SecSt) : (s.modSec f).chain = s.chain := rfl
@[simp] theorem State.modSec_clk (f : SecSt → SecSt) : (s.modSec f).clk = s.clk := rfl
@[simp] theorem State.modSec_time (f : SecSt → SecSt) : (s.modSec f).time = s.time := rfl
@[simp] theorem State.modSec_lanes (f : SecSt → SecSt) : (s.modSec f).lanes = s.lanes := rfl
@[simp] theorem State.modSec_links (f : SecSt → SecSt) : (s.modSec f).links = s.links := rfl
@[simp] theorem State.modSec_flows (f : SecSt → SecSt) : (s.modSec f).flows = s.flows := rfl
@[simp] theorem State.modSec_wheel (f : SecSt → SecSt) : (s.modSec f).wheel = s.wheel := rfl
@[simp] theorem State.modSec_integ (f : SecSt → SecSt) : (s.modSec f).integ = s.integ := rfl
@[simp] theorem State.modSec_ctl (f : SecSt → SecSt) : (s.modSec f).ctl = s.ctl := rfl
@[simp] theorem State.modSec_cnt (f : SecSt → SecSt) : (s.modSec f).cnt = s.cnt := rfl
@[simp] theorem State.modSec_host (f : SecSt → SecSt) : (s.modSec f).host = s.host := rfl
@[simp] theorem State.modSec_disp (f : SecSt → SecSt) : (s.modSec f).disp = s.disp := rfl
@[simp] theorem State.modSec_bridge (f : SecSt → SecSt) : (s.modSec f).bridge = s.bridge := rfl
@[simp] theorem State.modSec_ctp (f : SecSt → SecSt) : (s.modSec f).ctp = s.ctp := rfl
@[simp] theorem State.modSec_eye (f : SecSt → SecSt) : (s.modSec f).eye = s.eye := rfl
@[simp] theorem State.modSec_nv (f : SecSt → SecSt) : (s.modSec f).nv = s.nv := rfl
@[simp] theorem State.modSec_fw (f : SecSt → SecSt) : (s.modSec f).fw = s.fw := rfl
@[simp] theorem State.modSec_uptime (f : SecSt → SecSt) : (s.modSec f).uptime = s.uptime := rfl
@[simp] theorem State.modSec_chip (f : SecSt → SecSt) : (s.modSec f).chip = s.chip := rfl

@[simp] theorem State.modFlash_regs (f : FlashSt → FlashSt) : (s.modFlash f).regs = s.regs := rfl
@[simp] theorem State.modFlash_mem (f : FlashSt → FlashSt) : (s.modFlash f).mem = s.mem := rfl
@[simp] theorem State.modFlash_pending (f : FlashSt → FlashSt) : (s.modFlash f).pending = s.pending := rfl
@[simp] theorem State.modFlash_hubIdent (f : FlashSt → FlashSt) : (s.modFlash f).hubIdent = s.hubIdent := rfl
@[simp] theorem State.modFlash_identKey (f : FlashSt → FlashSt) : (s.modFlash f).identKey = s.identKey := rfl
@[simp] theorem State.modFlash_out (f : FlashSt → FlashSt) : (s.modFlash f).out = s.out := rfl
@[simp] theorem State.modFlash_freeCtr (f : FlashSt → FlashSt) : (s.modFlash f).freeCtr = s.freeCtr := rfl
@[simp] theorem State.modFlash_chain (f : FlashSt → FlashSt) : (s.modFlash f).chain = s.chain := rfl
@[simp] theorem State.modFlash_clk (f : FlashSt → FlashSt) : (s.modFlash f).clk = s.clk := rfl
@[simp] theorem State.modFlash_time (f : FlashSt → FlashSt) : (s.modFlash f).time = s.time := rfl
@[simp] theorem State.modFlash_lanes (f : FlashSt → FlashSt) : (s.modFlash f).lanes = s.lanes := rfl
@[simp] theorem State.modFlash_links (f : FlashSt → FlashSt) : (s.modFlash f).links = s.links := rfl
@[simp] theorem State.modFlash_flows (f : FlashSt → FlashSt) : (s.modFlash f).flows = s.flows := rfl
@[simp] theorem State.modFlash_wheel (f : FlashSt → FlashSt) : (s.modFlash f).wheel = s.wheel := rfl
@[simp] theorem State.modFlash_integ (f : FlashSt → FlashSt) : (s.modFlash f).integ = s.integ := rfl
@[simp] theorem State.modFlash_ctl (f : FlashSt → FlashSt) : (s.modFlash f).ctl = s.ctl := rfl
@[simp] theorem State.modFlash_cnt (f : FlashSt → FlashSt) : (s.modFlash f).cnt = s.cnt := rfl
@[simp] theorem State.modFlash_host (f : FlashSt → FlashSt) : (s.modFlash f).host = s.host := rfl
@[simp] theorem State.modFlash_disp (f : FlashSt → FlashSt) : (s.modFlash f).disp = s.disp := rfl
@[simp] theorem State.modFlash_bridge (f : FlashSt → FlashSt) : (s.modFlash f).bridge = s.bridge := rfl
@[simp] theorem State.modFlash_ctp (f : FlashSt → FlashSt) : (s.modFlash f).ctp = s.ctp := rfl
@[simp] theorem State.modFlash_eye (f : FlashSt → FlashSt) : (s.modFlash f).eye = s.eye := rfl
@[simp] theorem State.modFlash_sec (f : FlashSt → FlashSt) : (s.modFlash f).sec = s.sec := rfl
@[simp] theorem State.modFlash_fw (f : FlashSt → FlashSt) : (s.modFlash f).fw = s.fw := rfl
@[simp] theorem State.modFlash_uptime (f : FlashSt → FlashSt) : (s.modFlash f).uptime = s.uptime := rfl
@[simp] theorem State.modFlash_chip (f : FlashSt → FlashSt) : (s.modFlash f).chip = s.chip := rfl

@[simp] theorem State.modSess_regs (f : Sess → Sess) : (s.modSess f).regs = s.regs := rfl
@[simp] theorem State.modSess_mem (f : Sess → Sess) : (s.modSess f).mem = s.mem := rfl
@[simp] theorem State.modSess_pending (f : Sess → Sess) : (s.modSess f).pending = s.pending := rfl
@[simp] theorem State.modSess_hubIdent (f : Sess → Sess) : (s.modSess f).hubIdent = s.hubIdent := rfl
@[simp] theorem State.modSess_identKey (f : Sess → Sess) : (s.modSess f).identKey = s.identKey := rfl
@[simp] theorem State.modSess_out (f : Sess → Sess) : (s.modSess f).out = s.out := rfl
@[simp] theorem State.modSess_freeCtr (f : Sess → Sess) : (s.modSess f).freeCtr = s.freeCtr := rfl
@[simp] theorem State.modSess_chain (f : Sess → Sess) : (s.modSess f).chain = s.chain := rfl
@[simp] theorem State.modSess_clk (f : Sess → Sess) : (s.modSess f).clk = s.clk := rfl
@[simp] theorem State.modSess_time (f : Sess → Sess) : (s.modSess f).time = s.time := rfl
@[simp] theorem State.modSess_lanes (f : Sess → Sess) : (s.modSess f).lanes = s.lanes := rfl
@[simp] theorem State.modSess_links (f : Sess → Sess) : (s.modSess f).links = s.links := rfl
@[simp] theorem State.modSess_flows (f : Sess → Sess) : (s.modSess f).flows = s.flows := rfl
@[simp] theorem State.modSess_wheel (f : Sess → Sess) : (s.modSess f).wheel = s.wheel := rfl
@[simp] theorem State.modSess_integ (f : Sess → Sess) : (s.modSess f).integ = s.integ := rfl
@[simp] theorem State.modSess_ctl (f : Sess → Sess) : (s.modSess f).ctl = s.ctl := rfl
@[simp] theorem State.modSess_cnt (f : Sess → Sess) : (s.modSess f).cnt = s.cnt := rfl
@[simp] theorem State.modSess_host (f : Sess → Sess) : (s.modSess f).host = s.host := rfl
@[simp] theorem State.modSess_disp (f : Sess → Sess) : (s.modSess f).disp = s.disp := rfl
@[simp] theorem State.modSess_bridge (f : Sess → Sess) : (s.modSess f).bridge = s.bridge := rfl
@[simp] theorem State.modSess_ctp (f : Sess → Sess) : (s.modSess f).ctp = s.ctp := rfl
@[simp] theorem State.modSess_eye (f : Sess → Sess) : (s.modSess f).eye = s.eye := rfl
@[simp] theorem State.modSess_nv (f : Sess → Sess) : (s.modSess f).nv = s.nv := rfl
@[simp] theorem State.modSess_sec (f : Sess → Sess) : (s.modSess f).sec = s.sec := rfl
@[simp] theorem State.modSess_uptime (f : Sess → Sess) : (s.modSess f).uptime = s.uptime := rfl
@[simp] theorem State.modSess_chip (f : Sess → Sess) : (s.modSess f).chip = s.chip := rfl

@[simp] theorem State.modChip_regs (f : ChipSt → ChipSt) : (s.modChip f).regs = s.regs := rfl
@[simp] theorem State.modChip_mem (f : ChipSt → ChipSt) : (s.modChip f).mem = s.mem := rfl
@[simp] theorem State.modChip_pending (f : ChipSt → ChipSt) : (s.modChip f).pending = s.pending := rfl
@[simp] theorem State.modChip_hubIdent (f : ChipSt → ChipSt) : (s.modChip f).hubIdent = s.hubIdent := rfl
@[simp] theorem State.modChip_identKey (f : ChipSt → ChipSt) : (s.modChip f).identKey = s.identKey := rfl
@[simp] theorem State.modChip_out (f : ChipSt → ChipSt) : (s.modChip f).out = s.out := rfl
@[simp] theorem State.modChip_freeCtr (f : ChipSt → ChipSt) : (s.modChip f).freeCtr = s.freeCtr := rfl
@[simp] theorem State.modChip_chain (f : ChipSt → ChipSt) : (s.modChip f).chain = s.chain := rfl
@[simp] theorem State.modChip_clk (f : ChipSt → ChipSt) : (s.modChip f).clk = s.clk := rfl
@[simp] theorem State.modChip_time (f : ChipSt → ChipSt) : (s.modChip f).time = s.time := rfl
@[simp] theorem State.modChip_lanes (f : ChipSt → ChipSt) : (s.modChip f).lanes = s.lanes := rfl
@[simp] theorem State.modChip_links (f : ChipSt → ChipSt) : (s.modChip f).links = s.links := rfl
@[simp] theorem State.modChip_flows (f : ChipSt → ChipSt) : (s.modChip f).flows = s.flows := rfl
@[simp] theorem State.modChip_wheel (f : ChipSt → ChipSt) : (s.modChip f).wheel = s.wheel := rfl
@[simp] theorem State.modChip_integ (f : ChipSt → ChipSt) : (s.modChip f).integ = s.integ := rfl
@[simp] theorem State.modChip_ctl (f : ChipSt → ChipSt) : (s.modChip f).ctl = s.ctl := rfl
@[simp] theorem State.modChip_cnt (f : ChipSt → ChipSt) : (s.modChip f).cnt = s.cnt := rfl
@[simp] theorem State.modChip_host (f : ChipSt → ChipSt) : (s.modChip f).host = s.host := rfl
@[simp] theorem State.modChip_disp (f : ChipSt → ChipSt) : (s.modChip f).disp = s.disp := rfl
@[simp] theorem State.modChip_bridge (f : ChipSt → ChipSt) : (s.modChip f).bridge = s.bridge := rfl
@[simp] theorem State.modChip_ctp (f : ChipSt → ChipSt) : (s.modChip f).ctp = s.ctp := rfl
@[simp] theorem State.modChip_eye (f : ChipSt → ChipSt) : (s.modChip f).eye = s.eye := rfl
@[simp] theorem State.modChip_nv (f : ChipSt → ChipSt) : (s.modChip f).nv = s.nv := rfl
@[simp] theorem State.modChip_sec (f : ChipSt → ChipSt) : (s.modChip f).sec = s.sec := rfl
@[simp] theorem State.modChip_fw (f : ChipSt → ChipSt) : (s.modChip f).fw = s.fw := rfl
@[simp] theorem State.modChip_uptime (f : ChipSt → ChipSt) : (s.modChip f).uptime = s.uptime := rfl

@[simp] theorem State.setReqs_regs (l : Tbl OutReq) : (s.setReqs l).regs = s.regs := rfl
@[simp] theorem State.setReqs_mem (l : Tbl OutReq) : (s.setReqs l).mem = s.mem := rfl
@[simp] theorem State.setReqs_pending (l : Tbl OutReq) : (s.setReqs l).pending = s.pending := rfl
@[simp] theorem State.setReqs_hubIdent (l : Tbl OutReq) : (s.setReqs l).hubIdent = s.hubIdent := rfl
@[simp] theorem State.setReqs_identKey (l : Tbl OutReq) : (s.setReqs l).identKey = s.identKey := rfl
@[simp] theorem State.setReqs_out (l : Tbl OutReq) : (s.setReqs l).out = s.out := rfl
@[simp] theorem State.setReqs_freeCtr (l : Tbl OutReq) : (s.setReqs l).freeCtr = s.freeCtr := rfl
@[simp] theorem State.setReqs_chain (l : Tbl OutReq) : (s.setReqs l).chain = s.chain := rfl
@[simp] theorem State.setReqs_clk (l : Tbl OutReq) : (s.setReqs l).clk = s.clk := rfl
@[simp] theorem State.setReqs_time (l : Tbl OutReq) : (s.setReqs l).time = s.time := rfl
@[simp] theorem State.setReqs_lanes (l : Tbl OutReq) : (s.setReqs l).lanes = s.lanes := rfl
@[simp] theorem State.setReqs_links (l : Tbl OutReq) : (s.setReqs l).links = s.links := rfl
@[simp] theorem State.setReqs_flows (l : Tbl OutReq) : (s.setReqs l).flows = s.flows := rfl
@[simp] theorem State.setReqs_wheel (l : Tbl OutReq) : (s.setReqs l).wheel = s.wheel := rfl
@[simp] theorem State.setReqs_integ (l : Tbl OutReq) : (s.setReqs l).integ = s.integ := rfl
@[simp] theorem State.setReqs_cnt (l : Tbl OutReq) : (s.setReqs l).cnt = s.cnt := rfl
@[simp] theorem State.setReqs_host (l : Tbl OutReq) : (s.setReqs l).host = s.host := rfl
@[simp] theorem State.setReqs_disp (l : Tbl OutReq) : (s.setReqs l).disp = s.disp := rfl
@[simp] theorem State.setReqs_bridge (l : Tbl OutReq) : (s.setReqs l).bridge = s.bridge := rfl
@[simp] theorem State.setReqs_ctp (l : Tbl OutReq) : (s.setReqs l).ctp = s.ctp := rfl
@[simp] theorem State.setReqs_eye (l : Tbl OutReq) : (s.setReqs l).eye = s.eye := rfl
@[simp] theorem State.setReqs_nv (l : Tbl OutReq) : (s.setReqs l).nv = s.nv := rfl
@[simp] theorem State.setReqs_sec (l : Tbl OutReq) : (s.setReqs l).sec = s.sec := rfl
@[simp] theorem State.setReqs_fw (l : Tbl OutReq) : (s.setReqs l).fw = s.fw := rfl
@[simp] theorem State.setReqs_uptime (l : Tbl OutReq) : (s.setReqs l).uptime = s.uptime := rfl
@[simp] theorem State.setReqs_chip (l : Tbl OutReq) : (s.setReqs l).chip = s.chip := rfl

@[simp] theorem State.setHubs_regs (h : Tbl HubRec) : (s.setHubs h).regs = s.regs := rfl
@[simp] theorem State.setHubs_mem (h : Tbl HubRec) : (s.setHubs h).mem = s.mem := rfl
@[simp] theorem State.setHubs_pending (h : Tbl HubRec) : (s.setHubs h).pending = s.pending := rfl
@[simp] theorem State.setHubs_hubIdent (h : Tbl HubRec) : (s.setHubs h).hubIdent = s.hubIdent := rfl
@[simp] theorem State.setHubs_identKey (h : Tbl HubRec) : (s.setHubs h).identKey = s.identKey := rfl
@[simp] theorem State.setHubs_out (h : Tbl HubRec) : (s.setHubs h).out = s.out := rfl
@[simp] theorem State.setHubs_freeCtr (h : Tbl HubRec) : (s.setHubs h).freeCtr = s.freeCtr := rfl
@[simp] theorem State.setHubs_clk (h : Tbl HubRec) : (s.setHubs h).clk = s.clk := rfl
@[simp] theorem State.setHubs_time (h : Tbl HubRec) : (s.setHubs h).time = s.time := rfl
@[simp] theorem State.setHubs_lanes (h : Tbl HubRec) : (s.setHubs h).lanes = s.lanes := rfl
@[simp] theorem State.setHubs_links (h : Tbl HubRec) : (s.setHubs h).links = s.links := rfl
@[simp] theorem State.setHubs_flows (h : Tbl HubRec) : (s.setHubs h).flows = s.flows := rfl
@[simp] theorem State.setHubs_wheel (h : Tbl HubRec) : (s.setHubs h).wheel = s.wheel := rfl
@[simp] theorem State.setHubs_integ (h : Tbl HubRec) : (s.setHubs h).integ = s.integ := rfl
@[simp] theorem State.setHubs_ctl (h : Tbl HubRec) : (s.setHubs h).ctl = s.ctl := rfl
@[simp] theorem State.setHubs_cnt (h : Tbl HubRec) : (s.setHubs h).cnt = s.cnt := rfl
@[simp] theorem State.setHubs_host (h : Tbl HubRec) : (s.setHubs h).host = s.host := rfl
@[simp] theorem State.setHubs_disp (h : Tbl HubRec) : (s.setHubs h).disp = s.disp := rfl
@[simp] theorem State.setHubs_bridge (h : Tbl HubRec) : (s.setHubs h).bridge = s.bridge := rfl
@[simp] theorem State.setHubs_ctp (h : Tbl HubRec) : (s.setHubs h).ctp = s.ctp := rfl
@[simp] theorem State.setHubs_eye (h : Tbl HubRec) : (s.setHubs h).eye = s.eye := rfl
@[simp] theorem State.setHubs_nv (h : Tbl HubRec) : (s.setHubs h).nv = s.nv := rfl
@[simp] theorem State.setHubs_sec (h : Tbl HubRec) : (s.setHubs h).sec = s.sec := rfl
@[simp] theorem State.setHubs_fw (h : Tbl HubRec) : (s.setHubs h).fw = s.fw := rfl
@[simp] theorem State.setHubs_uptime (h : Tbl HubRec) : (s.setHubs h).uptime = s.uptime := rfl
@[simp] theorem State.setHubs_chip (h : Tbl HubRec) : (s.setHubs h).chip = s.chip := rfl

end Sys2Proof.Machine
end

