-- ==== Sys2Proof/Laws/Ops.lean ====
section
/-!
SUPPORT. Sys2Proof/Laws/Ops.lean: what the shared operations do: sparse tables, register fields, frame-store bytes, events,
counters, result windows.
-/
namespace Sys2Proof

variable {α : Type}

-- Sparse tables ------------------------------------------------------------------------------------------------------

theorem Tbl.find?_del_same (t : Tbl α) (k : Nat) : (t.del k).find? k = none := by
  induction t with
  | nil => rfl
  | cons p t ih =>
    obtain ⟨j, a⟩ := p
    by_cases h : j = k
    · simpa [Tbl.del, h] using ih
    · simpa [Tbl.del, h, Tbl.find?] using ih

theorem Tbl.find?_del_ne (t : Tbl α) {k j : Nat} (h : k ≠ j) : (t.del k).find? j = t.find? j := by
  induction t with
  | nil => rfl
  | cons p t ih =>
    obtain ⟨i, a⟩ := p
    by_cases hi : i = k
    · simpa [Tbl.del, hi, Tbl.find?, h] using ih
    · by_cases hj : i = j
      · subst hj
        simp [Tbl.del, hi, Tbl.find?]
      · simpa [Tbl.del, hi, Tbl.find?, hj] using ih

theorem Tbl.find?_put_same (t : Tbl α) (k : Nat) (a : α) : (t.put k a).find? k = some a := by
  induction t with
  | nil => simp [Tbl.put, Tbl.find?]
  | cons p t ih =>
    obtain ⟨j, b⟩ := p
    unfold Tbl.put
    by_cases h : k < j
    · simp [h, Tbl.find?]
    · by_cases hj : j = k
      · simp [hj, Tbl.find?]
      · simpa [h, hj, Tbl.find?] using ih

theorem Tbl.find?_put_ne (t : Tbl α) {k j : Nat} (a : α) (h : k ≠ j) : (t.put k a).find? j = t.find? j := by
  induction t with
  | nil => simp [Tbl.put, Tbl.find?, h]
  | cons p t ih =>
    obtain ⟨i, b⟩ := p
    unfold Tbl.put
    by_cases hk : k < i
    · simp [hk, Tbl.find?, h]
    · by_cases hi : i = k
      · subst hi
        simp [Tbl.find?, h]
      · by_cases hj : i = j
        · subst hj
          simp [hk, hi, Tbl.find?]
        · simpa [hk, hi, hj, Tbl.find?] using ih

theorem Tbl.getD_setD_same [DecidableEq α] (t : Tbl α) (k : Nat) (d v : α) : (t.setD k d v).getD k d = v := by
  unfold Tbl.setD Tbl.getD
  split
  · simp [Tbl.find?_del_same, *]
  · simp [Tbl.find?_put_same]

theorem Tbl.getD_setD_ne [DecidableEq α] (t : Tbl α) {k j : Nat} (d e v : α) (h : k ≠ j) :
    (t.setD k d v).getD j e = t.getD j e := by
  unfold Tbl.setD Tbl.getD
  split
  · simp [Tbl.find?_del_ne t h]
  · simp [Tbl.find?_put_ne t v h]

theorem Tbl.mem_del {t : Tbl α} {k : Nat} {p : Nat × α} (h : p ∈ t.del k) : p ∈ t := by
  induction t with
  | nil => simp [Tbl.del] at h
  | cons q t ih =>
    obtain ⟨j, a⟩ := q
    unfold Tbl.del at h
    split at h
    · exact List.mem_cons_of_mem _ (ih h)
    · rcases List.mem_cons.1 h with h | h
      · exact h ▸ List.mem_cons_self
      · exact List.mem_cons_of_mem _ (ih h)

theorem Tbl.mem_put {t : Tbl α} {k : Nat} {a : α} {p : Nat × α} (h : p ∈ t.put k a) : p = (k, a) ∨ p ∈ t := by
  induction t with
  | nil => simpa [Tbl.put] using h
  | cons q t ih =>
    obtain ⟨j, b⟩ := q
    unfold Tbl.put at h
    split at h
    · rcases List.mem_cons.1 h with h | h
      · exact .inl h
      · exact .inr h
    · split at h
      · rcases List.mem_cons.1 h with h | h
        · exact .inl h
        · exact .inr (List.mem_cons_of_mem _ h)
      · rcases List.mem_cons.1 h with h | h
        · exact .inr (h ▸ List.mem_cons_self)
        · exact (ih h).imp id (List.mem_cons_of_mem _)

/-- The keys of a table rise, said by its tail. -/
theorem Tbl.sorted_cons {p : Nat × α} {t : Tbl α} :
    Tbl.sorted (p :: t) = true ↔ (∀ q ∈ t, p.1 < q.1) ∧ Tbl.sorted t = true := by
  simp [Tbl.sorted, List.all_eq_true]

theorem Tbl.sorted_del {t : Tbl α} {k : Nat} (h : Tbl.sorted t = true) : Tbl.sorted (t.del k) = true := by
  induction t with
  | nil => rfl
  | cons q t ih =>
    obtain ⟨hlt, hs⟩ := Tbl.sorted_cons.1 h
    unfold Tbl.del
    split
    · exact ih hs
    · exact Tbl.sorted_cons.2 ⟨fun p hp => hlt p (Tbl.mem_del hp), ih hs⟩

theorem Tbl.sorted_put {t : Tbl α} {k : Nat} {a : α} (h : Tbl.sorted t = true) : Tbl.sorted (t.put k a) = true := by
  induction t with
  | nil => rfl
  | cons q t ih =>
    obtain ⟨j, b⟩ := q
    obtain ⟨hlt, hs⟩ := Tbl.sorted_cons.1 h
    unfold Tbl.put
    split
    · refine Tbl.sorted_cons.2 ⟨fun p hp => ?_, h⟩
      rcases List.mem_cons.1 hp with hp | hp
      · exact hp ▸ ‹k < j›
      · exact Nat.lt_trans ‹k < j› (hlt p hp)
    · split
      · exact Tbl.sorted_cons.2 ⟨fun p hp => ‹j = k› ▸ hlt p hp, hs⟩
      · refine Tbl.sorted_cons.2 ⟨fun p hp => ?_, ih hs⟩
        rcases Tbl.mem_put hp with rfl | hp
        · simp; omega
        · exact hlt p hp

theorem Tbl.sorted_setD [DecidableEq α] {t : Tbl α} (k : Nat) (d v : α) (h : Tbl.sorted t = true) :
    Tbl.sorted (t.setD k d v) = true := by
  unfold Tbl.setD
  split
  · exact Tbl.sorted_del h
  · exact Tbl.sorted_put h

theorem Tbl.sorted_filter {t : Tbl α} (f : Nat × α → Bool) (h : Tbl.sorted t = true) : Tbl.sorted (t.filter f) = true := by
  induction t with
  | nil => rfl
  | cons p t ih =>
    obtain ⟨hlt, hs⟩ := Tbl.sorted_cons.1 h
    by_cases hp : f p = true
    · rw [List.filter_cons_of_pos hp]
      exact Tbl.sorted_cons.2 ⟨fun q hq => hlt q (List.mem_filter.1 hq).1, ih hs⟩
    · rw [List.filter_cons_of_neg hp]
      exact ih hs

namespace Machine

-- Register fields ----------------------------------------------------------------------------------------------------

@[simp] theorem State.get_set_same (s : State) (f : Fld) (v : Nat) : (s.set f v).get f = v % 2 ^ f.w :=
  Tbl.getD_setD_same _ _ _ _

theorem State.get_set_ne (s : State) {f g : Fld} (v : Nat) (h : f.key ≠ g.key) : (s.set f v).get g = s.get g :=
  Tbl.getD_setD_ne _ _ _ _ h

@[simp] theorem State.setFlag_eq (s : State) (f : Fld) (b : Bool) : s.setFlag f b = s.set f (b2n b) := rfl
@[simp] theorem State.inc_eq (s : State) (f : Fld) : s.inc f = s.set f (s.get f + 1) := rfl

/-- A state whose registers are those of another reads the same fields. -/
theorem State.get_of_regs {s t : State} (h : t.regs = s.regs) (f : Fld) : t.get f = s.get f := by
  unfold State.get; rw [h]

theorem State.byte_of_mem {s t : State} (h : t.mem = s.mem) (a : Nat) : t.byte a = s.byte a := by
  unfold State.byte; rw [h]

@[simp] theorem State.get_setByte (s : State) (a : Nat) (b : Byte) (f : Fld) : (s.setByte a b).get f = s.get f := rfl
@[simp] theorem State.get_emit (s : State) (e : Emit) (f : Fld) : (s.emit e).get f = s.get f := rfl
@[simp] theorem State.get_emits (s : State) (es : List Emit) (f : Fld) : (s.emits es).get f = s.get f := rfl
@[simp] theorem State.get_useFree (s : State) (f : Fld) : s.useFree.get f = s.get f := rfl
@[simp] theorem State.get_modLane (s : State) (n : Port) (g : LanePort → LanePort) (f : Fld) :
    (s.modLane n g).get f = s.get f := rfl
@[simp] theorem State.get_modLink (s : State) (n : Port) (g : LinkPort → LinkPort) (f : Fld) :
    (s.modLink n g).get f = s.get f := rfl
@[simp] theorem State.get_setTime (s : State) (z : Int) (f : Fld) : (s.setTime z).get f = s.get f := rfl
@[simp] theorem State.get_modCnt (s : State) (g : CntSt → CntSt) (f : Fld) : (s.modCnt g).get f = s.get f := rfl
@[simp] theorem State.get_modHost (s : State) (g : HostSt → HostSt) (f : Fld) : (s.modHost g).get f = s.get f := rfl
@[simp] theorem State.get_modHead (s : State) (h : Head) (g : HeadSt → HeadSt) (f : Fld) :
    (s.modHead h g).get f = s.get f := rfl
@[simp] theorem State.get_modBridge (s : State) (g : BridgeSt → BridgeSt) (f : Fld) :
    (s.modBridge g).get f = s.get f := rfl
@[simp] theorem State.get_modWh (s : State) (w : WheelNo) (g : WheelSt → WheelSt) (f : Fld) :
    (s.modWh w g).get f = s.get f := rfl
@[simp] theorem State.get_modCtp (s : State) (n : Port) (g : CtpPort → CtpPort) (f : Fld) :
    (s.modCtp n g).get f = s.get f := rfl
@[simp] theorem State.get_modChan (s : State) (c : Chan) (g : ChanSt → ChanSt) (f : Fld) :
    (s.modChan c g).get f = s.get f := rfl
@[simp] theorem State.get_modSec (s : State) (g : SecSt → SecSt) (f : Fld) : (s.modSec g).get f = s.get f := rfl
@[simp] theorem State.get_modFlash (s : State) (g : FlashSt → FlashSt) (f : Fld) : (s.modFlash g).get f = s.get f := rfl
@[simp] theorem State.get_modSess (s : State) (g : Sess → Sess) (f : Fld) : (s.modSess g).get f = s.get f := rfl
@[simp] theorem State.get_modChip (s : State) (g : ChipSt → ChipSt) (f : Fld) : (s.modChip g).get f = s.get f := rfl
@[simp] theorem State.get_setReqs (s : State) (l : Tbl OutReq) (f : Fld) : (s.setReqs l).get f = s.get f := rfl
@[simp] theorem State.get_setHubs (s : State) (h : Tbl HubRec) (f : Fld) : (s.setHubs h).get f = s.get f := rfl

-- Counters, events ---------------------------------------------------------------------------------------------------

@[simp] theorem State.count_regs (s : State) (c n : Nat) : (s.count c n).regs = s.regs := by
  unfold State.count; split <;> rfl
@[simp] theorem State.count_mem (s : State) (c n : Nat) : (s.count c n).mem = s.mem := by
  unfold State.count; split <;> rfl
@[simp] theorem State.get_count (s : State) (c n : Nat) (f : Fld) : (s.count c n).get f = s.get f :=
  State.get_of_regs (State.count_regs s c n) f
@[simp] theorem State.noteRaise_regs (s : State) (e : Ev) : (s.noteRaise e).regs = s.regs := rfl
@[simp] theorem State.noteRaise_mem (s : State) (e : Ev) : (s.noteRaise e).mem = s.mem := rfl
@[simp] theorem State.get_noteRaise (s : State) (e : Ev) (f : Fld) : (s.noteRaise e).get f = s.get f := rfl

/-- The record and the counter of an event gain one; no register changes. -/
def State.noted (s : State) (e : Ev) : State := (s.noteRaise e).count (srcEvent e.num) 1

@[simp] theorem State.noted_regs (s : State) (e : Ev) : (s.noted e).regs = s.regs := by simp [State.noted]
@[simp] theorem State.noted_mem (s : State) (e : Ev) : (s.noted e).mem = s.mem := by simp [State.noted]
@[simp] theorem State.get_noted (s : State) (e : Ev) (f : Fld) : (s.noted e).get f = s.get f := by simp [State.noted]

theorem State.raise_off {s : State} {e : Ev} (h : s.pageOn e.page = false) : s.raise e = s := by
  simp [State.raise, h]

/-- What raising an event does while its page's domain is on: the record, the RAW bit, and with EN the vector. -/
theorem State.raise_on {s : State} {e : Ev} (h : s.pageOn e.page = true) :
    s.raise e = if bit (s.get (EVT_EN e.page)) e.bit = true then
        ((s.noted e).setBitOf (EVT_RAW e.page) e.bit true).arm
          (((s.noted e).setBitOf (EVT_RAW e.page) e.bit true).get (EVC_MAP.VECTOR e.num))
      else (s.noted e).setBitOf (EVT_RAW e.page) e.bit true := by
  simp [State.raise, h, State.when, State.noted]

@[simp] theorem State.get_countArming (s : State) (v : Nat) (f : Fld) : (s.countArming v).get f = s.get f := rfl
@[simp] theorem State.countArming_mem (s : State) (v : Nat) : (s.countArming v).mem = s.mem := rfl
@[simp] theorem State.countArming_regs (s : State) (v : Nat) : (s.countArming v).regs = s.regs := rfl

/-- Raising an event changes nothing, or notes it and writes its RAW word, and perhaps EVC_ARMED. -/
theorem State.raise_cases (s : State) (e : Ev) : s.raise e = s ∨
    (∃ v, s.raise e = (s.noted e).set (EVT_RAW e.page) v) ∨
    ∃ v u w, s.raise e = (((s.noted e).set (EVT_RAW e.page) v).countArming u).set EVC_ARMED.ARMED w := by
  by_cases h : s.pageOn e.page = true
  · rw [State.raise_on h]
    split
    · exact .inr (.inr ⟨_, _, _, rfl⟩)
    · exact .inr (.inl ⟨_, rfl⟩)
  · exact .inl (State.raise_off (by simpa using h))

@[simp] theorem State.raise_mem (s : State) (e : Ev) : (s.raise e).mem = s.mem := by
  obtain h | ⟨v, h⟩ | ⟨v, u, w, h⟩ := State.raise_cases s e <;> rw [h] <;> simp

/-- Raising an event touches its page's RAW word and EVC_ARMED alone (R240). -/
theorem State.get_raise_ne (s : State) {e : Ev} {f : Fld} (h : (EVT_RAW e.page).key ≠ f.key)
    (h' : EVC_ARMED.ARMED.key ≠ f.key) : (s.raise e).get f = s.get f := by
  obtain hc | ⟨v, hc⟩ | ⟨v, u, w, hc⟩ := State.raise_cases s e
  · rw [hc]
  · rw [hc, State.get_set_ne _ _ h, State.get_noted]
  · rw [hc, State.get_set_ne _ _ h', State.get_countArming, State.get_set_ne _ _ h, State.get_noted]

theorem setBit_testBit (x i : Nat) : (setBit x i).testBit i = true := by
  simp [setBit, Nat.testBit_or, Nat.testBit_shiftLeft]

/-- A raised event's RAW bit is set while its page's domain is on (R234, R240). -/
theorem State.raise_raw (s : State) {e : Ev} (on : s.pageOn e.page = true) (hb : e.bit < 32)
    (hp : (EVT_RAW e.page).key ≠ EVC_ARMED.ARMED.key) :
    bit ((s.raise e).get (EVT_RAW e.page)) e.bit = true := by
  have key : ∀ t : State, bit ((t.setBitOf (EVT_RAW e.page) e.bit true).get (EVT_RAW e.page)) e.bit = true := by
    intro t
    have hw : (EVT_RAW e.page).w = 32 := rfl
    simp only [State.setBitOf, if_true, State.get_set_same, bit, hw]
    rw [Nat.testBit_mod_two_pow]
    simp [hb, setBit_testBit]
  rw [State.raise_on on]
  split
  · rw [State.arm, State.setBitOf, State.get_set_ne _ _ (Ne.symm hp), State.get_countArming]
    exact key _
  · exact key _

-- Result windows (R249) ----------------------------------------------------------------------------------------------

@[simp] theorem State.resAccept_valid (s : State) (w : ResWin) : (s.resAccept w).get w.valid = 0 := by
  simp [State.resAccept]

-- Frame-store bytes and the canonical form ---------------------------------------------------------------------------

@[simp] theorem State.byte_setByte_same (s : State) (a : Nat) (b : Byte) : (s.setByte a b).byte a = b :=
  Tbl.getD_setD_same _ _ _ _

theorem State.byte_setByte_ne (s : State) {a c : Nat} (b : Byte) (h : a ≠ c) : (s.setByte a b).byte c = s.byte c :=
  Tbl.getD_setD_ne _ _ _ _ h

/-- A write of one byte keeps the memory's canonical form. -/
theorem Memory.wf_set {m : List Host.Cell} (a : Nat) (b : Byte) (h : Memory.wf m = true) :
    Memory.wf (Memory.set m a b) = true := by
  simp only [Memory.wf, Bool.and_eq_true, List.all_eq_true] at h ⊢
  obtain ⟨hs, hn⟩ := h
  refine ⟨Tbl.sorted_setD _ _ _ hs, fun p hp => ?_⟩
  unfold Memory.set Tbl.setD at hp
  split at hp
  · exact hn p (Tbl.mem_del hp)
  · rcases Tbl.mem_put hp with rfl | hp
    · simpa using ‹¬b = 0›
    · exact hn p hp

/-- Dropping bytes keeps the memory's canonical form. -/
theorem Memory.wf_filter {m : List Host.Cell} (f : Host.Cell → Bool) (h : Memory.wf m = true) :
    Memory.wf (m.filter f) = true := by
  simp only [Memory.wf, Bool.and_eq_true, List.all_eq_true] at h ⊢
  exact ⟨Tbl.sorted_filter f h.1, fun p hp => h.2 p (List.mem_filter.1 hp).1⟩

theorem Canonical.set {s : State} (h : Canonical s) (f : Fld) (v : Nat) : Canonical (s.set f v) :=
  ⟨Tbl.sorted_setD _ _ _ h.1, h.2⟩

theorem Canonical.setByte {s : State} (h : Canonical s) (a : Nat) (b : Byte) : Canonical (s.setByte a b) :=
  ⟨h.1, Memory.wf_set a b h.2⟩

theorem Canonical.setBytes {s : State} (h : Canonical s) (a : Nat) (l : List Byte) : Canonical (s.setBytes a l) := by
  induction l generalizing s a with
  | nil => exact h
  | cons b t ih => exact ih (h.setByte a b) (a + 1)

/-- Whatever keeps registers and bytes keeps the canonical form. -/
theorem Canonical.same {s t : State} (h : Canonical s) (hr : t.regs = s.regs) (hm : t.mem = s.mem) : Canonical t :=
  ⟨hr ▸ h.1, hm ▸ h.2⟩

theorem Canonical.raise {s : State} (h : Canonical s) (e : Ev) : Canonical (s.raise e) := by
  have hn : Canonical (s.noted e) := h.same (by simp) (by simp)
  obtain hc | ⟨v, hc⟩ | ⟨v, u, w, hc⟩ := State.raise_cases s e <;> rw [hc]
  · exact h
  · exact hn.set _ _
  · exact Canonical.set (Canonical.same (hn.set (EVT_RAW e.page) v) rfl rfl) _ _

/-- Folding operations that each keep the form keeps it. -/
theorem Canonical.foldl {β : Type} {f : State → β → State} (hf : ∀ t b, Canonical t → Canonical (f t b)) (l : List β)
    {s : State} (h : Canonical s) : Canonical (l.foldl f s) := by
  induction l generalizing s with
  | nil => exact h
  | cons b t ih => exact ih (hf s b h)

theorem reset_canonical : Canonical State.reset := ⟨rfl, rfl⟩

-- Frames -------------------------------------------------------------------------------------------------------------

theorem SameBytes.of_mem {s t : State} (h : t.mem = s.mem) : SameBytes s t := fun a => State.byte_of_mem h a

theorem RegsBut.set (s : State) (f : Fld) (v : Nat) : RegsBut [f] s (s.set f v) :=
  fun _ h => State.get_set_ne s v (h f (List.mem_singleton.2 rfl))

theorem RegsBut.trans {fs gs : List Fld} {s t u : State} (h : RegsBut fs s t) (h' : RegsBut gs t u) :
    RegsBut (fs ++ gs) s u := fun f hf =>
  (h' f fun g hg => hf g (List.mem_append_right _ hg)).trans (h f fun g hg => hf g (List.mem_append_left _ hg))

theorem RegsBut.of_regs {s t : State} (h : t.regs = s.regs) : RegsBut [] s t := fun f _ => State.get_of_regs h f

end Machine
end Sys2Proof
end

