-- ==== Sys2Proof/Laws/Events.lean ====
section
/-!
SUPPORT. Sys2Proof/Laws/Events.lean: what counting and raising an event leave, one lemma per field of State; reads of a state
written out.
-/
namespace Sys2Proof.Machine

variable (s : State)

@[simp] theorem State.count_pending (c n : Nat) : (s.count c n).pending = s.pending := by unfold State.count; split <;> rfl
@[simp] theorem State.count_hubIdent (c n : Nat) : (s.count c n).hubIdent = s.hubIdent := by unfold State.count; split <;> rfl
@[simp] theorem State.count_identKey (c n : Nat) : (s.count c n).identKey = s.identKey := by unfold State.count; split <;> rfl
@[simp] theorem State.count_out (c n : Nat) : (s.count c n).out = s.out := by unfold State.count; split <;> rfl
@[simp] theorem State.count_freeCtr (c n : Nat) : (s.count c n).freeCtr = s.freeCtr := by unfold State.count; split <;> rfl
@[simp] theorem State.count_chain (c n : Nat) : (s.count c n).chain = s.chain := by unfold State.count; split <;> rfl
@[simp] theorem State.count_clk (c n : Nat) : (s.count c n).clk = s.clk := by unfold State.count; split <;> rfl
@[simp] theorem State.count_time (c n : Nat) : (s.count c n).time = s.time := by unfold State.count; split <;> rfl
@[simp] theorem State.count_lanes (c n : Nat) : (s.count c n).lanes = s.lanes := by unfold State.count; split <;> rfl
@[simp] theorem State.count_links (c n : Nat) : (s.count c n).links = s.links := by unfold State.count; split <;> rfl
@[simp] theorem State.count_flows (c n : Nat) : (s.count c n).flows = s.flows := by unfold State.count; split <;> rfl
@[simp] theorem State.count_wheel (c n : Nat) : (s.count c n).wheel = s.wheel := by unfold State.count; split <;> rfl
@[simp] theorem State.count_integ (c n : Nat) : (s.count c n).integ = s.integ := by unfold State.count; split <;> rfl
@[simp] theorem State.count_ctl (c n : Nat) : (s.count c n).ctl = s.ctl := by unfold State.count; split <;> rfl
@[simp] theorem State.count_host (c n : Nat) : (s.count c n).host = s.host := by unfold State.count; split <;> rfl
@[simp] theorem State.count_disp (c n : Nat) : (s.count c n).disp = s.disp := by unfold State.count; split <;> rfl
@[simp] theorem State.count_bridge (c n : Nat) : (s.count c n).bridge = s.bridge := by unfold State.count; split <;> rfl
@[simp] theorem State.count_ctp (c n : Nat) : (s.count c n).ctp = s.ctp := by unfold State.count; split <;> rfl
@[simp] theorem State.count_eye (c n : Nat) : (s.count c n).eye = s.eye := by unfold State.count; split <;> rfl
@[simp] theorem State.count_nv (c n : Nat) : (s.count c n).nv = s.nv := by unfold State.count; split <;> rfl
@[simp] theorem State.count_sec (c n : Nat) : (s.count c n).sec = s.sec := by unfold State.count; split <;> rfl
@[simp] theorem State.count_fw (c n : Nat) : (s.count c n).fw = s.fw := by unfold State.count; split <;> rfl
@[simp] theorem State.count_uptime (c n : Nat) : (s.count c n).uptime = s.uptime := by unfold State.count; split <;> rfl
@[simp] theorem State.count_chip (c n : Nat) : (s.count c n).chip = s.chip := by unfold State.count; split <;> rfl

@[simp] theorem State.noted_pending (e : Ev) : (s.noted e).pending = s.pending := by simp [State.noted, State.noteRaise, State.noteNew]
@[simp] theorem State.noted_hubIdent (e : Ev) : (s.noted e).hubIdent = s.hubIdent := by simp [State.noted, State.noteRaise, State.noteNew]
@[simp] theorem State.noted_identKey (e : Ev) : (s.noted e).identKey = s.identKey := by simp [State.noted, State.noteRaise, State.noteNew]
@[simp] theorem State.noted_out (e : Ev) : (s.noted e).out = s.out := by simp [State.noted, State.noteRaise, State.noteNew]
@[simp] theorem State.noted_freeCtr (e : Ev) : (s.noted e).freeCtr = s.freeCtr := by simp [State.noted, State.noteRaise, State.noteNew]
@[simp] theorem State.noted_chain (e : Ev) : (s.noted e).chain = s.chain := by simp [State.noted, State.noteRaise, State.noteNew]
@[simp] theorem State.noted_clk (e : Ev) : (s.noted e).clk = s.clk := by simp [State.noted, State.noteRaise, State.noteNew]
@[simp] theorem State.noted_time (e : Ev) : (s.noted e).time = s.time := by simp [State.noted, State.noteRaise, State.noteNew]
@[simp] theorem State.noted_lanes (e : Ev) : (s.noted e).lanes = s.lanes := by simp [State.noted, State.noteRaise, State.noteNew]
@[simp] theorem State.noted_links (e : Ev) : (s.noted e).links = s.links := by simp [State.noted, State.noteRaise, State.noteNew]
@[simp] theorem State.noted_flows (e : Ev) : (s.noted e).flows = s.flows := by simp [State.noted, State.noteRaise, State.noteNew]
@[simp] theorem State.noted_wheel (e : Ev) : (s.noted e).wheel = s.wheel := by simp [State.noted, State.noteRaise, State.noteNew]
@[simp] theorem State.noted_integ (e : Ev) : (s.noted e).integ = s.integ := by simp [State.noted, State.noteRaise, State.noteNew]
@[simp] theorem State.noted_host (e : Ev) : (s.noted e).host = s.host := by simp [State.noted, State.noteRaise, State.noteNew]
@[simp] theorem State.noted_disp (e : Ev) : (s.noted e).disp = s.disp := by simp [State.noted, State.noteRaise, State.noteNew]
@[simp] theorem State.noted_bridge (e : Ev) : (s.noted e).bridge = s.bridge := by simp [State.noted, State.noteRaise, State.noteNew]
@[simp] theorem State.noted_ctp (e : Ev) : (s.noted e).ctp = s.ctp := by simp [State.noted, State.noteRaise, State.noteNew]
@[simp] theorem State.noted_eye (e : Ev) : (s.noted e).eye = s.eye := by simp [State.noted, State.noteRaise, State.noteNew]
@[simp] theorem State.noted_nv (e : Ev) : (s.noted e).nv = s.nv := by simp [State.noted, State.noteRaise, State.noteNew]
@[simp] theorem State.noted_sec (e : Ev) : (s.noted e).sec = s.sec := by simp [State.noted, State.noteRaise, State.noteNew]
@[simp] theorem State.noted_fw (e : Ev) : (s.noted e).fw = s.fw := by simp [State.noted, State.noteRaise, State.noteNew]
@[simp] theorem State.noted_uptime (e : Ev) : (s.noted e).uptime = s.uptime := by simp [State.noted, State.noteRaise, State.noteNew]
@[simp] theorem State.noted_chip (e : Ev) : (s.noted e).chip = s.chip := by simp [State.noted, State.noteRaise, State.noteNew]

@[simp] theorem State.countArming_pending (u : Nat) : (s.countArming u).pending = s.pending := rfl
@[simp] theorem State.countArming_hubIdent (u : Nat) : (s.countArming u).hubIdent = s.hubIdent := rfl
@[simp] theorem State.countArming_identKey (u : Nat) : (s.countArming u).identKey = s.identKey := rfl
@[simp] theorem State.countArming_out (u : Nat) : (s.countArming u).out = s.out := rfl
@[simp] theorem State.countArming_freeCtr (u : Nat) : (s.countArming u).freeCtr = s.freeCtr := rfl
@[simp] theorem State.countArming_chain (u : Nat) : (s.countArming u).chain = s.chain := rfl
@[simp] theorem State.countArming_clk (u : Nat) : (s.countArming u).clk = s.clk := rfl
@[simp] theorem State.countArming_time (u : Nat) : (s.countArming u).time = s.time := rfl
@[simp] theorem State.countArming_lanes (u : Nat) : (s.countArming u).lanes = s.lanes := rfl
@[simp] theorem State.countArming_links (u : Nat) : (s.countArming u).links = s.links := rfl
@[simp] theorem State.countArming_flows (u : Nat) : (s.countArming u).flows = s.flows := rfl
@[simp] theorem State.countArming_wheel (u : Nat) : (s.countArming u).wheel = s.wheel := rfl
@[simp] theorem State.countArming_integ (u : Nat) : (s.countArming u).integ = s.integ := rfl
@[simp] theorem State.countArming_host (u : Nat) : (s.countArming u).host = s.host := rfl
@[simp] theorem State.countArming_disp (u : Nat) : (s.countArming u).disp = s.disp := rfl
@[simp] theorem State.countArming_bridge (u : Nat) : (s.countArming u).bridge = s.bridge := rfl
@[simp] theorem State.countArming_ctp (u : Nat) : (s.countArming u).ctp = s.ctp := rfl
@[simp] theorem State.countArming_eye (u : Nat) : (s.countArming u).eye = s.eye := rfl
@[simp] theorem State.countArming_nv (u : Nat) : (s.countArming u).nv = s.nv := rfl
@[simp] theorem State.countArming_sec (u : Nat) : (s.countArming u).sec = s.sec := rfl
@[simp] theorem State.countArming_fw (u : Nat) : (s.countArming u).fw = s.fw := rfl
@[simp] theorem State.countArming_uptime (u : Nat) : (s.countArming u).uptime = s.uptime := rfl
@[simp] theorem State.countArming_chip (u : Nat) : (s.countArming u).chip = s.chip := rfl

@[simp] theorem State.raise_pending (e : Ev) : (s.raise e).pending = s.pending := by
  obtain h | ⟨v, h⟩ | ⟨v, u, w, h⟩ := State.raise_cases s e <;> rw [h] <;> simp
@[simp] theorem State.raise_hubIdent (e : Ev) : (s.raise e).hubIdent = s.hubIdent := by
  obtain h | ⟨v, h⟩ | ⟨v, u, w, h⟩ := State.raise_cases s e <;> rw [h] <;> simp
@[simp] theorem State.raise_identKey (e : Ev) : (s.raise e).identKey = s.identKey := by
  obtain h | ⟨v, h⟩ | ⟨v, u, w, h⟩ := State.raise_cases s e <;> rw [h] <;> simp
@[simp] theorem State.raise_out (e : Ev) : (s.raise e).out = s.out := by
  obtain h | ⟨v, h⟩ | ⟨v, u, w, h⟩ := State.raise_cases s e <;> rw [h] <;> simp
@[simp] theorem State.raise_freeCtr (e : Ev) : (s.raise e).freeCtr = s.freeCtr := by
  obtain h | ⟨v, h⟩ | ⟨v, u, w, h⟩ := State.raise_cases s e <;> rw [h] <;> simp
@[simp] theorem State.raise_chain (e : Ev) : (s.raise e).chain = s.chain := by
  obtain h | ⟨v, h⟩ | ⟨v, u, w, h⟩ := State.raise_cases s e <;> rw [h] <;> simp
@[simp] theorem State.raise_clk (e : Ev) : (s.raise e).clk = s.clk := by
  obtain h | ⟨v, h⟩ | ⟨v, u, w, h⟩ := State.raise_cases s e <;> rw [h] <;> simp
@[simp] theorem State.raise_time (e : Ev) : (s.raise e).time = s.time := by
  obtain h | ⟨v, h⟩ | ⟨v, u, w, h⟩ := State.raise_cases s e <;> rw [h] <;> simp
@[simp] theorem State.raise_lanes (e : Ev) : (s.raise e).lanes = s.lanes := by
  obtain h | ⟨v, h⟩ | ⟨v, u, w, h⟩ := State.raise_cases s e <;> rw [h] <;> simp
@[simp] theorem State.raise_links (e : Ev) : (s.raise e).links = s.links := by
  obtain h | ⟨v, h⟩ | ⟨v, u, w, h⟩ := State.raise_cases s e <;> rw [h] <;> simp
@[simp] theorem State.raise_flows (e : Ev) : (s.raise e).flows = s.flows := by
  obtain h | ⟨v, h⟩ | ⟨v, u, w, h⟩ := State.raise_cases s e <;> rw [h] <;> simp
@[simp] theorem State.raise_wheel (e : Ev) : (s.raise e).wheel = s.wheel := by
  obtain h | ⟨v, h⟩ | ⟨v, u, w, h⟩ := State.raise_cases s e <;> rw [h] <;> simp
@[simp] theorem State.raise_integ (e : Ev) : (s.raise e).integ = s.integ := by
  obtain h | ⟨v, h⟩ | ⟨v, u, w, h⟩ := State.raise_cases s e <;> rw [h] <;> simp
@[simp] theorem State.raise_host (e : Ev) : (s.raise e).host = s.host := by
  obtain h | ⟨v, h⟩ | ⟨v, u, w, h⟩ := State.raise_cases s e <;> rw [h] <;> simp
@[simp] theorem State.raise_disp (e : Ev) : (s.raise e).disp = s.disp := by
  obtain h | ⟨v, h⟩ | ⟨v, u, w, h⟩ := State.raise_cases s e <;> rw [h] <;> simp
@[simp] theorem State.raise_bridge (e : Ev) : (s.raise e).bridge = s.bridge := by
  obtain h | ⟨v, h⟩ | ⟨v, u, w, h⟩ := State.raise_cases s e <;> rw [h] <;> simp
@[simp] theorem State.raise_ctp (e : Ev) : (s.raise e).ctp = s.ctp := by
  obtain h | ⟨v, h⟩ | ⟨v, u, w, h⟩ := State.raise_cases s e <;> rw [h] <;> simp
@[simp] theorem State.raise_eye (e : Ev) : (s.raise e).eye = s.eye := by
  obtain h | ⟨v, h⟩ | ⟨v, u, w, h⟩ := State.raise_cases s e <;> rw [h] <;> simp
@[simp] theorem State.raise_nv (e : Ev) : (s.raise e).nv = s.nv := by
  obtain h | ⟨v, h⟩ | ⟨v, u, w, h⟩ := State.raise_cases s e <;> rw [h] <;> simp
@[simp] theorem State.raise_sec (e : Ev) : (s.raise e).sec = s.sec := by
  obtain h | ⟨v, h⟩ | ⟨v, u, w, h⟩ := State.raise_cases s e <;> rw [h] <;> simp
@[simp] theorem State.raise_fw (e : Ev) : (s.raise e).fw = s.fw := by
  obtain h | ⟨v, h⟩ | ⟨v, u, w, h⟩ := State.raise_cases s e <;> rw [h] <;> simp
@[simp] theorem State.raise_uptime (e : Ev) : (s.raise e).uptime = s.uptime := by
  obtain h | ⟨v, h⟩ | ⟨v, u, w, h⟩ := State.raise_cases s e <;> rw [h] <;> simp
@[simp] theorem State.raise_chip (e : Ev) : (s.raise e).chip = s.chip := by
  obtain h | ⟨v, h⟩ | ⟨v, u, w, h⟩ := State.raise_cases s e <;> rw [h] <;> simp

@[simp] theorem State.when_true (f : State → State) : s.when true f = f s := rfl
@[simp] theorem State.when_false (f : State → State) : s.when false f = s := rfl

/-- A state written out with the registers of s reads the registers of s. -/
@[simp] theorem State.get_mk (f : Fld) {x0 x1 x2 x3 x4 x5 x6 x7 x8 x9 x10 x11 x12 x13 x14 x15 x16 x17 x18 x19 x20 x21 x22 x23 x24 x25 x26} :
    State.get (State.mk s.regs x0 x1 x2 x3 x4 x5 x6 x7 x8 x9 x10 x11 x12 x13 x14 x15 x16 x17 x18 x19 x20 x21 x22 x23 x24 x25 x26) f = s.get f := rfl

/-- Whether a page is on depends on PWRD_DOMAIN_STAT alone. -/
theorem State.pageOn_of_get {s t : State} (h : t.get PWRD_DOMAIN_STAT.POWERED = s.get PWRD_DOMAIN_STAT.POWERED) (p : Nat) :
    t.pageOn p = s.pageOn p := by
  unfold State.pageOn State.domainOn; rw [h]

/-- Raising event e is `Raised` from any state whose domains are those of s. -/
theorem State.raised_self {s t : State} (e : Ev) (h : t.get PWRD_DOMAIN_STAT.POWERED = s.get PWRD_DOMAIN_STAT.POWERED)
    (hb : e.bit < 32) (hp : (EVT_RAW e.page).key ≠ EVC_ARMED.ARMED.key) : Raised e s (t.raise e) := fun on =>
  State.raise_raw t ((State.pageOn_of_get h e.page).trans on) hb hp

end Sys2Proof.Machine
end

