-- ==== Sys2Proof/Machine/Tap.lean ====
section
/-!
DEFINITION. Sys2Proof/Machine/Tap.lean: the test access port on the DBG balls (R489): the controller of IEEE 1149.1, IDCODE, BYPASS,
SAMPLE/PRELOAD and EXTEST over the low-voltage signal balls, and what level 3 opens. The table has no row for these balls, so no command
drives the port (log entry 92).
-/
namespace Sys2Proof.Machine

/-- The controller's next state for a level of DBG_TMS. -/
def TapState.next (c : TapState) (tms : Bool) : TapState :=
  match c with
  | .testLogicReset => if tms then .testLogicReset else .runTestIdle
  | .runTestIdle => if tms then .selectDr else .runTestIdle
  | .selectDr => if tms then .selectIr else .captureDr
  | .captureDr => if tms then .exit1Dr else .shiftDr
  | .shiftDr => if tms then .exit1Dr else .shiftDr
  | .exit1Dr => if tms then .updateDr else .pauseDr
  | .pauseDr => if tms then .exit2Dr else .pauseDr
  | .exit2Dr => if tms then .updateDr else .shiftDr
  | .updateDr => if tms then .selectDr else .runTestIdle
  | .selectIr => if tms then .testLogicReset else .captureIr
  | .captureIr => if tms then .exit1Ir else .shiftIr
  | .shiftIr => if tms then .exit1Ir else .shiftIr
  | .exit1Ir => if tms then .updateIr else .pauseIr
  | .pauseIr => if tms then .exit2Ir else .pauseIr
  | .exit2Ir => if tms then .updateIr else .shiftIr
  | .updateIr => if tms then .selectDr else .runTestIdle

/-- IDCODE of a silicon revision: 0x1964_0963 on revision 1, the revision in bits [31:28]. -/
def tapIdcode (rev : Nat) : Nat := rev % 16 * 2 ^ 28 + 0x9640963

/-- The instruction that a code names; all ones is BYPASS, as IEEE 1149.1 has it. -/
def tapInstrOf (code : List Bool) : TapInstr :=
  if code.all id then .bypass
  else match Config.tapCode code with
    | 0 => .bypass
    | 1 => .idcode
    | 2 => .samplePreload
    | 3 => .extest
    | k => .other k

/-- The instruction that acts: another than the four acts only at debug level 3, and is BYPASS below it. -/
def State.tapActs (s : State) : TapInstr :=
  match s.tap.instr with
  | .other k => if s.dbgLevel = 3 then .other k else .bypass
  | i => i

/-- TEST_EN is read only while debug is open at level 3. -/
def State.testMode (s : State) (testEn : Bool) : Bool := testEn && s.dbgLevel == 3

/-- What EXTEST drives onto the low-voltage signal balls; none leaves them to the hub. -/
def State.tapDrives (s : State) : Option (List Bool) := if s.tapActs = .extest then some s.tap.latch else none

def bitsOf (n v : Nat) : List Bool := (List.range n).map (bit v)

/-- What Capture-DR loads: the balls' levels for the boundary register, IDCODE, or the bypass bit. The register of another instruction
is not described: one open bit. -/
def State.tapCapture (s : State) (balls : List Bool) : List Bool :=
  match s.tapActs with
  | .idcode => bitsOf 32 (tapIdcode Config.siliconRev)
  | .samplePreload => balls
  | .extest => balls
  | .bypass => [false]
  | .other _ => [s.free % 2 == 1]

/-- One rising edge of DBG_TCK: DBG_TMS, DBG_TDI and the levels of the low-voltage signal balls. -/
def State.tapClock (s : State) (tms tdi : Bool) (balls : List Bool) : State :=
  let t := s.tap
  let t1 : TapSt := match t.ctrl with
    | .testLogicReset => { t with instr := .idcode }
    | .captureDr => { t with shift := s.tapCapture balls }
    | .captureIr => { t with shift := Config.tapIr }
    | .shiftDr => { t with shift := t.shift.drop 1 ++ [tdi] }
    | .shiftIr => { t with shift := t.shift.drop 1 ++ [tdi] }
    | .updateDr => if s.tapActs = .samplePreload ∨ s.tapActs = .extest then { t with latch := t.shift } else t
    | .updateIr => { t with instr := tapInstrOf t.shift }
    | _ => t
  { s.useFree with tap := { t1 with ctrl := t.ctrl.next tms } }

/-- DBG_TDO while a register is shifted. -/
def State.tapOut (s : State) : Bool := s.tap.shift.headD false

/-- DBG_TRST_N low, or power-up. -/
def State.tapReset (s : State) : State := { s with tap := TapSt.reset }

end Sys2Proof.Machine
end

