-- ==== Sys2Proof/WellFormed.lean ====
section
/-!
DEFINITION. Sys2Proof/WellFormed.lean: which commands can come from outside: every operand lies in the range that the layouts of
the spec give it. A meaning is total all the same.
-/
namespace Sys2Proof

/-- A control packet's fields fit their places (Tables 05.13, 05.14). -/
def CtlPkt.wf (p : CtlPkt) : Bool :=
  decide (p.op < 32 ∧ p.dst < 256 ∧ p.src < 256 ∧ p.tag < 65536 ∧ p.offset < 2 ^ 26 ∧ p.bytes < 65536)
    && decide (p.status < 256 ∧ p.hops < 256 ∧ p.viaId < 256 ∧ p.viaPort < 4)
    && decide (p.opdata.length = 6 ∧ p.data.length ≤ 32 * 320)

/-- A header's fields fit their places (Table 05.1), and LEN is at most 320 (R134). -/
def Hdr.wf (h : Hdr) : Bool :=
  decide (h.flow < 2047 ∧ h.cls < 4 ∧ h.len ≤ 320 ∧ h.mx < 32 ∧ h.seq < 65536 ∧ h.ttag < 2 ^ 32 ∧ h.info.length = 20)

/-- A packet has LEN data slots of 32 bytes. -/
def Pkt.wf (p : Pkt) : Bool := p.hdr.wf && decide (p.data.length = 32 * p.hdr.len)

/-- A stamp is nine bytes (Table 05.15). -/
def Stamp.wf (t : Stamp) : Bool := decide (t.ticks < 2 ^ 64 ∧ t.phase < 256)

/-- A STEP_NOTICE's fields fit their places (Table 05.15). -/
def StepNote.wf (n : StepNote) : Bool :=
  decide (n.id < 65536 ∧ n.apply < 2 ^ 64 ∧ -(2 ^ 63) ≤ n.d ∧ n.d < 2 ^ 63)

/-- A CAP message's fields fit their places (Table 04.6). -/
def Cap.wf (c : Cap) : Bool :=
  decide (c.majorMax < 16 ∧ c.majorMin < 16 ∧ c.minor < 256 ∧ c.cls < 4 ∧ c.rxMask < 16 ∧ c.hubId < 256 ∧ c.depth < 256)
    && decide (c.features < 65536 ∧ c.part < 65536 ∧ c.ident.length = 16 ∧ c.initCred.length = 4)
    && c.initCred.all fun x => decide (x < 65536)

/-- A 1.x frame's word and CRC are 32 bits (Table 04.10). -/
def Frame1x.wf (f : Frame1x) : Bool := decide (f.word < 2 ^ 32 ∧ f.crc < 2 ^ 32)

/-- A TLP header is three or four doublewords. -/
def Tlp.wf (t : Tlp) : Bool := t.header.length == 12 || t.header.length == 16

def HostTlp.wf : HostTlp → Bool
  | .route t => t.wf
  | .portConfig v _ _ => decide (v < 16)
  | .msixEntry v _ data _ => decide (v < 64 ∧ data < 2 ^ 32)
  | .msixCtrl _ _ => true
  | .bar0 b => decide (b < 2 ^ 64)
  | .bar2 b => decide (b < 2 ^ 64)
  | .barRead k => k == 0 || k == 2
  | .memEnable _ => true
  | .identify b d => decide (d < 32) && (match b with
    | .host | .internal => true
    | .secondary v | .group v => decide (v < 16))

/-- REFSEL is two straps (Table 02.1). -/
def Straps.wf (x : Straps) : Bool := decide (x.refsel < 4)

/-- A wake source is one of the ten bits of Table 14.10, a CFG wake names one of four ports. -/
def Wake.wf (w : Wake) : Bool := decide (w.src < 10 ∧ w.cfg < 4 ∧ w.also < 1024)

/-- A doorbell's tag is one byte. -/
def MbxWay.wf : MbxWay → Bool
  | .ring tag => decide (tag < 256)
  | .run => true

/-- A remote requester has a hub id and comes by a Welt port. -/
def Src.wf : Src → Bool
  | .hub id port => decide (id < 256 ∧ port < 8)
  | _ => true

/-- The operands of a command lie in their ranges. -/
def Instr.wf : Instr → Bool
  | .vstbyPowerUp x _ => x.wf
  | .railPgTimeout x _ => x.wf
  | .vstbyLoss => true
  | .railPgLoss => true
  | .rootLinkUpReport ident _ => decide (ident < 2 ^ 128)
  | .assignIdRx p => p.wf
  | .hubJoined id => decide (id < 256)
  | .rootLinkDownReport => true
  | .rootHoldExpiry id => decide (id < 256)
  | .spokeHoldExpiry => true
  | .chainRouteWrite src j v => src.wf && decide (j < 256) && decide (v < 2 ^ 32)
  | .controlPacketRx _ q _ => q.wf
  | .refinPresent => true
  | .refinLoss => true
  | .spokeRefinLoss => true
  | .lineageSlewDone => true
  | .sscEnWrite _ => true
  | .sscApply => true
  | .holdoverEntry _ => true
  | .forceHoldWrite _ => true
  | .ratioValidSet _ => true
  | .lineagePllLock _ => true
  | .lineageLocked _ => true
  | .delayReqTimer => true
  | .delayReqRx _ exch => decide (exch < 65536)
  | .delayRespRx exch t4 t1 _ => decide (exch < 65536) && t4.wf && t1.wf
  | .stepNoticeRx n => n.wf
  | .chainTimeStepApply => true
  | .freezeEnd => true
  | .ctmCapture tag => decide (tag < 256)
  | .ctmHopReport tag port => decide (tag < 256) && decide (port < 4)
  | .trainingStart _ => true
  | .alignBlockRx _ _ b _ => decide (b.length = 8)
  | .txOverrideApply _ _ => true
  | .sendRxReady _ _ => true
  | .partialReadyTimer _ mask _ => decide (mask < 16)
  | .sendGo _ => true
  | .trainTimeout _ => true
  | .blockLockAcquired _ _ => true
  | .blockLockLost _ _ _ => true
  | .compatEntry _ => true
  | .compatLaneLock _ _ => true
  | .compatLockLoss _ _ => true
  | .skipSetSend _ => true
  | .hushEntry _ => true
  | .hushExit _ => true
  | .wakeBlocksRx _ _ => true
  | .sleepEntry _ _ => true
  | .tackSend _ => true
  | .tackDetected _ => true
  | .sleepExitLanesReady _ mask => decide (mask < 16)
  | .sleepExitFallback _ => true
  | .testWrite _ _ => true
  | .retrain _ => true
  | .prbsCheckerEnable _ _ _ => true
  | .eyeScanGo _ => true
  | .eyeScanDone _ _ => true
  | .flightSend _ => true
  | .headerSlotRx _ b _ => decide (b.length = 32)
  | .linkMessageRx _ b => decide (b.length = 32)
  | .sealRx _ _ b _ => decide (b.length = 32)
  | .nakRx _ ack rpl mask => decide (ack < 65536) && decide (rpl < 4) && decide (mask < 16)
  | .nakTimeout _ => true
  | .packetPoisoned a lpn => decide (a < 8) && decide (lpn < 65536)
  | .capRx _ c _ => c.wf
  | .capDoneRx _ _ => true
  | .linkDown _ _ => true
  | .sessionExpiry _ => true
  | .laneReadmit _ _ => true
  | .hushRequest _ => true
  | .hushReqRx _ at_ => decide (at_ < 256)
  | .hushAckRx _ at_ => decide (at_ < 256)
  | .hushExitTimer _ => true
  | .hushExitPacket _ => true
  | .sleepRequestWrite _ => true
  | .sleepReqRx _ at_ => decide (at_ < 256)
  | .kxShareRx _ _ => true
  | .kxAuthRx _ _ _ _ => true
  | .keysInstalled _ => true
  | .kxDoneRx _ => true
  | .compatFrameRx _ f => f.wf
  | .compatAckTimer _ => true
  | .contextWrite _ o v => decide (o < 256) && decide (v < 2 ^ 32)
  | .activate _ => true
  | .drain _ => true
  | .drainComplete _ => true
  | .drainTimeout _ => true
  | .tearDown _ => true
  | .move _ _ => true
  | .flowPacketArrival a _ p lpn => decide (a < 8) && p.wf && decide (lpn < 65536)
  | .packetAdmission _ => true
  | .egressPacketStart _ => true
  | .multicastBranchDrop _ a => decide (a < 8)
  | .heldApplyTime => true
  | .rlbPacketRx _ => true
  | .rlbAckTimer _ => true
  | .rlbFlowControlRx _ ack _ => decide (ack < 65536)
  | .rlbRetransmitTimeout _ => true
  | .partitionApply => true
  | .fence _ _ _ => true
  | .engineFailureDetect _ _ _ _ => true
  | .engineWatchdog _ _ _ => true
  | .rehomeComplete _ => true
  | .epochBoundary => true
  | .wheelPacketBoundary _ _ => true
  | .commitNext wheels tag => decide (wheels < 256) && decide (tag < 256)
  | .commitAt wheels tag => decide (wheels < 256) && decide (tag < 256)
  | .commitAbort tag => decide (tag < 256)
  | .commitStaging => true
  | .commitApply => true
  | .quotaDrained _ => true
  | .mapCopy wheels => decide (wheels < 256)
  | .shadowMapWrite _ o v => decide (o < 16384) && decide (v < 2 ^ 32)
  | .reexpansionDone _ => true
  | .headerParityFail a cls lpn _ => decide (a < 8) && decide (cls < 4) && decide (lpn < 65536)
  | .dataParityFail a i seq _ => decide (a < 8) && decide (i < 2048) && decide (seq < 65536)
  | .cellBufferUncorr i seq => decide (i < 2048) && decide (seq < 65536)
  | .contextUncorr _ => true
  | .tableUncorr _ _ => true
  | .replayUncorr _ => true
  | .awlUncorr => true
  | .scrubPass _ _ => true
  | .adapterPacketDecided a => decide (a < 8)
  | .regWrite src a be v => src.wf && decide (a < 2 ^ 26) && decide (be < 16) && decide (v < 2 ^ 32)
  | .pageLock src p v => src.wf && decide (p < 256) && decide (v < 2 ^ 32)
  | .softReset src p => src.wf && decide (p < 256)
  | .evtEnWrite src p v => src.wf && decide (p < 256) && decide (v < 2 ^ 32)
  | .evtClr src p v => src.wf && decide (p < 256) && decide (v < 2 ^ 32)
  | .evtSet src p v => src.wf && decide (p < 256) && decide (v < 2 ^ 32)
  | .evcSoft src v => src.wf && decide (v < 2 ^ 32)
  | .controlRead _ q => q.wf
  | .controlWrite _ q => q.wf
  | .controlResponseRx q => q.wf
  | .controlRetry tag => decide (tag < 65536)
  | .replayCacheExpiry src tag => decide (src < 256) && decide (tag < 65536)
  | .powerDieWriteDone => true
  | .popWindowRead p => decide (p < 256)
  | .vectorDelivery _ => true
  | .eventPacketRx q _ => q.wf
  | .echo way => way.wf
  | .chipInfo way => way.wf
  | .chainMap way => way.wf
  | .remoteRead way => way.wf
  | .remoteWrite way => way.wf
  | .remoteReadDma way => way.wf
  | .remoteMbx way => way.wf
  | .pathOpen way _ pid _ => way.wf && decide (pid < 65536)
  | .pathClose way => way.wf
  | .mailboxOpRx _ q => q.wf
  | .mbxDone => true
  | .mbxTimeout => true
  | .pcieUpstreamReset _ _ => true
  | .flr => true
  | .downstreamTlp t => t.wf
  | .upstreamTlp t _ => t.wf
  | .rootPortTlpRx _ t => t.wf
  | .endPortLinkControl _ _ _ _ _ => true
  | .rootPortLinkChange _ _ _ _ _ _ => true
  | .hotReset _ => true
  | .ethModeWrite _ v => decide (v < 2 ^ 32)
  | .ethFrameRx _ _ => true
  | .pauseExpiry _ => true
  | .pauseSend _ => true
  | .ethFrameTx _ => true
  | .ptpMapGo => true
  | .ptpMapApply => true
  | .bankInitDone _ => true
  | .rectWrite _ _ p => p.wf
  | .rectCopy _ _ p => p.wf
  | .rectFill _ _ p => p.wf
  | .paletteLoad _ _ p => p.wf
  | .flip _ _ p => p.wf
  | .displayOpDone _ => true
  | .flipDue _ => true
  | .verticalBlank _ => true
  | .genlockWrite _ _ => true
  | .dpTrain _ => true
  | .dpTrainDone _ _ => true
  | .hpdChange _ _ _ => true
  | .hpdLoss _ => true
  | .auxGo _ => true
  | .auxDone _ _ _ => true
  | .lineReq _ p _ _ => p.wf
  | .lineData _ _ p _ => p.wf
  | .lineFetchRequest _ => true
  | .activeLineStart _ perrA perrB _ => perrA.all (fun a => decide (a / 2 ^ 24 = 0)) && perrB.all (fun a => decide (a / 2 ^ 24 = 1))
  | .canFrameRx _ id _ _ _ crc t rec => decide (id < 2 ^ 32) && decide (crc < 2 ^ 24) && decide (t < 2 ^ 64) && decide (rec < 256)
  | .rateTokenRefill _ => true
  | .i2cTargetWrite _ _ _ t => decide (t < 2 ^ 64)
  | .i2cTargetRead _ _ => true
  | .uartMessageEnd _ _ t => decide (t < 2 ^ 64)
  | .gpioEdge _ lines levels t => decide (lines < 256) && decide (levels < 256) && decide (t < 2 ^ 64)
  | .xferGo tag => decide (tag < 256)
  | .xferTimeout => true
  | .bridgeEgressQueue => true
  | .bridgeWrite _ _ _ => true
  | .bridgeRead _ _ _ => true
  | .bridgeResp => true
  | .bridgeEdge => true
  | .bridgeSet => true
  | .semAcq => true
  | .semRel => true
  | .wrappedEgress _ _ => true
  | .canTxTimeout _ => true
  | .canBusOffRecovery _ => true
  | .i2cStretchTimeout _ => true
  | .readAheadDiscard _ _ => true
  | .readAheadAge _ => true
  | .gpioSchedPush v => decide (v < 2 ^ 32)
  | .schedOutputDue => true
  | .semTimeout _ => true
  | .semBreak _ => true
  | .yieldConflict _ hub _ _ => decide (hub < 256)
  | .retractRestart _ => true
  | .sourceAttach _ _ _ => true
  | .sinkAttach _ _ => true
  | .dbAttach _ => true
  | .detach _ => true
  | .infoRetry _ => true
  | .baseContractPg _ => true
  | .sinkPowerGood _ => true
  | .ctpAckRx _ w => decide (w < 65536)
  | .ctpAckTimeout _ => true
  | .infoRx _ w _ => decide (w < 65536)
  | .capsRx _ w _ => decide (w < 65536)
  | .requestRx _ w _ => decide (w < 65536)
  | .acceptRx _ w => decide (w < 65536)
  | .rejectOrWaitRx _ w => decide (w < 65536)
  | .readyRx _ w => decide (w < 65536)
  | .getCapsRx _ w => decide (w < 65536)
  | .swapReqRx _ w => decide (w < 65536)
  | .ctpHardResetRx m => decide (m.header < 2 ^ 32)
  | .reservedTypeRx _ w _ => decide (w < 65536)
  | .sequenceLevelWait _ => true
  | .sequenceTimeout _ => true
  | .transitionSetLevel _ => true
  | .transitionReady _ => true
  | .noReadyTimeout _ => true
  | .transitionBandExit _ => true
  | .sinkWindowExit _ => true
  | .swapOldSourceOff _ => true
  | .swapNewSourcePg _ => true
  | .swapTimeout _ => true
  | .hardResetHoldEnd _ => true
  | .hardResetStuck _ => true
  | .deadBatteryStart x => x.wf
  | .localPgHandover => true
  | .localPgFall => true
  | .ctpSend _ => true
  | .ctpHardResetCmd _ => true
  | .ctpStatus way => way.wf
  | .ctpRenegotiate way => way.wf
  | .ctpSwap way => way.wf
  | .ctpHardReset way => way.wf
  | .channelCommandedOn _ => true
  | .rampComplete _ => true
  | .rampNoRise _ => true
  | .rampTmo _ => true
  | .curveTrip _ _ => true
  | .fastTrip _ => true
  | .overVoltage _ => true
  | .feedUnderVoltage _ => true
  | .feedWindowRecover _ => true
  | .reverseCurrent _ => true
  | .feedForwardBias _ => true
  | .thermalModelStep _ _ _ _ _ _ => true
  | .channelToggle _ => true
  | .coolDownEnd _ => true
  | .fetFailCheck _ => true
  | .feedSwitchover _ => true
  | .primaryTakeback => true
  | .pfailAssert _ _ => true
  | .pfailHoldEnd => true
  | .pfailExternal => true
  | .pwarnRx _ => true
  | .domainSwitchOff _ => true
  | .domainSwitchOn _ => true
  | .domainReady _ => true
  | .domainFault _ => true
  | .stateReqRun => true
  | .stateReqDoze => true
  | .stateReqRetain => true
  | .stateReqHold _ => true
  | .stateReqShelf _ _ => true
  | .dozeClockGate => true
  | .dozeClockUngate => true
  | .retainPortsSlept => true
  | .retainSleepTimeout => true
  | .chipWake w => w.wf
  | .wakeReplayed w => w.wf
  | .wakeTimerExpiry w => w.wf
  | .avsAdjust _ _ => true
  | .bootRomRun _ _ _ _ => true
  | .awlRestartPath _ _ => true
  | .flashlessBoot _ _ => true
  | .policyCheckStart refused => decide (refused < 16)
  | .keyGenerate _ tag _ => decide (tag < 256)
  | .keyDerive _ tag _ _ => decide (tag < 256)
  | .keyEcdh _ tag _ _ => decide (tag < 256)
  | .keyUnwrap _ tag _ _ => decide (tag < 256)
  | .keyClear _ tag _ => decide (tag < 256)
  | .keyPublic _ tag _ => decide (tag < 256)
  | .keyOpComplete => true
  | .keySlotAttrWrite _ _ v => decide (v < 2 ^ 32)
  | .crySha384 tag => decide (tag < 256)
  | .cryHmac tag _ => decide (tag < 256)
  | .cryGcmEncrypt tag _ => decide (tag < 256)
  | .cryGcmDecrypt tag _ => decide (tag < 256)
  | .cryEcdsaSign tag _ => decide (tag < 256)
  | .cryEcdsaVerify tag => decide (tag < 256)
  | .cryMldsaVerify tag => decide (tag < 256)
  | .cryRandom tag => decide (tag < 256)
  | .cryComplete => true
  | .debugChallenge tag => decide (tag < 256)
  | .debugAnswer tag => decide (tag < 256)
  | .debugPassword tag => decide (tag < 256)
  | .debugClose tag => decide (tag < 256)
  | .nonceExpiry => true
  | .keyInfo way => way.wf
  | .quote way => way.wf
  | .lcAdvance way _ _ => way.wf
  | .lcVoid way _ _ => way.wf
  | .signerRevoke way _ _ => way.wf
  | .fwLoad way _ => way.wf
  | .imageHeadRx _ p => p.wf
  | .imageDataRx _ p => p.wf
  | .imageAbortRx _ p => p.wf
  | .imageFetchRx _ p => p.wf
  | .sessionIdleTimeout => true
  | .imageStaged _ => true
  | .fwActivate way _ => way.wf
  | .activationApply => true
  | .fwRollback way => way.wf
  | .fwCommit way _ => way.wf
  | .fwAbort way => way.wf
  | .fwStatus way => way.wf
  | .snapshotPeriodic => true
  | .snapshotGo tag => decide (tag < 256)
  | .snapshotAtCommand tag => decide (tag < 256)
  | .snapshotAtDue => true
  | .snapshotDeferred => true
  | .counterClear => true
  | .dumpRecordWritten _ => true
  | .cfgReadingChange _ _ _ => true
  | .pcieLinkUp _ _ => true
  | .ethLinkChange _ _ _ _ => true
  | .flashChunkWritten _ => true
  | .returnAuthExpiry => true

end Sys2Proof
end

