-- ==== Sys2Proof/Tests/Slice0.lean ====
section
/-!
SUPPORT. Sys2Proof/Tests/Slice0.lean: small states, one witness theorem for each statement with hypotheses, the checks of
WellFormed, a few single steps.
-/
set_option Elab.async false

namespace Sys2Proof.Machine.Tests

-- Small states -------------------------------------------------------------------------------------------------------

/-- A Root whose PLL has locked. -/
def root : State :=
  let s := State.reset.set CHIP_ROLE.ROLE 0 |>.set CHIP_HUB_ID.HUB_ID 0 |>.set CHIP_ROLE.DEPTH 0 |>.set CLK_STAT.LOCKED 1
  { s with clk := { s.clk with refin := true, pll := .refin, everLocked := true }, time := { s.time with run := true } }

/-- A spoke with id 5 whose upstream link is admitted and whose PLL is locked to it. -/
def spoke : State :=
  let s := State.reset.set CHIP_HUB_ID.HUB_ID 5 |>.set CHIP_ROLE.DEPTH 1 |>.set CHIP_HUB_ID.PARENT_ID 0 |>.set CLK_STAT.LOCKED 1
    |>.set CTM_STAT.VALID 1 |>.set CTM_STAT.FREE 0 |>.set (WLT_LINK_STAT.ADMITTED 0) 1
  { s with clk := { s.clk with pll := .upstream, everLocked := true }, time := { s.time with run := true } }.modLink 0
    fun l => { l with capRooted := true }


/-- A packet without data. -/
def pkt (cls seq : Nat) : Pkt := ⟨⟨9, cls, 0, true, true, false, false, false, 0, seq, 0, []⟩, []⟩

/-- A decided packet of context ctx. -/
def fpk (ctx cls a b : Nat) : FlowPkt := ⟨pkt cls 1, ctx, a, 5, true, false, b, 9, false⟩

/-- Context i carries an active flow of type TTYPE and class CLASS from attachment a to attachment b. -/
def flow (s : State) (i tt cls a b : Nat) : State :=
  s.set (CTX5.ACTIVE i) 1 |>.set (CTX0.TTYPE i) tt |>.set (CTX0.CLASS i) cls |>.set (CTX0.IN_ATT i) a
    |>.set (CTX1.OUT_ATT i) b |>.set (CTX1.OUT_LABEL i) 9

/-- The state with its flow state replaced. -/
def fl (s : State) (f : FlowSt → FlowSt) : State := { s with flows := f s.flows }

/-- A command that the Awl has at the head of its queue. -/
def mb (cmd : Nat) (req : List Byte) : MbxCmd := mbxNew cmd 3 req none

/-- The Awl serves, with command c alone in its queue. -/
def rung (s : State) (c : MbxCmd) : State :=
  let t := s.set MBX_STAT.AWL_UP 1 |>.set MBX_STAT.BUSY 1
  { t with ctl := { t.ctl with mbxQueue := [c] } }

/-- The control state replaced. -/
def ct (s : State) (f : CtlSt → CtlSt) : State := { s with ctl := f s.ctl }

/-- Head h's state replaced. -/
def hd (s : State) (h : Head) (f : HeadSt → HeadSt) : State := s.modHead h f

/-- Both banks on; head 1 shows 8-bit surfaces of 16 × 4 pixels on pages 0 and 1. -/
def heads : State :=
  hd (root.set FST_STAT.FSA_ON 1 |>.set FST_STAT.FSB_ON 1 |>.set (DSP_CTRL.FMT 1) 3) 1 fun d =>
    { d with surfs := [⟨0, false, 16, 16, 4⟩, ⟨1, false, 16, 16, 4⟩] }

/-- A display operation's packet: META bytes and data. -/
def dop (meta_ : List Byte) (d : List Byte) : Pkt := ⟨{ (pkt 0 1).hdr with info := meta_, len := ceilDiv d.length 32 }, d⟩

/-- Context 7 leads to head 1. -/
def shown : State := flow heads 7 1 0 1 6

/-- The bridge state replaced. -/
def br (s : State) (f : BridgeSt → BridgeSt) : State := { s with bridge := f s.bridge }

/-- A queued bridge message of context 7 for a bus: kind, identifier, byte 17, payload of one slot at most. -/
def bmsg (bus mx id op : Nat) (d : List Byte) : BrMsg :=
  let pad := 32 * ceilDiv d.length 32 - d.length
  let info := [BitVec.ofNat 8 bus, 9, 13, 0] ++ leBytes 4 id ++ List.replicate 9 0
    ++ [BitVec.ofNat 8 op, 4, BitVec.ofNat 8 pad]
  ⟨bus, 0, 7, ⟨{ (pkt 3 1).hdr with mx := mx, len := ceilDiv d.length 32, info := info }, d ++ List.replicate pad 0⟩, none⟩

/-- The state with one queued bridge message. -/
def qd (s : State) (q : BrMsg) : State := br s fun b => { b with queue := [q] }

/-- Context 8 answers on behalf of context 7. -/
def paired (s : State) : State := (flow s 8 0 0 7 1).set (CTX0.PAIR 7) 8 |>.set (CTX0.PAIR_VALID 7) 1

/-- Bus b's page is enabled. -/
def bus (b : Nat) : State :=
  root.set (BLK_CTRL.ENABLE (if b < 8 then 0x90 + b else if b < 12 then 0x98 + (b - 8) else 0x9C)) 1

/-- Contract port 1 attached in STATE st, with version 2 settled, as sink (0) or source (1). -/
def cable (st role : Nat) : State :=
  root.set (CTP_STAT.STATE 1) st |>.set (CTP_STAT.POWER_ROLE 1) role |>.set (CTP_STAT.REV 1) 2

/-- Contract port n's state replaced. -/
def cp (s : State) (n : Port) (f : CtpPort → CtpPort) : State := s.modCtp n f

/-- Power channel c's state replaced. -/
def ch (s : State) (c : Chan) (f : ChanSt → ChanSt) : State := s.modChan c f

/-- Channel c conducts in STATE st. -/
def lit (c : Chan) (st : Nat) : State := ch (root.set (EYE_CH_STAT.STATE c) st) c fun h => { h with on := true }

/-- The chip state replaced. -/
def chip (s : State) (f : ChipSt → ChipSt) : State := s.modChip f

/-- A hub without power. -/
def dead : State := chip State.reset fun c => { c with power := 0 }

/-- Fuses of n bytes from o on blown. -/
def fuse (s : State) (o n : Nat) : State := s.blowBytes o (List.replicate n 255)

/-- Slot k holds a key of a type that every master may use for everything in every life-cycle state but the last. -/
def keyed (s : State) (k typ : Nat) : State := s.loadSlot k typ 1 31 31 63 [1, 2, 3]

/-- A header of kind k for an image of 2 chunks. -/
def head (k : Nat) : List Byte :=
  [0x50, 0x55, 0x50, 0x58, 1, 0, BitVec.ofNat 8 k, 0] ++ List.replicate 12 0 ++ leBytes 4 65540 ++ [2, 0]

/-- A session in a target hub, without children. -/
def sess0 : Sess :=
  { header := head 0, keyBlk := [], targets := [], src := [], target := true, table := [], parts := [], waits := [],
    buffer := [], taken := 0, written := 0, staged := false, kids := [] }

/-- The state with an update session. -/
def inSess (s : State) (x : Sess) : State := { s with fw := { sess := some x } }

/-- A request of an IMAGE operation: OPDATA and data. -/
def img (op d : List Byte) : CtlPkt := { reqPkt 5 5 0 0 d.length d with opdata := op }

/-- A session whose header and targets are those of a HEAD's data. -/
def same (p : CtlPkt) : Sess :=
  { sess0 with header := ((byteSlice p.data 0 6176).drop 32).take 4096, targets := (byteSlice p.data 0 6176).take 32 }

theorem same_ok (p : CtlPkt) :
    (same p).header = ((byteSlice p.data 0 6176).drop 32).take 4096 ∧ (same p).targets = (byteSlice p.data 0 6176).take 32 :=
  by simp only [same, and_self]
/-- States and operands that meet the hypotheses of Obligations.StepRunsFrontCommand. -/
theorem witness_StepRunsFrontCommand :
    (State.reset.pending = []) :=
  by decide +kernel

/-- States and operands that meet the hypotheses of Obligations.EveryStepKeepsCanonical. -/
theorem witness_EveryStepKeepsCanonical :
    (Tbl.sorted heads.regs = true ∧ Memory.wf heads.mem = true) :=
  by decide +kernel

/-- States and operands that meet the hypotheses of Obligations.TheStateAfterReset. -/
theorem witness_TheStateAfterReset :
    (0 < 256) :=
  by decide +kernel

/-- States and operands that meet the hypotheses of Obligations.ClassesOfTunnelTypes. -/
theorem witness_ClassesOfTunnelTypes :
    ((fun (s : State) (i : CtxNo) (v : Nat) => s.ctxLive i = false ∧ (bits v 6 4, bits v 4 2) ∈ ([(0, 2), (1, 3), (1, 2), (1, 1), (2, 1), (2, 2), (3, 1), (4, 1), (4, 2)] : List (Nat × Nat))) (root) (7) (0x50)) ∧
    ((fun (s : State) (i : CtxNo) (v : Nat) => s.ctxLive i = false ∧ bits v 6 4 ≤ 4 ∧ (bits v 6 4, bits v 4 2) ∉ ([(0, 2), (1, 3), (1, 2), (1, 1), (2, 1), (2, 2), (3, 1), (4, 1), (4, 2)] : List (Nat × Nat))) (root) (7) (0x10)) ∧
    ((fun (s : State) (i : CtxNo) (v : Nat) => s.ctxLive i = false ∧ bits v 4 2 = 0) (root) (7) (0x1C0)) :=
  by and_intros <;> decide +kernel

/-- States and operands that meet the hypotheses of Obligations.ReservedPages. -/
theorem witness_ReservedPages :
    ((fun p o => p < 256 ∧ o < 0x1000 ∧ pageInfo p = none) 0x7F 8) ∧
    ((fun (_s : State) (_ : Src) (p o _ _ : Nat) => p < 256 ∧ o < 0x1000 ∧ pageInfo p = none) (root) (.awlNormal) (0x7F) (0xFFC) (3) (9)) :=
  by and_intros <;> decide +kernel

/-- States and operands that meet the hypotheses of Obligations.HeadersOfPages. -/
theorem witness_HeadersOfPages :
    ((fun (s : State) (p : Nat) (i : PageInfo) => p < 256 ∧ pageInfo p = some i ∧ s.pageOpen p = true ∧ s.domainOn i.domain = true) root 1 ⟨2, 0, 0, 1, false, false⟩) ∧
    ((fun (s : State) (p : Nat) (i : PageInfo) => p < 256 ∧ pageInfo p = some i ∧ s.pageOpen p = true ∧ s.domainOn i.domain = false) (root.set PWRD_DOMAIN_STAT.POWERED 1) 1 ⟨2, 0, 0, 1, false, false⟩) ∧
    ((fun (s : State) (p o : Nat) => 0xF0 ≤ p ∧ p < 256 ∧ o < 0x1000 ∧ s.dbgLevel < dbgPageLevel p) (root.set KEY_STAT.DBG_LEVEL 0) 0xF1 0) :=
  by and_intros <;> decide +kernel

/-- States and operands that meet the hypotheses of Obligations.PixelsOfASurface. -/
theorem witness_PixelsOfASurface :
    ((fun (s : State) (f : Surf) (b x y : Nat) => s.flag (bankOn (bankOf (f.page * 4096 + y * f.stride + x * b / 8))) = true ∧ s.flag (bankInit (bankOf (f.page * 4096 + y * f.stride + x * b / 8))) = false) (root.set FST_STAT.FSA_ON 1) ⟨0, false, 16, 16, 4⟩ 2 3 1) ∧
    ((fun (s : State) (f : Surf) (b x y : Nat) => (b = 1 ∨ b = 2 ∨ b = 4 ∨ b = 8) ∧ (f.at_ b x y).1 < fstBytes ∧ s.flag (bankOn (bankOf (f.at_ b x y).1)) = true ∧ s.flag (bankInit (bankOf (f.at_ b x y).1)) = false) (root.set FST_STAT.FSA_ON 1) ⟨0, false, 16, 16, 4⟩ 2 3 1) ∧
    ((fun (s : State) (f g : Surf) (b x y x' y' : Nat) => (b = 1 ∨ b = 2 ∨ b = 4 ∨ b = 8) ∧ (f.at_ b x y).1 < fstBytes ∧ s.flag (bankOn (bankOf (f.at_ b x y).1)) = true ∧ s.flag (bankInit (bankOf (f.at_ b x y).1)) = false ∧ g.at_ b x' y' ≠ f.at_ b x y) (root.set FST_STAT.FSA_ON 1) ⟨0, false, 16, 16, 4⟩ ⟨0, false, 16, 16, 4⟩ 2 3 1 2 1) :=
  by and_intros <;> decide +kernel

/-- States and operands that meet the hypotheses of Obligations.CableLayoutsRoundTrip. -/
theorem witness_CableLayoutsRoundTrip :
    ((fun (h : Hdr) => h.flow < 2048 ∧ h.cls < 4 ∧ h.len < 512 ∧ h.mx < 32 ∧ h.seq < 65536 ∧ h.ttag < 2 ^ 32 ∧ h.info.length = 20) ⟨0x7FE, 3, 511, true, false, true, false, true, 31, 65535, 2 ^ 32 - 1, List.replicate 20 255⟩) ∧
    ((fun (x : Seal) => x.fseq < 65536 ∧ x.ackSeq < 65536 ∧ x.rplId < 4 ∧ x.resumeBack < 16 ∧ x.rxMask < 16 ∧ x.lstate < 8 ∧ x.resumeSlot < 32 ∧ x.lstateAt < 256 ∧ x.clearLpn < 65536 ∧ (x.cred.length = 4 ∧ ∀ c ∈ x.cred, c < 65536) ∧ (x.poison.length ≤ (if x.enc then 2 else 4) ∧ ∀ c ∈ x.poison, c < 65536) ∧ (x.txcLo < 2 ^ 32 ∧ (x.enc = false → x.txcLo = 0))) ⟨65535, 1, true, 3, true, false, true, true, false, 15, 15, 7, 31, 255, [1, 2, 3, 65535], 9, [8, 7], true, 2 ^ 32 - 1⟩) ∧
    ((fun (p : CtlPkt) (now : Nat) => p.hdr = none ∧ p.op < 32 ∧ p.dst < 256 ∧ p.src < 256 ∧ p.tag < 65536 ∧ p.offset < 2 ^ 26 ∧ p.bytes < 65536 ∧ p.status < 256 ∧ p.hops < 256 ∧ p.viaId < 256 ∧ p.viaPort < 4 ∧ p.opdata.length = 6 ∧ p.data.length % 32 = 0 ∧ p.data.length < 16384 ∧ now < 2 ^ 32) ⟨6, 255, 254, 65535, 2 ^ 26 - 1, 64, 10, 33, 255, 3, true, List.replicate 6 255, List.replicate 64 7, true, none⟩ 5) :=
  by and_intros <;> decide +kernel

/-- States and operands that meet the hypotheses of Obligations.ReferenceClockEvents. -/
theorem witness_ReferenceClockEvents :
    ((fun (s : State)  => s.refFitted = true ∧ s.isRoot = true ∧ s.clk.everLocked = true ∧ s.clk.pll = .held) ({ root with clk := { root.clk with pll := .held } })) ∧
    ((fun (s : State)  => s.isRoot = true ∧ s.clk.everLocked = true ∧ s.clk.refin = true) (root)) ∧
    ((fun (s : State)  => s.isRoot = false ∧ s.refFitted = true ∧ s.flag CLK_STAT.LOCKED = true) (spoke.set CLK_STAT.REFSEL 0)) ∧
    ((fun (s : State)  => s.clk.slew = true ∧ s.isRoot = true) ({ root with clk := { root.clk with slew := true } })) :=
  by and_intros <;> decide +kernel

/-- States and operands that meet the hypotheses of Obligations.SpreadAndHoldover. -/
theorem witness_SpreadAndHoldover :
    ((fun (s : State) (_ : Bool) => s.isRoot = true ∧ s.locked 2 = false ∧ s.allOff = true) (root) (true)) ∧
    ((fun (s : State)  => s.isRoot = true ∧ s.allOff = true) (root.set CLK_CTRL.SSC_EN 1)) ∧
    ((fun (s : State)  => s.isRoot = false ∧ s.hubId ≠ 255 ∧ s.flag CLK_STAT.LOCKED = true ∧ s.flag CLK_STAT.HOLDOVER = false ∧ s.upstreamLocked = false ∧ s.refFitted = true) (spoke.set CLK_STAT.REFSEL 0)) ∧
    ((fun (s : State)  => s.isRoot = false ∧ s.hubId ≠ 255 ∧ s.flag CLK_STAT.LOCKED = true ∧ s.flag CLK_STAT.HOLDOVER = false ∧ s.refFitted = true) (spoke.set CLK_STAT.REFSEL 0)) ∧
    ((fun (s : State)  => s.isRoot = false ∧ s.flag CLK_CTRL.FORCE_HOLD = true ∧ s.flag CLK_STAT.HOLDOVER = true ∧ s.flag (WLT_LINK_STAT.ADMITTED 0) = true ∧ s.flag (WLT_PCS_STAT.COMPAT 0) = false) (spoke.set CLK_CTRL.FORCE_HOLD 1 |>.set CLK_STAT.HOLDOVER 1)) ∧
    ((fun (s : State) (_ : Int) => s.isRoot = false ∧ s.flag CLK_STAT.LOCKED = true ∧ s.refFitted = true ∧ s.clk.refin = true ∧ s.clk.ratioRun = true) ({ spoke.set CLK_STAT.REFSEL 0 with clk := { spoke.clk with refin := true, ratioRun := true } }) (-7)) :=
  by and_intros <;> decide +kernel

/-- States and operands that meet the hypotheses of Obligations.LineageLockAndMessages. -/
theorem witness_LineageLockAndMessages :
    ((fun (s : State) (_ : Bool) => s.isRoot = false ∧ s.refinLineage = false ∧ s.flag (WLT_LINK_STAT.ADMITTED 0) = true ∧ s.flag CLK_CTRL.FORCE_HOLD = false ∧ s.flag CLK_STAT.LOCKED = false ∧ s.clk.everLocked = false ∧ ([0, 1, 2, 3] : List Port).all (fun n => !(s.lane n).attach || s.get (WLT_PCS_STAT.TRAIN_STATE n) != 0) = true) (State.reset.set (WLT_LINK_STAT.ADMITTED 0) 1) (true)) ∧
    ((fun (s : State) (n : Port) => s.facesUp n = false) (root.set CLK_STAT.PORT_SLIP 4) (2)) ∧
    ((fun (s : State)  => s.mayExchange = true ∧ s.flag (WLT_PCS_STAT.COMPAT 0) = false) (spoke)) ∧
    ((fun (s : State)  => s.mayExchange = true ∧ s.flag (WLT_PCS_STAT.COMPAT 0) = true) (spoke.set (WLT_PCS_STAT.COMPAT 0) 1)) ∧
    ((fun (s : State) (n : Port) (_ : Nat) => (s.link n).flightBad = false ∧ s.flag CTM_STAT.VALID = true ∧ s.facesUp n = false ∧ s.flag (WLT_LINK_STAT.ADMITTED n) = true ∧ s.flag (WLT_PCS_STAT.COMPAT n) = false) (spoke.set (WLT_LINK_STAT.ADMITTED 1) 1) (1) (9)) ∧
    ((fun (s : State) (t3 _ _ : Stamp) (_ : Bool) => s.mayExchange = true ∧ s.flag (WLT_PCS_STAT.COMPAT 0) = false ∧ s.time.waiting = some t3 ∧ (s.link 0).flightBad = false ∧ s.time.offs.length < 7) ({ spoke with time := { spoke.time with waiting := some ⟨4, 0⟩ } }) (⟨4, 0⟩) (⟨20, 3⟩) (⟨30, 1⟩) (false)) ∧
    ((fun (s : State) (t3 _ _ : Stamp) (_ : Bool) => s.mayExchange = true ∧ s.flag (WLT_PCS_STAT.COMPAT 0) = false ∧ s.time.waiting = some t3 ∧ (s.link 0).flightBad = false ∧ s.time.offs.length = 7 ∧ s.time.dels.length = 7 ∧ s.time.pend.isSome = true) ({ spoke with time := { spoke.time with waiting := some ⟨4, 0⟩, offs := List.replicate 7 3, dels := List.replicate 7 2, pend := some ⟨1, 51200, -4, false⟩ } }) (⟨4, 0⟩) (⟨20, 3⟩) (⟨30, 1⟩) (false)) ∧
    ((fun (s : State) (_ : StepNote) => s.isRoot = false ∧ (s.link 0).flightBad = false) (spoke.set (WLT_LINK_STAT.ADMITTED 2) 1) (⟨1, 51200, -4, false⟩)) :=
  by and_intros <;> decide +kernel

/-- States and operands that meet the hypotheses of Obligations.StepsOfChainTime. -/
theorem witness_StepsOfChainTime :
    ((fun (s : State) (n : StepNote) => s.time.pend = some n ∧ n.apply ≤ s.now ∧ s.frozen = false ∧ n.d < 0 ∧ -(400000000 * 256) ≤ n.d) ({ spoke with time := { spoke.time with pend := some ⟨1, 0, -700, false⟩ } }) (⟨1, 0, -700, false⟩)) ∧
    ((fun (s : State) (n : StepNote) => s.time.pend = some n ∧ n.apply ≤ s.now ∧ s.frozen = false ∧ 0 ≤ n.d ∧ s.time.phase + n.d < 256 ∧ s.time.ticks < 2 ^ 64) ({ spoke with time := { spoke.time with pend := some ⟨1, 0, 100, false⟩ } }) (⟨1, 0, 100, false⟩)) ∧
    ((fun (s : State)  => s.frozen = true ∧ s.time.freeze % 256 = 0 ∧ s.bridge.sched = [] ∧ s.flows.held = [] ∧ (s.head 0).waits = [] ∧ (s.head 1).waits = [] ∧ s.host.ptpStaged = none ∧ s.wheel.commits = [] ∧ s.collects = false ∧ s.flag UPD_ACT.PENDING = false ∧ s.time.ticks < 2 ^ 64 ∧ s.time.phase < 256) ({ (spoke.set CTM_STAT.FREEZE 1).set PWRD_DOMAIN_STAT.POWERED 0 with time := { spoke.time with freeze := 512 } })) ∧
    ((fun (s : State) (_ port : Nat) => port ≠ 0 ∨ s.isRoot = true) (spoke) (3) (2)) ∧
    ((fun (s : State) (_ : Nat) => s.isRoot = false ∧ s.flag (WLT_LINK_STAT.ADMITTED 0) = true ∧ s.time.avgValid = true ∧ s.flag CTM_STAT.VALID = true) ({ spoke with time := { spoke.time with avgValid := true, avgD := 5, avgO := -2 } }) (4)) :=
  by and_intros <;> decide +kernel

/-- States and operands that meet the hypotheses of Obligations.EnumerationInTheRoot. -/
theorem witness_EnumerationInTheRoot :
    ((fun (s : State) (_ : Nat) (_ : Bool) (n : Nat) (rest : List Report) => s.isRoot = true ∧ s.hubId = 0 ∧ s.chain.asked = none ∧ s.chain.hubs = [] ∧ s.chain.binds = [] ∧ s.chain.reports = ⟨0, n, true⟩ :: rest ∧ n < 4 ∧ s.flag (WLT_LINK_STAT.ADMITTED n) = true ∧ (List.range 4).all (fun i => s.get (WLT_PARTNER_IDENT.IDENT n i) == 0) = true) ({ root.set (WLT_LINK_STAT.ADMITTED 2) 1 with chain := { root.chain with reports := [⟨0, 2, true⟩] } }) (7) (false) (2) ([])) ∧
    ((fun (s : State) (ident : Nat) (_ : Bool) (p n : Nat) (rest : List Report) (r : HubRec) => s.isRoot = true ∧ s.chain.reports = ⟨p, n, true⟩ :: rest ∧ p ≠ 0 ∧ n ≠ 0 ∧ s.chain.asked = none ∧ s.chain.hubs.find? p = some r ∧ r.uh3200 = true ∧ r.depth = 16 ∧ ident = 0) ({ root with chain := { root.chain with reports := [⟨9, 1, true⟩], hubs := [(9, ⟨8, 1, 16, 0, false, true, true, false, false⟩)] } }) (0) (false) (9) (1) ([]) (⟨8, 1, 16, 0, false, true, true, false, false⟩)) ∧
    ((fun (s : State) (_ : Nat) (_ : Bool) (p n k : Nat) (rest : List Report) (r : HubRec) => s.isRoot = true ∧ s.hubId = 0 ∧ s.chain.asked = none ∧ s.chain.reports = ⟨p, n, true⟩ :: rest ∧ p ≠ 0 ∧ n ≠ 0 ∧ s.chain.hubs.find? p = some r ∧ r.uh3200 = false ∧ s.routeTo p = some k ∧ s.flag (WLT_LINK_STAT.ADMITTED k) = true) ({ (root.set (WLT_LINK_STAT.ADMITTED 2) 1).set (ROUTE.ROUTE 9) 6 with chain := { root.chain with reports := [⟨9, 1, true⟩], hubs := [(9, ⟨0, 2, 1, 0, false, true, false, false, false⟩)] } }) (0) (false) (9) (1) (2) ([]) (⟨0, 2, 1, 0, false, true, false, false, false⟩)) ∧
    ((fun (s : State) (id : Nat) (r : HubRec) => s.isRoot = true ∧ s.chain.hubs.find? id = some r ∧ s.below id = []) ({ root with chain := { root.chain with hubs := [(1, ⟨0, 1, 1, 0, false, false, false, false, false⟩)] } }) (1) (⟨0, 1, 1, 0, false, false, false, false, false⟩)) ∧
    ((fun (s : State) (n id : Nat) (rest : List Report) (r : HubRec) => s.isRoot = true ∧ s.chain.reports = ⟨0, n, false⟩ :: rest ∧ s.chain.hubs = [(id, r)] ∧ r.parent = 0 ∧ r.port = n) ({ root with chain := { root.chain with reports := [⟨0, 1, false⟩], hubs := [(4, ⟨0, 1, 1, 0, false, true, false, false, false⟩)] } }) (1) (4) ([]) (⟨0, 1, 1, 0, false, true, false, false, false⟩)) ∧
    ((fun (s : State) (id : Nat) (r : HubRec) => s.isRoot = true ∧ s.chain.hubs = [(id, r)] ∧ r.parent = 0 ∧ r.held = true ∧ id ≠ 0) ({ root with chain := { root.chain with hubs := [(4, ⟨0, 1, 1, 0, true, true, false, false, false⟩)] } }) (4) (⟨0, 1, 1, 0, true, true, false, false, false⟩)) :=
  by and_intros <;> decide +kernel

/-- States and operands that meet the hypotheses of Obligations.IdsOfASpoke. -/
theorem witness_IdsOfASpoke :
    ((fun (s : State) (p : CtlPkt) (n : Nat) => p.poison = false ∧ s.ctl.pdReads.any (fun r => r.req.src == p.src) = false ∧ s.ownWrites p ≤ 16 ∧ s.isRoot = false ∧ s.hubId < 255 ∧ bit (byteAt p.opdata 3) 7 = false ∧ s.routeTo p.src = some n ∧ s.flag (WLT_LINK_STAT.ADMITTED n) = true ∧ p.via = false) (spoke) (assignPkt 5 0 0 false 7 2 0 1 false) (0)) ∧
    ((fun (s : State) (p : CtlPkt) (n : Nat) => p.poison = false ∧ s.ctl.pdReads.any (fun r => r.req.src == p.src) = false ∧ s.ownWrites p ≤ 16 ∧ s.isRoot = false ∧ s.hubId < 255 ∧ bit (byteAt p.opdata 3) 7 = true ∧ byteAt p.opdata 0 = s.hubId ∧ s.routeTo p.src = some n ∧ s.flag (WLT_LINK_STAT.ADMITTED n) = true) (spoke) (assignPkt 5 0 0 false 5 3 2 1 true) (0)) ∧
    ((fun (s : State) (p : CtlPkt) => p.poison = false ∧ s.ctl.pdReads.any (fun r => r.req.src == p.src) = false ∧ s.ownWrites p ≤ 16 ∧ s.isRoot = false ∧ s.hubId = 255 ∧ byteAt p.opdata 0 < 255) (State.reset) (assignPkt 0xFF 0 0 true 7 2 0 1 false)) ∧
    ((fun (s : State)  => s.isRoot = false ∧ s.chain.hold0 = true ∧ ([1, 2, 3] : List Port).all (fun n => s.get (WLT_PCS_STAT.TRAIN_STATE n) == 0) = true) ({ spoke with chain := { spoke.chain with hold0 := true } })) ∧
    ((fun (s : State) (j _ : Nat) => s.isRoot = false ∧ j < 256) (spoke) (9) (0x105)) ∧
    ((fun (s : State) (id port j _ : Nat) => s.isRoot = true ∨ id ≠ 0 ∨ port ≠ 0 ∧ j < 256 ∧ id < 256) (spoke) (3) (0) (9) (0x105)) :=
  by and_intros <;> decide +kernel

/-- States and operands that meet the hypotheses of Obligations.ControlPacketsAtAHub. -/
theorem witness_ControlPacketsAtAHub :
    ((fun (s : State) (n : Port) (q : CtlPkt) (_ : Bool) (p : Nat) => s.hubId ≠ 255 ∧ s.childFetch n q = false ∧ s.ownVia n q = false ∧ q.via = false ∧ q.dst ≠ s.hubId ∧ 1 < q.hops ∧ s.routeTo q.dst = some p ∧ s.flag (WLT_LINK_STAT.ADMITTED p) = true) (spoke) (1) (reqPkt 0 0 9 0x40 4 []) (false) (0)) ∧
    ((fun (s : State) (n : Port) (q : CtlPkt) (_ : Bool) (p : Nat) => s.hubId ≠ 255 ∧ s.childFetch n q = false ∧ s.ownVia n q = false ∧ q.via = false ∧ q.dst ≠ s.hubId ∧ q.hops ≤ 1 ∧ q.op = 0 ∧ s.routeTo q.src = some p ∧ s.flag (WLT_LINK_STAT.ADMITTED p) = true) (spoke) (1) ({ reqPkt 0 0 9 0x40 4 [] with hops := 1 }) (false) (0)) ∧
    ((fun (s : State) (n : Port) (q : CtlPkt) (_ : Bool) => s.hubId = 255 ∧ q.poison = false ∧ s.childFetch n q = false ∧ q.op ≤ 1 ∧ 0x10000 < q.offset + q.bytes ∧ s.flag (WLT_LINK_STAT.ADMITTED n) = true) (State.reset.set (WLT_LINK_STAT.ADMITTED 0) 1) (0) (reqPkt 0 255 0 0x20000 4 []) (false)) :=
  by and_intros <;> decide +kernel

/-- States and operands that meet the hypotheses of Obligations.TrainingOfAPort. -/
theorem witness_TrainingOfAPort :
    ((fun (s : State) (n : Port) => s.get (WLT_PCS_STAT.TRAIN_STATE n) = 0 ∧ (s.lane n).attach = true ∧ s.portOn n = true ∧ s.mayTrain n = true ∧ s.flag (WLT_PCS_CTRL.TEST n) = false ∧ s.flag (WLT_PCS_CTRL.FORCE_COMPAT n) = false ∧ (s.lane n).partnerV1 = false ∧ s.flag (WLT_EYE_STAT.BUSY n) = false) ({ root.set (WLT_PCS_STAT.TRAIN_STATE 2) 0 with lanes := upd root.lanes 2 { LanePort.reset with attach := true } }) (2)) ∧
    ((fun (s : State) (n : Port) (k : Lane) (b : AlignBlock) (skew : Nat) => byteAt b 0 = 0xA5 ∧ alignGood b = true ∧ byteAt b 1 / 64 = s.mapLane n k ∧ skew ≤ 96 ∧ (s.lane n).nums.length = 4 ∧ laneList.all (fun j => j == k.val || (s.lane n).nums.getD j 4 == 4 || (s.lane n).nums.getD j 4 == s.mapLane n j) = true) (root) (1) (3) (alignBlock 0xA5 3 0 2 15 1 7) (12)) ∧
    ((fun (_s : State) (_ : Port) (_ : Lane) (b : AlignBlock) (_ : Nat) => alignGood (upright b) = false) (root) (1) (3) ([0xA5, 0, 0, 0, 0, 0, 0, 1]) (12)) ∧
    ((fun (s : State) (n : Port) (k : Lane) => s.flag (WLT_PCS_STAT.COMPAT n) = false ∧ s.get (WLT_PCS_STAT.CLASS_USED n) = s.presetOf n ∧ 0 < s.get (WLT_PCS_STAT.TRAIN_STATE n) ∧ s.get (WLT_PCS_STAT.TRAIN_STATE n) < 4 ∧ s.get (WLT_LANE_STAT.PRE_USED n k) ≠ (s.tapsOf n k).1) (root.set (WLT_PCS_STAT.TRAIN_STATE 2) 1 |>.set (WLT_PCS_STAT.CLASS_USED 2) 2 |>.set (WLT_LANE_CTRL.TX_OVR 2 1) 1 |>.set (WLT_LANE_CTRL.PRE 2 1) 15) (2) (1)) ∧
    ((fun (s : State) (n : Port) (k : Lane) => s.flag (WLT_PCS_STAT.COMPAT n) = false ∧ laneList.all (fun j => !s.flag (WLT_LANE_CTRL.TX_OVR n j)) = true ∧ s.get (WLT_PCS_STAT.CLASS_USED n) ≠ s.presetOf n ∧ 0 < s.get (WLT_PCS_STAT.TRAIN_STATE n) ∧ s.get (WLT_PCS_STAT.TRAIN_STATE n) < 4 ∧ s.get (WLT_LANE_STAT.PRE_USED n k) ≠ (presetTaps (s.presetOf n)).1) (root.set (WLT_PCS_STAT.TRAIN_STATE 2) 1 |>.set (WLT_PCS_STAT.CLASS_USED 2) 0 |>.set (WLT_LANE_STAT.PRE_USED 2 1) 0) (2) (1)) ∧
    ((fun (s : State) (n : Port) (_ : List Nat) => s.get (WLT_PCS_STAT.TRAIN_STATE n) = 1 ∧ (s.lane n).enabled ≠ 0 ∧ s.couldBeReady n = (s.lane n).enabled) ({ root.set (WLT_PCS_STAT.TRAIN_STATE 2) 1 |>.set (WLT_LANE_STAT.BLOCK_LOCK 2 0) 1 |>.set (WLT_LANE_STAT.BLOCK_LOCK 2 1) 1 with lanes := upd root.lanes 2 { LanePort.reset with attach := true, enabled := 3, resolved := 3 } }) (2) ([4, 5])) ∧
    ((fun (s : State) (n : Port) (mask : Nat) (_ : List Nat) => s.get (WLT_PCS_STAT.TRAIN_STATE n) = 1 ∧ mask &&& s.couldBeReady n ≠ 0) ({ root.set (WLT_PCS_STAT.TRAIN_STATE 2) 1 |>.set (WLT_LANE_STAT.BLOCK_LOCK 2 0) 1 |>.set (WLT_LANE_STAT.BLOCK_LOCK 2 1) 1 with lanes := upd root.lanes 2 { LanePort.reset with attach := true, enabled := 7, resolved := 3 } }) (2) (3) ([4, 5])) ∧
    ((fun (s : State) (n : Port) => s.get (WLT_PCS_STAT.TRAIN_STATE n) = 2 ∧ (s.lane n).rcvState = 3 ∧ 0 < (s.lane n).rcvMask ∧ (s.lane n).rcvMask < 16 ∧ s.flag (WLT_PCS_STAT.COMPAT n) = false) ({ root.set (WLT_PCS_STAT.TRAIN_STATE 2) 2 with lanes := upd root.lanes 2 { LanePort.reset with attach := true, ready := 15, rcvState := 3, rcvMask := 6 } }) (2)) ∧
    ((fun (s : State) (n : Port) => s.get (WLT_PCS_STAT.TRAIN_STATE n) = 1 ∧ (s.lane n).attach = true ∧ s.flag (WLT_EYE_STAT.BUSY n) = false) ({ root.set (WLT_PCS_STAT.TRAIN_STATE 2) 1 with lanes := upd root.lanes 2 { LanePort.reset with attach := true } }) (2)) :=
  by and_intros <;> decide +kernel

/-- States and operands that meet the hypotheses of Obligations.BlockLockAndCompatibility. -/
theorem witness_BlockLockAndCompatibility :
    ((fun (s : State) (n : Port) (k : Lane) => n ≠ 0 ∧ 0 < s.get (WLT_PCS_STAT.TRAIN_STATE n) ∧ s.get (WLT_PCS_STAT.TRAIN_STATE n) < 8 ∧ bit ((s.lane n).enabled) k = true) (root.set (WLT_PCS_STAT.TRAIN_STATE 2) 1) (2) (3)) ∧
    ((fun (s : State) (n : Port) (k : Lane) (_ : Nat) => n ≠ 0 ∧ s.get (WLT_PCS_STAT.TRAIN_STATE n) = 1 ∧ s.flag (WLT_LANE_STAT.BLOCK_LOCK n k) = true ∧ s.flag (WLT_EYE_STAT.BUSY n) = false ∧ (s.lane n).sentState = 1) ({ root.set (WLT_PCS_STAT.TRAIN_STATE 2) 1 |>.set (WLT_LANE_STAT.BLOCK_LOCK 2 3) 1 with lanes := upd root.lanes 2 { LanePort.reset with sentState := 1, ready := 15 } }) (2) (3) (16)) ∧
    ((fun (s : State) (n : Port) => s.get (WLT_PCS_STAT.TRAIN_STATE n) < 4 ∧ (s.lane n).attach = true ∧ s.portOn n = true ∧ s.flag (WLT_PCS_STAT.COMPAT n) = false ∧ (s.lane n).partnerV1 = true ∧ s.flag (WLT_EYE_STAT.BUSY n) = false) ({ root with lanes := upd root.lanes 2 { LanePort.reset with attach := true, partnerV1 := true } }) (2)) ∧
    ((fun (s : State) (n : Port) (k : Lane) => s.get (WLT_PCS_STAT.TRAIN_STATE n) = 8 ∧ s.flag (WLT_PCS_STAT.COMPAT n) = true ∧ (s.lane n).enabled = 2 ^ k.val) ({ root.set (WLT_PCS_STAT.TRAIN_STATE 2) 8 |>.set (WLT_PCS_STAT.COMPAT 2) 1 with lanes := upd root.lanes 2 { LanePort.reset with enabled := 4 } }) (2) (2)) ∧
    ((fun (s : State) (n : Port) (_ : Lane) => s.get (WLT_PCS_STAT.TRAIN_STATE n) = 8 ∧ s.flag (WLT_EYE_STAT.BUSY n) = false) (root.set (WLT_PCS_STAT.TRAIN_STATE 2) 8) (2) (2)) ∧
    ((fun (s : State) (n : Port) => s.get (WLT_PCS_STAT.TRAIN_STATE n) = 9) ({ root.set (WLT_PCS_STAT.TRAIN_STATE 2) 9 with lanes := upd root.lanes 2 { LanePort.reset with enabled := 6 } }) (2)) :=
  by and_intros <;> decide +kernel

/-- States and operands that meet the hypotheses of Obligations.HushSleepAndTack. -/
theorem witness_HushSleepAndTack :
    ((fun (s : State) (n : Port) (at_ : Nat) => (s.link n).agreed = some (1, at_) ∧ s.facesUp n = true) ({ spoke with links := upd spoke.links 0 { LinkPort.reset with agreed := some (1, 9) } }) (0) (9)) ∧
    ((fun (s : State) (n : Port) => (s.lane n).alignTx < 65536 ∧ s.get (WLT_PCS_STAT.TRAIN_STATE n) = 5 ∧ s.facesUp n = true) (spoke.set (WLT_PCS_STAT.TRAIN_STATE 0) 5) (0)) ∧
    ((fun (s : State) (n : Port) (good : Nat) => s.get (WLT_PCS_STAT.TRAIN_STATE n) = 5 ∧ laneList.all (fun k => !bit (s.get (WLT_PCS_STAT.RX_MASK n)) k || bit good k) = true) (root.set (WLT_PCS_STAT.TRAIN_STATE 2) 5 |>.set (WLT_PCS_STAT.RX_MASK 2) 3) (2) (3)) ∧
    ((fun (s : State) (n : Port) (_ : List Nat) (at_ : Nat) => (s.link n).agreed = some (2, at_) ∧ s.facesUp n = false ∧ (s.lane n).tackLatched = false ∧ s.flag (WLT_EYE_STAT.BUSY n) = false ∧ laneList.all (fun k => !s.flag (WLT_LANE_CTRL.DFE_FREEZE n k)) = true) ({ root with links := upd root.links 2 { LinkPort.reset with agreed := some (2, 9) } }) (2) ([1]) (9)) ∧
    ((fun (s : State) (n : Port) => s.get (WLT_PCS_STAT.TRAIN_STATE n) = 6) (root.set (WLT_PCS_STAT.TRAIN_STATE 2) 6) (2)) ∧
    ((fun (s : State) (n : Port) => s.get (WLT_PCS_STAT.TRAIN_STATE n) = 6 ∧ s.flag PWRD_STATE.ENTERING = false ∧ s.get PWRD_STATE.STATE < 2 ∧ (s.lane n).tackSending = false) (root.set (WLT_PCS_STAT.TRAIN_STATE 2) 6 |>.set PWRD_STATE.STATE 0) (2)) ∧
    ((fun (s : State) (n : Port) (mask : Nat) => s.get (WLT_PCS_STAT.TRAIN_STATE n) = 7 ∧ s.facesUp n = false ∧ mask &&& s.couldBeReady n = 15 ∧ (s.lane n).rcvState = 2 ∧ (s.lane n).rcvMask = 15) ({ laneList.foldl (fun (u : State) k => u.set (WLT_LANE_STAT.BLOCK_LOCK 2 k) 1) (root.set (WLT_PCS_STAT.TRAIN_STATE 2) 7) with lanes := upd root.lanes 2 { LanePort.reset with enabled := 15, resolved := 15, rcvState := 2, rcvMask := 15 } }) (2) (15)) ∧
    ((fun (s : State) (n : Port) (mask : Nat) => s.get (WLT_PCS_STAT.TRAIN_STATE n) = 7 ∧ mask &&& s.couldBeReady n ≠ 0 ∧ (s.lane n).rcvState < 2) ({ root.set (WLT_PCS_STAT.TRAIN_STATE 2) 7 |>.set (WLT_LANE_STAT.BLOCK_LOCK 2 0) 1 with lanes := upd root.lanes 2 { LanePort.reset with enabled := 15, resolved := 3 } }) (2) (3)) ∧
    ((fun (s : State) (n : Port) => s.get (WLT_PCS_STAT.TRAIN_STATE n) = 7 ∧ s.flag (WLT_LINK_STAT.ADMITTED n) = false ∧ s.flag (WLT_LINK_STAT.HELD n) = false ∧ (s.lane n).attach = true ∧ s.portOn n = true ∧ s.mayTrain n = true ∧ s.flag (WLT_PCS_CTRL.TEST n) = false ∧ s.flag (WLT_PCS_CTRL.FORCE_COMPAT n) = false ∧ (s.lane n).partnerV1 = false ∧ s.flag (WLT_EYE_STAT.BUSY n) = false) ({ root.set (WLT_PCS_STAT.TRAIN_STATE 2) 7 with lanes := upd root.lanes 2 { LanePort.reset with attach := true } }) (2)) :=
  by and_intros <;> decide +kernel

/-- States and operands that meet the hypotheses of Obligations.LaneTestsAndScans. -/
theorem witness_LaneTestsAndScans :
    ((fun (s : State) (n : Port) => s.flag (WLT_PCS_CTRL.TEST n) = false ∧ s.flag (WLT_LINK_STAT.ADMITTED n) = false ∧ s.flag (WLT_LINK_STAT.HELD n) = false ∧ s.flag (WLT_EYE_STAT.BUSY n) = false) (root.set (WLT_PCS_STAT.TRAIN_STATE 2) 1) (2)) ∧
    ((fun (s : State) (n : Port) => s.flag (WLT_PCS_CTRL.TEST n) = true ∧ (s.lane n).attach = false ∧ s.flag (WLT_EYE_STAT.BUSY n) = false) (root.set (WLT_PCS_CTRL.TEST 2) 1) (2)) ∧
    ((fun (s : State) (n : Port) => s.get (WLT_PCS_STAT.TRAIN_STATE n) ≠ 0 ∧ s.flag (WLT_LINK_STAT.ADMITTED n) = false ∧ s.flag (WLT_LINK_STAT.HELD n) = false ∧ (s.lane n).attach = true ∧ s.portOn n = true ∧ s.mayTrain n = true ∧ s.flag (WLT_PCS_CTRL.TEST n) = false ∧ s.flag (WLT_PCS_CTRL.FORCE_COMPAT n) = false ∧ (s.lane n).partnerV1 = false ∧ s.flag (WLT_EYE_STAT.BUSY n) = false) ({ root.set (WLT_PCS_STAT.TRAIN_STATE 2) 2 with lanes := upd root.lanes 2 { LanePort.reset with attach := true } }) (2)) ∧
    ((fun (s : State) (n : Port) => s.flag (WLT_LINK_STAT.ADMITTED n) = true) (root.set (WLT_LINK_STAT.ADMITTED 2) 1) (2)) ∧
    ((fun (s : State) (n : Port) (k : Lane) (_ : Bool) => bit (s.get (WLT_TEST_CTRL.CHK_EN n)) k = false ∧ s.looped n = false) (root) (2) (1) (true)) ∧
    ((fun (s : State) (n : Port) (k : Lane) (_ : Bool) => bit (s.get (WLT_TEST_CTRL.CHK_EN n)) k = false ∧ s.looped n = true) (root.set (WLT_PCS_CTRL.TEST 2) 1 |>.set (WLT_TEST_CTRL.LOOP 2) 2 |>.set (WLT_TEST_CTRL.GEN_EN 2) 15) (2) (1) (false)) ∧
    ((fun (s : State) (n : Port) => s.get (WLT_PCS_STAT.LANE_STATE n) = 0) (root.set (WLT_LANE_STAT.BLOCK_LOCK 2 0) 1 |>.set (WLT_PCS_STAT.LANE_STATE 2) 0) (2)) ∧
    ((fun (s : State) (n : Port) (_ : Nat) => s.flag (WLT_EYE_STAT.BUSY n) = true) (root.set (WLT_EYE_STAT.BUSY 2) 1) (2) (77)) :=
  by and_intros <;> decide +kernel

/-- States and operands that meet the hypotheses of Obligations.FlightsAndSeals. -/
theorem witness_FlightsAndSeals :
    ((fun (s : State) (n : Port) => s.get (WLT_PCS_STAT.TRAIN_STATE n) = 4 ∧ (s.link n).replayAt = none ∧ (s.link n).fseq < 65536 ∧ (s.link n).replay.length < 256 ∧ (s.link n).fillNext = false ∧ (s.link n).txq = [] ∧ (s.link n).outs = [] ∧ (s.link n).openAt = none ∧ (s.link n).kxDoneSent = false ∧ (s.link n).widthNext = false ∧ (s.link n).sleepWant = false) (root.set (WLT_PCS_STAT.TRAIN_STATE 2) 4) (2)) ∧
    ((fun (s : State) (n : Port) => s.get (WLT_PCS_STAT.TRAIN_STATE n) = 4 ∧ (s.link n).replayAt = none ∧ 256 ≤ (s.link n).replay.length ∧ (s.link n).fillNext = false ∧ (s.link n).kxDoneSent = false ∧ (s.link n).outs = [] ∧ (s.link n).widthNext = false ∧ (s.link n).sleepWant = false) ({ root.set (WLT_PCS_STAT.TRAIN_STATE 2) 4 with links := upd root.links 2 { LinkPort.reset with replay := List.replicate 256 ⟨0, [], 15, 0, 0, false, false, false, []⟩ } }) (2)) ∧
    ((fun (s : State) (n : Port) (b : List Byte) (_ : Bool) => (s.link n).flightBad = false ∧ slotCheckGood b = false) (root) (2) (List.replicate 32 0) (false)) ∧
    ((fun (s : State) (n : Port) (b : List Byte) => (s.link n).flightBad = false ∧ slotCheckGood b = true ∧ (Hdr.ofSlot b).flow ≠ 0x7FF) (root) (2) (Hdr.slot ⟨0, 0, 0, true, true, false, false, false, 0, 0, 0, []⟩)) ∧
    ((fun (s : State) (n : Port) (b : List Byte) => (s.link n).flightBad = false ∧ byteAt b 3 = 0) (root) (2) (linkSlot 2 0 0 [1])) ∧
    ((fun (s : State) (n : Port) (slots : List (List Byte)) (b : List Byte) (skews : List Nat) => s.get (WLT_PCS_STAT.TRAIN_STATE n) = 4 ∧ ((s.lane n).framed < 4 ∨ slots.length = 31) ∧ (lanesIn (s.rxActive n)).all (fun k => !s.deskewBad n skews k) = true ∧ losesLock (s.lane n).hist = false ∧ (s.link n).fillIn = false ∧ flightCrc slots false (byteSlice b 0 28) ≠ leNat (byteSlice b 28 4) ∧ s.flows.waiting = [] ∧ s.flows.admitted = []) (root.set (WLT_PCS_STAT.TRAIN_STATE 2) 4) (2) ([idleSlot]) (List.replicate 32 0) ([])) ∧
    ((fun (s : State) (n : Port) (slots : List (List Byte)) (b : List Byte) (skews : List Nat) => s.get (WLT_PCS_STAT.TRAIN_STATE n) = 4 ∧ ((s.lane n).framed < 4 ∨ slots.length = 31) ∧ (lanesIn (s.rxActive n)).all (fun k => !s.deskewBad n skews k) = true ∧ losesLock (s.lane n).hist = false ∧ (s.link n).fillIn = false ∧ flightCrc slots false (byteSlice b 0 28) = leNat (byteSlice b 28 4) ∧ (s.link n).flightBad = false ∧ (s.link n).kxDoneRcvd = false ∧ (s.link n).nak = false ∧ (s.link n).leadIn = false ∧ (Seal.ofBytes b).enc = false ∧ (Seal.ofBytes b).empty = false ∧ (Seal.ofBytes b).fseq = ((s.link n).ackSeq + 1) % 65536) ({ root.set (WLT_PCS_STAT.TRAIN_STATE 2) 4 with links := upd root.links 2 { LinkPort.reset with ackSeq := 65535 } }) (2) ([idleSlot]) ((fun b28 => b28 ++ leBytes 4 (flightCrc [idleSlot] false b28)) (Seal.bytes28 { Seal.ofBytes (List.replicate 32 0) with rplId := 1 } false)) ([])) ∧
    ((fun (s : State) (n : Port) (ack rpl : Nat) => rpl = s.get (WLT_REPLAY_STAT.RPL_ID n) ∧ s.flag (WLT_LINK_STAT.ADMITTED n) = true ∧ (s.link n).failSeq ≠ (ack + 1) % 65536 ∧ (s.link n).replay = [] ∧ (s.link n).ackBack = 15) ({ root.set (WLT_LINK_STAT.ADMITTED 2) 1 with links := upd root.links 2 { LinkPort.reset with ackBack := 15, failSeq := 99 } }) (2) (7) (0)) ∧
    ((fun (s : State) (n : Port) (ack rpl _ : Nat) => rpl = s.get (WLT_REPLAY_STAT.RPL_ID n) ∧ s.flag (WLT_LINK_STAT.ADMITTED n) = true ∧ (s.link n).failSeq = (ack + 1) % 65536 ∧ (s.link n).failures = 8) ({ root.set (WLT_LINK_STAT.ADMITTED 2) 1 with links := upd root.links 2 { LinkPort.reset with failSeq := 8, failures := 8 } }) (2) (7) (0) (15)) ∧
    ((fun (s : State) (n : Port) => (s.link n).nak = true ∧ s.flag (WLT_LINK_STAT.ADMITTED n) = true) ({ root.set (WLT_LINK_STAT.ADMITTED 2) 1 with links := upd root.links 2 { LinkPort.reset with nak := true } }) (2)) ∧
    ((fun (s : State) (a lpn : Nat) (p : FlowPkt) => s.flows.waiting = [] ∧ s.flows.admitted = [p] ∧ p.inAtt = a ∧ p.lpn = lpn ∧ p.decided = false ∧ p.begun = false ∧ p.outAtt < 4) ({ root with flows := { root.flows with admitted := [⟨⟨⟨0, 0, 0, true, true, false, false, false, 0, 0, 0, []⟩, []⟩, 2048, 1, 5, false, false, 2, 0, false⟩] } }) (1) (5) (⟨⟨⟨0, 0, 0, true, true, false, false, false, 0, 0, 0, []⟩, []⟩, 2048, 1, 5, false, false, 2, 0, false⟩)) :=
  by and_intros <;> decide +kernel

/-- States and operands that meet the hypotheses of Obligations.AdmissionAndLoss. -/
theorem witness_AdmissionAndLoss :
    ((fun (s : State) (n : Port) (c : Cap) (_ : Port) => s.get (WLT_PCS_STAT.TRAIN_STATE n) = 4 ∧ s.flag (WLT_LINK_STAT.ADMITTED n) = false ∧ c.upFacing ≠ s.facesUp n ∧ c.majorMax = 2 ∧ c.majorMin ≤ 2 ∧ 1 ≤ c.minor ∧ c.encMandatory = false ∧ c.encWanted = false ∧ bit (byteAt (s.link n).ownCap 2) 2 = false ∧ bit (byteAt (s.link n).ownCap 2) 3 = false ∧ (s.link n).capDoneRcvd = none) ({ root.set (WLT_PCS_STAT.TRAIN_STATE 2) 4 with links := upd root.links 2 { LinkPort.reset with ownCap := List.replicate 6 0 ++ [0x7F, 0] } }) (2) ({ Cap.mk 2 1 1 true false false false 2 true 15 5 1 0xFF (List.replicate 16 3) [960, 0, 0, 0] 1 with minor := 1 }) (0)) ∧
    ((fun (s : State) (n : Port) (c : Cap) (_ : Port) => s.get (WLT_PCS_STAT.TRAIN_STATE n) = 4 ∧ s.flag (WLT_LINK_STAT.ADMITTED n) = false ∧ c.upFacing = s.facesUp n ∧ s.flag (WLT_LINK_STAT.HELD n) = false) (root.set (WLT_PCS_STAT.TRAIN_STATE 2) 4) (2) ({ Cap.mk 2 1 1 true false false false 2 true 15 5 1 0xFF (List.replicate 16 3) [960, 0, 0, 0] 1 with upFacing := false }) (0)) ∧
    ((fun (s : State) (n : Port) => s.get (WLT_PCS_STAT.TRAIN_STATE n) = 4 ∧ s.flag (WLT_LINK_STAT.ADMITTED n) = false ∧ (s.link n).capSent = true ∧ (s.link n).capRcvd = true ∧ (s.link n).capDoneSent = some 1 ∧ (s.link n).encAgreed = false) ({ root.set (WLT_PCS_STAT.TRAIN_STATE 2) 4 with links := upd root.links 2 { LinkPort.reset with capSent := true, capRcvd := true, capDoneSent := some 1 } }) (2)) ∧
    ((fun (s : State) (n : Port) => s.flag (WLT_LINK_STAT.ADMITTED n) = true) (root.set (WLT_LINK_STAT.ADMITTED 2) 1) (2)) ∧
    ((fun (s : State) (n : Port) => s.flag (WLT_LINK_STAT.HELD n) = true ∧ (s.link n).capInTime = false) (root.set (WLT_LINK_STAT.HELD 2) 1) (2)) ∧
    ((fun (s : State) (n : Port) (k : Lane) => n ≠ 0 ∧ s.get (WLT_PCS_STAT.TRAIN_STATE n) = 4 ∧ bit (s.couldBeReady n) k = true ∧ s.flag (WLT_LANE_STAT.ADAPT_DONE n k) = true ∧ bit (s.get (WLT_LANE_HEALTH.LANE_PARKED n)) k = false ∧ s.flag (WLT_PCS_STAT.COMPAT n) = false) ({ root.set (WLT_PCS_STAT.TRAIN_STATE 2) 4 |>.set (WLT_LANE_STAT.BLOCK_LOCK 2 3) 1 |>.set (WLT_LANE_STAT.ADAPT_DONE 2 3) 1 with lanes := upd root.lanes 2 { LanePort.reset with resolved := 15 } }) (2) (3)) ∧
    ((fun (s : State) (n : Port) (k : Lane) => n ≠ 0 ∧ s.get (WLT_PCS_STAT.TRAIN_STATE n) = 4 ∧ bit (s.couldBeReady n) k = true ∧ s.flag (WLT_LANE_STAT.ADAPT_DONE n k) = false ∧ bit (s.get (WLT_LANE_HEALTH.LANE_PARKED n)) k = false ∧ s.flag (WLT_PCS_STAT.COMPAT n) = false) ({ root.set (WLT_PCS_STAT.TRAIN_STATE 2) 4 |>.set (WLT_LANE_STAT.BLOCK_LOCK 2 3) 1 with lanes := upd root.lanes 2 { LanePort.reset with resolved := 15 } }) (2) (3)) ∧
    ((fun (s : State) (n : Port) => s.get (WLT_PCS_STAT.TRAIN_STATE n) = 4 ∧ (s.link n).replayAt = none ∧ (s.link n).fseq < 65536 ∧ (s.link n).replay.length < 256 ∧ (s.link n).fillNext = false ∧ (s.link n).txq = [] ∧ (s.link n).outs = [] ∧ (s.link n).openAt = none ∧ (s.link n).kxDoneSent = false ∧ (s.link n).widthNext = false ∧ (s.link n).sleepWant = false) (root.set (WLT_PCS_STAT.TRAIN_STATE 2) 4) (2)) ∧
    ((fun (s : State) (n : Port) (slots : List (List Byte)) (b : List Byte) (skews : List Nat) => s.get (WLT_PCS_STAT.TRAIN_STATE n) = 4 ∧ ((s.lane n).framed < 4 ∨ slots.length = 31) ∧ (lanesIn (s.rxActive n)).all (fun k => !s.deskewBad n skews k) = true ∧ losesLock (s.lane n).hist = false ∧ (s.link n).fillIn = false ∧ flightCrc slots false (byteSlice b 0 28) = leNat (byteSlice b 28 4) ∧ (s.link n).flightBad = false ∧ (s.link n).kxDoneRcvd = false ∧ (s.link n).nak = false ∧ (s.link n).leadIn = false ∧ (Seal.ofBytes b).enc = false ∧ (Seal.ofBytes b).empty = false ∧ (Seal.ofBytes b).fseq = ((s.link n).ackSeq + 1) % 65536) ({ root.set (WLT_PCS_STAT.TRAIN_STATE 2) 4 with links := upd root.links 2 { LinkPort.reset with ackSeq := 65535 } }) (2) ([idleSlot]) ((fun b28 => b28 ++ leBytes 4 (flightCrc [idleSlot] false b28)) (Seal.bytes28 { Seal.ofBytes (List.replicate 32 0) with rplId := 1 } false)) ([])) ∧
    ((fun (s : State) (n : Port) (ack rpl : Nat) => rpl = s.get (WLT_REPLAY_STAT.RPL_ID n) ∧ s.flag (WLT_LINK_STAT.ADMITTED n) = true ∧ (s.link n).failSeq = (ack + 1) % 65536 ∧ (s.link n).failures < 8 ∧ (s.link n).replay = [] ∧ (s.link n).ackBack = 15) ({ root.set (WLT_LINK_STAT.ADMITTED 2) 1 with links := upd root.links 2 { LinkPort.reset with ackBack := 15, failSeq := 8, failures := 2 } }) (2) (7) (0)) ∧
    ((fun (s : State) (n : Port) => (s.link n).nak = true ∧ s.flag (WLT_LINK_STAT.ADMITTED n) = true) ({ root.set (WLT_LINK_STAT.ADMITTED 2) 1 with links := upd root.links 2 { LinkPort.reset with nak := true } }) (2)) :=
  by and_intros <;> decide +kernel

/-- States and operands that meet the hypotheses of Obligations.HushAndSleepAgreement. -/
theorem witness_HushAndSleepAgreement :
    ((fun (s : State) (n : Port) => s.facesUp n = true ∧ s.flag (WLT_LINK_STAT.ADMITTED n) = true ∧ s.get (WLT_PCS_STAT.TRAIN_STATE n) = 4 ∧ s.feature n 4 = true ∧ s.flag (WLT_PCS_CTRL.ALLOW_HUSH n) = true ∧ s.fillOn n = false ∧ s.get (WLT_LINK_CTRL.HUSH_IDLE n) ≠ 0 ∧ s.get (WLT_LINK_CTRL.HUSH_IDLE n) ≤ (s.link n).idleFlights ∧ s.quiet n = true ∧ (s.link n).hushLapse = 0) ({ spoke.set (WLT_PCS_STAT.TRAIN_STATE 0) 4 |>.set (WLT_LINK_STAT.FEATURES 0) 0xFF with links := upd root.links 0 { LinkPort.reset with idleFlights := 20 } }) (0)) ∧
    ((fun (s : State) (n : Port) (_ : Nat) => s.facesUp n = false ∧ s.flag (WLT_PCS_STAT.COMPAT n) = false ∧ s.fillOn n = false ∧ s.flag (WLT_PCS_CTRL.ALLOW_HUSH n) = true ∧ s.feature n 4 = true) (root.set (WLT_LINK_STAT.FEATURES 2) 0xFF) (2) (9)) ∧
    ((fun (s : State) (n : Port) (at_ : Nat) => (s.link n).lstateAt = at_ % 256 ∧ s.facesUp n = true ∧ before 8 ((s.link n).fseq + 255) at_ = true) ({ spoke with links := upd root.links 0 { LinkPort.reset with lstateAt := 9, fseq := 6 } }) (0) (9)) ∧
    ((fun (s : State) (n : Port) (at_ : Nat) => (s.link n).lstateAt = at_ % 256 ∧ s.facesUp n = true ∧ before 8 ((s.link n).fseq + 255) at_ = false ∧ ((s.link n).fseq + 255) % 256 ≠ at_ % 256) ({ spoke with links := upd root.links 0 { LinkPort.reset with lstateAt := 9, fseq := 12 } }) (0) (9)) ∧
    ((fun (s : State) (n : Port) => s.get (WLT_PCS_STAT.TRAIN_STATE n) = 5 ∧ s.facesUp n = true ∧ (s.link n).hushOwes = true) ({ spoke.set (WLT_PCS_STAT.TRAIN_STATE 0) 5 with links := upd root.links 0 { LinkPort.reset with hushOwes := true } }) (0)) ∧
    ((fun (s : State) (n : Port) => s.get (WLT_PCS_STAT.TRAIN_STATE n) = 5 ∧ s.facesUp n = true ∧ (s.link n).txq ≠ []) ({ spoke.set (WLT_PCS_STAT.TRAIN_STATE 0) 5 with links := upd root.links 0 { LinkPort.reset with txq := [⟨[], 4, 0, false, false⟩] } }) (0)) ∧
    ((fun (s : State) (n : Port) => s.flag (WLT_LINK_STAT.ADMITTED n) = true ∧ s.flag (WLT_PCS_STAT.COMPAT n) = false ∧ s.quiet n = true ∧ s.flag (WLT_PCS_CTRL.ALLOW_SLEEP n) = true ∧ s.feature n 6 = true ∧ s.get (WLT_PCS_STAT.TRAIN_STATE n) = 4) (root.set (WLT_LINK_STAT.ADMITTED 2) 1 |>.set (WLT_LINK_STAT.FEATURES 2) 0xFF |>.set (WLT_PCS_STAT.TRAIN_STATE 2) 4) (2)) ∧
    ((fun (s : State) (n : Port) (_ : Nat) => s.quiet n = true ∧ s.flag (WLT_PCS_CTRL.ALLOW_SLEEP n) = true ∧ s.feature n 6 = true ∧ s.flag (WLT_PCS_STAT.COMPAT n) = false ∧ (s.link n).lstateTx ≠ 3) (root.set (WLT_LINK_STAT.FEATURES 2) 0xFF) (2) (9)) :=
  by and_intros <;> decide +kernel

/-- States and operands that meet the hypotheses of Obligations.LinkKeysAndOldFrames. -/
theorem witness_LinkKeysAndOldFrames :
    ((fun (s : State) (n : Port) (_ : List Byte) => s.flag (WLT_LINK_STAT.ADMITTED n) = false ∧ (s.link n).encAgreed = true ∧ s.flag (WLT_PCS_STAT.COMPAT n) = false) ({ root with links := upd root.links 2 { LinkPort.reset with encAgreed := true } }) (2) ([4])) ∧
    ((fun (s : State) (n : Port) (_ _ : List Byte) (_ : Bool) (share : List Byte) => (s.link n).shareRcvd = some share ∧ s.flag (WLT_LINK_STAT.ADMITTED n) = false) ({ root with links := upd root.links 2 { LinkPort.reset with shareRcvd := some [4] } }) (2) ([5]) ([6]) (true) ([4])) ∧
    ((fun (s : State) (n : Port) => (s.link n).authOk = true ∧ s.flag (WLT_LINK_STAT.ADMITTED n) = false ∧ s.get (WLT_ENC_STAT.KX_STATE n) ≠ 3 ∧ s.flag (WLT_PCS_STAT.COMPAT n) = false) ({ root with links := upd root.links 2 { LinkPort.reset with authOk := true } }) (2)) ∧
    ((fun (s : State) (n : Port) => (s.link n).encAgreed = true ∧ s.flag (WLT_LINK_STAT.ADMITTED n) = false ∧ (s.link n).kxDoneSent = false) ({ root with links := upd root.links 2 { LinkPort.reset with encAgreed := true } }) (2)) ∧
    ((fun (s : State) (n : Port) (f : Frame1x) => s.get (WLT_PCS_STAT.TRAIN_STATE n) = 9 ∧ f.badEnd = false ∧ crc32 (leBytes 4 f.word ++ f.body) = f.crc ∧ f.word / 2 ^ 28 = 0 ∧ bits f.word 16 12 = ((s.link n).pseqRx + 1) % 4096) (root.set (WLT_PCS_STAT.TRAIN_STATE 2) 9) (2) (⟨0, [1, 2], crc32 (leBytes 4 0 ++ [1, 2]), false⟩)) ∧
    ((fun (s : State) (n : Port) (f : Frame1x) => s.get (WLT_PCS_STAT.TRAIN_STATE n) = 9 ∧ f.badEnd = false ∧ crc32 (leBytes 4 f.word ++ f.body) = f.crc ∧ f.word / 2 ^ 28 = 1) (root.set (WLT_PCS_STAT.TRAIN_STATE 2) 9) (2) (⟨0x10000005, [], crc32 (leBytes 4 0x10000005), false⟩)) ∧
    ((fun (s : State) (n : Port) => s.get (WLT_PCS_STAT.TRAIN_STATE n) = 9) (root.set (WLT_PCS_STAT.TRAIN_STATE 2) 9) (2)) ∧
    ((fun (s : State) (n : Port) (b : List Byte) => (s.link n).flightBad = false ∧ (s.link n).partial_ = [] ∧ byteAt b 3 = 1) (root) (2) (linkSlot 2 0 1 [1])) ∧
    ((fun (s : State) (n : Port) (b : List Byte) (m : Nat) (d : List Byte) => (s.link n).flightBad = false ∧ byteAt b 2 = m ∧ byteAt b 3 = 17 ∧ (s.link n).partial_ = [(m, [d])]) ({ root with links := upd root.links 2 { LinkPort.reset with partial_ := [(2, [[7]])] } }) (2) (linkSlot 2 1 1 [1]) (2) ([7])) :=
  by and_intros <;> decide +kernel

/-- States and operands that meet the hypotheses of Obligations.ContextCommands. -/
theorem witness_ContextCommands :
    ((fun (s : State) (i : CtxNo) (_ : Nat) => s.ctxLive i = false) (root) (7) (0x50003)) ∧
    ((fun (s : State) (i : CtxNo) (o _ : Nat) => s.ctxLive i = true ∧ (ctxWord i (o / 4 * 4 % 256)).any (fun f => f.acc == .rw) = true) (flow root 7 0 2 1 2) (7) (8) (3)) ∧
    ((fun (s : State) (i : CtxNo) => s.isRoot = false ∧ s.ctxLive i = false ∧ s.activateStatus i = 0 ∧ s.flag (CTX0.HOME_AUTO i) = false ∧ s.get (CTX0.CLASS i) ≠ 1 ∧ s.quotaMapped i = false) (((flow spoke 7 1 3 1 2).set (CTX5.ACTIVE 7) 0).set (CTX2.DECLARED 7) 40) (7)) ∧
    ((fun (s : State) (i : CtxNo) (b : Nat) => s.ctxLive i = false ∧ s.activateStatus i = 0 ∧ s.flag (CTX0.HOME_AUTO i) = true ∧ s.bestEngine = some b) (((flow root 7 1 3 1 2).set (CTX5.ACTIVE 7) 0).set (CTX0.HOME_AUTO 7) 1) (7) (0)) ∧
    ((fun (s : State) (i : CtxNo) => s.ctxLive i = false ∧ s.activateStatus i = 0 ∧ s.flag (CTX0.HOME_AUTO i) = false) (((flow root 7 1 3 1 2).set (CTX5.ACTIVE 7) 0).set (CTX2.DECLARED 7) 40) (7)) ∧
    ((fun (s : State) (i : CtxNo) => s.ctxLive i = false ∧ s.activateStatus i ≠ 0) (((flow root 7 1 3 1 2).set (CTX5.ACTIVE 7) 0).set (CTX0.TTYPE 7) 9) (7)) ∧
    ((fun (s : State) (i : CtxNo) => s.flag (CTX5.ACTIVE i) = true ∧ s.flag (CTX5.DRAINING i) = false) (flow root 7 0 2 1 2) (7)) ∧
    ((fun (s : State) (i : CtxNo) => s.flag (CTX5.ACTIVE i) = false) (root) (7)) ∧
    ((fun (s : State) (i : CtxNo) => s.flag (CTX5.DRAINING i) = true ∧ s.drained i = true) ((flow spoke 7 0 2 1 2).set (CTX5.DRAINING 7) 1) (7)) ∧
    ((fun (s : State) (i : CtxNo) => s.flag (CTX5.DRAINING i) = true) (fl ((flow spoke 7 0 2 1 2).set (CTX5.DRAINING 7) 1) (fun f => { f with waiting := [fpk 7 2 1 0] })) (7)) ∧
    ((fun (s : State) (i : CtxNo) => s.ctxLive i = true) (fl (flow spoke 7 0 2 1 2) (fun f => { f with waiting := [fpk 7 2 1 0] })) (7)) ∧
    ((fun (s : State) (i : CtxNo) (e : Engine) => s.flag (CTX5.ACTIVE i) = true ∧ s.flag (CTX5.DRAINING i) = false ∧ s.flag (FE_STAT.FENCED e) = false ∧ s.homed e < 128 ∧ s.get (CTX0.HOME i) ≠ e) (flow root 7 0 2 1 2) (7) (5)) :=
  by and_intros <;> decide +kernel

/-- States and operands that meet the hypotheses of Obligations.PacketsThroughTheHub. -/
theorem witness_PacketsThroughTheHub :
    ((fun (s : State) (a : Port) (i : CtxNo) (_ : Pkt) (_ : Nat) => (s.link a).flightBad = false ∧ i ≠ 0 ∧ i ≠ 1 ∧ i ≠ 0x7FF ∧ s.flag (CTX5.ACTIVE i) = false ∧ s.flag (CTX5.DRAINING i) = false) (root) (1) (7) (pkt 2 0) (5)) ∧
    ((fun (s : State) (a : Port) (i : CtxNo) (p : Pkt) (_ : Nat) => (s.link a).flightBad = false ∧ i ≠ 0 ∧ i ≠ 1 ∧ i ≠ 0x7FF ∧ s.flag (CTX5.ACTIVE i) = true ∧ s.get (CTX0.IN_ATT i) = a ∧ s.get (CTX0.CLASS i) = p.hdr.cls ∧ s.flag (CTX5.HELD i) = false ∧ s.flag (FE_STAT.FENCED (s.get (CTX0.HOME i))) = false ∧ p.hdr.seq % 65536 = s.get (CTX4.NEXT_SEQ i)) (flow root 7 0 2 1 2) (1) (7) (pkt 2 0) (5)) ∧
    ((fun (s : State) (i : CtxNo) (p : FlowPkt) => s.flows.waiting = [p] ∧ p.ctx = i ∧ (4 ≤ p.inAtt ∨ s.flag (WLT_PCS_STAT.COMPAT p.inAtt) = true) ∧ s.flag (FE_STAT.FENCED (s.get (CTX0.HOME i))) = false ∧ s.flag (CTX0.MCAST i) = false ∧ s.roomFor p (s.ctxOuts i) = true ∧ s.bridge.xfer = none) (fl (flow root 7 0 2 4 2) (fun f => { f with waiting := [fpk 7 2 4 0] })) (7) (fpk 7 2 4 0)) ∧
    ((fun (s : State) (i : CtxNo) (p : FlowPkt) (a : Port) (k : Pick) => s.flows.waiting = [p] ∧ p.ctx = i ∧ p.inAtt = a.val ∧ s.flag (WLT_PCS_STAT.COMPAT a) = false ∧ s.pick ⟨4 + a.val, by omega⟩ = some k ∧ k.pkt = p ∧ s.flag (CTX0.MCAST i) = false ∧ s.bridge.xfer = none) (fl ((flow root 7 0 2 1 2).set (WHLw_POS.UNRESERVED 5) 1 |>.set (WHLw_LEND.POOL 5) 100) (fun f => { f with waiting := [fpk 7 2 1 0] })) (7) (fpk 7 2 1 0) (1) (⟨fpk 7 2 1 0, 6⟩)) ∧
    ((fun (s : State) (n : Port) (p : FlowPkt) => s.flag (WLT_LINK_STAT.ADMITTED n) = true ∧ s.flag (WLT_PCS_STAT.COMPAT n) = false ∧ s.flag (WHLw_POS.UNRESERVED n) = true ∧ s.flows.admitted = [p] ∧ p.outAtt = n ∧ p.begun = false ∧ p.ctx = 2048 ∧ p.pkt.hdr.cls = 0 ∧ p.pkt.n ≤ (s.link n).avail 0) (fl ({ root.set (WLT_LINK_STAT.ADMITTED 2) 1 |>.set (WHLw_POS.UNRESERVED 2) 1 with links := upd root.links 2 { LinkPort.reset with credTx := [40, 0, 0, 0] } }) (fun f => { f with admitted := [fpk 2048 0 1 2] })) (2) (fpk 2048 0 1 2)) ∧
    ((fun (s : State) (i : CtxNo) (a : Nat) (p : FlowPkt) => s.flows.admitted = [p] ∧ p.ctx = i ∧ p.outAtt = a ∧ p.begun = false ∧ s.flag (CTX0.MCAST i) = true ∧ s.branchBlocked a p = true) (fl ((flow root 7 1 1 1 2).set (CTX0.MCAST 7) 1) (fun f => { f with admitted := [fpk 7 1 1 2] })) (7) (2) (fpk 7 1 1 2)) ∧
    ((fun (s : State) (p : FlowPkt) => s.flows.held = [p] ∧ p.outAtt = 7 ∧ p.pkt.hdr.held = true ∧ s.due p.pkt.hdr.ttag = true ∧ p.bad = false ∧ p.pkt.hdr.sealed = false ∧ p.pkt.hdr.cls ≠ 1 ∧ s.queueRoom (brBus p) (byteAt p.pkt.hdr.info 3 % 4) = true ∧ (s.head 0).waits = [] ∧ (s.head 1).waits = []) (fl root (fun f => { f with held := [{ fpk 7 2 1 7 with pkt := ⟨{ (pkt 2 1).hdr with held := true }, []⟩ }] })) ({ fpk 7 2 1 7 with pkt := ⟨{ (pkt 2 1).hdr with held := true }, []⟩ })) ∧
    ((fun (s : State) (a : Nat) (p : FlowPkt) => s.flows.admitted = [p] ∧ p.decided = true ∧ p.ctx ≠ 2048 ∧ p.begun = false ∧ s.domainOn (p.outAtt + 6) = true ∧ p.bad = false ∧ p.pkt.hdr.poison = false ∧ p.pkt.hdr.sealed = false ∧ s.flows.held = [] ∧ p.outAtt = a ∧ a = 4 ∧ p.pkt.hdr.cls = 3 ∧ isFlowControl p.pkt = false ∧ s.isRoot = true) (fl root (fun f => { f with admitted := [fpk 7 3 1 4] })) (4) (fpk 7 3 1 4)) ∧
    ((fun (s : State) (a : Nat) (p : FlowPkt) => s.flows.admitted = [p] ∧ p.decided = true ∧ p.ctx ≠ 2048 ∧ p.begun = false ∧ s.domainOn (p.outAtt + 6) = true ∧ p.bad = true ∧ p.pkt.hdr.poison = false ∧ p.pkt.hdr.sealed = false ∧ s.flows.held = [] ∧ p.outAtt = a ∧ 4 ≤ a) (fl root (fun f => { f with admitted := [{ fpk 7 3 1 4 with bad := true }] })) (4) ({ fpk 7 3 1 4 with bad := true })) ∧
    ((fun (s : State) (n : Port) (b : List Byte) => (s.link n).flightBad = false ∧ slotCheckGood b = true ∧ (Hdr.ofSlot b).flow ≠ 0x7FF) (root) (2) (Hdr.slot ⟨0, 0, 0, true, true, false, false, false, 0, 0, 0, []⟩)) ∧
    ((fun (s : State) (a lpn : Nat) (p : FlowPkt) => s.flows.waiting = [] ∧ s.flows.admitted = [p] ∧ p.inAtt = a ∧ p.lpn = lpn ∧ p.decided = false ∧ p.begun = false ∧ 4 ≤ p.outAtt) (fl root (fun f => { f with admitted := [{ fpk 7 2 1 4 with decided := false }] })) (1) (5) ({ fpk 7 2 1 4 with decided := false })) ∧
    ((fun (s : State) (n : Fin 2) (x : Tlp) => s.isRoot = false ∧ x.malformed = false ∧ x.intx = false ∧ s.flag (PCIE_RP_CTX.BIND n) = true ∧ s.flag (CTX5.ACTIVE (s.get (PCIE_RP_CTX.REV_CTX n))) = true ∧ s.flag (CTX5.HELD (s.get (PCIE_RP_CTX.REV_CTX n))) = false ∧ s.adapterOn 4 = true ∧ s.flag (CTX5.DRAINING (s.get (PCIE_RP_CTX.REV_CTX n))) = false ∧ s.get (CTX0.CLASS (s.get (PCIE_RP_CTX.REV_CTX n))) = 2 ∧ s.get (CTX0.IN_ATT (s.get (PCIE_RP_CTX.REV_CTX n))) = 4 ∧ s.flag (FE_STAT.FENCED (s.get (CTX0.HOME (s.get (PCIE_RP_CTX.REV_CTX n))))) = false ∧ s.flag (CTX0.SEAL (s.get (PCIE_RP_CTX.REV_CTX n))) = false ∧ s.rlbRoom (s.get (PCIE_RP_CTX.REV_CTX n)) (Tlp.toPkt x).n = true ∧ x.ep = false) (flow spoke 7 0 2 4 1 |>.set (PCIE_RP_CTX.BIND 0) 1 |>.set (PCIE_RP_CTX.REV_CTX 0) 7) (0) (⟨false, false, none, some 0x1000, none, false, false, false, List.replicate 12 0, none, false, [1, 2], false⟩)) ∧
    ((fun (s : State) (x : Tlp) => s.isRoot = true ∧ x.ep = false ∧ s.host.queue = []) (root) (⟨false, false, none, some 0x1000, none, false, false, false, List.replicate 12 0, none, false, [1, 2], false⟩)) :=
  by and_intros <;> decide +kernel

/-- States and operands that meet the hypotheses of Obligations.ReliableBulkAndPartitions. -/
theorem witness_ReliableBulkAndPartitions :
    ((fun (s : State) (i : CtxNo) (p : FlowPkt) => s.flows.admitted = [p] ∧ p.decided = true ∧ p.ctx ≠ 2048 ∧ p.begun = false ∧ s.domainOn (p.outAtt + 6) = true ∧ p.bad = false ∧ p.pkt.hdr.poison = false ∧ p.pkt.hdr.sealed = false ∧ s.flows.held = [] ∧ p.ctx = i ∧ p.outAtt = 4 ∧ s.isRoot = true ∧ p.pkt.hdr.cls = 2 ∧ isFlowControl p.pkt = false ∧ p.pkt.hdr.seq % 65536 = ((s.rlbOutOf i).ackSeq + 1) % 65536 ∧ (s.rlbOutOf i).unacked < 15) (fl root (fun f => { f with admitted := [fpk 7 2 1 4], rlbOut := [(7, ⟨0, 3, none⟩)] })) (7) (fpk 7 2 1 4)) ∧
    ((fun (s : State) (i : CtxNo) => 0 < (s.rlbOutOf i).unacked ∧ s.flag (CTX0.PAIR_VALID i) = true ∧ s.flag (CTX5.ACTIVE (s.get (CTX0.PAIR i))) = true ∧ s.flag (CTX5.HELD (s.get (CTX0.PAIR i))) = false ∧ s.get (CTX0.CLASS (s.get (CTX0.PAIR i))) = 2 ∧ s.flag (FE_STAT.FENCED (s.get (CTX0.HOME (s.get (CTX0.PAIR i))))) = false) (fl (((flow (flow root 7 0 2 1 4) 8 0 2 4 1).set (CTX0.PAIR 7) 8).set (CTX0.PAIR_VALID 7) 1) (fun f => { f with rlbOut := [(7, ⟨6, 3, none⟩)] })) (7)) ∧
    ((fun (s : State) (i : CtxNo) (_ : Nat) => s.flag (CTX0.PAIR_VALID i) = true ∧ s.get (CTX0.CLASS i) = 2 ∧ s.flows.backlog = []) (fl (((flow root 7 0 2 1 4).set (CTX0.PAIR 7) 8).set (CTX0.PAIR_VALID 7) 1) (fun f => { f with rlbIn := [(8, ⟨3, [pkt 2 1, pkt 2 2], 100⟩)] })) (7) (1)) ∧
    ((fun (s : State) (i : CtxNo) (p : Pkt) => (s.rlbInOf i).kept = [p] ∧ s.flag (CTX5.ACTIVE i) = true ∧ s.flag (CTX5.HELD i) = false ∧ s.flag (CTX0.SEAL i) = false ∧ s.flag (FE_STAT.FENCED (s.get (CTX0.HOME i))) = false) (fl (flow root 7 0 2 4 1) (fun f => { f with rlbIn := [(7, ⟨3, [pkt 2 2], 100⟩)] })) (7) (pkt 2 2)) ∧
    ((fun (s : State)  => (ctxRange.any fun i => s.ctxLive i) = false ∧ ((List.range 64).map fun m => s.get (LST_PART.KIB m)).sum ≤ 6144 ∧ ((List.range 4).all fun a => (List.range 4).all fun c => decide (11 ≤ s.get (LST_PART.KIB (8 * a + c)))) = true) (root)) ∧
    ((fun (s : State) (i : Nat) => s.ctxLive i = true ∧ i < 2048) (flow root 7 0 2 1 4) (7)) :=
  by and_intros <;> decide +kernel

/-- States and operands that meet the hypotheses of Obligations.EpochsAndBoundaries. -/
theorem witness_EpochsAndBoundaries :
    ((fun (s : State) (w : WheelNo) (_ : Nat) => s.get (WHLw_SIZE.P w) ≠ 0 ∧ s.flag CTM_STAT.FREEZE = false ∧ s.flag (WHLw_POS.UNRESERVED w) = true ∧ s.flows.waiting = [] ∧ s.flows.admitted = []) (root.set (WHLw_SIZE.P 2) 49600 |>.set (WHLw_POS.UNRESERVED 2) 1) (2) (40)) ∧
    ((fun (s : State) (w : WheelNo) (_ : Nat) (n : Port) (p : FlowPkt) => w.val = n.val ∧ s.get (WHLw_SIZE.P w) ≠ 0 ∧ s.flag CTM_STAT.FREEZE = true ∧ s.flag (WHLw_POS.UNRESERVED w) = true ∧ s.flag (WLT_PCS_STAT.COMPAT n) = false ∧ s.flows.admitted = [p] ∧ p.outAtt = n ∧ p.begun = false ∧ p.ctx = 2048 ∧ p.pkt.hdr.cls = 0 ∧ p.pkt.n ≤ (s.link n).avail 0) (fl ({ root.set (WHLw_SIZE.P 2) 49600 |>.set CTM_STAT.FREEZE 1 |>.set (WHLw_POS.UNRESERVED 2) 1 with links := upd root.links 2 { LinkPort.reset with credTx := [40, 0, 0, 0] } }) (fun f => { f with admitted := [fpk 2048 0 1 2] })) (2) (4) (2) (fpk 2048 0 1 2)) ∧
    ((fun (s : State) (w : WheelNo) => s.flag (WHLw_POS.EXPANDING w) = true) (root.set (WHLw_POS.EXPANDING 3) 1) (3)) :=
  by and_intros <;> decide +kernel

/-- States and operands that meet the hypotheses of Obligations.CommitsOfWheelMaps. -/
theorem witness_CommitsOfWheelMaps :
    ((fun (s : State) (_ _ : Nat) => 51200 * (s.epochNow + 1) ≥ s.now + 1600) (root) (4) (9)) ∧
    ((fun (s : State) (c : Commit) (w : WheelNo) => s.wheel.commits = [c] ∧ c.ready = false ∧ s.checkCommit c = none ∧ c.wheels = 2 ^ w.val) ({ root with wheel := { root.wheel with commits := [⟨4, 9, false, 3, 0, false⟩] } }) (⟨4, 9, false, 3, 0, false⟩) (2)) ∧
    ((fun (s : State) (c : Commit) (r : Refuse) => s.wheel.commits = [c] ∧ c.ready = false ∧ s.checkCommit c = some r) ({ root with wheel := { root.wheel with commits := [⟨4, 99999, true, 3, 0, false⟩] } }) (⟨4, 99999, true, 3, 0, false⟩) (⟨3, none, none, none, none⟩)) ∧
    ((fun (s : State) (_ : Nat) (c : Commit) => s.wheel.commits = [c] ∧ c.ready = true ∧ s.now + 1600 ≤ epochStart s.now c.epoch) ({ root with wheel := { root.wheel with commits := [⟨4, 9, false, 3, 0, true⟩] } }) (7) (⟨4, 9, false, 3, 0, true⟩)) ∧
    ((fun (s : State) (_ : Nat) => s.wheel.commits = []) (root) (7)) ∧
    ((fun (s : State) (c : Commit) (w : WheelNo) => s.frozen = false ∧ s.wheel.commits = [c] ∧ c.ready = true ∧ c.epoch = s.epochNow % 2 ^ 32 ∧ c.wheels = 2 ^ w.val ∧ s.get (MAPA_HDR.COUNT w) = 0 ∧ s.get (MAPS_HDR.COUNT w) = 0) ({ root.set (MAPS_HDR.BASIS 2) 48000 with wheel := { root.wheel with commits := [⟨4, 0, false, 3, 0, true⟩] } }) (⟨4, 0, false, 3, 0, true⟩) (2)) :=
  by and_intros <;> decide +kernel

/-- States and operands that meet the hypotheses of Obligations.MapsAndQuotas. -/
theorem witness_MapsAndQuotas :
    ((fun (s : State) (w : WheelNo) (e : Nat) => bit (s.get WHL_STAT.STAGED) w = false ∧ e < 1023) (root.set (MAPA0.QUOTA 2 4) 77) (2) (4)) ∧
    ((fun (s : State) (w : WheelNo) (e _ : Nat) => bit (s.get WHL_STAT.STAGED) w = false ∧ e < 1023) (root) (2) (1022) (0x200805)) ∧
    ((fun (s : State) (w : WheelNo) (o _ : Nat) => 0x2000 ≤ o % 0x4000 ∧ bit (s.get WHL_STAT.STAGED) w = true) (root.set WHL_STAT.STAGED 4) (2) (0x2008) (5)) ∧
    ((fun (_s : State) (_ : WheelNo) (o _ : Nat) => o % 0x4000 < 0x2000) (root) (2) (8) (5)) ∧
    ((fun (s : State) (i : CtxNo) => s.flag (CTX5.OVER_QUOTA i) = true ∧ s.get (CTXP3.ADMITTED_OCC i) ≤ s.get (CTX2.QUOTA i) ∧ s.get (CTXP1.OWN_USE i) ≤ s.get (CTX2.QUOTA i)) (root.set (CTX5.OVER_QUOTA 7) 1) (7)) :=
  by and_intros <;> decide +kernel

/-- States and operands that meet the hypotheses of Obligations.MemoryAndParityFailures. -/
theorem witness_MemoryAndParityFailures :
    ((fun (s : State) (_ i seq : Nat) (p : FlowPkt) => s.flows.waiting = [p] ∧ s.flows.admitted = [] ∧ p.ctx = i ∧ p.pkt.hdr.seq = seq) (fl root (fun f => { f with waiting := [fpk 7 2 1 0] })) (1) (7) (1) (fpk 7 2 1 0)) ∧
    ((fun (s : State) (i seq : Nat) (p : FlowPkt) => s.flows.waiting = [p] ∧ s.flows.admitted = [] ∧ p.ctx = i ∧ p.pkt.hdr.seq = seq) (fl root (fun f => { f with waiting := [fpk 7 2 1 0] })) (7) (1) (fpk 7 2 1 0)) ∧
    ((fun (s : State) (i : CtxNo) => s.ctxLive i = true) (flow spoke 7 0 2 1 2) (7)) ∧
    ((fun (_s : State) (table : Nat) (_ : WheelNo) (e : Nat) => table % 7 = 1 ∧ e < 1023) (root.set (MAPS0.QUOTA 2 5) 9) (1) (2) (5)) ∧
    ((fun (s : State) (n : Port) => (s.link n).replay ≠ [] ∧ s.flag (WLT_LINK_STAT.ADMITTED n) = true) ({ root.set (WLT_LINK_STAT.ADMITTED 2) 1 with links := upd root.links 2 { LinkPort.reset with replay := [⟨0, [], 15, 0, 0, false, false, false, []⟩] } }) (2)) :=
  by and_intros <;> decide +kernel

/-- States and operands that meet the hypotheses of Obligations.EngineFencing. -/
theorem witness_EngineFencing :
    ((fun (s : State) (e : Engine) (_ : Nat) => s.flag (FE_STAT.FENCED e) = false) (root) (3) (200)) ∧
    ((fun (s : State) (e : Engine) (_ : List (Nat × Nat)) (_ : Nat) => s.flag (FE_STAT.FENCED e) = true) (root.set (FE_STAT.FENCED 3) 1) (3) ([(7, 1)]) (200)) ∧
    ((fun (s : State) (e : Engine) (_ : Bool) (_ : Nat) => s.flag (FE_STAT.FENCED e) = false) (root) (3) (true) (20)) ∧
    ((fun (s : State) (e : Engine) (_ : Nat) => s.flag (FE_STAT.FENCED e) = false) (root) (3) (20)) ∧
    ((fun (s : State) (e : Engine) (i b : Nat) => s.integ.rehome = [e.val] ∧ (ctxRange.filter fun i => s.ctxLive i && s.get (CTX0.HOME i) == e.val) = [i] ∧ i < 2048 ∧ s.bestEngine = some b ∧ b ≠ e) ({ (flow root 7 0 2 1 2).set (CTX0.HOME 7) 3 |>.set (FE_STAT.FENCED 3) 1 with integ := { root.integ with rehome := [3] } }) (3) (7) (0)) :=
  by and_intros <;> decide +kernel

/-- States and operands that meet the hypotheses of Obligations.WordsOfTheControlWindow. -/
theorem witness_WordsOfTheControlWindow :
    ((fun (s : State) (_ : Src) (_ : Nat) => s.pageOn 3 = true) (root) (.host) (0x1FFF0)) ∧
    ((fun (s : State) (_ : Src) (p o _ : Nat) => p < 0xA0 ∧ o < 0x1000 ∧ o % 4 = 0 ∧ p ≠ 1 ∧ (pageInfo p).isSome = true ∧ s.pageOn p = false) (root.set PWRD_DOMAIN_STAT.POWERED 1) (.hub 5 1) (0x70) (0x40) (9)) ∧
    ((fun (_s : State) (_ : Src) (p o _ : Nat) => p < 0xF0 ∧ o < 0x1000 ∧ o % 4 = 0 ∧ pageInfo p = none) (root) (.host) (0x7F) (0x40) (9)) ∧
    ((fun (_s : State) (_ : Src) (p o _ : Nat) => 0xA0 ≤ p ∧ p < 0xC0 ∧ o < 0x1000 ∧ o % 4 = 0 ∧ (pageInfo p).isSome = true) (root) (.host) (0xB0) (0x40) (9)) ∧
    ((fun (s : State) (p v : Nat) (src : Src) => s.ctl.pdq = [⟨0x1000 * p + 0x14, 15, v, src, none, 0⟩] ∧ s.ctl.pdReads = [] ∧ 0xA0 ≤ p ∧ p < 0xC0 ∧ s.pageOn p = true ∧ s.get (EVT_RAW p) = 0) (ct root (fun c => { c with pdq := [⟨0xB0014, 15, 5, .host, none, 0⟩] })) (0xB0) (5) (.host)) ∧
    ((fun (s : State) (e : Nat) (l : List Nat) => s.pageOn 6 = true ∧ s.ctl.pdq = [] ∧ s.ctl.awlLog = e :: l) (ct root (fun c => { c with awlLog := [7, 8] })) (7) ([8])) ∧
    ((fun (s : State) (_ : Nat) => s.isRoot = true) (root) (0xC000000)) ∧
    ((fun (s : State)  => s.isRoot = true) ({ root with host := { root.host with bar0 := 0x4000004, memOn := true } })) :=
  by and_intros <;> decide +kernel

/-- States and operands that meet the hypotheses of Obligations.PageHeadersAndEvents. -/
theorem witness_PageHeadersAndEvents :
    ((fun (s : State) (src : Src) (p : Nat) => p < 0xA0 ∧ s.pageOn p = true ∧ (pageInfo p).isSome = true ∧ (pageInfo p).any (fun i => i.lockable) = true ∧ s.locked p = false ∧ src ≠ .awlNormal) (root) (.host) (0x30)) ∧
    ((fun (s : State) (src : Src) (e : Engine) => s.pageOn (0x40 + e.val) = true ∧ src ≠ .awlNormal) (root.set (FE_STAT.FENCED 3) 1) (.host) (3)) ∧
    ((fun (s : State) (src : Src) (p _ : Nat) => p < 0xA0 ∧ s.pageOn p = true ∧ (pageInfo p).isSome = true ∧ src ≠ .awlNormal ∧ s.get (EVT_RAW p) = 0) (root) (.host) (0x30) (5)) ∧
    ((fun (s : State) (src : Src) (p v b : Nat) => p < 0xA0 ∧ s.pageOn p = true ∧ (pageInfo p).isSome = true ∧ src ≠ .awlNormal ∧ b < eventsOf p ∧ bit v b = true ∧ bit (s.get (EVT_EN p)) b = false ∧ bit (s.get (EVT_RAW p)) b = true ∧ s.get (EVC_MAP.VECTOR (evFirst p + b)) < 32) (root.set (EVT_RAW 0x30) 1) (.host) (0x30) (5) (0)) ∧
    ((fun (s : State) (src : Src) (p _ : Nat) => p < 0xA0 ∧ s.pageOn p = true ∧ (pageInfo p).isSome = true ∧ src ≠ .awlNormal) (root.set (EVT_RAW 0x30) 7) (.host) (0x30) (5)) ∧
    ((fun (s : State) (src : Src) (p _ : Nat) => p < 0xA0 ∧ s.pageOn p = true ∧ (pageInfo p).isSome = true ∧ src ≠ .awlNormal ∧ s.dbgLevel ≠ 0) (root.set KEY_STAT.DBG_LEVEL 1) (.host) (0x30) (5)) ∧
    ((fun (s : State) (src : Src) (p _ : Nat) => p < 0xA0 ∧ s.pageOn p = true ∧ (pageInfo p).isSome = true ∧ src ≠ .awlNormal ∧ s.dbgLevel = 0) (root.set KEY_STAT.DBG_LEVEL 0) (.host) (0x30) (5)) ∧
    ((fun (s : State) (src : Src) (_ : Nat) => s.pageOn 5 = true ∧ src = .awlSecure ∨ src = .awlNormal) (root) (.awlSecure) (5)) ∧
    ((fun (s : State) (_ : Nat) => s.pageOn 5 = true) (root) (5)) ∧
    ((fun (s : State) (v : Fin 32) => s.isRoot = true ∧ s.timing v = false ∧ bit (s.get EVC_ARMED.ARMED) v = true ∧ s.ctl.armings.getD v 0 ≤ 1 ∧ s.host.msixOn = true ∧ (s.msixEnt v).mask = false ∧ s.host.msixFMask = false) ({ root.set EVC_ARMED.ARMED 8 with host := { root.host with msixOn := true, msix := [(3, ⟨0, 0, false, false⟩)] } }) (3)) ∧
    ((fun (s : State) (v : Fin 32) => s.timing v = true) (ct root (fun c => { c with timers := [(3, 400)] })) (3)) ∧
    ((fun (s : State) (q : CtlPkt) => s.isRoot = true ∧ byteAt q.opdata 0 < 0x16 ∧ s.get EVC_RING_HEAD.HEAD < 1023 ∧ s.get EVC_RING_HEAD.HEAD + 1 ≠ s.get EVC_RING_TAIL.TAIL ∧ s.get EVC_CTRL.REMOTE_VEC < 32) (root.set EVC_RING_TAIL.TAIL 9) (eventPkt 5 2 1 99)) :=
  by and_intros <;> decide +kernel

/-- States and operands that meet the hypotheses of Obligations.ControlOperations. -/
theorem witness_ControlOperations :
    ((fun (s : State) (_ : Port) (q : CtlPkt) (p : Nat) => s.hubId ≠ 255 ∧ s.ctl.pdReads = [] ∧ s.ctl.pdq = [] ∧ s.routeTo q.src = some p ∧ s.flag (WLT_LINK_STAT.ADMITTED p) = true ∧ readOk { q with op := 0 } = true ∧ q.bytes = 4 ∧ isPop q.offset = false) (spoke) (0) (reqPkt 0 5 0 0x03044 4 []) (0)) ∧
    ((fun (s : State) (_ : Port) (q : CtlPkt) (p : Nat) => s.hubId ≠ 255 ∧ s.ctl.pdReads = [] ∧ s.ctl.pdq = [] ∧ s.routeTo q.src = some p ∧ s.flag (WLT_LINK_STAT.ADMITTED p) = true ∧ readOk { q with op := 0 } = false) (spoke) (0) (reqPkt 0 5 0 0x03042 4 []) (0)) ∧
    ((fun (s : State) (_ : Port) (q : CtlPkt) (p : Nat) => s.hubId ≠ 255 ∧ s.ctl.pdReads = [] ∧ s.ctl.pdq = [] ∧ s.routeTo q.src = some p ∧ s.flag (WLT_LINK_STAT.ADMITTED p) = true ∧ q.offset = CTM_ASYM.ASYM.addr ∧ q.bytes = 4 ∧ writeOk { q with op := 1 } = true ∧ s.pageOn 3 = true ∧ s.ctl.cache = []) (spoke) (0) (reqPkt 1 5 0 CTM_ASYM.ASYM.addr 4 [1, 2, 3, 4]) (0)) ∧
    ((fun (s : State) (_ : Port) (q : CtlPkt) => s.ctl.pdReads = [] ∧ s.cached { q with op := 6 } = none ∧ s.get MBX_STAT.QUEUED < 4 ∧ s.ctl.cache = []) (spoke) (0) ({ reqPkt 6 5 0 0 64 [] with opdata := [1, 0, 9] })) ∧
    ((fun (s : State) (q : CtlPkt) (r : OutReq) => s.ctl.reqs.find? q.tag = some r ∧ q.status ≠ 16 ∧ r.purpose = 0) (ct root (fun c => { c with reqs := [(0, ⟨reqPkt 1 5 0 0 4 [], 1, 0⟩)] })) ((reqPkt 1 5 0 0 4 []).answer 5 0 []) (⟨reqPkt 1 5 0 0 4 [], 1, 0⟩)) ∧
    ((fun (s : State) (q : CtlPkt) (r : OutReq) => s.ctl.reqs.find? q.tag = some r ∧ q.status = 16) (ct root (fun c => { c with reqs := [(0, ⟨reqPkt 1 5 0 0 4 [], 1, 0⟩)] })) ((reqPkt 1 5 0 0 4 []).answer 5 16 []) (⟨reqPkt 1 5 0 0 4 [], 1, 0⟩)) ∧
    ((fun (s : State) (tag : Nat) (r : OutReq) (p : Nat) => s.ctl.reqs.find? tag = some r ∧ r.attempts < s.get CHIP_CTL_RETRY.RETRIES ∧ r.pkt.via = false ∧ s.routeTo r.pkt.dst = some p ∧ s.flag (WLT_LINK_STAT.ADMITTED p) = true) (ct spoke (fun c => { c with reqs := [(0, ⟨reqPkt 1 0 5 0 4 [], 1, 0⟩)] })) (0) (⟨reqPkt 1 0 5 0 4 [], 1, 0⟩) (0)) ∧
    ((fun (s : State) (e : Nat) (_ : Fin 2) (_ : Nat) (_ : Bool) (p : Nat) => s.isRoot = true ∧ s.endBind e = true ∧ s.routeTo (s.get (CTX1.END_HUB (s.endCtx e))) = some p ∧ s.flag (WLT_LINK_STAT.ADMITTED p) = true) (root.set (ROUTE.ROUTE 9) 6 |>.set (WLT_LINK_STAT.ADMITTED 2) 1 |>.set (PCIE_VDP.BIND 3) 1 |>.set (PCIE_VDP.FWD_CTX 3) 7 |>.set (CTX1.END_HUB 7) 9) (3) (0) (13) (true) (2)) ∧
    ((fun (s : State) (e rp _ p : Nat) => s.isRoot = true ∧ (List.range 272).filter s.endBind = [e] ∧ s.flag (endPresent e) = false ∧ rp < 2 ∧ s.routeTo (s.get (CTX1.END_HUB (s.endCtx e))) = some p ∧ s.flag (WLT_LINK_STAT.ADMITTED p) = true) (root.set (ROUTE.ROUTE 9) 6 |>.set (WLT_LINK_STAT.ADMITTED 2) 1 |>.set (PCIE_VDP.BIND 3) 1 |>.set (PCIE_VDP.FWD_CTX 3) 7 |>.set (CTX1.END_HUB 7) 9) (3) (0) (13) (2)) ∧
    ((fun (s : State) (_ : Nat) (_ : Option Nat) (speed width : Nat) (_ : Bool) => s.isRoot = false ∧ linkShape 4 width speed = true) (spoke) (1) (none) (3) (4) (true)) ∧
    ((fun (s : State) (width speed : Nat) => s.isRoot = true ∧ linkShape 8 width speed = true) (root) (8) (4)) :=
  by and_intros <;> decide +kernel

/-- States and operands that meet the hypotheses of Obligations.MailboxCommands. -/
theorem witness_MailboxCommands :
    ((fun (s : State) (c : MbxCmd) => s.ctl.mbxQueue = [c] ∧ c.cmd = 0x0001 ∧ s.awlServes = true ∧ c.result = none ∧ c.begun = false) (rung (root) (mb 0x0001 [])) (mb 0x0001 [])) ∧
    ((fun (s : State) (_ : Nat) => s.flag MBX_STAT.BUSY = false ∧ s.ctl.mbxQueue ≠ []) ((rung root (mb 2 [])).set MBX_STAT.BUSY 0) (5)) ∧
    ((fun (s : State) (c : MbxCmd) => s.ctl.mbxQueue = [c] ∧ c.cmd = 0x0002 ∧ s.awlServes = true ∧ c.result = none ∧ c.begun = false) (rung (root) (mb 0x0002 [])) (mb 0x0002 [])) ∧
    ((fun (s : State) (c : MbxCmd) => s.ctl.mbxQueue = [c] ∧ c.cmd = 0x0010 ∧ s.awlServes = true ∧ c.result = none ∧ c.begun = false ∧ s.isRoot = true ∧ s.chain.hubs = [] ∧ byteAt c.req 0 = 0) (rung (root) (mb 0x0010 [])) (mb 0x0010 [])) ∧
    ((fun (s : State) (c : MbxCmd) (p : Nat) => s.ctl.mbxQueue = [c] ∧ c.cmd = 0x0011 ∧ s.awlServes = true ∧ c.result = none ∧ c.begun = false ∧ s.isRoot = true ∧ remHub c ≠ s.hubId ∧ s.routeTo (remHub c) = some p ∧ s.flag (WLT_LINK_STAT.ADMITTED p) = true ∧ bytesOk (remBytes c) 60 = true) (rung (root.set (ROUTE.ROUTE 9) 6 |>.set (WLT_LINK_STAT.ADMITTED 2) 1) (mb 0x0011 [9, 0, 0, 0, 0x44, 0x30, 0, 0, 8, 0])) (mb 0x0011 [9, 0, 0, 0, 0x44, 0x30, 0, 0, 8, 0]) (2)) ∧
    ((fun (s : State) (c : MbxCmd) (p : Nat) => s.ctl.mbxQueue = [c] ∧ c.cmd = 0x0012 ∧ s.awlServes = true ∧ c.result = none ∧ c.begun = false ∧ s.isRoot = true ∧ remHub c ≠ s.hubId ∧ s.routeTo (remHub c) = some p ∧ s.flag (WLT_LINK_STAT.ADMITTED p) = true ∧ bytesOk (remBytes c) 48 = true ∧ remOff c + remBytes c ≤ 0x01A0000) (rung (root.set (ROUTE.ROUTE 9) 6 |>.set (WLT_LINK_STAT.ADMITTED 2) 1) (mb 0x0012 [9, 0, 0, 0, 0x44, 0x30, 0, 0, 8, 0])) (mb 0x0012 [9, 0, 0, 0, 0x44, 0x30, 0, 0, 8, 0]) (2)) ∧
    ((fun (s : State) (c : MbxCmd) => s.ctl.mbxQueue = [c] ∧ c.cmd = 0x0012 ∧ s.awlServes = true ∧ c.result = none ∧ c.begun = false ∧ s.isRoot = true ∧ bytesOk (remBytes c) 48 = true ∧ remOff c = 0x01A0010) (rung (root) (mb 0x0012 [9, 0, 0, 0, 0x10, 0, 0x1A, 0, 8, 0])) (mb 0x0012 [9, 0, 0, 0, 0x10, 0, 0x1A, 0, 8, 0])) ∧
    ((fun (s : State) (c : MbxCmd) (p : Nat) => s.ctl.mbxQueue = [c] ∧ c.cmd = 0x0013 ∧ s.awlServes = true ∧ c.result = none ∧ c.begun = false ∧ s.isRoot = true ∧ remHub c ≠ s.hubId ∧ s.routeTo (remHub c) = some p ∧ s.flag (WLT_LINK_STAT.ADMITTED p) = true ∧ bytesOk (remBytes c) 4096 = true ∧ leNat (byteSlice c.req 16 8) % 4 = 0) (rung (root.set (ROUTE.ROUTE 9) 6 |>.set (WLT_LINK_STAT.ADMITTED 2) 1) (mb 0x0013 [9, 0, 0, 0, 0x44, 0x30, 0, 0, 8, 0])) (mb 0x0013 [9, 0, 0, 0, 0x44, 0x30, 0, 0, 8, 0]) (2)) ∧
    ((fun (s : State) (c : MbxCmd) (p : Nat) => s.ctl.mbxQueue = [c] ∧ c.cmd = 0x0014 ∧ s.awlServes = true ∧ c.result = none ∧ c.begun = false ∧ s.isRoot = true ∧ remHub c ≠ s.hubId ∧ s.routeTo (remHub c) = some p ∧ s.flag (WLT_LINK_STAT.ADMITTED p) = true) (rung (root.set (ROUTE.ROUTE 9) 6 |>.set (WLT_LINK_STAT.ADMITTED 2) 1) (mb 0x0014 [9, 0, 1, 0])) (mb 0x0014 [9, 0, 1, 0]) (2)) ∧
    ((fun (s : State) (c : MbxCmd) (_ : List Nat) (_ _ : Nat) => s.ctl.mbxQueue = [c] ∧ c.cmd = 0x0020 ∧ s.awlServes = true ∧ c.result = none ∧ c.begun = false ∧ s.isRoot = true ∧ byteAt c.req 0 = 0 ∧ byteAt c.req 1 = 2 ∧ byteAt c.req 5 = 4 ∧ byteAt c.req 9 = 5 ∧ leNat (byteSlice c.req 6 2) < 2048 ∧ leNat (byteSlice c.req 10 2) < 2048 ∧ leNat (byteSlice c.req 12 2) ≤ 49600 ∧ byteAt c.req 8 ≠ 0 ∧ s.chain.hubs = []) (rung (root) (mb 0x0020 [0, 2, 0, 0, 0, 4, 1, 0, 9, 5, 1, 0, 8, 0])) (mb 0x0020 [0, 2, 0, 0, 0, 4, 1, 0, 9, 5, 1, 0, 8, 0]) ([]) (7) (2)) ∧
    ((fun (s : State) (c : MbxCmd) (_ _ : Nat) => s.ctl.mbxQueue = [c] ∧ c.cmd = 0x0020 ∧ s.awlServes = true ∧ c.result = none ∧ c.begun = false ∧ s.isRoot = true ∧ s.hubId = 0 ∧ s.chain.hubs = [] ∧ s.chain.paths = [] ∧ s.ctxLive 2 = false ∧ s.domainOn 3 = true ∧ s.bestEngine.isSome = true ∧ s.ctl.pdq = [] ∧ s.get LST_CTX_STAT.BUSY = 0 ∧ c.tags = [] ∧ c.fate = 0 ∧ c.got = [] ∧ c.req = [1, 3, 0, 0, 0, 4, 1, 0, 0, 5, 1, 0, 8, 0, 8, 0] ++ List.replicate 48 0) (rung (root) (mb 0x0020 [1, 3, 0, 0, 0, 4, 1, 0, 0, 5, 1, 0, 8, 0, 8, 0])) (mb 0x0020 [1, 3, 0, 0, 0, 4, 1, 0, 0, 5, 1, 0, 8, 0, 8, 0]) (7) (2)) ∧
    ((fun (s : State) (c : MbxCmd) => s.ctl.mbxQueue = [c] ∧ c.cmd = 0x0021 ∧ s.awlServes = true ∧ c.result = none ∧ c.begun = false ∧ s.isRoot = true ∧ s.chain.paths = []) (rung (root) (mb 0x0021 [])) (mb 0x0021 [])) ∧
    ((fun (s : State) (c : MbxCmd) => s.ctl.mbxQueue = [c] ∧ c.cmd = 0x0021 ∧ s.awlServes = true ∧ c.result = none ∧ c.begun = false ∧ s.isRoot = true ∧ s.hubId = 0 ∧ s.chain.paths = [(0, [⟨0, 4, 5, 7⟩])] ∧ leNat (byteSlice c.req 0 3) = 0 ∧ s.flag (CTX5.ACTIVE 7) = true ∧ s.pageOn 0x30 = true ∧ s.pageOpen 0x30 = true ∧ s.ctl.pdq = [] ∧ s.locked 0x30 = false) (rung ({ flow root 7 0 2 4 5 with chain := { root.chain with paths := [(0, [⟨0, 4, 5, 7⟩])] } }) (mb 0x0021 [])) (mb 0x0021 [])) ∧
    ((fun (s : State) (c : MbxCmd) (st : Nat) (d : List Byte) => s.ctl.mbxQueue = [c] ∧ c.result = some (st, d) ∧ c.remote = none ∧ c.cmd = 1 ∧ d.length = 60 ∧ s.awlServes = true) (rung root { mb 1 [] with result := some (0, List.replicate 60 7) }) ({ mb 1 [] with result := some (0, List.replicate 60 7) }) (0) (List.replicate 60 7)) ∧
    ((fun (s : State) (c : MbxCmd) => s.ctl.mbxQueue = [c] ∧ c.remote = none) (rung root (mb 1 [])) (mb 1 [])) :=
  by and_intros <;> decide +kernel

/-- States and operands that meet the hypotheses of Obligations.StorageAndPciExpress. -/
theorem witness_StorageAndPciExpress :
    ((fun (s : State) (_ : List (Nat × Nat × Nat)) => s.isRoot = true) (root.set PCIE_STAT.WIDTH 2) ([])) ∧
    ((fun (s : State) (_ : List (Nat × Nat × Nat)) => s.isRoot = true) (root.set (PCIE_VDP.GROUP 3) 1) ([(3, 1, 0)])) ∧
    ((fun (s : State) (e rp _ p : Nat) => s.isRoot = true ∧ (List.range 272).filter s.endBind = [e] ∧ s.flag (endPresent e) = false ∧ rp < 2 ∧ s.routeTo (s.get (CTX1.END_HUB (s.endCtx e))) = some p ∧ s.flag (WLT_LINK_STAT.ADMITTED p) = true) (root.set (ROUTE.ROUTE 9) 6 |>.set (WLT_LINK_STAT.ADMITTED 2) 1 |>.set (PCIE_VDP.BIND 3) 1 |>.set (PCIE_VDP.FWD_CTX 3) 7 |>.set (CTX1.END_HUB 7) 9) (3) (1) (13) (2)) ∧
    ((fun (s : State)  => s.isRoot = true) (root)) ∧
    ((fun (s : State) (x : Tlp) (e : Nat) => s.isRoot = true ∧ x.malformed = false ∧ x.intx = false ∧ x.pmeTurnOff = false ∧ x.cfg = none ∧ s.windowOf x = none ∧ s.tableOf x = none ∧ s.routeTlp x = some e ∧ s.endReady e = true ∧ s.adapterOn 4 = true ∧ s.flag (CTX5.DRAINING (s.endCtx e)) = false ∧ s.get (CTX0.CLASS (s.endCtx e)) = 2 ∧ s.get (CTX0.IN_ATT (s.endCtx e)) = 4 ∧ s.flag (FE_STAT.FENCED (s.get (CTX0.HOME (s.endCtx e)))) = false ∧ s.flag (CTX0.SEAL (s.endCtx e)) = false ∧ s.rlbRoom (s.endCtx e) (Tlp.toPkt x).n = true ∧ x.ep = false) ({ flow root 7 0 2 4 1 |>.set (PCIE_VDP.BIND 3) 1 |>.set (PCIE_VDP.FWD_CTX 3) 7 with host := { root.host with ports := [(3, ⟨1, 1, 0x1000, 0x1FFF, 1, 0, none⟩)], ends := [(3, ⟨true, 1, 1⟩)] } }) (⟨false, false, none, some 0x1000, none, false, false, false, List.replicate 12 0, none, false, [1, 2], false⟩) (3)) ∧
    ((fun (s : State) (x : Tlp) => s.isRoot = true ∧ x.malformed = false ∧ x.intx = false ∧ x.pmeTurnOff = false ∧ s.windowOf x = none ∧ s.tableOf x = none ∧ s.routeTlp x = none ∧ x.posted = false ∧ x.completion = false) (root) (⟨false, false, none, some 0x1000, none, false, false, false, List.replicate 12 0, none, false, [1, 2], false⟩)) ∧
    ((fun (s : State) (v _ _ : Nat) (_ : Bool) => s.isRoot = true ∧ v < 64 ∧ s.host.msixOn = false) (root) (3) (4) (5) (true)) ∧
    ((fun (s : State) (_ : Nat) => s.isRoot = true) (root) (2 ^ 64 - 1)) ∧
    ((fun (s : State)  => s.isRoot = true) (root)) ∧
    ((fun (s : State) (x : Tlp) => s.isRoot = true ∧ x.ep = false ∧ s.host.queue = []) (root) (⟨false, false, none, some 0x1000, none, false, false, false, List.replicate 12 0, none, false, [1, 2], false⟩)) ∧
    ((fun (s : State) (x y : Tlp) => s.isRoot = true ∧ x.ep = false ∧ s.host.queue = [(16, y)] ∧ y.kind = 1 ∧ x.kind ≠ 1) ({ root with host := { root.host with queue := [(16, ⟨false, false, none, some 0x1000, none, false, false, false, List.replicate 12 0, none, false, [1, 2], false⟩)] } }) (⟨true, false, none, some 0x1000, none, false, false, false, List.replicate 12 0, none, false, [1, 2], false⟩) (⟨false, false, none, some 0x1000, none, false, false, false, List.replicate 12 0, none, false, [1, 2], false⟩)) ∧
    ((fun (s : State) (p : FlowPkt) (x : Tlp) => s.isRoot = false ∧ s.flows.admitted = [p] ∧ p.decided = true ∧ p.ctx ≠ 2048 ∧ p.begun = false ∧ s.domainOn 10 = true ∧ p.bad = false ∧ p.pkt.hdr.poison = false ∧ p.pkt.hdr.sealed = false ∧ s.flows.held = [] ∧ p.outAtt = 4 ∧ p.pkt.hdr.cls = 3 ∧ isFlowControl p.pkt = false ∧ s.flag (PCIE_RP_CTX.BIND (p.outLabel % 2)) = true ∧ s.host.queue = [] ∧ bit p.pkt.hdr.mx 2 = false ∧ x = ({ p.pkt with hdr := { p.pkt.hdr with flow := p.outLabel } } : Pkt).toTlp) (fl (spoke.set (PCIE_RP_CTX.BIND 1) 1) (fun f => { f with admitted := [fpk 7 3 1 4] })) (fpk 7 3 1 4) (({ (fpk 7 3 1 4).pkt with hdr := { (fpk 7 3 1 4).pkt.hdr with flow := 9 } } : Pkt).toTlp)) ∧
    ((fun (s : State) (x : Tlp) => s.isRoot = true ∧ x.completion = true) (root) (⟨false, true, none, some 0x1000, none, false, false, false, List.replicate 12 0, none, false, [1, 2], false⟩)) ∧
    ((fun (s : State) (n : Fin 2) (x : Tlp) => s.isRoot = false ∧ x.malformed = false ∧ x.intx = false ∧ s.flag (PCIE_RP_CTX.BIND n) = true ∧ s.flag (CTX5.ACTIVE (s.get (PCIE_RP_CTX.REV_CTX n))) = true ∧ s.flag (CTX5.HELD (s.get (PCIE_RP_CTX.REV_CTX n))) = false ∧ s.adapterOn 4 = true ∧ s.flag (CTX5.DRAINING (s.get (PCIE_RP_CTX.REV_CTX n))) = false ∧ s.get (CTX0.CLASS (s.get (PCIE_RP_CTX.REV_CTX n))) = 2 ∧ s.get (CTX0.IN_ATT (s.get (PCIE_RP_CTX.REV_CTX n))) = 4 ∧ s.flag (FE_STAT.FENCED (s.get (CTX0.HOME (s.get (PCIE_RP_CTX.REV_CTX n))))) = false ∧ s.flag (CTX0.SEAL (s.get (PCIE_RP_CTX.REV_CTX n))) = false ∧ s.rlbRoom (s.get (PCIE_RP_CTX.REV_CTX n)) (Tlp.toPkt x).n = true ∧ x.ep = false) (flow spoke 7 0 2 4 1 |>.set (PCIE_RP_CTX.BIND 1) 1 |>.set (PCIE_RP_CTX.REV_CTX 1) 7) (1) (⟨false, false, none, some 0x1000, none, false, false, false, List.replicate 12 0, none, false, [1, 2], false⟩)) ∧
    ((fun (s : State) (n : Fin 2) (x : Tlp) => s.isRoot = false ∧ x.malformed = false ∧ x.intx = false ∧ s.flag (PCIE_RP_CTX.BIND n) = false ∧ x.posted = false ∧ x.completion = false) (spoke) (1) (⟨false, false, none, some 0x1000, none, false, false, false, List.replicate 12 0, none, false, [1, 2], false⟩)) ∧
    ((fun (s : State) (e : Nat) (_ : Fin 2) (_ : Nat) (_ _ : Bool) (p : Nat) => s.isRoot = true ∧ s.endBind e = true ∧ s.routeTo (s.get (CTX1.END_HUB (s.endCtx e))) = some p ∧ s.flag (WLT_LINK_STAT.ADMITTED p) = true) (root.set (ROUTE.ROUTE 9) 6 |>.set (WLT_LINK_STAT.ADMITTED 2) 1 |>.set (PCIE_VDP.BIND 3) 1 |>.set (PCIE_VDP.FWD_CTX 3) 7 |>.set (CTX1.END_HUB 7) 9) (3) (1) (0) (true) (false) (2)) ∧
    ((fun (s : State) (_ : Nat) (_ : Option Nat) (up : Bool) (speed width : Nat) (_ : Bool) => s.isRoot = false ∧ (up = true → linkShape 4 width speed = true)) (spoke) (1) (none) (true) (2) (1) (true)) ∧
    ((fun (s : State) (v : Nat) (up : Bool) (speed width : Nat) (_ : Bool) => s.isRoot = true ∧ v < 16 ∧ (up = true → linkShape 4 width speed = true) ∧ s.endBind v = false ∧ s.flag (endPresent v) = false) (root) (1) (true) (2) (1) (true)) ∧
    ((fun (s : State) (width speed : Nat) => s.isRoot = true ∧ linkShape 8 width speed = true) (root) (2) (3)) :=
  by and_intros <;> decide +kernel

/-- States and operands that meet the hypotheses of Obligations.EthernetAndTimeStamps. -/
theorem witness_EthernetAndTimeStamps :
    ((fun (s : State) (n : Fin 2) (v : Nat) => s.get (ETH_CTRL.MODE n) ≠ bits v 0 3) (root.set (ETH_STAT.LINK_UP 1) 1) (1) (2)) ∧
    ((fun (s : State) (n : Fin 2) (_ : Bool) (_ : Nat) => s.domainOn 11 = true ∧ 1 ≤ s.get (ETH_CTRL.MODE n) ∧ s.get (ETH_CTRL.MODE n) ≤ 4 ∧ s.flag (ETH_STAT.LINK_UP n) = false) (root.set (ETH_CTRL.MODE 1) 2) (1) (true) (1)) ∧
    ((fun (s : State) (n : Fin 2) (f : List Byte) => s.flag (ETH_STAT.LINK_UP n) = true ∧ be16 f 12 = 0x8808 ∧ be16 f 14 = 1 ∧ s.flag (ETH_CTRL.PAUSE_RX n) = true) (root.set (ETH_STAT.LINK_UP 1) 1 |>.set (ETH_CTRL.PAUSE_RX 1) 1) (1) (List.replicate 12 0 ++ [0x88, 0x08, 0, 1, 0, 9])) ∧
    ((fun (s : State) (n : Fin 2) (f : List Byte) (i : Nat) => s.flag (ETH_STAT.LINK_UP n) = true ∧ be16 f 12 ≠ 0x8808 ∧ 64 ≤ f.length ∧ f.length ≤ s.maxFrame n ∧ fcsGood f = true ∧ s.ptpAt f = none ∧ s.classifyFrame n f = some (i, false) ∧ s.flag (ETH_CTRL.TS_ALL n) = false ∧ s.adapterOn 5 = true ∧ s.flag (CTX5.ACTIVE i) = true ∧ s.flag (CTX5.DRAINING i) = false ∧ s.flag (CTX5.HELD i) = false ∧ s.get (CTX0.IN_ATT i) = 5 ∧ s.get (CTX0.CLASS i) = 3 ∧ s.flag (CTX0.SEAL i) = false ∧ s.flag (FE_STAT.FENCED (s.get (CTX0.HOME i))) = false) (flow root 7 1 3 5 1 |>.set (ETH_STAT.LINK_UP 1) 1 |>.set (ETH_DEFAULT.VALID 1) 1 |>.set (ETH_DEFAULT.CTX 1) 7) (1) ((withFcs (List.replicate 12 0 ++ [0x08, 0x06] ++ List.replicate 46 0))) (7)) ∧
    ((fun (s : State) (n : Fin 2) (f : List Byte) => s.flag (ETH_STAT.LINK_UP n) = true ∧ be16 f 12 ≠ 0x8808 ∧ 64 ≤ f.length ∧ f.length ≤ s.maxFrame n ∧ fcsGood f = false ∧ s.flag (ETH_CTRL.FWD_BAD n) = false) (root.set (ETH_STAT.LINK_UP 1) 1) (1) (List.replicate 64 0)) ∧
    ((fun (s : State) (n : Fin 2) => s.flag (ETH_CTRL.PAUSE_EN n) = true ∧ 32 * s.get (ETH_PAUSE.XOFF_KIB n) ≤ s.netFill) (root.set (ETH_CTRL.PAUSE_EN 1) 1 |>.set (ETH_PAUSE.XOFF_KIB 1) 0) (1)) ∧
    ((fun (s : State) (n : Fin 2) (p : FlowPkt) => s.flag (ETH_STAT.PAUSED n) = false ∧ s.flag (ETH_STAT.LINK_UP n) = true ∧ s.flows.netq = [p] ∧ p.outLabel % 2 = n ∧ bit p.outLabel 1 = false ∧ bit p.outLabel 2 = false ∧ s.ptpAt (p.pkt.data.take (leNat (byteSlice p.pkt.hdr.info 0 2))) = none) (fl (root.set (ETH_STAT.LINK_UP 1) 1) (fun f => { f with netq := [fpk 7 3 1 5] })) (1) (fpk 7 3 1 5)) ∧
    ((fun (s : State) (a ns lo hi adj e : Nat) => s.host.ptpStaged = some [a, ns, lo, hi, adj, e] ∧ s.frozen = false ∧ epochStart s.now e = s.epochNow * 51200) ({ root with host := { root.host with ptpStaged := some [1, 2, 3, 4, 5, 0] } }) (1) (2) (3) (4) (5) (0)) :=
  by and_intros <;> decide +kernel

/-- States and operands that meet the hypotheses of Obligations.OperationsOnSurfaces. -/
theorem witness_OperationsOnSurfaces :
    ((fun (s : State) (h : Head) (i : CtxNo) (p : Pkt) => s.domainOn 12 = true ∧ s.toHead i h = true ∧ byteAt p.hdr.info 0 = h.val ∧ (s.head h).waits = [] ∧ (s.head h).busy = none ∧ (s.head h).pend = none ∧ p.hdr.held = false ∧ s.opGood h ⟨0, i, p⟩ = true ∧ s.opDark h ⟨0, i, p⟩ = false) (shown) (1) (7) ((dop [1, 0, 2, 0, 1, 0, 3, 0, 1, 0, 9] [7, 8, 9]))) ∧
    ((fun (s : State) (h : Head) (i : CtxNo) (p : Pkt) => s.domainOn 12 = true ∧ s.toHead i h = true ∧ byteAt p.hdr.info 0 = h.val ∧ (s.head h).waits = [] ∧ (s.head h).busy = none ∧ (s.head h).pend = none ∧ p.hdr.held = false ∧ s.opGood h ⟨1, i, p⟩ = true ∧ s.opDark h ⟨1, i, p⟩ = false) (shown.setByte (fstBase + 0x20) 5) (1) (7) ((dop [1, 0, 2, 0, 1, 0, 3, 0, 1, 0, 0, 0, 2, 0] []))) ∧
    ((fun (s : State) (h : Head) (i : CtxNo) (p : Pkt) => s.domainOn 12 = true ∧ s.toHead i h = true ∧ byteAt p.hdr.info 0 = h.val ∧ (s.head h).waits = [] ∧ (s.head h).busy = none ∧ (s.head h).pend = none ∧ p.hdr.held = false ∧ s.opGood h ⟨2, i, p⟩ = true ∧ s.opDark h ⟨2, i, p⟩ = false) (shown) (1) (7) ((dop [1, 0, 2, 0, 1, 0, 3, 0, 1, 0, 9] [7, 8, 9]))) ∧
    ((fun (s : State) (f : Surf) (b x y w h x' y' : Nat) => (b = 1 ∨ b = 2 ∨ b = 4 ∨ b = 8) ∧ f.valid b = true ∧ f.holds x y w h = true ∧ (∀ k ∈ f.banks, s.flag (bankOn k) = true ∧ s.flag (bankInit k) = false) ∧ x' < f.width ∧ y' < f.height) (root.set FST_STAT.FSA_ON 1) ⟨0, false, 16, 16, 4⟩ 2 3 1 4 2 5 2) ∧
    ((fun (s : State) (f : Surf) (b x y w h x' y' : Nat) => (b = 1 ∨ b = 2 ∨ b = 4 ∨ b = 8) ∧ f.valid b = true ∧ f.holds x y w h = true ∧ (∀ k ∈ f.banks, s.flag (bankOn k) = true ∧ s.flag (bankInit k) = false) ∧ x' < f.width ∧ y' < f.height) (root.set FST_STAT.FSA_ON 1) ⟨0, false, 16, 16, 4⟩ 2 3 1 4 2 5 2) ∧
    ((fun (s : State) (f : Surf) (b x y w h x' y' : Nat) => (b = 1 ∨ b = 2 ∨ b = 4 ∨ b = 8) ∧ f.valid b = true ∧ f.holds x y w h = true ∧ (∀ k ∈ f.banks, s.flag (bankOn k) = true ∧ s.flag (bankInit k) = false) ∧ x' < f.width ∧ y' < f.height) (root.set FST_STAT.FSA_ON 1) ⟨0, false, 16, 16, 4⟩ 2 3 1 4 2 5 2) ∧
    ((fun (s : State) (h : Head) (i : CtxNo) (p : Pkt) => s.domainOn 12 = true ∧ s.toHead i h = true ∧ byteAt p.hdr.info 0 = h.val ∧ (s.head h).waits = [] ∧ (s.head h).busy = none ∧ (s.head h).pend = none ∧ p.hdr.held = false ∧ s.opGood h ⟨3, i, p⟩ = true) (shown) (1) (7) ((dop [1, 0, 2, 2, 0] [1, 2, 3, 0, 4, 5, 6, 0]))) ∧
    ((fun (s : State) (h : Head) (i : CtxNo) (p : Pkt) => s.domainOn 12 = true ∧ s.toHead i h = true ∧ byteAt p.hdr.info 0 = h.val ∧ (s.head h).waits = []) (shown) (1) (7) ((dop [1, 0, 2, 0, 1, 0, 3, 0, 1, 0, 9] [7, 8, 9]))) ∧
    ((fun (s : State) (h : Head) (i : CtxNo) (p : Pkt) => s.domainOn 12 = true ∧ s.toHead i h = true ∧ byteAt p.hdr.info 0 = h.val ∧ (s.head h).waits = [] ∧ (s.head h).busy = none ∧ (s.head h).pend = none ∧ p.hdr.held = false ∧ leNat (byteSlice p.hdr.info 2 2) = (s.head h).counts.getD i 0) (hd shown 1 (fun d => { d with counts := [(7, 3)] })) 1 7 (dop [1, 0, 3, 0] [])) ∧
    ((fun (s : State) (h : Head) (i : CtxNo) (p : Pkt) => s.domainOn 12 = true ∧ s.toHead i h = true ∧ byteAt p.hdr.info 0 ≠ h.val) (shown.set (CTX1.OUT_LABEL 7) 8) (0) (7) ((dop [1, 0, 2, 0, 1, 0, 3, 0, 1, 0, 9] [7, 8, 9]))) ∧
    ((fun (s : State) (h : Head) (i : CtxNo) (p : Pkt) => s.domainOn 12 = true ∧ s.toHead i h = true ∧ byteAt p.hdr.info 0 ≠ h.val) (shown.set (CTX1.OUT_LABEL 7) 8) (0) (7) ((dop [1, 0, 2, 0, 1, 0, 3, 0, 1, 0, 0, 0, 2, 0] []))) ∧
    ((fun (s : State) (h : Head) (i : CtxNo) (p : Pkt) => s.domainOn 12 = true ∧ s.toHead i h = true ∧ byteAt p.hdr.info 0 ≠ h.val) (shown.set (CTX1.OUT_LABEL 7) 8) (0) (7) ((dop [1, 0, 2, 0, 1, 0, 3, 0, 1, 0, 9] [7, 8, 9]))) ∧
    ((fun (s : State) (h : Head) (i : CtxNo) (p : Pkt) => s.domainOn 12 = true ∧ s.toHead i h = true ∧ byteAt p.hdr.info 0 ≠ h.val) (shown.set (CTX1.OUT_LABEL 7) 8) (0) (7) ((dop [1, 0, 2, 2, 0] [1, 2, 3, 0, 4, 5, 6, 0]))) ∧
    ((fun (s : State) (h : Head) (i : CtxNo) (p : Pkt) => s.domainOn 12 = true ∧ s.toHead i h = true ∧ byteAt p.hdr.info 0 ≠ h.val) (shown.set (CTX1.OUT_LABEL 7) 8) (0) (7) ((dop [1, 0, 2, 0, 1, 0, 3, 0, 1, 0, 9] [7, 8, 9]))) ∧
    ((fun (s : State) (h : Head) (i : CtxNo) (p : Pkt) => s.domainOn 12 = true ∧ s.toHead i h = true ∧ byteAt p.hdr.info 0 = h.val ∧ (s.head h).waits = [] ∧ (s.head h).busy = none ∧ (s.head h).pend = none ∧ p.hdr.held = false ∧ s.opGood h ⟨0, i, p⟩ = false) (shown) (1) (7) ((dop [1, 0, 2, 0, 1, 0, 30, 0, 1, 0, 9] []))) ∧
    ((fun (s : State) (h : Head) (i : CtxNo) (p : Pkt) => s.domainOn 12 = true ∧ s.toHead i h = true ∧ byteAt p.hdr.info 0 = h.val ∧ (s.head h).waits = [] ∧ (s.head h).busy = none ∧ (s.head h).pend = none ∧ p.hdr.held = false ∧ s.opGood h ⟨1, i, p⟩ = false) (shown) (1) (7) ((dop [1, 0, 2, 0, 1, 0, 3, 0, 1, 0, 30, 0, 2, 0] []))) ∧
    ((fun (s : State) (h : Head) (i : CtxNo) (p : Pkt) => s.domainOn 12 = true ∧ s.toHead i h = true ∧ byteAt p.hdr.info 0 = h.val ∧ (s.head h).waits = [] ∧ (s.head h).busy = none ∧ (s.head h).pend = none ∧ p.hdr.held = false ∧ s.opGood h ⟨2, i, p⟩ = false) (shown) (1) (7) ((dop [1, 0, 2, 0, 1, 0, 30, 0, 1, 0, 9] []))) ∧
    ((fun (s : State) (h : Head) (i : CtxNo) (p : Pkt) => s.domainOn 12 = true ∧ s.toHead i h = true ∧ byteAt p.hdr.info 0 = h.val ∧ (s.head h).waits = [] ∧ (s.head h).busy = none ∧ (s.head h).pend = none ∧ p.hdr.held = false ∧ s.opGood h ⟨3, i, p⟩ = false) (shown) (1) (7) ((dop [1, 0, 2, 0, 0] []))) ∧
    ((fun (s : State) (h : Head) (i : CtxNo) (p : Pkt) => s.domainOn 12 = true ∧ s.toHead i h = true ∧ byteAt p.hdr.info 0 = h.val ∧ (s.head h).busy.isSome = true) (hd shown 1 (fun d => { d with busy := some 7 })) (1) (7) ((dop [1, 0, 2, 0, 1, 0, 3, 0, 1, 0, 9] [7, 8, 9]))) ∧
    ((fun (s : State) (h : Head) (i : CtxNo) (p : Pkt) => s.domainOn 12 = true ∧ s.toHead i h = true ∧ byteAt p.hdr.info 0 = h.val ∧ (s.head h).busy.isSome = true) (hd shown 1 (fun d => { d with busy := some 7 })) (1) (7) ((dop [1, 0, 2, 0, 1, 0, 3, 0, 1, 0, 0, 0, 2, 0] []))) ∧
    ((fun (s : State) (h : Head) (i : CtxNo) (p : Pkt) => s.domainOn 12 = true ∧ s.toHead i h = true ∧ byteAt p.hdr.info 0 = h.val ∧ (s.head h).busy.isSome = true) (hd shown 1 (fun d => { d with busy := some 7 })) (1) (7) ((dop [1, 0, 2, 0, 1, 0, 3, 0, 1, 0, 9] [7, 8, 9]))) ∧
    ((fun (s : State) (h : Head) (i : CtxNo) (p : Pkt) => s.domainOn 12 = true ∧ s.toHead i h = true ∧ byteAt p.hdr.info 0 = h.val ∧ (s.head h).busy.isSome = true) (hd shown 1 (fun d => { d with busy := some 7 })) (1) (7) ((dop [1, 0, 2, 2, 0] [1, 2, 3, 0, 4, 5, 6, 0]))) ∧
    ((fun (s : State) (h : Head) (i : CtxNo) (p : Pkt) => s.domainOn 12 = true ∧ s.toHead i h = true ∧ byteAt p.hdr.info 0 = h.val ∧ (s.head h).busy.isSome = true) (hd shown 1 (fun d => { d with busy := some 7 })) (1) (7) ((dop [1, 0, 2, 0, 1, 0, 3, 0, 1, 0, 9] [7, 8, 9]))) ∧
    ((fun (s : State) (h : Head) (i : CtxNo) (p : Pkt) => s.domainOn 12 = true ∧ s.toHead i h = true ∧ byteAt p.hdr.info 0 = h.val ∧ (s.head h).waits = [] ∧ p.hdr.held = true ∧ s.due p.hdr.ttag = false) (shown) (1) (7) ({ (dop [1, 0, 2, 0, 1, 0, 3, 0, 1, 0, 9] [7, 8, 9]) with hdr := { (dop [1, 0, 2, 0, 1, 0, 3, 0, 1, 0, 9] [7, 8, 9]).hdr with held := true, ttag := 900 } })) ∧
    ((fun (s : State) (h : Head) (i : CtxNo) (p : Pkt) => s.domainOn 12 = true ∧ s.toHead i h = true ∧ byteAt p.hdr.info 0 = h.val ∧ (s.head h).waits = [] ∧ p.hdr.held = true ∧ s.due p.hdr.ttag = false) (shown) (1) (7) ({ (dop [1, 0, 2, 0, 1, 0, 3, 0, 1, 0, 0, 0, 2, 0] []) with hdr := { (dop [1, 0, 2, 0, 1, 0, 3, 0, 1, 0, 0, 0, 2, 0] []).hdr with held := true, ttag := 900 } })) ∧
    ((fun (s : State) (h : Head) (i : CtxNo) (p : Pkt) => s.domainOn 12 = true ∧ s.toHead i h = true ∧ byteAt p.hdr.info 0 = h.val ∧ (s.head h).waits = [] ∧ p.hdr.held = true ∧ s.due p.hdr.ttag = false) (shown) (1) (7) ({ (dop [1, 0, 2, 0, 1, 0, 3, 0, 1, 0, 9] [7, 8, 9]) with hdr := { (dop [1, 0, 2, 0, 1, 0, 3, 0, 1, 0, 9] [7, 8, 9]).hdr with held := true, ttag := 900 } })) ∧
    ((fun (s : State) (h : Head) (i : CtxNo) (p : Pkt) => s.domainOn 12 = true ∧ s.toHead i h = true ∧ byteAt p.hdr.info 0 = h.val ∧ (s.head h).waits = [] ∧ p.hdr.held = true ∧ s.due p.hdr.ttag = false) (shown) (1) (7) ({ (dop [1, 0, 2, 2, 0] [1, 2, 3, 0, 4, 5, 6, 0]) with hdr := { (dop [1, 0, 2, 2, 0] [1, 2, 3, 0, 4, 5, 6, 0]).hdr with held := true, ttag := 900 } })) ∧
    ((fun (s : State) (h : Head) => (s.head h).waits = []) (hd heads 1 (fun d => { d with busy := some 7 })) (1)) ∧
    ((fun (s : State) (h : Head) (o : DispOp) => (s.head h).waits = [o] ∧ o.mx < 3 ∧ o.pkt.hdr.held = false ∧ (s.head h).pend = none ∧ s.opGood h o = true ∧ s.opDark h o = false) (hd heads 1 (fun d => { d with busy := some 7, waits := [⟨2, 7, (dop [1, 0, 2, 0, 1, 0, 3, 0, 1, 0, 9] [7, 8, 9])⟩] })) (1) (⟨2, 7, (dop [1, 0, 2, 0, 1, 0, 3, 0, 1, 0, 9] [7, 8, 9])⟩)) ∧
    ((fun (s : State) (b : Fin 2) => s.flag (bankInit b) = true ∧ s.flag (bankOn b) = true) ({ heads.set FST_STAT.FSB_INIT 1 with disp := { heads.disp with initWait := [(0x1000004, 9), (4, 3), (0x1000004, 8)] } }) (1)) :=
  by and_intros <;> decide +kernel

/-- States and operands that meet the hypotheses of Obligations.FlipsAndBlanks. -/
theorem witness_FlipsAndBlanks :
    ((fun (s : State) (h : Head) (o : DispOp) => (s.head h).pend = none ∧ (s.head h).busy = none ∧ (s.head h).waits = [o] ∧ o.mx = 4 ∧ o.pkt.hdr.held = false ∧ o.u 2 = (s.head h).counts.getD o.ctx 0) (hd heads 1 (fun d => { d with waits := [⟨4, 7, dop [1, 0, 3, 0] []⟩], counts := [(7, 3)] })) (1) (⟨4, 7, dop [1, 0, 3, 0] []⟩)) ∧
    ((fun (s : State) (h : Head) (o : DispOp) => (s.head h).pend = none ∧ (s.head h).busy = none ∧ (s.head h).waits = [o] ∧ o.mx = 4 ∧ o.pkt.hdr.held = false ∧ o.u 2 ≠ (s.head h).counts.getD o.ctx 0) (hd heads 1 (fun d => { d with waits := [⟨4, 7, dop [1, 0, 3, 0] []⟩], counts := [(7, 2)] })) (1) (⟨4, 7, dop [1, 0, 3, 0] []⟩)) ∧
    ((fun (s : State) (h : Head) (q : PendFlip) => s.flag (DSP_STAT.RUNNING h) = true ∧ (s.head h).restart = none ∧ (s.head h).pend = some q ∧ q.due + 400 ≤ s.uptime ∧ q.syncBack = false ∧ (s.head h).waits = []) ({ (hd (heads.set (DSP_STAT.RUNNING 1) 1) 1 (fun d => { d with pend := some ⟨7, 0, true, false⟩ })) with uptime := 500 }) (1) (⟨7, 0, true, false⟩)) ∧
    ((fun (s : State) (h : Head) => s.flag (DSP_CTRL.GENLOCK h) = false ∧ s.flag (BLK_CTRL.ENABLE (State.headPage h)) = true ∧ (s.regRaster h).valid = true) (heads.set (BLK_CTRL.ENABLE 0x84) 1) (1)) ∧
    ((fun (s : State) (h : Head) (_ : List (Nat × Nat)) => s.flag (DSP_STAT.RUNNING h) = true ∧ (s.head h).restart = none ∧ (s.head h).begun < (s.head h).raster.vactive ∧ s.flag (DSP_FB_STAT.ACTIVE h) = true ∧ s.linePixels h (s.head h).begun < (s.head h).raster.hactive) (hd (heads.set (DSP_STAT.RUNNING 1) 1 |>.set (DSP_FB_STAT.ACTIVE 1) 1) 1 (fun d => { d with raster := ⟨40, 32, 9, 4, 0, 0, 0, 0⟩, lines := [⟨0, List.replicate 20 3, false, none⟩] })) (1) ([])) ∧
    ((fun (s : State) (h : Head) => s.get (DSP_DP_CTRL.LANES h) ≠ 3) (heads.set (DSP_DP_STAT.TRAINED 1) 1) (1)) ∧
    ((fun (s : State) (h : Head) => s.flag (DSP_DP_STAT.TRAINING h) = true ∧ s.bwOk h (s.head h).training.1 (s.head h).training.2 = true) (hd (heads.set (DSP_DP_STAT.TRAINING 1) 1) 1 (fun d => { d with training := (2, 4), raster := ⟨40, 32, 9, 4, 0, 0, 1000000, 0⟩ })) (1)) ∧
    ((fun (s : State) (h : Head) => s.domainOn 12 = true ∧ s.flag (DSP_DP_STAT.HPD h) = true) (heads.set (DSP_DP_STAT.HPD 1) 1) (1)) ∧
    ((fun (s : State) (h : Head) => s.flag (DSP_DP_STAT.HPD h) = false) (heads.set (DSP_DP_STAT.TRAINED 1) 1) (1)) ∧
    ((fun (s : State) (h : Head) => s.flag (DSP_AUX_STAT.BUSY h) = false) (heads) (1)) ∧
    ((fun (s : State) (h : Head) => s.flag (DSP_AUX_STAT.BUSY h) = true) (heads.set (DSP_AUX_STAT.BUSY 1) 1) (1)) ∧
    ((fun (s : State) (h : Head) => s.flag (DSP_FB_STAT.ACTIVE h) = true ∧ (s.head h).asked < (s.head h).raster.vactive ∧ (s.head h).asked < (s.head h).begun + 16 ∧ s.flag (DSP_FB_CTRL.LOCAL h) = true) (hd (heads.set (DSP_FB_STAT.ACTIVE 1) 1 |>.set (DSP_FB_CTRL.LOCAL 1) 1) 1 (fun d => { d with raster := ⟨40, 32, 9, 4, 0, 0, 0, 0⟩, asked := 2 })) (1)) ∧
    ((fun (_s : State) (p : Pkt) (_ : Option (List Byte)) (x : Nat) => bit (byteAt p.hdr.info 1) 1 = false ∧ leNat (byteSlice p.hdr.info 6 8) % 2 ^ 25 ≤ x ∧ x < leNat (byteSlice p.hdr.info 6 8) % 2 ^ 25 + leNat (byteSlice p.hdr.info 4 2) ∧ bankOf x = 0) (heads) ((dop ([1, 0, 2, 0, 8, 0] ++ leBytes 8 0x20) [])) (none) (0x21)) ∧
    ((fun (s : State) (h : Head) (p : Pkt) => byteAt p.hdr.info 0 = h.val ∧ s.flag (DSP_FB_STAT.ACTIVE h) = true ∧ (s.head h).begun ≤ leNat (byteSlice p.hdr.info 2 2)) (heads.set (DSP_FB_STAT.ACTIVE 1) 1) (1) ((dop [1, 0, 2, 0, 8, 0] [1, 2, 3, 4, 5, 6, 7, 8]))) :=
  by and_intros <;> decide +kernel

/-- States and operands that meet the hypotheses of Obligations.DisplayPortAndLines. -/
theorem witness_DisplayPortAndLines :
    ((fun (s : State) (h : Head) => s.get (DSP_DP_CTRL.LANES h) ≠ 3) (heads) (1)) ∧
    ((fun (s : State) (h : Head) => s.flag (DSP_DP_STAT.TRAINING h) = true) (heads.set (DSP_DP_STAT.TRAINING 1) 1) (1)) ∧
    ((fun (s : State) (h : Head) => s.flag (DSP_DP_STAT.TRAINING h) = true) (heads.set (DSP_DP_STAT.TRAINING 1) 1) (1)) ∧
    ((fun (s : State) (_ : Head) (_ : Bool) => s.domainOn 12 = true) (heads) (1) (true)) ∧
    ((fun (s : State) (h : Head) (level : Bool) => s.domainOn 12 = true ∧ level ≠ s.flag (DSP_DP_STAT.HPD h)) (heads) (1) (true)) ∧
    ((fun (s : State) (h : Head) => s.flag (DSP_DP_STAT.HPD h) = false) (heads.set (DSP_DP_STAT.TRAINING 1) 1) (1)) ∧
    ((fun (s : State) (h : Head) => s.flag (DSP_AUX_STAT.BUSY h) = false) (heads) (1)) ∧
    ((fun (s : State) (h : Head) (_ : List Byte) => s.flag (DSP_AUX_STAT.BUSY h) = true ∧ (s.head h).defers < 7) (heads.set (DSP_AUX_STAT.BUSY 1) 1) (1) ([])) ∧
    ((fun (s : State) (h : Head) (reply : Nat) (d : List Byte) => s.flag (DSP_AUX_STAT.BUSY h) = true ∧ d.length = 16 ∧ (reply ≠ 2 ∨ 7 ≤ (s.head h).defers)) (heads.set (DSP_AUX_STAT.BUSY 1) 1) (1) (3) ([1, 2, 3, 4, 5, 6, 7, 8, 9, 10, 11, 12, 13, 14, 15, 16])) ∧
    ((fun (s : State) (h : Head) => s.flag (DSP_FB_STAT.ACTIVE h) = true ∧ (s.head h).asked < (s.head h).raster.vactive ∧ (s.head h).asked < (s.head h).begun + 16 ∧ s.flag (DSP_FB_CTRL.LOCAL h) = true) (hd (heads.set (DSP_FB_STAT.ACTIVE 1) 1 |>.set (DSP_FB_CTRL.LOCAL 1) 1) 1 (fun d => { d with raster := ⟨40, 32, 9, 4, 0, 0, 0, 0⟩ })) (1)) ∧
    ((fun (s : State) (c : CtxNo) (p : Pkt) (_ : Option (List Byte)) => s.toServer c = true ∧ bit (byteAt p.hdr.info 1) 1 = false ∧ s.flag (CTX0.PAIR_VALID c) = true ∧ s.adapterOn 6 = true ∧ s.flag (CTX5.DRAINING (s.get (CTX0.PAIR c))) = false ∧ s.flag (CTX5.ACTIVE (s.get (CTX0.PAIR c))) = true ∧ s.flag (CTX5.HELD (s.get (CTX0.PAIR c))) = false ∧ s.get (CTX0.IN_ATT (s.get (CTX0.PAIR c))) = 6 ∧ s.get (CTX0.CLASS (s.get (CTX0.PAIR c))) < 2 ∧ s.flag (FE_STAT.FENCED (s.get (CTX0.HOME (s.get (CTX0.PAIR c))))) = false) (((flow heads 8 2 1 6 1).set (CTX1.OUT_ATT 7) 6 |>.set (CTX1.OUT_LABEL 7) 2 |>.set (CTX0.PAIR 7) 8 |>.set (CTX0.PAIR_VALID 7) 1 |>.setByte (fstBase + 0x22) 6)) (7) ((dop ([1, 0, 2, 0, 8, 0] ++ leBytes 8 0x20) [])) (none)) ∧
    ((fun (_s : State) (p : Pkt) (_ : Option (List Byte)) => bit (byteAt p.hdr.info 1) 1 = false) (heads) ((dop ([1, 0, 2, 0, 8, 0] ++ leBytes 8 0x20) [])) (none)) ∧
    ((fun (s : State) (h : Head) (p : Pkt) (_ : Bool) => byteAt p.hdr.info 0 = h.val ∧ s.flag (DSP_FB_STAT.ACTIVE h) = true ∧ (s.head h).begun ≤ leNat (byteSlice p.hdr.info 2 2)) (heads.set (DSP_FB_STAT.ACTIVE 1) 1) (1) ((dop [1, 0, 2, 0, 8, 0] [1, 2, 3, 4, 5, 6, 7, 8])) (false)) :=
  by and_intros <;> decide +kernel

/-- States and operands that meet the hypotheses of Obligations.FieldBusIngress. -/
theorem witness_FieldBusIngress :
    ((fun (s : State) (n : Fin 4) (id : Nat) (d : List Byte) (_ _ : Bool) (_ _ _ : Nat) => s.busEnabled n = true ∧ s.get (CAN_STAT.STATE n) ≠ 2 ∧ (bit id 30 = true → s.flag (CAN_CTRL.FD_EN n) = true) ∧ d.length ≤ 64 ∧ (s.bridge.canRx.getD n.val []).length + 30 ≤ 512 ∧ s.brtMatch n (id % 2 ^ 32) = none ∧ s.flag (CAN_CTRL.MISS_FIFO n) = true) ((bus 2).set (CAN_CTRL.MISS_FIFO 2) 1) (2) (5) ([1, 2, 3, 4]) (false) (false) (0) (9) (0)) ∧
    ((fun (s : State) (n : Fin 4) (id : Nat) (d : List Byte) (_ _ : Bool) (_ _ _ : Nat) (e : Nat) => s.busEnabled n = true ∧ s.get (CAN_STAT.STATE n) ≠ 2 ∧ (bit id 30 = true → s.flag (CAN_CTRL.FD_EN n) = true) ∧ d.length ≤ 64 ∧ (s.bridge.canRx.getD n.val []).length + 30 ≤ 512 ∧ s.brtMatch n (id % 2 ^ 32) = some e ∧ s.hasToken e = true ∧ s.flag (BRT0.LOCAL e) = true) ((bus 2).set (BRT0.VALID 0) 1 |>.set (BRT0.IN_BUS 0) 2 |>.set (BRT0.LOCAL 0) 1) (2) (5) ([1, 2, 3, 4]) (false) (false) (0) (9) (0) (0)) ∧
    ((fun (s : State) (n : Fin 4) (cs : List Nat) (_ c : Nat) (l : List Nat) => s.busEnabled (8 + n) = true ∧ cs = c :: l ∧ cs.length ≤ 1024 ∧ (s.bridge.uartRx.getD n.val []).length + cs.length ≤ 2048 ∧ s.bridge.deUntil.getD n.val 0 ≤ s.uptime ∧ s.bridge.uartPart.getD n.val [] = [] ∧ l.all (fun x => !bit x 8) = true ∧ cs.all (fun x => !bit x 11) = true ∧ s.flag (UART_FRAME.MISS_FIFO n) = true ∧ s.get (UART_FRAME.FRAMING n) = 1 ∧ s.brtMatch (8 + n) (c % 512) = none) ((bus 9).set (UART_FRAME.MISS_FIFO 1) 1 |>.set (UART_FRAME.FRAMING 1) 1) (1) ([0x41, 0x42]) (9) (0x41) ([0x42])) ∧
    ((fun (s : State) (n : Fin 2) (id : Nat) (d : List Byte) (_ e : Nat) => s.flag (I2C_CTRL.TEN n) = true ∧ s.busEnabled (4 + n) = true ∧ id % 2 ^ 11 = s.targetId n ∧ d ≠ [] ∧ d.length ≤ 256 ∧ s.brtMatch (4 + n) (id % 2 ^ 11 + 2 ^ 16 * byteAt d 0) = some e ∧ s.hasToken e = true ∧ s.flag (BRT0.LOCAL e) = false ∧ s.flag (CTX0.WRAP (s.get (BRT0.CTX e))) = false ∧ s.flag (CTX0.SEAL (s.get (BRT0.CTX e))) = false ∧ s.inRoom 7 (s.get (CTX0.CLASS (s.get (BRT0.CTX e)))) 321 = true ∧ (s.flows.backlog.any fun b => b.2.1 == (s.get (BRT0.CTX e))) = false ∧ s.adapterOn 7 = true ∧ s.flag (CTX5.DRAINING (s.get (BRT0.CTX e))) = false ∧ s.flag (CTX5.ACTIVE (s.get (BRT0.CTX e))) = true ∧ s.flag (CTX5.HELD (s.get (BRT0.CTX e))) = false ∧ s.get (CTX0.IN_ATT (s.get (BRT0.CTX e))) = 7 ∧ s.get (CTX0.CLASS (s.get (BRT0.CTX e))) < 2 ∧ s.flag (FE_STAT.FENCED (s.get (CTX0.HOME (s.get (BRT0.CTX e))))) = false) ((flow (bus 5) 7 0 0 7 1).set (I2C_CTRL.TEN 1) 1 |>.set (I2C_CTRL.TADDR 1) 0x50 |>.set (BRT0.VALID 0) 1 |>.set (BRT0.IN_BUS 0) 5 |>.set (BRT0.CTX 0) 7 |>.set (BRT5.DST_BUS 0) 4) (1) (0x50) ([6, 1]) (9) (0)) ∧
    ((fun (s : State) (n : Fin 2) (_ : Nat) => s.flag (I2C_CTRL.TEN n) = true ∧ s.busEnabled (4 + n) = true) ((bus 5).set (I2C_CTRL.TEN 1) 1) (1) (3)) ∧
    ((fun (s : State) (g : Fin 6) (lines levels _ : Nat) => s.domainOn 13 = true ∧ (lines % 256 &&& s.get (GPIO_CFG.EDGE_EN g)) ≠ 0 ∧ s.brtMatch 12 (g + 2 ^ 8 * (lines % 256 &&& s.get (GPIO_CFG.EDGE_EN g)) + 2 ^ 16 * (levels % 256)) = none ∧ ((s.get GPIO_TS_HEAD.HEAD) + 1) % 16 ≠ s.get GPIO_TS_TAIL.TAIL) ((bus 12).set (GPIO_CFG.EDGE_EN 2) 3) (2) (1) (1) (9)) :=
  by and_intros <;> decide +kernel

/-- States and operands that meet the hypotheses of Obligations.OutputsAndQueues. -/
theorem witness_OutputsAndQueues :
    ((fun (s : State) (p : FlowPkt) => s.flows.held = [p] ∧ s.brReady p = true ∧ p.bad = false ∧ p.pkt.hdr.cls ≠ 1 ∧ p.pkt.hdr.sealed = false ∧ s.queueRoom (brBus p) (byteAt p.pkt.hdr.info 3 % 4) = true ∧ p.ctx < 2048) (fl root (fun f => { f with held := [fpk 7 3 1 7] })) (fpk 7 3 1 7)) ∧
    ((fun (s : State) (b : BusNo) (r _ : Nat) (q : BrMsg) => s.nextMsg b = some q ∧ q.wrapped = false ∧ q.op = 0 ∧ q.fifo = false ∧ q.isLocked = false ∧ (b.val = 4 ∨ b.val = 5) ∧ s.busEnabled b = true ∧ r ≠ 1 ∧ r ≠ 10) (qd (bus 5) (bmsg 5 1 0x50 0 [1, 2])) (5) (0) (0) (bmsg 5 1 0x50 0 [1, 2])) ∧
    ((fun (s : State) (b : BusNo) (_ _ : Nat) (q : BrMsg) => s.nextMsg b = some q ∧ q.wrapped = false ∧ q.op = 0 ∧ q.fifo = false ∧ q.isLocked = false ∧ 8 ≤ b.val ∧ b.val < 12 ∧ s.busEnabled b = true) (qd ((bus 9).set (UART_FRAME.RS485 1) 1) (bmsg 9 3 0x50 0 [1, 2])) (9) (0) (0) (bmsg 9 3 0x50 0 [1, 2])) ∧
    ((fun (s : State) (b : BusNo) (_ _ : Nat) (q : BrMsg) => s.nextMsg b = some q ∧ q.wrapped = false ∧ q.op = 0 ∧ q.fifo = false ∧ q.isLocked = false ∧ 6 ≤ b.val ∧ b.val < 8 ∧ s.busEnabled b = true ∧ bit q.id 29 = true ∧ s.winOk (b - 6) q q.payload.length = true) (qd ((bus 7).set (SPI_WIN_B.VALID 1 0) 1) (bmsg 7 2 0x20000010 0 [1, 2])) (7) (0) (0) (bmsg 7 2 0x20000010 0 [1, 2])) ∧
    ((fun (s : State) (b : BusNo) (_ : Nat) (q : BrMsg) => s.nextMsg b = some q ∧ q.wrapped = false ∧ q.op = 0 ∧ q.fifo = false ∧ q.isLocked = false ∧ b.val < 4 ∧ s.canMay b = true ∧ q.payload.length ≤ 8 ∧ bit (q.m 17) 7 = false) (qd (bus 2) (bmsg 2 0 0x50 0 [1, 2])) (2) (0) (bmsg 2 0 0x50 0 [1, 2])) ∧
    ((fun (s : State) (b : BusNo) (d : List Byte) (q : BrMsg) => s.nextMsg b = some q ∧ q.wrapped = false ∧ q.op = 1 ∧ q.isLocked = false ∧ (b.val = 4 ∨ b.val = 5) ∧ s.busEnabled b = true ∧ q.readOk = true ∧ d.length = q.count ∧ s.flag (CTX0.PAIR_VALID q.ctx) = true ∧ s.flag (CTX0.WRAP (s.get (CTX0.PAIR q.ctx))) = false ∧ s.flag (CTX0.SEAL (s.get (CTX0.PAIR q.ctx))) = false ∧ s.inRoom 7 (s.get (CTX0.CLASS (s.get (CTX0.PAIR q.ctx)))) 321 = true ∧ (s.flows.backlog.any fun b => b.2.1 == (s.get (CTX0.PAIR q.ctx))) = false ∧ s.adapterOn 7 = true ∧ s.flag (CTX5.DRAINING (s.get (CTX0.PAIR q.ctx))) = false ∧ s.flag (CTX5.ACTIVE (s.get (CTX0.PAIR q.ctx))) = true ∧ s.flag (CTX5.HELD (s.get (CTX0.PAIR q.ctx))) = false ∧ s.get (CTX0.IN_ATT (s.get (CTX0.PAIR q.ctx))) = 7 ∧ s.get (CTX0.CLASS (s.get (CTX0.PAIR q.ctx))) < 2 ∧ s.flag (FE_STAT.FENCED (s.get (CTX0.HOME (s.get (CTX0.PAIR q.ctx))))) = false) (qd (paired (bus 5)) (bmsg 5 1 0x50 1 [2, 0, 1, 9])) (5) ([3, 4]) (bmsg 5 1 0x50 1 [2, 0, 1, 9])) ∧
    ((fun (s : State) (n : Fin 2) (q : BrMsg) => s.nextMsg (4 + n) = some q ∧ q.wrapped = false ∧ q.op = 0 ∧ q.isLocked = false) (qd (bus 5) (bmsg 5 1 0x50 0 [1, 2])) (1) (bmsg 5 1 0x50 0 [1, 2])) ∧
    ((fun (s : State) (n : Fin 4) (q : BrMsg) => s.oldestHead n = some q) (qd (bus 2) { bmsg 2 0 0x50 0 [1, 2] with since := some 0 }) (2) ({ bmsg 2 0 0x50 0 [1, 2] with since := some 0 })) ∧
    ((fun (s : State) (n : Fin 4) => s.get (CAN_STAT.STATE n) = 2 ∧ s.flag (CAN_CTRL.AUTO_RECOVER n) = true) ((bus 2).set (CAN_STAT.STATE 2) 2 |>.set (CAN_CTRL.AUTO_RECOVER 2) 1) (2)) ∧
    ((fun (s : State) (q : BrMsg) => s.nextMsg 12 = some q ∧ q.wrapped = false ∧ q.op = 3 ∧ q.isLocked = false) (qd (bus 12) (bmsg 12 4 0x10101 3 [])) (bmsg 12 4 0x10101 3 [])) ∧
    ((fun (s : State) (q : BrMsg) => s.nextMsg 12 = some q ∧ q.wrapped = false ∧ q.op = 4 ∧ q.isLocked = false ∧ q.pkt.hdr.held = false ∧ q.id % 8 < 6) (qd (bus 12) (bmsg 12 4 0x30301 4 [])) (bmsg 12 4 0x30301 4 [])) ∧
    ((fun (s : State) (b : BusNo) (_ : Bool) (a : Nat) (d : List Byte) (q : BrMsg) => s.nextMsg b = some q ∧ q.wrapped = true ∧ q.m 17 % 16 = 1 ∧ q.fifo = false ∧ (b.val = 4 ∨ b.val = 5) ∧ i2cWrites q.payload = [(a, d)]) (qd (bus 5) (bmsg 5 5 0x30 1 [1, 0, 0, 0x60, 0, 9, 3, 0])) (5) (true) (0x30) ([9]) (bmsg 5 5 0x30 1 [1, 0, 0, 0x60, 0, 9, 3, 0])) ∧
    ((fun (s : State) (_ : Nat) => s.schedFull = false ∧ s.now ≤ s.get64 GPIO_SCHED_T_LO.T GPIO_SCHED_T_HI.T) ((bus 12).set GPIO_SCHED_T_LO.T 50) (0x2000101)) ∧
    ((fun (s : State) (v : Nat) => s.schedFull = false ∧ s.get64 GPIO_SCHED_T_LO.T GPIO_SCHED_T_HI.T < s.now ∧ bits v 24 3 < 6) ({ bus 12 with time := { root.time with ticks := 500 } }) (0x2000101)) ∧
    ((fun (s : State) (x : Sched) => s.bridge.sched = [x] ∧ x.t = s.now ∧ s.frozen = false ∧ x.group < 6) (br (bus 12) (fun b => { b with sched := [⟨0, 2, 1, 1⟩] })) (⟨0, 2, 1, 1⟩)) :=
  by and_intros <;> decide +kernel

/-- States and operands that meet the hypotheses of Obligations.SemaphoresAndTransfers. -/
theorem witness_SemaphoresAndTransfers :
    ((fun (s : State) (q : BrMsg) => s.nextMsg 14 = some q ∧ q.wrapped = false ∧ q.op = 5 ∧ s.flag (SEM0.HELD (q.id % 32)) = false ∧ s.flag (CTX0.PAIR_VALID q.ctx) = true ∧ s.flag (CTX0.WRAP (s.get (CTX0.PAIR q.ctx))) = false ∧ s.flag (CTX0.SEAL (s.get (CTX0.PAIR q.ctx))) = false ∧ s.inRoom 7 (s.get (CTX0.CLASS (s.get (CTX0.PAIR q.ctx)))) 321 = true ∧ (s.flows.backlog.any fun b => b.2.1 == (s.get (CTX0.PAIR q.ctx))) = false ∧ s.adapterOn 7 = true ∧ s.flag (CTX5.DRAINING (s.get (CTX0.PAIR q.ctx))) = false ∧ s.flag (CTX5.ACTIVE (s.get (CTX0.PAIR q.ctx))) = true ∧ s.flag (CTX5.HELD (s.get (CTX0.PAIR q.ctx))) = false ∧ s.get (CTX0.IN_ATT (s.get (CTX0.PAIR q.ctx))) = 7 ∧ s.get (CTX0.CLASS (s.get (CTX0.PAIR q.ctx))) < 2 ∧ s.flag (FE_STAT.FENCED (s.get (CTX0.HOME (s.get (CTX0.PAIR q.ctx))))) = false) (qd (paired root) (bmsg 14 0 3 5 [])) (bmsg 14 0 3 5 [])) ∧
    ((fun (s : State) (q : BrMsg) => s.nextMsg 14 = some q ∧ q.wrapped = false ∧ q.op = 5 ∧ s.flag (SEM0.HELD (q.id % 32)) = true ∧ s.semTriple (q.id % 32) ≠ q.triple ∧ s.flag (CTX0.PAIR_VALID q.ctx) = true ∧ s.flag (CTX0.WRAP (s.get (CTX0.PAIR q.ctx))) = false ∧ s.flag (CTX0.SEAL (s.get (CTX0.PAIR q.ctx))) = false ∧ s.inRoom 7 (s.get (CTX0.CLASS (s.get (CTX0.PAIR q.ctx)))) 321 = true ∧ (s.flows.backlog.any fun b => b.2.1 == (s.get (CTX0.PAIR q.ctx))) = false ∧ s.adapterOn 7 = true ∧ s.flag (CTX5.DRAINING (s.get (CTX0.PAIR q.ctx))) = false ∧ s.flag (CTX5.ACTIVE (s.get (CTX0.PAIR q.ctx))) = true ∧ s.flag (CTX5.HELD (s.get (CTX0.PAIR q.ctx))) = false ∧ s.get (CTX0.IN_ATT (s.get (CTX0.PAIR q.ctx))) = 7 ∧ s.get (CTX0.CLASS (s.get (CTX0.PAIR q.ctx))) < 2 ∧ s.flag (FE_STAT.FENCED (s.get (CTX0.HOME (s.get (CTX0.PAIR q.ctx))))) = false) (qd ((paired root).set (SEM0.HELD 3) 1) (bmsg 14 0 3 5 [])) (bmsg 14 0 3 5 [])) ∧
    ((fun (s : State) (q : BrMsg) => s.nextMsg 14 = some q ∧ q.wrapped = false ∧ q.op = 6 ∧ s.flag (SEM0.HELD (q.id % 32)) = true ∧ s.semTriple (q.id % 32) = q.triple ∧ s.bridge.holds = [] ∧ s.flag (CTX0.PAIR_VALID q.ctx) = true ∧ s.flag (CTX0.WRAP (s.get (CTX0.PAIR q.ctx))) = false ∧ s.flag (CTX0.SEAL (s.get (CTX0.PAIR q.ctx))) = false ∧ s.inRoom 7 (s.get (CTX0.CLASS (s.get (CTX0.PAIR q.ctx)))) 321 = true ∧ (s.flows.backlog.any fun b => b.2.1 == (s.get (CTX0.PAIR q.ctx))) = false ∧ s.adapterOn 7 = true ∧ s.flag (CTX5.DRAINING (s.get (CTX0.PAIR q.ctx))) = false ∧ s.flag (CTX5.ACTIVE (s.get (CTX0.PAIR q.ctx))) = true ∧ s.flag (CTX5.HELD (s.get (CTX0.PAIR q.ctx))) = false ∧ s.get (CTX0.IN_ATT (s.get (CTX0.PAIR q.ctx))) = 7 ∧ s.get (CTX0.CLASS (s.get (CTX0.PAIR q.ctx))) < 2 ∧ s.flag (FE_STAT.FENCED (s.get (CTX0.HOME (s.get (CTX0.PAIR q.ctx))))) = false) (qd ((paired root).set (SEM0.HELD 3) 1 |>.set (SEM0.HUB 3) 9 |>.set (SEM0.TAG 3) 4 |>.set (SEM1.CTX 3) 7) (bmsg 14 0 3 6 [])) (bmsg 14 0 3 6 [])) ∧
    ((fun (s : State) (k : Fin 32) => s.flag (SEM0.HELD k) = true ∧ s.bridge.holds = []) (root.set (SEM0.HELD 3) 1) (3)) ∧
    ((fun (s : State) (k : Fin 32) => s.flag (SEM0.HELD k) = true ∧ s.bridge.holds = []) (root.set (SEM0.HELD 3) 1) (3)) ∧
    ((fun (s : State) (_ e : Nat) => s.flag BRT_XFER_STAT.BUSY = false ∧ leNat (byteSlice (s.windowBytes BRT_XREQ.DATA 16) 6 2) ≤ 56 ∧ byteAt (s.windowBytes BRT_XREQ.DATA 16) 4 % 16 ≤ 6 ∧ s.brtMatch 13 (leNat (byteSlice (s.windowBytes BRT_XREQ.DATA 16) 0 4)) = some e ∧ s.hasToken e = true ∧ s.bridge.aheads = [] ∧ s.inRoom 7 (s.get (CTX0.CLASS (s.get (BRT0.CTX e)))) 321 = true ∧ (s.flows.backlog.any fun b => b.2.1 == (s.get (BRT0.CTX e))) = false ∧ s.adapterOn 7 = true ∧ s.flag (CTX5.DRAINING (s.get (BRT0.CTX e))) = false ∧ s.flag (CTX5.ACTIVE (s.get (BRT0.CTX e))) = true ∧ s.flag (CTX5.HELD (s.get (BRT0.CTX e))) = false ∧ s.get (CTX0.IN_ATT (s.get (BRT0.CTX e))) = 7 ∧ s.get (CTX0.CLASS (s.get (BRT0.CTX e))) < 2 ∧ s.flag (FE_STAT.FENCED (s.get (CTX0.HOME (s.get (BRT0.CTX e))))) = false) ((flow root 7 0 0 7 1).set (BRT0.VALID 0) 1 |>.set (BRT0.IN_BUS 0) 13 |>.set (BRT0.CTX 0) 7) (9) (0)) ∧
    ((fun (s : State) (_ : Nat) => s.flag BRT_XFER_STAT.BUSY = true) (root.set BRT_XFER_STAT.BUSY 1) (9)) ∧
    ((fun (s : State) (x : Xfer) => s.bridge.xfer = some x ∧ x.resp = true) (br root (fun b => { b with xfer := some ⟨4, 7, pkt 0 0, true, false, 0, 0⟩ })) (⟨4, 7, pkt 0 0, true, false, 0, 0⟩)) ∧
    ((fun (s : State) (q : BrMsg) (x : Xfer) => s.nextMsg 13 = some q ∧ q.op = 2 ∧ s.bridge.xfer = some x ∧ x.resp = true ∧ q.m 18 = x.tag ∧ s.flag (CTX0.PAIR_VALID x.ctx) = true ∧ s.get (CTX0.PAIR x.ctx) = q.ctx ∧ x.stale = 0) (br (root.set (CTX0.PAIR_VALID 7) 1 |>.set (CTX0.PAIR 7) 7) (fun b => { b with xfer := some ⟨4, 7, pkt 0 0, true, false, 0, 0⟩, queue := [bmsg 13 0 0 2 [6, 5]] })) (bmsg 13 0 0 2 [6, 5]) (⟨4, 7, pkt 0 0, true, false, 0, 0⟩)) ∧
    ((fun (s : State) (i : CtxNo) (cause : Nat) (a : ReadAhead) => s.bridge.aheads.find? i.val = some a ∧ cause < 5 ∧ (cause = 3 → s.flag (CTX5.ACTIVE i) = false)) (br root (fun b => { b with aheads := [(7, ⟨7, 1, 16, 9, [1, 2, 3], 5⟩)] })) (7) (0) (⟨7, 1, 16, 9, [1, 2, 3], 5⟩)) ∧
    ((fun (s : State) (i : CtxNo) (a : ReadAhead) => s.bridge.aheads.find? i.val = some a) (br root (fun b => { b with aheads := [(7, ⟨7, 1, 16, 9, [1, 2, 3], 5⟩)] })) (7) (⟨7, 1, 16, 9, [1, 2, 3], 5⟩)) ∧
    ((fun (s : State) (i : CtxNo) (hub depth : Nat) (p : FlowPkt) => s.get LST_BUF_PLAN.PLAN = 0 ∧ s.farther hub depth = true ∧ s.flows.waiting = [p] ∧ p.ctx = i ∧ p.inAtt = 7 ∧ s.bridge.xfer = none) (fl (root.set LST_BUF_PLAN.PLAN 0 |>.set CHIP_ROLE.DEPTH 3) (fun f => { f with waiting := [fpk 7 0 7 1] })) (7) (9) (1) (fpk 7 0 7 1)) ∧
    ((fun (s : State) (i : CtxNo) (p : Pkt) => s.bridge.retracted = [(i.val, false, p)] ∧ s.inRoom 7 (s.get (CTX0.CLASS i.val)) (s.adapterPkt i 0 p).n = true ∧ (s.flows.backlog.any fun b => b.2.1 == i.val) = false ∧ s.adapterOn 7 = true ∧ s.flag (CTX5.DRAINING i.val) = false ∧ s.flag (CTX5.ACTIVE i.val) = true ∧ s.flag (CTX5.HELD i.val) = false ∧ s.get (CTX0.IN_ATT i.val) = 7 ∧ s.get (CTX0.CLASS i.val) < 2 ∧ s.flag (FE_STAT.FENCED (s.get (CTX0.HOME i.val))) = false) (br (flow root 7 0 0 7 1) (fun b => { b with retracted := [(7, false, pkt 0 0)] })) (7) (pkt 0 0)) :=
  by and_intros <;> decide +kernel

/-- States and operands that meet the hypotheses of Obligations.AttachAndDetach. -/
theorem witness_AttachAndDetach :
    ((fun (s : State) (n : Port) (a b : Nat) => 150 ≤ a ∧ a ≤ 1600 ∧ 2000 < b ∧ s.flag (EYE_CH_STAT.COOLING n) = false ∧ s.attached n = false ∧ s.sources n = true ∧ s.flag (CTP_CFG.FORCE_V1 n) = false ∧ bit (s.get (CTP_CFG.LEVELS n)) 1 = true ∧ s.get (EYE_CH_STAT.STATE n) ≠ 5 ∧ s.pwrOn = true ∧ s.flag PWRD_STATE.ENTERING = false ∧ s.chip.wake = none ∧ s.get PWRD_STATE.STATE < 2) ((cable 0 1).set (CTP_CFG.LEVELS 1) 2) (1) (300) (2500)) ∧
    ((fun (s : State) (n : Port) (a b : Nat) => 2000 < a ∧ 150 ≤ b ∧ b ≤ 1600 ∧ s.attached n = false ∧ s.sources n = true ∧ s.flag (CTP_CFG.FORCE_V1 n) = false ∧ s.pwrOn = true ∧ s.flag PWRD_STATE.ENTERING = false ∧ s.chip.wake = none ∧ s.get PWRD_STATE.STATE < 2) (cable 0 1) (1) (2500) (300)) ∧
    ((fun (s : State) (n : Port) (v : Nat) => s.attached n = false ∧ s.sources n = false ∧ s.flag (CTP_CFG.FORCE_V1 n) = false ∧ 200 ≤ v ∧ v ≤ 1600 ∧ s.pwrOn = true ∧ s.flag PWRD_STATE.ENTERING = false ∧ s.chip.wake = none ∧ s.get PWRD_STATE.STATE < 2) (cable 0 0) (1) (700)) ∧
    ((fun (s : State) (v : Nat) => s.attached 0 = false ∧ s.sources 0 = false ∧ s.ctp.dbPath = true ∧ s.flag (CTP_CFG.FORCE_V1 0) = false ∧ 200 ≤ v ∧ v ≤ 1600) ({ root with ctp := { root.ctp with dbPath := true } }) (300)) ∧
    ((fun (s : State) (n : Port) (a b : Nat) => 150 ≤ a ∧ a ≤ 1600 ∧ 150 ≤ b ∧ b ≤ 1600 ∧ s.attached n = false ∧ s.sources n = true) (cable 0 1) (1) (300) (400)) ∧
    ((fun (s : State) (n : Port) => s.attached n = true ∧ s.cfgLost n = true ∧ s.flag (CTP_TX_STAT.BUSY n) = false ∧ (s.ctpP n).wired = none ∧ s.pwrOn = true ∧ s.flag PWRD_STATE.ENTERING = false ∧ s.chip.wake = none ∧ s.get PWRD_STATE.STATE < 2) (cp ((cable 4 1).set (CTP_CONTRACT.VOLT 1) 2) 1 (fun p => { p with cfg1 := .opened })) (1)) ∧
    ((fun (s : State) (n : Port) => s.attached n = true ∧ (s.ctpP n).infoAcked = false ∧ s.ctpV1 n = false ∧ (s.ctpP n).sending = none ∧ (s.ctpP n).next = []) (cable 2 0) (1)) ∧
    ((fun (s : State) (n : Port) => s.ctpState n = 2 ∧ s.sources n = true ∧ (s.ctpP n).applying = true ∧ s.conducts n = true ∧ s.flag (CTP_STAT.PG n) = false) (cp ((cable 2 1).set (EYE_CH_STAT.STATE 1) 1) 1 (fun p => { p with applying := true })) (1)) ∧
    ((fun (s : State) (n : Port) => s.ctpState n = 2 ∧ s.sources n = false ∧ s.flag (CTP_STAT.PG n) = false) (cable 2 0) (1)) :=
  by and_intros <;> decide +kernel

/-- States and operands that meet the hypotheses of Obligations.MessagesReceived. -/
theorem witness_MessagesReceived :
    ((fun (s : State) (n : Port) (w _ : Nat) => s.attached n = true ∧ bits w 13 2 = 2 ∧ s.get (CTP_STAT.REV n) = 2 ∧ (s.ctpP n).lastRx ≠ some (bits w 8 4, bits w 0 5) ∧ s.get (CTP_RX_PTR.HEAD n) < 4 ∧ (s.get (CTP_RX_PTR.HEAD n) + 1) % 4 ≠ s.get (CTP_RX_PTR.TAIL n) ∧ s.ctpState n ≠ 5 ∧ s.get (WLT_PCS_STAT.TRAIN_STATE n) = 0) (cable 3 0) (1) (0x4032) (0x35)) ∧
    ((fun (s : State) (n : Port) (w _ : Nat) => s.attached n = true ∧ bits w 13 2 = 2 ∧ s.get (CTP_STAT.REV n) = 2 ∧ (s.ctpP n).lastRx = some (bits w 8 4, bits w 0 5)) (cp (cable 3 0) 1 (fun p => { p with lastRx := some (0, 18) })) (1) (0x4032) (0x35)) ∧
    ((fun (s : State) (n : Port) (w : Nat) (_ : List Nat) => s.attached n = true ∧ bits w 13 2 = 2 ∧ s.get (CTP_STAT.REV n) = 2 ∧ (s.ctpP n).lastRx ≠ some (bits w 8 4, bits w 0 5) ∧ s.get (CTP_RX_PTR.HEAD n) < 4 ∧ (s.get (CTP_RX_PTR.HEAD n) + 1) % 4 ≠ s.get (CTP_RX_PTR.TAIL n) ∧ s.ctpState n ≠ 5 ∧ s.sources n = false) (cable 3 0) (1) (0x4030) ([0x960096])) ∧
    ((fun (s : State) (n : Port) (w o : Nat) => s.attached n = true ∧ bits w 13 2 = 2 ∧ s.get (CTP_STAT.REV n) = 2 ∧ (s.ctpP n).lastRx ≠ some (bits w 8 4, bits w 0 5) ∧ s.get (CTP_RX_PTR.HEAD n) < 4 ∧ (s.get (CTP_RX_PTR.HEAD n) + 1) % 4 ≠ s.get (CTP_RX_PTR.TAIL n) ∧ s.ctpState n ≠ 5 ∧ s.sources n = true ∧ (s.ctpP n).seq = 2 ∧ (s.ctpP n).await = true ∧ bits ((s.ctpP n).offers.getD (bits o 0 3) 0) 0 2 ≠ 0 ∧ bits o 3 10 ≤ bits ((s.ctpP n).offers.getD (bits o 0 3) 0) 2 10) (cp (cable 3 1) 1 (fun p => { p with seq := 2, await := true, offers := [0x196] })) (1) (0x4031) (0x80)) ∧
    ((fun (s : State) (n : Port) (w o : Nat) => s.attached n = true ∧ bits w 13 2 = 2 ∧ s.get (CTP_STAT.REV n) = 2 ∧ (s.ctpP n).lastRx ≠ some (bits w 8 4, bits w 0 5) ∧ s.get (CTP_RX_PTR.HEAD n) < 4 ∧ (s.get (CTP_RX_PTR.HEAD n) + 1) % 4 ≠ s.get (CTP_RX_PTR.TAIL n) ∧ s.ctpState n ≠ 5 ∧ s.sources n = true ∧ (s.ctpP n).seq = 2 ∧ (s.ctpP n).await = true ∧ (s.ctpP n).sending = none ∧ bits ((s.ctpP n).offers.getD (bits o 0 3) 0) 0 2 = 0) (cp (cable 3 1) 1 (fun p => { p with seq := 2, await := true, offers := [] })) (1) (0x4031) (0x80)) ∧
    ((fun (s : State) (n : Port) (w v c : Nat) => s.attached n = true ∧ bits w 13 2 = 2 ∧ s.get (CTP_STAT.REV n) = 2 ∧ (s.ctpP n).lastRx ≠ some (bits w 8 4, bits w 0 5) ∧ s.get (CTP_RX_PTR.HEAD n) < 4 ∧ (s.get (CTP_RX_PTR.HEAD n) + 1) % 4 ≠ s.get (CTP_RX_PTR.TAIL n) ∧ s.ctpState n ≠ 5 ∧ s.sources n = false ∧ (s.ctpP n).seq = 2 ∧ (s.ctpP n).await = true ∧ (s.ctpP n).req = some (v, c)) (cp (cable 3 0) 1 (fun p => { p with seq := 2, await := true, req := some (3, 100) })) (1) (0x4002) (3) (100)) ∧
    ((fun (s : State) (n : Port) (w : Nat) => s.attached n = true ∧ bits w 13 2 = 2 ∧ s.get (CTP_STAT.REV n) = 2 ∧ (s.ctpP n).lastRx ≠ some (bits w 8 4, bits w 0 5) ∧ s.get (CTP_RX_PTR.HEAD n) < 4 ∧ (s.get (CTP_RX_PTR.HEAD n) + 1) % 4 ≠ s.get (CTP_RX_PTR.TAIL n) ∧ s.ctpState n ≠ 5 ∧ s.sources n = false ∧ (s.ctpP n).await = true ∧ (s.ctpP n).starts = none) (cp (cable 3 0) 1 (fun p => { p with seq := 2, await := true })) (1) (0x4003)) ∧
    ((fun (s : State) (n : Port) (w v c : Nat) => s.attached n = true ∧ bits w 13 2 = 2 ∧ s.get (CTP_STAT.REV n) = 2 ∧ (s.ctpP n).lastRx ≠ some (bits w 8 4, bits w 0 5) ∧ s.get (CTP_RX_PTR.HEAD n) < 4 ∧ (s.get (CTP_RX_PTR.HEAD n) + 1) % 4 ≠ s.get (CTP_RX_PTR.TAIL n) ∧ s.ctpState n = 5 ∧ bits w 0 5 = mREADY ∧ s.sources n = false ∧ (s.ctpP n).req = some (v, c) ∧ (s.ctpP n).starts = none ∧ (s.ctpP n).owedWait = 0) (cp (cable 5 0) 1 (fun p => { p with seq := 2, req := some (3, 100) })) (1) (0x4005) (3) (100)) ∧
    ((fun (s : State) (n : Port) (w : Nat) => s.attached n = true ∧ bits w 13 2 = 2 ∧ s.get (CTP_STAT.REV n) = 2 ∧ (s.ctpP n).lastRx ≠ some (bits w 8 4, bits w 0 5) ∧ s.get (CTP_RX_PTR.HEAD n) < 4 ∧ (s.get (CTP_RX_PTR.HEAD n) + 1) % 4 ≠ s.get (CTP_RX_PTR.TAIL n) ∧ s.ctpState n ≠ 5 ∧ s.sources n = true ∧ (s.ctpP n).sending = none) (cable 3 1) (1) (0x4006)) ∧
    ((fun (s : State) (n : Port) (w : Nat) => s.attached n = true ∧ bits w 13 2 = 2 ∧ s.get (CTP_STAT.REV n) = 2 ∧ (s.ctpP n).lastRx ≠ some (bits w 8 4, bits w 0 5) ∧ s.get (CTP_RX_PTR.HEAD n) < 4 ∧ (s.get (CTP_RX_PTR.HEAD n) + 1) % 4 ≠ s.get (CTP_RX_PTR.TAIL n) ∧ s.swapRefused n = false) ({ (cable 3 1).set (CTP_CFG.SWAP_OK 1) 1 |>.set (CTP_STAT.PARTNER_SWAP_OK 1) 1 |>.set (CTP_STAT.PARTNER_PG 1) 1 with ctp := { root.ctp with localPg := true } }) (1) (0x4007)) ∧
    ((fun (s : State) (n : Port) (w : Nat) => s.attached n = true ∧ bits w 13 2 = 2 ∧ s.get (CTP_STAT.REV n) = 2 ∧ (s.ctpP n).lastRx ≠ some (bits w 8 4, bits w 0 5) ∧ s.get (CTP_RX_PTR.HEAD n) < 4 ∧ (s.get (CTP_RX_PTR.HEAD n) + 1) % 4 ≠ s.get (CTP_RX_PTR.TAIL n) ∧ (s.ctpState n ≠ 5 ∨ bits w 0 5 = mSWAPREQ) ∧ s.swapRefused n = true ∧ (s.ctpP n).sending = none) (cable 3 1) (1) (0x4007)) ∧
    ((fun (s : State) (n : Port) (w : Nat) (_ : List Nat) => s.attached n = true ∧ bits w 13 2 = 2 ∧ s.get (CTP_STAT.REV n) = 2 ∧ (s.ctpP n).lastRx ≠ some (bits w 8 4, bits w 0 5) ∧ s.get (CTP_RX_PTR.HEAD n) < 4 ∧ (s.get (CTP_RX_PTR.HEAD n) + 1) % 4 ≠ s.get (CTP_RX_PTR.TAIL n) ∧ s.ctpState n ≠ 5 ∧ (s.ctpP n).sending = none) (cable 3 1) (1) (0x4009) ([])) ∧
    ((fun (s : State) (n : Port) (_ : Nat) => s.attached n = true ∧ s.ctpState n ≠ 7) (cable 4 1) (1) (0x201F)) :=
  by and_intros <;> decide +kernel

/-- States and operands that meet the hypotheses of Obligations.SequencesAndTransitions. -/
theorem witness_SequencesAndTransitions :
    ((fun (s : State) (n : Port) (w : Nat) (m : CtpMsg) => (s.ctpP n).sending = some m ∧ bits w 8 4 = (s.ctpP n).sendId ∧ bits w 13 2 = 2 ∧ s.get (CTP_STAT.REV n) = 2 ∧ m.tx = true ∧ m.typ = mREQUEST ∧ (s.ctpP n).next = []) (cp (cable 3 0) 1 (fun p => { p with sending := some ⟨17, [3], true⟩ })) (1) (0x4001) (⟨17, [3], true⟩)) ∧
    ((fun (s : State) (n : Port) (m : CtpMsg) => (s.ctpP n).sending = some m ∧ s.ctpRefused n m = false ∧ (s.ctpP n).tries < 2) (cp (cable 3 0) 1 (fun p => { p with sending := some ⟨17, [3], true⟩ })) (1) (⟨17, [3], true⟩)) ∧
    ((fun (s : State) (n : Port) (m : CtpMsg) => (s.ctpP n).starts = some m ∧ s.sources n = true ∧ (s.ctpP n).seq = 0 ∧ (s.ctpP n).sending = none ∧ s.ctpRefused n m = false ∧ m.typ ≠ mINFO) (cp (cable 3 1) 1 (fun p => { p with starts := some ⟨6, [], false⟩ })) (1) (⟨6, [], false⟩)) ∧
    ((fun (s : State) (n : Port) => (s.ctpP n).await = true ∧ s.ctpState n ≠ 5 ∧ s.ctpState n ≠ 6 ∧ (s.ctpP n).starts = none) (cp (cable 3 1) 1 (fun p => { p with seq := 2, await := true })) (1)) ∧
    ((fun (s : State) (n : Port) => (s.ctpP n).seq ≠ 0 ∧ (s.ctpP n).await = false ∧ s.ctpState n ≠ 5 ∧ s.ctpState n ≠ 6 ∧ (s.ctpP n).starts = none) (cp ((cable 3 1).set (CTP_STAT.LEVEL 1) 1) 1 (fun p => { p with seq := 2 })) (1)) ∧
    ((fun (s : State) (n : Port) (w : Nat) => s.attached n = true ∧ bits w 13 2 = 2 ∧ s.get (CTP_STAT.REV n) = 2 ∧ (s.ctpP n).lastRx ≠ some (bits w 8 4, bits w 0 5) ∧ s.get (CTP_RX_PTR.HEAD n) < 4 ∧ (s.get (CTP_RX_PTR.HEAD n) + 1) % 4 ≠ s.get (CTP_RX_PTR.TAIL n) ∧ s.ctpState n ≠ 5 ∧ (s.ctpP n).await = false ∧ (s.ctpP n).late = true) (cp (cable 3 0) 1 (fun p => { p with late := true })) (1) (0x4002)) ∧
    ((fun (s : State) (n : Port) (v c : Nat) => (s.ctpP n).req = some (v, c) ∧ s.ctpState n = 5 ∧ s.sources n = true ∧ (s.ctpP n).levelSet = false ∧ (s.ctpP n).supply ≠ v) (cp (cable 5 1) 1 (fun p => { p with seq := 2, req := some (3, 100) })) (1) (3) (100)) ∧
    ((fun (s : State) (n : Port) (v c : Nat) => (s.ctpP n).req = some (v, c) ∧ s.ctpState n = 5 ∧ s.sources n = true ∧ s.conducts n = true ∧ (s.ctpP n).levelSet = true ∧ (s.ctpP n).owedWait = 0 ∧ (s.ctpP n).sending = none) (cp ((cable 5 1).set (EYE_CH_STAT.STATE 1) 2) 1 (fun p => { p with seq := 2, levelSet := true, req := some (3, 100) })) (1) (3) (100)) ∧
    ((fun (s : State) (n : Port) => s.ctpState n = 5 ∧ s.sources n = false) (cable 5 0) (1)) ∧
    ((fun (s : State) (n : Port) => s.ctpState n = 5 ∧ s.sources n = true) (cable 5 1) (1)) ∧
    ((fun (s : State) (n : Port) => s.attached n = true ∧ s.ctpState n ≠ 7 ∧ s.ctpState n ≠ 5 ∧ s.flag (CTP_STAT.PG n) = true ∧ s.sources n = false) ((cable 3 0).set (CTP_STAT.PG 1) 1) (1)) ∧
    ((fun (s : State) (n : Port) => s.ctpState n = 6) (cable 6 0) (1)) ∧
    ((fun (s : State) (n : Port) => s.attached n = true ∧ s.ctpState n ≠ 7) (cable 4 0) (1)) ∧
    ((fun (s : State) (n : Port) => s.ctpState n = 6 ∧ (s.ctpP n).swap = 1 ∧ (s.ctpP n).roleBefore = 1 ∧ (s.ctpP n).sending = none) (cp (cable 6 1) 1 (fun p => { p with swap := 1, roleBefore := 1 })) (1)) ∧
    ((fun (s : State) (n : Port) => s.ctpState n = 6 ∧ (s.ctpP n).swap = 2 ∧ (s.ctpP n).roleBefore = 0 ∧ (s.ctpP n).applying = true ∧ s.conducts n = true ∧ (s.ctpP n).sending = none) (cp ((cable 6 0).set (EYE_CH_STAT.STATE 1) 1) 1 (fun p => { p with swap := 2, applying := true })) (1)) ∧
    ((fun (s : State) (n : Port) (w : Nat) => s.attached n = true ∧ bits w 13 2 = 2 ∧ s.get (CTP_STAT.REV n) = 2 ∧ (s.ctpP n).lastRx ≠ some (bits w 8 4, bits w 0 5) ∧ s.get (CTP_RX_PTR.HEAD n) < 4 ∧ (s.get (CTP_RX_PTR.HEAD n) + 1) % 4 ≠ s.get (CTP_RX_PTR.TAIL n) ∧ s.ctpState n = 6 ∧ (s.ctpP n).swap = 2 ∧ (s.ctpP n).roleBefore = 1 ∧ (s.ctpP n).starts = none) (cp (cable 6 1) 1 (fun p => { p with swap := 2, roleBefore := 1, seq := 4 })) (1) (0x4005)) ∧
    ((fun (s : State) (n : Port) => s.ctpState n = 7 ∧ s.flag (CTP_HR.STUCK n) = false ∧ s.sources n = false) (cable 7 0) (1)) ∧
    ((fun (s : State) (n : Port) => s.ctpState n = 7 ∧ s.sources n = true) (cable 7 1) (1)) ∧
    ((fun (s : State) (n : Port) => s.get (CTP_TX.DATA n 0) = mREJECT ∧ s.flag (CTP_TX_STAT.BUSY n) = false ∧ s.attached n = true ∧ (s.ctpP n).sending = none) ((cable 3 1).set (CTP_TX.DATA 1 0) 3) (1)) ∧
    ((fun (s : State) (c : MbxCmd) (n : Port) => s.ctl.mbxQueue = [c] ∧ c.cmd = 0x0200 ∧ s.awlServes = true ∧ c.result = none ∧ c.begun = false ∧ byteAt c.req 0 = n.val ∧ s.ctl.pdq = []) (rung (root) (mb 0x0200 [1])) (mb 0x0200 [1]) (1)) ∧
    ((fun (s : State) (c : MbxCmd) (n : Port) => s.ctl.mbxQueue = [c] ∧ c.cmd = 0x0201 ∧ s.awlServes = true ∧ c.result = none ∧ c.begun = false ∧ byteAt c.req 0 = n.val ∧ s.attached n = true ∧ s.sources n = false ∧ (s.ctpP n).wire = .mayStart ∧ (s.ctpP n).starts = none ∧ (s.ctpP n).seq = 0 ∧ (s.ctpP n).sending = none) (rung (cp (cable 3 0) 1 (fun p => { p with cfg1 := .mayStart })) (mb 0x0201 [1])) (mb 0x0201 [1]) (1)) ∧
    ((fun (s : State) (c : MbxCmd) (n : Port) => s.ctl.mbxQueue = [c] ∧ c.cmd = 0x0202 ∧ s.awlServes = true ∧ c.result = none ∧ c.begun = false ∧ byteAt c.req 0 = n.val ∧ s.swapRefused n = true) (rung (cable 3 0) (mb 0x0202 [1])) (mb 0x0202 [1]) (1)) ∧
    ((fun (s : State) (c : MbxCmd) (n : Port) => s.ctl.mbxQueue = [c] ∧ c.cmd = 0x0202 ∧ s.awlServes = true ∧ c.result = none ∧ c.begun = false ∧ byteAt c.req 0 = n.val ∧ s.swapRefused n = false ∧ s.attached n = true ∧ s.sources n = false ∧ (s.ctpP n).wire = .mayStart ∧ (s.ctpP n).starts = none ∧ (s.ctpP n).seq = 0 ∧ (s.ctpP n).sending = none) (rung (cp ({ (cable 3 0).set (CTP_CFG.SWAP_OK 1) 1 |>.set (CTP_STAT.PARTNER_SWAP_OK 1) 1 |>.set (CTP_STAT.PARTNER_PG 1) 1 with ctp := { root.ctp with localPg := true } }) 1 (fun p => { p with cfg1 := .mayStart })) (mb 0x0202 [1])) (mb 0x0202 [1]) (1)) ∧
    ((fun (s : State) (c : MbxCmd) (n : Port) => s.ctl.mbxQueue = [c] ∧ c.cmd = 0x0203 ∧ s.awlServes = true ∧ c.result = none ∧ c.begun = false ∧ byteAt c.req 0 = n.val ∧ s.attached n = true ∧ s.ctpState n ≠ 7) (rung (cable 4 0) (mb 0x0203 [1])) (mb 0x0203 [1]) (1)) :=
  by and_intros <;> decide +kernel

/-- States and operands that meet the hypotheses of Obligations.ChannelsAndTrips. -/
theorem witness_ChannelsAndTrips :
    ((fun (s : State) (c : Chan) => s.chanReady c = true ∧ (s.chan c).on = false) (root.set (EYE_CH_CTRL.ON 4) 1 |>.set (EYE_CH_SENSE.RSENSE 4) 9 |>.set EYE_FEED_STAT.A_PRESENT 1) (4)) ∧
    ((fun (s : State) (c : Chan) => s.get (EYE_CH_STAT.STATE c) = 1) (lit 1 1) (1)) ∧
    ((fun (s : State) (c : Chan) => (s.chan c).on = true ∧ s.get (EYE_CH_STAT.STATE c) = 1) (lit 1 1) (1)) ∧
    ((fun (s : State) (c : Chan) => (s.chan c).on = true ∧ s.get (EYE_CH_STAT.STATE c) = 1) (lit 1 1) (1)) ∧
    ((fun (s : State) (c : Chan) (k : Fin 9) => (s.chan c).on = true ∧ s.curveOn c k = true ∧ s.curveTimeOf c k ≤ (s.chan c).timers.getD k.val 0) (ch (lit 1 2) 1 (fun h => { h with timers := List.replicate 9 10000000 })) (1) (8)) ∧
    ((fun (s : State) (c : Chan) => (s.chan c).on = true ∧ s.get (EYE_CH_STAT.STATE c) = 2) (lit 1 2) (1)) ∧
    ((fun (s : State) (c : Chan) => (s.chan c).on = true ∧ s.get (EYE_CH_STAT.STATE c) = 1) (lit 1 1) (1)) ∧
    ((fun (s : State) (c : Chan) => (s.chan c).on = true ∧ c.val < 4) (lit 1 2) (1)) ∧
    ((fun (s : State) (c : Chan) => (s.chan c).on = true ∧ c.val < 4) (lit 1 2) (1)) ∧
    ((fun (s : State) (c : Chan) => (s.chan c).on = true ∧ 4 ≤ c.val) (lit 4 2) (4)) ∧
    ((fun (s : State) (c : Chan) (_ : Int) (vp vb : Nat) (_ _ : Int) => s.get (EYE_CH_THERM0.TAU1 c) ≠ 0 ∧ s.get (EYE_CH_THERM1.TAU2 c) ≠ 0 ∧ vp < 4096 ∧ vb < 4096) ((lit 1 2).set (EYE_CH_THERM0.TAU1 1) 5 |>.set (EYE_CH_THERM1.TAU2 1) 7 |>.set (EYE_CH_THERM0.THETA1 1) 9) (1) (-30) (900) (950) (240) (25)) ∧
    ((fun (s : State) (c : Chan) => (s.chan c).latched = true ∧ s.get (EYE_CH_STAT.STATE c) ≠ 5 ∧ s.flag (EYE_CH_STAT.COOLING c) = true) (ch (root.set (EYE_CH_STAT.COOLING 1) 1) 1 (fun h => { h with latched := true })) (1)) ∧
    ((fun (s : State) (c : Chan) => s.flag (EYE_CH_STAT.COOLING c) = true ∧ (s.chan c).coolLeft = 0 ∧ (s.chan c).dt1 + (s.chan c).dt2 ≤ s.get (EYE_CH_TLIM.COOL_RISE c) ∧ (s.chan c).tUsed ≤ s.get (EYE_CH_TLIM.T_WARN c)) (root.set (EYE_CH_STAT.COOLING 1) 1) (1)) ∧
    ((fun (s : State) (c : Chan) => (s.chan c).on = false ∧ s.get (EYE_CH_STAT.STATE c) ≠ 5 ∧ s.chanIn c < 10 * s.chanOut c ∧ 1 < (toInt 16 (s.get (EYE_CH_MEAS_I.I c))).natAbs) (root.set (EYE_CH_MEAS_I.I 1) 9 |>.set (EYE_CH_MEAS_V.V_PORT 1) 9) (1)) :=
  by and_intros <;> decide +kernel

/-- States and operands that meet the hypotheses of Obligations.FeedsAndWarnings. -/
theorem witness_FeedsAndWarnings :
    ((fun (s : State) (f : Fin 2) => (s.chan (feedChan f)).on = true) ((lit 5 2).set EYE_FEED_STAT.B_PRESENT 1) (1)) ∧
    ((fun (s : State) (f : Fin 2) => (s.chan (feedChan f)).on = true) (lit 5 2) (1)) ∧
    ((fun (s : State) (f : Fin 2) => s.get (EYE_CH_STAT.STATE (feedChan f)) = 3) (lit 5 3) (1)) ∧
    ((fun (s : State) (f : Fin 2) => s.chanFree (feedChan f) = true ∧ s.flag (feedPresent f) = true) (root.set (EYE_CH_CTRL.ON 5) 1 |>.set (EYE_CH_SENSE.RSENSE 5) 9 |>.set EYE_FEED_STAT.B_PRESENT 1) (1)) ∧
    ((fun (s : State)  => s.get EYE_FEED_CTRL.MODE = 1 ∧ s.flag (feedPresent 0) = true ∧ s.chanFree 4 = true) ((lit 5 2).set EYE_FEED_CTRL.MODE 1 |>.set (EYE_CH_CTRL.ON 4) 1 |>.set (EYE_CH_SENSE.RSENSE 4) 9 |>.set EYE_FEED_STAT.A_PRESENT 1)) ∧
    ((fun (s : State) (uv fall : Bool) => s.monitored = true ∧ (uv || fall) = true ∧ s.flag EYE_WARN_CTRL.PWARN_EN = false) (root.set EYE_WARN_CTRL.SRC 0 |>.set EYE_WARN_CTRL.PWARN_EN 0) (true) (false)) ∧
    ((fun (s : State)  => s.flag EYE_WARN_STAT.ACTIVE = true ∧ s.eye.warning = true) ({ root.set EYE_WARN_STAT.ACTIVE 1 with eye := { root.eye with warning := true } })) ∧
    ((fun (s : State)  => s.flag PWRD_STATE.ENTERING = false ∧ s.chip.wake = none ∧ s.get PWRD_STATE.STATE < 2) (root)) ∧
    ((fun (s : State) (n : Port) => s.facesUp n = true ∧ s.flag EYE_WARN_CTRL.FOLLOW = true ∧ s.flag EYE_WARN_CTRL.PWARN_EN = false) (spoke.set EYE_WARN_CTRL.FOLLOW 1 |>.set EYE_WARN_CTRL.PWARN_EN 0) (0)) :=
  by and_intros <;> decide +kernel

/-- States and operands that meet the hypotheses of Obligations.PowerUpAndLoss. -/
theorem witness_PowerUpAndLoss :
    ((fun (s : State) (_ : Straps) => s.chip.power = 0) (dead) (⟨false, 0, true, true⟩)) ∧
    ((fun (s : State) (_ : Straps) => s.chip.power = 0) (dead) (⟨false, 0, true, true⟩)) ∧
    ((fun (s : State) (_ : Straps) => s.chip.power = 2 ∧ s.chip.attempts < 3) (chip dead (fun c => { c with power := 2, attempts := 1 })) (⟨false, 0, true, true⟩)) ∧
    ((fun (s : State) (_ : Straps) (_ : Bool) => s.chip.power = 2 ∧ 3 ≤ s.chip.attempts) (chip dead (fun c => { c with power := 2, attempts := 3 })) (⟨false, 0, true, true⟩) (true)) ∧
    ((fun (s : State)  => s.chip.power = 3 ∧ s.get PWRD_STATE.STATE ≤ 2) (chip root (fun c => { c with power := 3 }))) ∧
    ((fun (s : State) (_ : Straps) => s.chip.power = 0) (dead) (⟨false, 0, true, true⟩)) ∧
    ((fun (s : State) (mv : Nat) => s.get PWRD_STATE.STATE < 2 ∧ 650 ≤ mv ∧ mv ≤ 850 ∧ mv % 5 = 0 ∧ s.chip.avsNack = false) (root) (700)) ∧
    ((fun (s : State) (mv : Nat) => s.get PWRD_STATE.STATE < 2 ∧ 650 ≤ mv ∧ mv ≤ 850 ∧ mv % 5 = 0 ∧ s.chip.avsNack = false) (root) (700)) :=
  by and_intros <;> decide +kernel

/-- States and operands that meet the hypotheses of Obligations.DomainsAndBoot. -/
theorem witness_DomainsAndBoot :
    ((fun (s : State) (d : Fin 16) => s.switchable d = true ∧ s.domainOn d = true) (root) (11)) ∧
    ((fun (s : State) (d : Fin 16) => s.switchable d = true ∧ bit (s.get PWRD_DOMAIN_CTRL.ON) d = false) (root.set PWRD_DOMAIN_CTRL.ON 0xC00F) (11)) ∧
    ((fun (s : State) (d : Fin 16) => s.domainOn d = true ∧ (d.val < 6 ∨ 10 ≤ d.val)) (root) (11)) ∧
    ((fun (s : State) (d : Fin 16) => s.domainOn d = true ∧ s.switchable d = true) (root) (11)) ∧
    ((fun (s : State) (d : Fin 16) => s.domainOn d = true ∧ d.val < 4) (root) (1)) ∧
    ((fun (s : State) (_ _ : Nat) (_ : Bool) => s.chip.power = 3 ∧ s.flag FUSE_STAT.READ_DONE = false ∧ s.sec.halted = false ∧ s.lc = 0 ∧ s.nv.flash.fitted = false ∧ s.isRoot = true) (chip { root with nv := { root.nv with flash := { root.nv.flash with fitted := false } } } (fun c => { c with power := 3 })) (3) (1) (true)) ∧
    ((fun (s : State) (_ _ : Nat) (_ : Bool) => s.chip.power = 3 ∧ s.flag FUSE_STAT.READ_DONE = false ∧ s.sec.halted = false ∧ s.lc = 0 ∧ s.nv.flash.fitted = false ∧ s.isRoot = false ∧ bit s.protect 5 = true ∧ s.chip.wake = none) (chip { spoke with nv := { root.nv with flash := { root.nv.flash with fitted := false } } } (fun c => { c with power := 3 })) (3) (1) (true)) ∧
    ((fun (s : State) (_ _ : Nat) (_ : Bool) => s.chip.power = 3 ∧ s.flag FUSE_STAT.READ_DONE = false ∧ s.sec.halted = false) (chip root (fun c => { c with power := 3 })) (3) (1) (true)) ∧
    ((fun (s : State) (_ : Nat) => s.integ.awlDown = true ∧ s.ctl.mbxQueue = [] ∧ s.get PWRD_STATE.STATE = 0 ∧ s.nv.flash.fitted = false ∧ s.isRoot = true) ({ root with integ := { root.integ with awlDown := true }, nv := { root.nv with flash := { root.nv.flash with fitted := false } } }) (0)) ∧
    ((fun (s : State) (_ : Nat) (_ : Bool) => s.flag BOOT_STAT.FLASHLESS = true ∧ s.flag MBX_STAT.AWL_UP = false ∧ s.sec.halted = false ∧ s.sec.fetch = none ∧ s.flag (WLT_LINK_STAT.ADMITTED 0) = true ∧ s.lc = 0) (spoke.set BOOT_STAT.FLASHLESS 1) (1) (true)) ∧
    ((fun (s : State) (refused : Nat) => s.flag MBX_STAT.AWL_UP = true ∧ refused % 16 = 0) (root.set MBX_STAT.AWL_UP 1) (0)) ∧
    ((fun (s : State) (refused : Nat) => s.flag MBX_STAT.AWL_UP = true ∧ s.flag (WLT_LINK_STAT.ADMITTED 2) = true ∧ refused = 4) (root.set MBX_STAT.AWL_UP 1 |>.set (WLT_LINK_STAT.ADMITTED 2) 1) (4)) :=
  by and_intros <;> decide +kernel

/-- States and operands that meet the hypotheses of Obligations.ChipStatesAndWakes. -/
theorem witness_ChipStatesAndWakes :
    ((fun (s : State)  => s.get PWRD_STATE.STATE = 0 ∧ s.stateBusy = false) (root)) ∧
    ((fun (s : State)  => s.get PWRD_STATE.STATE = 1 ∧ s.stateBusy = false) (root.set PWRD_STATE.STATE 1)) ∧
    ((fun (s : State)  => s.get PWRD_STATE.STATE = 0 ∧ s.stateBusy = false) (root)) ∧
    ((fun (s : State)  => s.get PWRD_STATE.STATE ≠ 1 ∧ s.stateBusy = true) (root.set PWRD_STATE.ENTERING 1)) ∧
    ((fun (s : State)  => s.get PWRD_STATE.STATE = 0 ∧ s.stateBusy = false ∧ s.refuseHold = 0 ∧ s.admittedPorts = []) (root)) ∧
    ((fun (s : State) (wakes : List (Nat × Nat)) => s.get PWRD_STATE.STATE = 0 ∧ s.stateBusy = false ∧ s.refuseHold = 0 ∧ wakes = [] ∧ s.isRoot = true) (root) ([])) ∧
    ((fun (s : State) (wakes : List (Nat × Nat)) => s.get PWRD_STATE.STATE = 0 ∧ s.stateBusy = false ∧ wakes = []) (root) ([])) ∧
    ((fun (s : State) (_ : List (Nat × Nat)) => s.get PWRD_STATE.STATE = 0 ∧ s.stateBusy = false) (root) ([])) ∧
    ((fun (s : State)  => s.get PWRD_STATE.STATE = 1 ∧ s.flows.waiting = [] ∧ s.flows.admitted = [] ∧ s.flows.held = []) (root.set PWRD_STATE.STATE 1)) ∧
    ((fun (s : State)  => s.flag PWRD_STATE.ENTERING = true ∧ (s.admittedPorts.all fun n => s.get (WLT_PCS_STAT.TRAIN_STATE n) == 6) = true) (root.set PWRD_STATE.ENTERING 1)) ∧
    ((fun (s : State)  => s.flag PWRD_STATE.ENTERING = true ∧ s.admittedPorts = [] ∧ s.flag (BLK_CTRL.ENABLE 0x80) = false ∧ s.flag (BLK_CTRL.ENABLE 0x84) = false) (root.set PWRD_STATE.ENTERING 1)) ∧
    ((fun (s : State) (w : Wake) => s.get PWRD_STATE.STATE = 2 ∧ s.chip.power = 3 ∧ s.flag PWRD_STATE.ENTERING = false ∧ s.chip.wake = none ∧ s.wakes 2 w.src = true) (root.set PWRD_STATE.STATE 2 |>.set PWRD_WAKE_EN.EN 0x3FF) (⟨5, 0, 32768, 800000000, 9, 0⟩)) ∧
    ((fun (s : State) (w : Wake) => s.flag PWRD_STATE.ENTERING = true ∧ s.wakes 2 w.src = true ∧ s.chip.wake = none) (root.set PWRD_STATE.ENTERING 1 |>.set PWRD_WAKE_EN.EN 0x3FF) (⟨5, 0, 0, 0, 0, 0⟩)) ∧
    ((fun (s : State) (_ : Wake) (src cfg : Nat) => s.get PWRD_STATE.STATE = 2 ∧ s.chip.power = 3 ∧ s.flag PWRD_STATE.ENTERING = false ∧ s.flag PWRD_STATE.EXITING = false ∧ s.chip.wake = some (src, cfg) ∧ s.chip.replay = false ∧ bit s.chip.domains 14 = true) (chip (root.set PWRD_STATE.STATE 2 |>.set PWRD_WAKE_EN.EN 0x3FF) (fun c => { c with wake := some (5, 0) })) (⟨5, 0, 32768, 800000000, 9, 0⟩) (5) (0)) ∧
    ((fun (s : State) (_ : Wake) => s.chip.timerAt ≠ 0 ∧ s.get PWRD_STATE.STATE = 0 ∧ s.flag PWRD_STATE.ENTERING = false ∧ s.chip.wake = none) (chip root (fun c => { c with timerAt := 9 })) (⟨8, 0, 0, 0, 0, 0⟩)) ∧
    ((fun (s : State) (_ : Wake) => s.chip.timerAt ≠ 0 ∧ s.get PWRD_STATE.STATE = 2 ∧ s.chip.power = 3 ∧ s.flag PWRD_STATE.ENTERING = false ∧ s.chip.wake = none ∧ s.wakes 2 8 = true) (chip (root.set PWRD_STATE.STATE 2 |>.set PWRD_WAKE_EN.EN 0x3FF) (fun c => { c with timerAt := 9 })) (⟨8, 0, 32768, 800000000, 9, 0⟩)) :=
  by and_intros <;> decide +kernel

/-- States and operands that meet the hypotheses of Obligations.KeySlots. -/
theorem witness_KeySlots :
    ((fun (s : State) (m : Fin 5) (_ k : Nat) => s.targetOk (k % 32) = true ∧ s.takesKeys = true ∧ 1 ≤ s.opType ∧ s.opType ≤ 3 ∧ bit (leNat (byteSlice s.opData 0 4)) (21 + m.val) = true) (root.set (KEY_OP_DATA.DATA 0) 0x3FFFE00 |>.set (KEY_OP_DATA.DATA 1) 1) (2) (5) (9)) ∧
    ((fun (s : State) (_ : Fin 5) (_ k : Nat) => s.targetOk (k % 32) = false) (root) (2) (5) (3)) ∧
    ((fun (s : State) (m : Fin 5) (_ src k : Nat) => s.targetOk (k % 32) = true ∧ s.takesKeys = true ∧ s.keyTypeOk = true ∧ s.useOk m (src % 32) 4 = true ∧ (src % 32) ≠ (k % 32)) (keyed (root.set (KEY_OP_DATA.DATA 1) 1) 8 2) (2) (5) (8) (9)) ∧
    ((fun (s : State) (m : Fin 5) (_ src k : Nat) => s.targetOk (k % 32) = true ∧ s.keyTypeOk = true ∧ s.useOk m (src % 32) 4 = false) (root.set (KEY_OP_DATA.DATA 1) 1) (2) (5) (8) (9)) ∧
    ((fun (s : State) (m : Fin 5) (_ src k : Nat) => s.targetOk (k % 32) = true ∧ s.takesKeys = true ∧ s.useOk m (src % 32) 4 = true ∧ s.get (SLOT0.TYPE (src % 32)) = 3 ∧ (src % 32) ≠ (k % 32)) (keyed root 8 3) (2) (5) (8) (9)) ∧
    ((fun (s : State) (m : Fin 5) (_ src k : Nat) => s.targetOk (k % 32) = true ∧ s.takesKeys = true ∧ s.keyTypeOk = true ∧ s.useOk m (src % 32) 1 = true ∧ s.get (SLOT0.TYPE (src % 32)) = 1 ∧ (src % 32) ≠ (k % 32)) (keyed (root.set (KEY_OP_DATA.DATA 1) 1) 8 1) (2) (5) (8) (9)) ∧
    ((fun (s : State) (m : Fin 5) (_ k : Nat) => 9 ≤ (k % 32) ∧ (m.val = 0 ∨ bit (s.get (SLOT0.MASTERS (k % 32))) m = true)) (keyed root 9 1) (2) (5) (9)) ∧
    ((fun (s : State) (m : Fin 5) (_ src : Nat) => s.flag (SLOT0.VALID (src % 32)) = true ∧ bit (s.get (SLOT0.MASTERS (src % 32))) m = true ∧ bit (s.get (SLOT0.LCS (src % 32))) s.lc = true ∧ s.get (SLOT0.TYPE (src % 32)) = 3) (keyed root 8 3) (2) (5) (8)) ∧
    ((fun (s : State) (tag st : Nat) (l : List (Nat × Nat)) => s.sec.keyDone = (tag, st) :: l) ({ root with sec := { root.sec with keyDone := [(5, 14)] } }) (5) (14) ([])) ∧
    ((fun (s : State) (k _ : Nat) => 9 ≤ (k % 32) ∧ s.flag (SLOT0.VALID (k % 32)) = false) (root) (9) (0x3FFFE00)) ∧
    ((fun (_s : State) (m : Fin 5) (_ _ : Nat) => m ≠ 0) (root) (2) (9) (0x3FFFE00)) :=
  by and_intros <;> decide +kernel

/-- States and operands that meet the hypotheses of Obligations.HostCrypto. -/
theorem witness_HostCrypto :
    ((fun (s : State) (_ : Nat) => s.flag CRY_STAT.BUSY = false) (root) (5)) ∧
    ((fun (s : State) (_ : Nat) (k : Fin 32) => s.flag CRY_STAT.BUSY = false ∧ s.useOk 2 k 2 = true) (keyed root 9 1) (5) (9)) ∧
    ((fun (s : State) (_ : Nat) (k : Fin 32) => s.flag CRY_STAT.BUSY = false ∧ s.useOk 2 k 0 = true) (keyed root 9 1) (5) (9)) ∧
    ((fun (s : State) (_ : Nat) (k : Fin 32) => s.flag CRY_STAT.BUSY = false ∧ s.useOk 2 k 1 = true) (keyed root 9 1) (5) (9)) ∧
    ((fun (s : State) (_ : Nat) (k : Fin 32) => s.flag CRY_STAT.BUSY = false ∧ s.useOk 2 k 2 = true) (keyed root 9 1) (5) (9)) ∧
    ((fun (s : State) (_ : Nat) => s.flag CRY_STAT.BUSY = false) (root) (5)) ∧
    ((fun (s : State) (_ : Nat) => s.flag CRY_STAT.BUSY = false) (root) (5)) ∧
    ((fun (s : State) (_ : Nat) => s.flag CRY_STAT.BUSY = false) (root) (5)) ∧
    ((fun (s : State) (_ : Nat) (k : Fin 32) => s.flag CRY_STAT.BUSY = false ∧ s.useOk 2 k 2 = false) (root) (5) (9)) ∧
    ((fun (s : State) (c : CryRes) => s.sec.cryDone = some c ∧ c.status = 0 ∧ c.out ≠ []) ({ root with sec := { root.sec with cryDone := some ⟨5, 0, [], [7]⟩ } }) (⟨5, 0, [], [7]⟩)) ∧
    ((fun (s : State) (c : CryRes) => s.sec.cryDone = some c ∧ c.status = 13 ∧ c.out = []) ({ root with sec := { root.sec with cryDone := some ⟨5, 13, [], []⟩ } }) (⟨5, 13, [], []⟩)) :=
  by and_intros <;> decide +kernel

/-- States and operands that meet the hypotheses of Obligations.DebugAndLifeCycle. -/
theorem witness_DebugAndLifeCycle :
    ((fun (s : State) (_ : Nat) => s.sec.nonce = true ∧ byteAt (s.windowBytes KEY_DBG_ANSWER.DATA 64) 194 = 0 ∧ s.programmed 0xA0 48 = true ∧ s.programmed 0x130 48 = false ∧ s.pathOk false (byteAt (s.windowBytes KEY_DBG_ANSWER.DATA 64) 193) = true) ({ ((fuse (fuse root 0 4) 0xA0 48).set (KEY_DBG_ANSWER.DATA 48) 0x100 |>.set KEY_STAT.DBG_LEVEL 0) with sec := { root.sec with nonce := true } }) (5)) ∧
    ((fun (s : State) (_ : Nat) => s.sec.nonce = false) (root) (5)) ∧
    ((fun (s : State) (_ : Nat) => s.lc = 2 ∧ bit s.protect 2 = true ∧ s.passwordSet = true ∧ s.flag KEY_STAT.PWD_LOCKED = false ∧ s.sec.pwdUntil ≤ s.uptime ∧ s.get KEY_STAT.PWD_FAILS < 7) ((fuse (fuse root 0 8) 0x160 48).set KEY_STAT.DBG_LEVEL 0) (5)) ∧
    ((fun (s : State) (_ : Nat) => s.uptime < s.sec.pwdUntil) ({ root with sec := { root.sec with pwdUntil := 9 } }) (5)) ∧
    ((fun (s : State)  => s.sec.nonce = true) ({ root with sec := { root.sec with nonce := true } })) ∧
    ((fun (s : State) (c : MbxCmd) => s.ctl.mbxQueue = [c] ∧ c.cmd = 0x0300 ∧ s.awlServes = true ∧ c.result = none ∧ c.begun = false) (rung (root) (mb 0x0300 [])) (mb 0x0300 [])) ∧
    ((fun (s : State) (c : MbxCmd) => s.ctl.mbxQueue = [c] ∧ c.cmd = 0x0301 ∧ s.awlServes = true ∧ c.result = none ∧ c.begun = false ∧ s.flag (SLOT0.VALID 2) = true) (rung (keyed root 2 3) (mb 0x0301 [])) (mb 0x0301 [])) ∧
    ((fun (s : State) (c : MbxCmd) (veto : Bool) => s.ctl.mbxQueue = [c] ∧ c.cmd = 0x0310 ∧ s.awlServes = true ∧ c.result = none ∧ c.begun = false ∧ byteAt c.req 0 = 1 ∧ s.nv.fuse = [] ∧ s.vetoes veto = false) (rung (root) (mb 0x0310 [1])) (mb 0x0310 [1]) (false)) ∧
    ((fun (s : State) (c : MbxCmd) (veto _ : Bool) => s.ctl.mbxQueue = [c] ∧ c.cmd = 0x0310 ∧ s.awlServes = true ∧ c.result = none ∧ c.begun = false ∧ s.orderOk (byteAt c.req 0) = false ∧ byteAt c.req 0 ≠ 3 ∧ s.vetoes veto = false) (rung (root) (mb 0x0310 [2])) (mb 0x0310 [2]) (false) (false)) ∧
    ((fun (s : State) (c : MbxCmd) (veto : Bool) => s.ctl.mbxQueue = [c] ∧ c.cmd = 0x0311 ∧ s.awlServes = true ∧ c.result = none ∧ c.begun = false ∧ s.keyPathOpen = true ∧ s.lc = 1 ∧ byteSlice c.req 0 4 = ascii "VOID" ∧ s.vetoes veto = false) (rung ({ ((fuse root 0 4).set KEY_STAT.DBG_LEVEL 1) with sec := { root.sec with keyPath := true } }) (mb 0x0311 [0x56, 0x4F, 0x49, 0x44])) (mb 0x0311 [0x56, 0x4F, 0x49, 0x44]) (false)) ∧
    ((fun (s : State) (c : MbxCmd) (veto : Bool) => s.ctl.mbxQueue = [c] ∧ c.cmd = 0x0312 ∧ s.awlServes = true ∧ c.result = none ∧ c.begun = false ∧ s.keyPathOpen = true ∧ byteAt c.req 0 = 0 ∧ byteAt c.req 1 = 1 ∧ s.programmed 0x40 48 = true ∧ s.revoked 0 = false ∧ s.sec.runBase ≠ [] ∧ hSigner s.sec.runBase = 0 ∧ s.vetoes veto = false) (rung ({ ((fuse (fuse root 0 4) 0x40 48).set KEY_STAT.DBG_LEVEL 1) with sec := { root.sec with keyPath := true, runBase := [0] } }) (mb 0x0312 [0, 1])) (mb 0x0312 [0, 1]) (false)) :=
  by and_intros <;> decide +kernel

/-- States and operands that meet the hypotheses of Obligations.ImagesArrive. -/
theorem witness_ImagesArrive :
    (((fun (s : State) (n : Port) (p : CtlPkt) (x : Sess) => p.poison = false ∧ s.ctl.pdReads = [] ∧ s.waitFor (asImage p 0) = 0 ∧ s.fw.sess = some x ∧ x.header = (((byteSlice p.data 0 6176).drop 32).take 4096) ∧ x.targets = ((byteSlice p.data 0 6176).take 32) ∧ byteAt p.opdata 0 = s.get UPD_STAT.SESSION ∧ s.flag (WLT_LINK_STAT.ADMITTED n) = true) (inSess spoke (same (img [0, 0] []))) (0) (img [0, 0] []) (same (img [0, 0] [])))) ∧
    (((fun (s : State) (n : Port) (p : CtlPkt) (x : Sess) => p.poison = false ∧ s.ctl.pdReads = [] ∧ s.waitFor (asImage p 0) = 0 ∧ s.fw.sess = some x ∧ x.header ≠ (((byteSlice p.data 0 6176).drop 32).take 4096) ∧ s.flag (WLT_LINK_STAT.ADMITTED n) = true) (inSess spoke sess0) (0) (img [0, 0] []) (sess0)) ∧
    ((fun (s : State) (n : Port) (p : CtlPkt) => p.poison = false ∧ s.ctl.pdReads = [] ∧ s.waitFor (asImage p 0) = 0 ∧ s.fw.sess = none ∧ s.flag (WLT_LINK_STAT.ADMITTED n) = true) (spoke) (0) (img [3, 0] [])) ∧
    ((fun (s : State) (n : Port) (p : CtlPkt) (x : Sess) => p.poison = false ∧ s.ctl.pdReads = [] ∧ s.waitFor (asImage p 1) = 0 ∧ s.fw.sess = some x ∧ s.facesUp n = true ∧ byteAt p.opdata 0 = s.get UPD_STAT.SESSION ∧ (segChunk p) < hCount x.header ∧ x.taken ≤ (segChunk p) ∧ p.bytes ≤ 8192 ∧ x.parts.find? (8 * (segChunk p) + segPart p) = none ∧ segLast p = false ∧ x.waits = [] ∧ x.src = [] ∧ x.kids = [] ∧ x.over = false ∧ s.flag (WLT_LINK_STAT.ADMITTED n) = true) (inSess spoke sess0) (0) (img [0, 1, 0, 0, 0, 0] [1, 2, 3, 4]) (sess0)) ∧
    ((fun (s : State) (n : Port) (p : CtlPkt) => p.poison = false ∧ s.ctl.pdReads = [] ∧ s.waitFor (asImage p 1) = 0 ∧ s.fw.sess = none ∧ s.facesUp n = true ∧ byteSlice (byteSlice p.data 0 p.bytes) 0 4 ≠ ascii "PUFH" ∧ s.flag (WLT_LINK_STAT.ADMITTED n) = true) (spoke) (0) (img [0, 1, 0, 0, 0, 0] [1, 2, 3, 4])) ∧
    ((fun (s : State) (n : Port) (p : CtlPkt) (x : Sess) => p.poison = false ∧ s.ctl.pdReads = [] ∧ s.waitFor (asImage p 2) = 0 ∧ s.fw.sess = some x ∧ x.kids = [] ∧ byteAt p.opdata 0 = s.get UPD_STAT.SESSION ∧ s.flag (WLT_LINK_STAT.ADMITTED n) = true) (inSess spoke sess0) (0) (img [0, 2] []) (sess0)) ∧
    ((fun (s : State) (n : Port) (p : CtlPkt) (r : List Byte) => p.poison = false ∧ s.ctl.pdReads = [] ∧ s.waitFor (asImage p 3) = 0 ∧ byteAt p.opdata 0 = 3 ∧ segChunk p = 0 ∧ byteAt p.opdata 4 = 0 ∧ byteAt p.opdata 5 = 0 ∧ p.opdata.length = 6 ∧ s.nv.flash.foreign.find? (fun r => byteSlice r 8 8 == byteSlice p.data 0 8) = some r ∧ s.flag (WLT_LINK_STAT.ADMITTED n) = true) ({ spoke with nv := { root.nv with flash := { root.nv.flash with foreign := [List.replicate 16 7] } } }) (0) (img [3, 3, 0, 0, 0, 0] (List.replicate 8 7)) (List.replicate 16 7)) ∧
    ((fun (s : State) (n : Port) (p : CtlPkt) => p.poison = false ∧ s.ctl.pdReads = [] ∧ s.waitFor (asImage p 3) = 0 ∧ byteAt p.opdata 0 < 3 ∧ (s.ownImage (byteAt p.opdata 0)).header = [] ∧ byteAt p.opdata 5 = 0 ∧ p.opdata.length = 6 ∧ s.flag (WLT_LINK_STAT.ADMITTED n) = true) (spoke) (0) (img [0, 3, 0, 0, 0, 0] [])) ∧
    ((fun (s : State)  => s.fw.sess.isSome = true ∧ s.isRoot = false) (inSess spoke sess0)) ∧
    ((fun (s : State) (x : Sess) (d : List Byte) => s.fw.sess = some x ∧ x.target = true ∧ x.buffer.find? x.written = some d ∧ x.kids = [] ∧ x.waits = [] ∧ x.src = [] ∧ hKind x.header < 3 ∧ s.bootedBank < 2 ∧ x.staged = false) (inSess spoke { sess0 with buffer := [(0, [1, 2])], taken := 1 }) ({ sess0 with buffer := [(0, [1, 2])], taken := 1 }) ([1, 2])) ∧
    ((fun (s : State) (x : Sess) (d : List Byte) => s.fw.sess = some x ∧ x.target = true ∧ x.buffer.find? x.written = some d ∧ x.kids = []) (inSess spoke { sess0 with buffer := [(0, [1, 2])], taken := 1 }) ({ sess0 with buffer := [(0, [1, 2])], taken := 1 }) ([1, 2])) ∧
    ((fun (s : State) (x : Sess) => s.fw.sess = some x ∧ x.target = true ∧ x.staged = false ∧ x.written = hCount x.header ∧ x.taken = hCount x.header ∧ x.kids = [] ∧ hKind x.header < 3 ∧ s.bootedBank < 2) (inSess spoke { sess0 with taken := 2, written := 2 }) ({ sess0 with taken := 2, written := 2 }))) :=
  ⟨⟨by decide +kernel, by decide +kernel, by decide +kernel, rfl, (same_ok _).1, (same_ok _).2, by decide +kernel, by decide +kernel⟩, by and_intros <;> decide +kernel⟩

/-- States and operands that meet the hypotheses of Obligations.ActivationAndCommit. -/
theorem witness_ActivationAndCommit :
    ((fun (s : State) (c : MbxCmd) => s.ctl.mbxQueue = [c] ∧ c.cmd = 0x0100 ∧ s.awlServes = true ∧ c.result = none ∧ c.begun = false) (rung (root) (mb 0x0100 [])) (mb 0x0100 [])) ∧
    ((fun (s : State) (c : MbxCmd) (x : Sess) (_ : List Byte) => s.ctl.mbxQueue = [c] ∧ c.cmd = 0x0101 ∧ s.awlServes = true ∧ c.result = none ∧ c.begun = false ∧ s.isRoot = true ∧ s.fw.sess = some x) (rung (inSess root sess0) (mb 0x0101 [])) (mb 0x0101 []) (sess0) ([])) ∧
    ((fun (s : State) (c : MbxCmd) (dma : List Byte) => s.ctl.mbxQueue = [c] ∧ c.cmd = 0x0101 ∧ s.awlServes = true ∧ c.result = none ∧ c.begun = false ∧ s.isRoot = true ∧ s.fw.sess = none ∧ (formatCheck (byteSlice (dma.take (leNat (byteSlice c.req 12 4))) 0 4096) ≠ 0 ∨ (6144 + hBodyLen (byteSlice (dma.take (leNat (byteSlice c.req 12 4))) 0 4096) ≤ leNat (byteSlice c.req 12 4) ∧ leNat (byteSlice c.req 12 4) ≤ dma.length))) (rung (root) (mb 0x0101 [])) (mb 0x0101 []) ([])) ∧
    ((fun (s : State) (c : MbxCmd) (veto : Bool) => s.ctl.mbxQueue = [c] ∧ c.cmd = 0x0102 ∧ s.awlServes = true ∧ c.result = none ∧ c.begun = false ∧ s.isRoot = false ∧ s.flag (bankValid s.otherBank) = true ∧ s.rollbackOk s.otherBank = true ∧ s.vetoes veto = false) (rung (spoke.set BOOT_STAT.B_VALID 1) (mb 0x0102 [1, 0, 0, 0, 9, 0, 0, 0])) (mb 0x0102 [1, 0, 0, 0, 9, 0, 0, 0]) (false)) ∧
    ((fun (s : State) (c : MbxCmd) (veto : Bool) => s.ctl.mbxQueue = [c] ∧ c.cmd = 0x0102 ∧ s.awlServes = true ∧ c.result = none ∧ c.begun = false ∧ s.isRoot = false ∧ s.flag (bankValid s.otherBank) = false ∧ s.vetoes veto = false) (rung (spoke) (mb 0x0102 [1, 0, 0, 0, 9, 0, 0, 0])) (mb 0x0102 [1, 0, 0, 0, 9, 0, 0, 0]) (false)) ∧
    ((fun (s : State) (c : MbxCmd) => s.ctl.mbxQueue = [c] ∧ c.cmd = 0x0103 ∧ s.awlServes = true ∧ c.result = none ∧ c.begun = false ∧ s.isRoot = false ∧ s.flag (bankValid s.otherBank) = true ∧ s.rollbackOk s.otherBank = true) (rung (spoke.set BOOT_STAT.B_VALID 1) (mb 0x0103 [0, 0, 0, 0, 9, 0, 0, 0])) (mb 0x0103 [0, 0, 0, 0, 9, 0, 0, 0])) ∧
    ((fun (s : State) (c : MbxCmd) (veto : Bool) => s.ctl.mbxQueue = [c] ∧ c.cmd = 0x0104 ∧ s.awlServes = true ∧ c.result = none ∧ c.begun = false ∧ s.vetoes veto = false ∧ s.flag BOOT_STAT.FLASHLESS = false ∧ s.nv.fuse = [] ∧ (s.slotOf s.bootedBank 1).header = []) (rung (root.putSlot 0 0 ⟨List.replicate 12 0 ++ [3, 0, 0, 0], [], []⟩) (mb 0x0104 [])) (mb 0x0104 []) (false)) ∧
    ((fun (s : State) (c : MbxCmd) (x : Sess) => s.ctl.mbxQueue = [c] ∧ c.cmd = 0x0105 ∧ s.awlServes = true ∧ c.result = none ∧ c.begun = false ∧ s.fw.sess = some x ∧ x.kids = []) (rung (inSess root sess0) (mb 0x0105 [])) (mb 0x0105 []) (sess0)) ∧
    ((fun (s : State) (c : MbxCmd) => s.ctl.mbxQueue = [c] ∧ c.cmd = 0x0105 ∧ s.awlServes = true ∧ c.result = none ∧ c.begun = false ∧ s.fw.sess = none ∧ s.actCancels = true) (rung (root.set UPD_ACT.PENDING 1 |>.set UPD_ACT.AT 1 |>.set UPD_ACT_EPOCH.EPOCH 9) (mb 0x0105 [])) (mb 0x0105 [])) ∧
    ((fun (s : State)  => s.flag UPD_ACT.PENDING = true ∧ s.flag UPD_ACT.AT = false ∧ s.ctl.mbxQueue = [] ∧ s.bootedBank < 2 ∧ (s.slotOf s.otherBank 2).header = [] ∧ s.isRoot = true ∧ s.baseGood s.bootedBank = false) (root.set UPD_ACT.PENDING 1)) :=
  by and_intros <;> decide +kernel

/-- States and operands that meet the hypotheses of Obligations.SnapshotsAndCounters. -/
theorem witness_SnapshotsAndCounters :
    ((fun (s : State)  => s.collects = true ∧ s.cnt.record = none ∧ s.cnt.selPend = [] ∧ s.flag CNT_CTRL.DUMP = false ∧ s.periodDue = true ∧ s.lastSnap = none ∧ s.cnt.go = none ∧ s.cnt.armed = none) (root.set CNT_CTRL.PERIODIC 1)) ∧
    ((fun (s : State) (g : Nat) => s.collects = true ∧ s.cnt.record = none ∧ s.cnt.selPend = [] ∧ s.flag CNT_CTRL.DUMP = false ∧ s.cnt.armed = some (s.now, g) ∧ s.frozen = false ∧ s.lastSnap = none) ({ root with cnt := { root.cnt with armed := some (0, 7) } }) (7)) ∧
    ((fun (s : State) (g : Nat) => s.collects = true ∧ s.cnt.record = none ∧ s.cnt.selPend = [] ∧ s.flag CNT_CTRL.DUMP = true ∧ s.cnt.go = none ∧ s.cnt.armed = some (s.now, g) ∧ s.frozen = false ∧ s.lastSnap = none ∧ s.flag CNT_CTRL.PERIODIC = false) ({ root.set CNT_CTRL.DUMP 1 with cnt := { root.cnt with armed := some (0, 7) } }) (7)) ∧
    ((fun (s : State) (c g : Nat) => s.collects = true ∧ s.cnt.record = none ∧ s.cnt.selPend = [] ∧ s.flag CNT_CTRL.DUMP = false ∧ s.cnt.deferred = some (c, g) ∧ s.tooSoon = false) ({ root with cnt := { root.cnt with deferred := some (2, 7) } }) (2) (7)) ∧
    ((fun (s : State) (_ : Nat) => s.collects = true ∧ s.cnt.record = none ∧ s.cnt.selPend = [] ∧ s.flag CNT_CTRL.DUMP = false ∧ s.cnt.gap = false ∧ s.lastSnap = none ∧ s.cnt.armed = none ∧ s.cnt.sel = [] ∧ s.cnt.clearing = false ∧ s.frozen = true) (root.set CTM_STAT.FREEZE 1) (7)) ∧
    ((fun (s : State)  => s.collects = true ∧ s.cnt.gap = false ∧ s.cnt.go = none ∧ s.frozen = true) (root.set CTM_STAT.FREEZE 1)) ∧
    ((fun (s : State) (r : List Byte) => s.cnt.record = some r ∧ s.cnt.ringRestart = false ∧ s.hostRing = true ∧ (s.get CNT_RING_HEAD.HEAD + 1) % s.ringSize ≠ s.get CNT_RING_TAIL.TAIL) ({ root.set CNT_CTRL.DEST 1 |>.set CNT_RING_SIZE.RECORDS 4 with cnt := { root.cnt with record := some [1] } }) ([1])) ∧
    ((fun (s : State) (_ : Bool) (r : List Byte) => s.cnt.record = some r ∧ s.cnt.ringRestart = false ∧ (s.get CNT_RING_HEAD.HEAD + 1) % s.ringSize = s.get CNT_RING_TAIL.TAIL) ({ root.set CNT_RING_TAIL.TAIL 1 with cnt := { root.cnt with record := some [1] } }) (false) ([1])) :=
  by and_intros <;> decide +kernel


-- Checks of WellFormed: a command that passes, and one ill-formed term for each check -----------------------------------

theorem wf_ok :
    Instr.wf (.controlRead 1 (reqPkt 0 5 0 0x40 4 [])) = false ∧
    Instr.wf (.controlRead 1 { reqPkt 0 5 0 0x40 4 [] with opdata := List.replicate 6 0 }) = true ∧
    Instr.wf (.regWrite .host 0x40 15 9) = true ∧ Instr.wf (.chipWake ⟨9, 0, 0, 0, 0, 0x3FF⟩) = true := by
  decide +kernel

theorem wf_refuses_packets :
    CtlPkt.wf { reqPkt 0 5 0 (2 ^ 26) 4 [] with opdata := List.replicate 6 0 } = false ∧
    CtlPkt.wf { reqPkt 0 256 0 0 4 [] with opdata := List.replicate 6 0 } = false ∧
    CtlPkt.wf { reqPkt 0 5 0 0 4 [] with opdata := List.replicate 6 0, viaPort := 4 } = false ∧
    Hdr.wf { (pkt 2 1).hdr with len := 321 } = false ∧ Hdr.wf { (pkt 2 1).hdr with flow := 0x7FF } = false ∧
    Pkt.wf { pkt 2 1 with data := [1] } = false ∧ Stamp.wf ⟨0, 256⟩ = false ∧
    StepNote.wf ⟨0, 0, 2 ^ 63, false⟩ = false ∧ StepNote.wf ⟨65536, 0, 0, false⟩ = false ∧
    Cap.wf ⟨2, 2, 0, true, false, false, false, 4, true, 15, 255, 255, 0, List.replicate 16 0, [0, 0, 0, 0], 0⟩ = false ∧
    Cap.wf ⟨2, 2, 0, true, false, false, false, 3, true, 15, 255, 255, 0, List.replicate 16 0, [0, 0, 0], 0⟩ = false ∧
    Cap.wf ⟨2, 2, 0, true, false, false, false, 3, true, 15, 255, 255, 0, List.replicate 16 0, [0, 0, 0, 65536], 0⟩ = false ∧
    Frame1x.wf ⟨2 ^ 32, [], 0, false⟩ = false := by decide +kernel

theorem wf_refuses_operands :
    Instr.wf (.regWrite .host (2 ^ 26) 15 9) = false ∧ Instr.wf (.regWrite .host 0 16 9) = false ∧
    Instr.wf (.regWrite .host 0 15 (2 ^ 32)) = false ∧ Instr.wf (.regWrite (.hub 256 1) 0 15 9) = false ∧
    Instr.wf (.regWrite (.hub 5 8) 0 15 9) = false ∧
    Instr.wf (.vstbyPowerUp ⟨true, 4, true, true⟩ true) = false ∧
    Instr.wf (.chipWake ⟨10, 0, 0, 0, 0, 0⟩) = false ∧ Instr.wf (.chipWake ⟨9, 4, 0, 0, 0, 0⟩) = false ∧
    Instr.wf (.echo (.ring 256)) = false ∧ Instr.wf (.alignBlockRx 0 0 [] 0) = false ∧
    Instr.wf (.headerSlotRx 0 [] false) = false ∧ Instr.wf (.nakRx 0 0 4 0) = false ∧
    Instr.wf (.downstreamTlp (.portConfig 16 none ⟨0, 0, 0, 0, 0, 0, none⟩)) = false ∧
    Instr.wf (.downstreamTlp (.msixEntry 64 0 0 false)) = false ∧
    Instr.wf (.downstreamTlp (.route ⟨true, false, none, none, none, false, false, false, [], none, false, [], false⟩)) = false := by
  decide +kernel

-- Single values and steps: the spec's own examples, and the published check values of its CRCs ---------------------------

/-- The check values of the three CRCs over the digits 1 to 9, as published for these polynomials. -/
theorem test_crc : crc16 (ascii "123456789") = 0x29B1 ∧ crc32 (ascii "123456789") = 0xCBF43926 ∧
    crc32c (ascii "123456789") = 0xE3069283 := by decide +kernel

/-- R4: page 0x12 at offset 0x040 lies at window offset 0x001_2040. -/
theorem test_window_offset : (pageWord 0x12 0x040).map Fld.addr = List.replicate (pageWord 0x12 0x040).length 0x12040 ∧
    pageWord 0x12 0x040 ≠ [] := by decide +kernel

/-- Spec/07: 516 bytes, a sealed 512-byte completion, need 17 data slots, and the seal is good. -/
theorem test_seal_slots :
    (Pkt.addSeal ⟨(pkt 2 1).hdr, List.replicate 512 7⟩).hdr.len = 17 ∧
    (Pkt.addSeal ⟨(pkt 2 1).hdr, List.replicate 60 7⟩).sealGood = true := by decide +kernel

/-- Spec/10: a surface of 3840 × 2160 at 8 bits fills 2,025 pages; both surfaces fit a bank. -/
theorem test_surface_pages : Surf.pages ⟨2048, false, 3840, 3840, 2160⟩ = 2025 ∧
    Surf.valid ⟨2048, false, 3840, 3840, 2160⟩ 8 = true := by decide +kernel

/-- Head 0 at 594 MHz and 10 bits per component on four lanes of a rate. -/
def video (rate : Nat) : State :=
  hd (root.set (DSP_DP_CTRL.RATE 0) rate |>.set (DSP_DP_CTRL.LANES 0) 2 |>.set (DSP_DP_STAT.TRAINING 0) 1) 0 fun d =>
    { d with raster := { d.raster with htotal := 4400, vtotal := 2250, period := 6666667 }, training := (rate, 4) }

/-- Spec/10: 594 MHz at 10 bits fits four lanes of HBR3 but not of HBR2. -/
theorem test_link_bandwidth :
    (match execDpTrainDone 0 true (video 3) with | .next t => t.get (DSP_DP_STAT.BW_ERR 0) | _ => 2) = 0 ∧
    (match execDpTrainDone 0 true (video 2) with | .next t => t.get (DSP_DP_STAT.BW_ERR 0) | _ => 2) = 1 := by decide +kernel

/-- A spoke at tick 7 that holds a step of d ticks to be applied at 7. -/
def stepping (d : Int) : State :=
  { spoke with time := { spoke.time with ticks := 7, pend := some ⟨1, 7, 256 * d, false⟩ } }

/-- Spec/02's worked step: D = +108,000 ticks skips them at the apply tick; with −108,000 chain time holds there. -/
theorem test_worked_step :
    (match execChainTimeStepApply (stepping 108000) with | .next t => (t.now, t.get CTM_STAT.FREEZE) | _ => (0, 9)) = (108007, 0) ∧
    (match execChainTimeStepApply (stepping (-108000)) with
      | .next t => (t.now, t.get CTM_STAT.FREEZE, t.time.freeze) | _ => (0, 9, 0)) = (7, 1, 256 * 108000) := by decide +kernel

/-- R489: IDCODE of revision 1, and five edges with DBG_TMS high reset the controller from every state. -/
theorem test_tap : tapIdcode 1 = 0x19640963 ∧
    ∀ c : TapState, ((((c.next true).next true).next true).next true).next true = .testLogicReset :=
  ⟨by decide, fun c => by cases c <;> rfl⟩

end Sys2Proof.Machine.Tests
end

/-!
PROOFS. One predicate of two states, `Keeps s t`, carries what no command of this block undoes: the canonical form of the
two tables, the pending queue, and every blown fuse. Each operation of the model gets one rule, "what keeps s still keeps s
after the operation", by the operation's own branches; each command gets the rule "it answers, and keeps s". The obligations
on every command are read off the rule of exec.
-/
section
namespace Sys2Proof

variable {α : Type} {t u : Tbl α} {a b c n : Nat}

/-- A sorted table whose keys lie from a up to b. -/
structure Tbl.Within (t : Tbl α) (a b : Nat) : Prop where
  sorted : Tbl.sorted t = true
  bounds : ∀ p ∈ t, a ≤ p.1 ∧ p.1 < b

theorem Tbl.sorted_append (ht : Tbl.sorted t = true) (hu : Tbl.sorted u = true)
    (h : ∀ p ∈ t, ∀ q ∈ u, p.1 < q.1) : Tbl.sorted (t ++ u) = true := by
  induction t with
  | nil => exact hu
  | cons p t ih =>
    obtain ⟨hp, hs⟩ := Tbl.sorted_cons.1 ht
    refine Tbl.sorted_cons.2 ⟨fun q hq => ?_, ih hs fun x hx => h x (List.mem_cons_of_mem _ hx)⟩
    rcases List.mem_append.1 hq with hq | hq
    · exact hp q hq
    · exact h p List.mem_cons_self q hq

theorem Tbl.sorted_map {k : Nat → Nat} (ht : Tbl.sorted t = true)
    (hk : ∀ p ∈ t, ∀ q ∈ t, p.1 < q.1 → k p.1 < k q.1) : Tbl.sorted (t.map fun r => (k r.1, r.2)) = true := by
  induction t with
  | nil => rfl
  | cons p t ih =>
    obtain ⟨hp, hs⟩ := Tbl.sorted_cons.1 ht
    refine Tbl.sorted_cons.2 ⟨fun q hq => ?_, ih hs fun x hx y hy =>
      hk x (List.mem_cons_of_mem _ hx) y (List.mem_cons_of_mem _ hy)⟩
    obtain ⟨x, hx, rfl⟩ := List.mem_map.1 hq
    exact hk p List.mem_cons_self x (List.mem_cons_of_mem _ hx) (hp x hx)

theorem Tbl.within_filter {f : Nat × α → Bool} (ht : Tbl.sorted t = true)
    (hf : ∀ p, f p = true → a ≤ p.1 ∧ p.1 < b) : Tbl.Within (t.filter f) a b :=
  ⟨Tbl.sorted_filter f ht, fun p hp => hf p (List.mem_filter.1 hp).2⟩

theorem Tbl.Within.append (ht : Tbl.Within t a b) (hu : Tbl.Within u b c) (hab : a ≤ b) (hbc : b ≤ c) :
    Tbl.Within (t ++ u) a c where
  sorted := Tbl.sorted_append ht.sorted hu.sorted fun p hp q hq =>
    Nat.lt_of_lt_of_le (ht.bounds p hp).2 (hu.bounds q hq).1
  bounds p hp := by
    rcases List.mem_append.1 hp with hp | hp
    · have := ht.bounds p hp; omega
    · have := hu.bounds p hp; omega

theorem Tbl.Within.add (h : Tbl.Within t a b) : Tbl.Within (t.map fun r => (r.1 + n, r.2)) (a + n) (b + n) where
  sorted := Tbl.sorted_map (k := (· + n)) h.sorted fun _ _ _ _ hlt => Nat.add_lt_add_right hlt n
  bounds p hp := by
    obtain ⟨x, hx, rfl⟩ := List.mem_map.1 hp
    have := h.bounds x hx
    simp only; omega

theorem Tbl.Within.sub (h : Tbl.Within t (a + n) (b + n)) : Tbl.Within (t.map fun r => (r.1 - n, r.2)) a b where
  sorted := Tbl.sorted_map (k := (· - n)) h.sorted fun p hp q _ hlt => by
    have := h.bounds p hp
    omega
  bounds p hp := by
    obtain ⟨x, hx, rfl⟩ := List.mem_map.1 hp
    have := h.bounds x hx
    simp only; omega

/-- What lies below b, followed by the table's entries from b on. -/
theorem Tbl.Within.sorted_above {f : Nat × α → Bool} (h : Tbl.Within u a b) (ht : Tbl.sorted t = true)
    (hf : ∀ p, f p = true → b ≤ p.1) : Tbl.sorted (u ++ t.filter f) = true :=
  Tbl.sorted_append h.sorted (Tbl.sorted_filter f ht) fun p hp q hq =>
    Nat.lt_of_lt_of_le (h.bounds p hp).2 (hf q (List.mem_filter.1 hq).2)

end Sys2Proof
end

section
namespace Sys2Proof.Machine

/-- From s to t the canonical form is kept, the queue stands, and no blown fuse is unblown. -/
structure Keeps (s t : State) : Prop where
  canonical : Canonical s → Canonical t
  pending : t.pending = s.pending
  fuses : ∀ o i, bit (s.fuseByte o) i = true → bit (t.fuseByte o) i = true

variable {s t u : State}

/-! ### How a state is built: a choice, a fold, a record update, a write -/

theorem Keeps.refl : Keeps s s := ⟨id, rfl, fun _ _ => id⟩

theorem Keeps.ite {a b : State} {c : Prop} [Decidable c] (ha : Keeps s a) (hb : Keeps s b) :
    Keeps s (if c then a else b) := by
  split
  · exact ha
  · exact hb

theorem Keeps.ite_fst {α : Type} {a b : State × α} {c : Prop} [Decidable c] (ha : Keeps s a.1) (hb : Keeps s b.1) :
    Keeps s (if c then a else b).1 := by
  split
  · exact ha
  · exact hb

theorem Keeps.dite {c : Prop} [Decidable c] {a : c → State} {b : ¬c → State} (ha : ∀ k, Keeps s (a k))
    (hb : ∀ k, Keeps s (b k)) : Keeps s (if h : c then a h else b h) := by
  split
  · exact ha _
  · exact hb _

theorem Keeps.dite_fst {α : Type} {c : Prop} [Decidable c] {a : c → State × α} {b : ¬c → State × α}
    (ha : ∀ k, Keeps s (a k).1) (hb : ∀ k, Keeps s (b k).1) : Keeps s (if h : c then a h else b h).1 := by
  split
  · exact ha _
  · exact hb _

theorem Keeps.foldl {β : Type} {f : State → β → State} {l : List β} (hf : ∀ {u b}, Keeps s u → Keeps s (f u b))
    (h : Keeps s t) : Keeps s (l.foldl f t) := by
  induction l generalizing t with
  | nil => exact h
  | cons b l ih => exact ih (hf h)

theorem Keeps.foldl_fst {α β : Type} {f : State × α → β → State × α} {l : List β} {x : State × α}
    (hf : ∀ {u b}, Keeps s u.1 → Keeps s (f u b).1) (h : Keeps s x.1) : Keeps s (l.foldl f x).1 := by
  induction l generalizing x with
  | nil => exact h
  | cons b l ih => exact ih (hf h)

/-- A record update that leaves both tables, the queue and what VSTBY keeps as they are. -/
theorem Keeps.upd (h : Keeps s t)
    {a1 a2 a3 a4 a5 a6 a7 a8 a9 a10 a11 a12 a13 a14 a15 a16 a17 a18 a19 a20 a21 a22 a23 a24} :
    Keeps s (State.mk t.regs t.mem t.pending a1 a2 a3 a4 a5 a6 a7 a8 a9 a10 a11 a12 a13 a14 a15 a16 a17 a18 a19 t.nv
      a20 a21 a22 a23 a24) :=
  ⟨h.canonical, h.pending, h.fuses⟩

/-- A state put together anew from t: tables in canonical form when those of t are, the queue and the fuses of t. -/
theorem Keeps.rebuild (h : Keeps s t) (hr : Tbl.sorted t.regs = true → Tbl.sorted u.regs = true)
    (hm : Memory.wf t.mem = true → Memory.wf u.mem = true) (hp : u.pending = t.pending)
    (hf : u.nv.fuse = t.nv.fuse) : Keeps s u where
  canonical c := ⟨hr (h.canonical c).1, hm (h.canonical c).2⟩
  pending := hp.trans h.pending
  fuses o i b := by unfold State.fuseByte; rw [hf]; exact h.fuses o i b

theorem Keeps.set (h : Keeps s t) {f : Fld} {v : Nat} : Keeps s (t.set f v) :=
  ⟨fun c => (h.canonical c).set f v, h.pending, h.fuses⟩

theorem Keeps.setByte (h : Keeps s t) {a b} : Keeps s (t.setByte a b) :=
  ⟨fun c => (h.canonical c).setByte a b, h.pending, h.fuses⟩

theorem Keeps.when {b : Bool} {g : State → State} (hg : ∀ {u}, Keeps s u → Keeps s (g u)) (h : Keeps s t) :
    Keeps s (t.when b g) := .ite (hg h) h

theorem Answers.next {P : State → Prop} (h : P s) : Answers (.next s) P := ⟨s, rfl, h⟩

theorem Answers.mono {P Q : State → Prop} {o : Host.Outcome State Fault Refusal} (h : Answers o P)
    (hpq : ∀ u, P u → Q u) : Answers o Q :=
  let ⟨u, e, p⟩ := h; ⟨u, e, hpq u p⟩

theorem Answers.ite {P : State → Prop} {a b : Host.Outcome State Fault Refusal} {c : Prop} [Decidable c]
    (ha : Answers a P) (hb : Answers b P) : Answers (if c then a else b) P := by
  split
  · exact ha
  · exact hb

theorem Answers.dite {P : State → Prop} {c : Prop} [Decidable c] {a : c → Host.Outcome State Fault Refusal}
    {b : ¬c → Host.Outcome State Fault Refusal} (ha : ∀ k, Answers (a k) P) (hb : ∀ k, Answers (b k) P) :
    Answers (if h : c then a h else b h) P := by
  split
  · exact ha _
  · exact hb _

/-! ### The operations that put a table together anew, and the fuses -/

/-- Active and shadow map, equally long and side by side, change places (R183): the keys still rise. -/
theorem Keeps.swapMaps {w} (h : Keeps s t) : Keeps s (t.swapMaps w) := by
  refine h.rebuild (fun hs => ?_) id rfl rfl
  have low : Tbl.Within (t.regs.filter fun r => r.1 < mapLo w) 0 (mapLo w) :=
    Tbl.within_filter hs (by simp)
  have shadow : Tbl.Within
      (t.regs.filter fun r => mapLo w + mapLen ≤ r.1 && r.1 < mapLo w + mapLen + mapLen)
      (mapLo w + mapLen) (mapLo w + mapLen + mapLen) :=
    Tbl.within_filter hs (by simp)
  have active : Tbl.Within (t.regs.filter fun r => mapLo w ≤ r.1 && r.1 < mapLo w + mapLen)
      (mapLo w) (mapLo w + mapLen) :=
    Tbl.within_filter hs (by simp)
  exact ((low.append shadow.sub (Nat.zero_le _) (Nat.le_add_right ..)).append active.add (Nat.zero_le _)
    (Nat.le_add_right ..)).sorted_above hs (by simp)

/-- The shadow map gives way to a copy of the active map (R185). -/
theorem Keeps.copyMap {w} (h : Keeps s t) : Keeps s (t.copyMap w) := by
  refine h.rebuild (fun hs => ?_) id rfl rfl
  have low : Tbl.Within (t.regs.filter fun r => r.1 < mapLo w + mapLen) 0 (mapLo w + mapLen) :=
    Tbl.within_filter hs (by simp)
  have active : Tbl.Within (t.regs.filter fun r => mapLo w ≤ r.1 && r.1 < mapLo w + mapLen)
      (mapLo w) (mapLo w + mapLen) :=
    Tbl.within_filter hs (by simp)
  exact (low.append active.add (Nat.zero_le _) (Nat.le_add_right ..)).sorted_above hs (by simp)

theorem Keeps.modFlash {f} (h : Keeps s t) : Keeps s (t.modFlash f) := h.rebuild id id rfl rfl

theorem State.fuseByte_blow (s : State) (o v i : Nat) :
    (s.blow o v).fuseByte i = if i = o then s.fuseByte o ||| v % 256 else s.fuseByte i := by
  unfold State.fuseByte State.blow
  split
  · subst i; exact Tbl.getD_setD_same _ _ _ _
  · exact Tbl.getD_setD_ne _ _ _ _ (Ne.symm ‹_›)

theorem Keeps.blow {o v} (h : Keeps s t) : Keeps s (t.blow o v) where
  canonical := h.canonical
  pending := h.pending
  fuses i b hb := by
    have ht := h.fuses i b hb
    rw [State.fuseByte_blow]
    split
    · subst i; simp only [bit, Nat.testBit_or, Bool.or_eq_true] at ht ⊢; exact .inl ht
    · exact ht

/-!
One rule per operation and per command follows, under the model's files and in their order. A `have h := …` names the state
that later branches start from, as the operation's own `let` does.
-/

/-! ### Ops.lean -/

theorem Keeps.setFlag {f b} (h : Keeps s t) : Keeps s (t.setFlag f b) := h.set
theorem Keeps.incSat {f n} (h : Keeps s t) : Keeps s (t.incSat f n) := h.set
theorem Keeps.inc {f} (h : Keeps s t) : Keeps s (t.inc f) := h.set
theorem Keeps.setBitOf {f i b} (h : Keeps s t) : Keeps s (t.setBitOf f i b) := h.set
theorem Keeps.set64 {lo hi v} (h : Keeps s t) : Keeps s (t.set64 lo hi v) := h.set.set
theorem Keeps.resetFld {f} (h : Keeps s t) : Keeps s (t.resetFld f) := h.set
theorem Keeps.resetFlds {fs} (h : Keeps s t) : Keeps s (t.resetFlds fs) := .foldl (·.resetFld) h
theorem Keeps.writeRw {fs v} (h : Keeps s t) : Keeps s (t.writeRw fs v) := .foldl (fun h => .ite h.set h) h

theorem Keeps.setWords {f i l} (h : Keeps s t) : Keeps s (t.setWords f i l) := by
  induction l generalizing t i with
  | nil => exact h
  | cons v l ih => exact ih h.set

theorem Keeps.emit {e} (h : Keeps s t) : Keeps s (t.emit e) := h.upd
theorem Keeps.emits {es} (h : Keeps s t) : Keeps s (t.emits es) := h.upd
theorem Keeps.useFree (h : Keeps s t) : Keeps s (t.useFree) := h.upd
theorem Keeps.modLane {n f} (h : Keeps s t) : Keeps s (t.modLane n f) := h.upd
theorem Keeps.modLink {n f} (h : Keeps s t) : Keeps s (t.modLink n f) := h.upd
theorem Keeps.count {c n} (h : Keeps s t) : Keeps s (t.count c n) := .ite h.upd h
theorem Keeps.pass {u n} (h : Keeps s t) : Keeps s (t.pass u n) := .ite h h.upd
theorem Keeps.slots {u c n} (h : Keeps s t) : Keeps s (t.slots u c n) := h.pass.count
theorem Keeps.pendSlots {u n} (h : Keeps s t) : Keeps s (t.pendSlots u n) := h.pass.upd
theorem Keeps.decideSlots {u c n} (h : Keeps s t) : Keeps s (t.decideSlots u c n) := h.upd.count
theorem Keeps.countArming {v} (h : Keeps s t) : Keeps s (t.countArming v) := h.upd
theorem Keeps.arm {v} (h : Keeps s t) : Keeps s (t.arm v) := h.countArming.setBitOf
theorem Keeps.noteNew {e} (h : Keeps s t) : Keeps s (t.noteNew e) := h.upd
theorem Keeps.noteRaise {e} (h : Keeps s t) : Keeps s (t.noteRaise e) := h.upd.noteNew

theorem Keeps.raise {e} (h : Keeps s t) : Keeps s (t.raise e) :=
  .ite h (.when (·.arm) h.noteRaise.count.setBitOf)

theorem Keeps.logErr {cause unit index} (h : Keeps s t) : Keeps s (t.logErr cause unit index) :=
  h.set.set.set.set.set.incSat.set.set.set.set.set.incSat

theorem Keeps.accessErr {src a} (h : Keeps s t) : Keeps s (t.accessErr src a) := h.set.set.raise
theorem Keeps.writeToDark {src a} (h : Keeps s t) : Keeps s (t.writeToDark src a) := h.set.set.raise
theorem Keeps.setRwl {p f v} (h : Keeps s t) : Keeps s (t.setRwl p f v) := .ite h.raise h.set
theorem Keeps.resAccept {w} (h : Keeps s t) : Keeps s (t.resAccept w) := h.set
theorem Keeps.resDone {w tag status} (h : Keeps s t) : Keeps s (t.resDone w tag status) := h.inc.set.set.set

/-! ### Operands.lean -/

theorem Keeps.admitFixed (h : Keeps s t) : Keeps s (t.admitFixed) := h.upd
theorem Keeps.queueFixed {n p} (h : Keeps s t) : Keeps s (t.queueFixed n p) := h.upd.admitFixed
theorem Keeps.ctlOut {n p} (h : Keeps s t) : Keeps s (t.ctlOut n p) := .ite h.emit.queueFixed h

theorem Keeps.timeOut {n mx info} (h : Keeps s t) : Keeps s (t.timeOut n mx info) :=
  .ite h (.ite (.when (·.emit) h) (.queueFixed <| .when (·.emit) h))

theorem Keeps.sendCtl {p} (h : Keeps s t) : Keeps s (t.sendCtl p) := by
  unfold State.sendCtl
  dsimp only
  split
  · exact h.ctlOut
  · exact h

theorem Keeps.keepRequest {p purpose} (h : Keeps s t) : Keeps s (t.keepRequest p purpose) := h.upd
theorem Keeps.request {p purpose} (h : Keeps s t) : Keeps s (t.request p purpose) := h.sendCtl.keepRequest
theorem Keeps.sendEvent {e} (h : Keeps s t) : Keeps s (t.sendEvent e) := h.sendCtl.upd

theorem Keeps.report {n up} (h : Keeps s t) : Keeps s (t.report n up) :=
  .ite h.upd (.ite h.sendEvent (.ite h.upd h.upd))

/-! ### LaneOut.lean -/

theorem Keeps.sendBlocks {n k l} (h : Keeps s t) : Keeps s (t.sendBlocks n k l) := h.modLane.emit
theorem Keeps.sendSymbols {n k l} (h : Keeps s t) : Keeps s (t.sendSymbols n k l) := h.modLane.emit
theorem Keeps.sendStriped {n l} (h : Keeps s t) : Keeps s (t.sendStriped n l) := .foldl (·.sendSymbols) h
theorem Keeps.sendFrame {n f} (h : Keeps s t) : Keeps s (t.sendFrame n f) := h.emit.sendStriped

theorem Keeps.sendAlignOn {n mask typ st} (h : Keeps s t) : Keeps s (t.sendAlignOn n mask typ st) :=
  .modLane <| .foldl (·.sendBlocks) h

theorem Keeps.sendAlign {n st} (h : Keeps s t) : Keeps s (t.sendAlign n st) := h.sendAlignOn

theorem Keeps.sendPattern {n mask} (h : Keeps s t) : Keeps s (t.sendPattern n mask) :=
  .foldl (·.modLane.sendBlocks) h.modLane

theorem Keeps.trainStep {n mask} (h : Keeps s t) : Keeps s (t.trainStep n mask) :=
  .ite h.sendAlignOn h.sendPattern

theorem Keeps.startPattern {n mask} (h : Keeps s t) : Keeps s (t.startPattern n mask) := h.modLane.sendPattern

theorem Keeps.trainOutside {n k} (h : Keeps s t) : Keeps s (t.trainOutside n k) :=
  .ite h (.trainStep <| .foldl (·.sendPattern) h)

theorem Keeps.freeCredit {n c k} (h : Keeps s t) : Keeps s (t.freeCredit n c k) := .when (·.sendFrame) h.modLink

theorem Keeps.freePacket {n c k lpn} (h : Keeps s t) : Keeps s (t.freePacket n c k lpn) :=
  .when (·.freeCredit) h.modLink

theorem Keeps.freeFixed {n k} (h : Keeps s t) : Keeps s (t.freeFixed n k) := .when (·.freeCredit) h
theorem Keeps.freeTime {n} (h : Keeps s t) : Keeps s (t.freeTime n) := .when (·.freeFixed) h

/-! ### Ctx.lean -/

theorem Keeps.unhome {i} (h : Keeps s t) : Keeps s (t.unhome i) := h.set
theorem Keeps.homeOn {i e} (h : Keeps s t) : Keeps s (t.homeOn i e) := h.set.set

theorem Keeps.freeIngress {p} (h : Keeps s t) : Keeps s (t.freeIngress p) :=
  .dite (fun _ => h.freePacket) (fun _ => h)

theorem Keeps.wasteWaiting {p} (h : Keeps s t) : Keeps s (t.wasteWaiting p) := h.freeIngress.slots.count

theorem Keeps.leaveAs {fate p} (h : Keeps s t) : Keeps s (t.leaveAs fate p) :=
  have h := h.upd
  .ite h.admitFixed (.ite h (.set <| .set <| by split; exact h.decideSlots; exact h))

theorem Keeps.leave {ok p} (h : Keeps s t) : Keeps s (t.leave ok p) := h.leaveAs
theorem Keeps.wasteAdmitted {p} (h : Keeps s t) : Keeps s (t.wasteAdmitted p) := h.leave.slots.count

theorem Keeps.poisonBegun {p} (h : Keeps s t) : Keeps s (t.poisonBegun p) :=
  .dite (fun _ => by dsimp only; split; exact h; exact h.decideSlots.modLink) (fun _ => h)

theorem Keeps.dropOps {i} (h : Keeps s t) : Keeps s (t.dropOps i) :=
  .slots <| .upd <| .foldl (fun h => .when (·.set) h) h

theorem Keeps.dropFlow {i} (h : Keeps s t) : Keeps s (t.dropFlow i) :=
  .set <| .set <| .upd <| .foldl (·.decideSlots) <| .foldl (·.poisonBegun) <| .dropOps <|
    .foldl (·.wasteAdmitted) <| .foldl (·.wasteWaiting) h

theorem Keeps.decidePacket {a lpn bad} (h : Keeps s t) : Keeps s (t.decidePacket a lpn bad) :=
  .foldl (·.decideSlots.decideSlots) h.upd

theorem Keeps.dropPoisoned (h : Keeps s t) : Keeps s (t.dropPoisoned) :=
  .foldl (·.wasteWaiting.upd) <| .foldl (·.wasteAdmitted) h

theorem Keeps.modBridge {f} (h : Keeps s t) : Keeps s (t.modBridge f) := h.upd
theorem Keeps.freeBus {b} (h : Keeps s t) : Keeps s (t.freeBus b) := .ite h h.modBridge.set.emit
theorem Keeps.freeBuses {k} (h : Keeps s t) : Keeps s (t.freeBuses k) := .foldl (·.freeBus) h
theorem Keeps.semFree {k} (h : Keeps s t) : Keeps s (t.semFree k) := h.freeBuses.set.set.set.set
theorem Keeps.semBreak {k} (h : Keeps s t) : Keeps s (t.semBreak k) := .ite h.semFree.incSat.raise h
theorem Keeps.semsOf {i} (h : Keeps s t) : Keeps s (t.semsOf i) := .foldl (·.semBreak) h

theorem Keeps.ctxIdle {i cause} (h : Keeps s t) : Keeps s (t.ctxIdle i cause) :=
  .set <| .set <| .set <| .set <| .set <| .set <| .set <| .set <| .when (·.set) h.unhome.dropFlow.semsOf

theorem Keeps.flowTorn0 {l cause att all} (h : Keeps s t) : Keeps s (t.flowTorn0 l cause att all) :=
  .raise <| .set <| .set <| .set <| .foldl (·.ctxIdle) h

theorem Keeps.hotPlug {e} (h : Keeps s t) : Keeps s (t.hotPlug e) := by
  unfold State.hotPlug
  split
  · exact h.emit
  · exact h

theorem Keeps.refreshEnd {e} (h : Keeps s t) : Keeps s (t.refreshEnd e) := .ite h h.setFlag.raise.hotPlug

theorem Keeps.tearRest {x1 a} (h : Keeps s t) : Keeps s (t.tearRest x1 a) :=
  .foldl (fun h => .ite (.when (·.ctxIdle) h) h.request) h.upd

theorem Keeps.refreshEnds (h : Keeps s t) : Keeps s (t.refreshEnds) := .ite (.foldl (·.refreshEnd) h) h

theorem Keeps.flowTorn {l cause att all} (h : Keeps s t) : Keeps s (t.flowTorn l cause att all) :=
  .refreshEnds <| .when (·.tearRest) h.flowTorn0

theorem Keeps.tearPort {a} (h : Keeps s t) : Keeps s (t.tearPort a) := h.flowTorn
theorem Keeps.tearAll (h : Keeps s t) : Keeps s (t.tearAll) := h.flowTorn
theorem Keeps.holdPort {a} (h : Keeps s t) : Keeps s (t.holdPort a) := .refreshEnds <| .foldl (·.set) h
theorem Keeps.resumePort {a} (h : Keeps s t) : Keeps s (t.resumePort a) := .refreshEnds <| .foldl (·.setFlag) h
theorem Keeps.countCtx {i slots} (h : Keeps s t) : Keeps s (t.countCtx i slots) := h.set64.set64

/-! ### Maps.lean -/

theorem Keeps.modWh {w f} (h : Keeps s t) : Keeps s (t.modWh w f) := h.upd

theorem Keeps.applyEff {w p} (h : Keeps s t) : Keeps s (t.applyEff w p) :=
  .set <| .set <| .foldl (fun h => .ite h.set h) h

theorem Keeps.rescale {w} (h : Keeps s t) : Keeps s (t.rescale w) :=
  .ite h (have h := Keeps.set <| .ite h.set h.set.applyEff; .ite h.set.setFlag h.set.set.raise)

theorem Keeps.rescalePort {n} (h : Keeps s t) : Keeps s (t.rescalePort n) := h.rescale.rescale

theorem Keeps.admitWheels {n} (h : Keeps s t) : Keeps s (t.admitWheels n) :=
  .foldl (fun h => have h := h.set; .ite h.set.applyEff.set h.rescale) h

theorem Keeps.poolStart {w} (h : Keeps s t) : Keeps s (t.poolStart w) :=
  .set <| .set <| .modWh <| .foldl (fun h => .ite h.set h) h

theorem Keeps.checkUnderfed {clear i} (h : Keeps s t) : Keeps s (t.checkUnderfed clear i) :=
  .ite (.ite h.set.set.set.raise (.ite h.set.set h)) h

theorem Keeps.engineWork {i n} (h : Keeps s t) : Keeps s (t.engineWork i n) := h.upd.count.count

theorem Keeps.xferEnd {x status d} (h : Keeps s t) : Keeps s (t.xferEnd x status d) := by
  unfold State.xferEnd
  exact h.resDone.setWords.set.modBridge

theorem Keeps.xferAdmitted {p} (h : Keeps s t) : Keeps s (t.xferAdmitted p) := by
  unfold State.xferAdmitted
  split
  · exact .ite h.xferEnd h
  · exact h

theorem Keeps.admitPkt {p} (h : Keeps s t) : Keeps s (t.admitPkt p) :=
  h.xferAdmitted.freeIngress.upd.pendSlots.engineWork.countCtx.set.set

theorem Keeps.showCtx {w i} (h : Keeps s t) : Keeps s (t.showCtx w i) := .ite h.set.set.set.set h

theorem Keeps.charge {w k} (h : Keeps s t) : Keeps s (t.charge w k) :=
  have h := h.modWh.count
  have h := Keeps.ite h.incSat h
  .ite h h.showCtx

theorem Keeps.reachPositions {w a b} (h : Keeps s t) : Keeps s (t.reachPositions w a b) := by
  unfold State.reachPositions
  exact h.modWh

theorem Keeps.passPositions {w adv} (h : Keeps s t) : Keeps s (t.passPositions w adv) :=
  .ite h (have h := h.set; .ite h (.foldl (·.showCtx) h.reachPositions))

/-! ### Ports.lean -/

theorem Keeps.showFarEnd {n} (h : Keeps s t) : Keeps s (t.showFarEnd n) := h.setFlag
theorem Keeps.farEnds (h : Keeps s t) : Keeps s (t.farEnds) := .foldl (·.showFarEnd) h
theorem Keeps.startTime (h : Keeps s t) : Keeps s (t.startTime) := h.upd
theorem Keeps.dropStep (h : Keeps s t) : Keeps s (t.dropStep) := h.upd.set

theorem Keeps.unlockedSlip (h : Keeps s t) : Keeps s (t.unlockedSlip) :=
  have h := h.setFlag
  .ite h h.rescalePort

theorem Keeps.abandonRejoin (h : Keeps s t) : Keeps s (t.abandonRejoin) := by
  unfold State.abandonRejoin
  exact .when (·.set.set.farEnds) h.dropStep.unlockedSlip.upd

theorem Keeps.enterHoldover (h : Keeps s t) : Keeps s (t.enterHoldover) :=
  .ite h.abandonRejoin (.farEnds <| .raise <| .when (·.set) h.abandonRejoin.upd.set.set.set.set)

theorem Keeps.beginRejoin (h : Keeps s t) : Keeps s (t.beginRejoin) := h.upd.set
theorem Keeps.applyTaps {n k} (h : Keeps s t) : Keeps s (t.applyTaps n k) := h.set.set
theorem Keeps.showClamp {n k} (h : Keeps s t) : Keeps s (t.showClamp n k) := h.setFlag
theorem Keeps.setLock {n k b} (h : Keeps s t) : Keeps s (t.setLock n k b) := h.setBitOf.setFlag
theorem Keeps.eyeAbort {n k} (h : Keeps s t) : Keeps s (t.eyeAbort n k) := .ite h.set.set.set.raise h

theorem Keeps.clearLanes {n} (h : Keeps s t) : Keeps s (t.clearLanes n) :=
  .set <| .set <| .set <| .foldl (·.eyeAbort.setLock.set) h

theorem Keeps.checkerOn {n k sync} (h : Keeps s t) : Keeps s (t.checkerOn n k sync) := h.set.setFlag
theorem Keeps.checkersLoop {n} (h : Keeps s t) : Keeps s (t.checkersLoop n) := .foldl (fun h => .ite h.set h) h
theorem Keeps.showTest {n} (h : Keeps s t) : Keeps s (t.showTest n) := .when (·.checkersLoop.emits) h.showFarEnd

theorem Keeps.startTraining {n compat} (h : Keeps s t) : Keeps s (t.startTraining n compat) :=
  have h :=
    Keeps.when (·.raise) <| .modLane <| .foldl (·.applyTaps) <| .when (·.set) h.clearLanes.setFlag.set.set
  .ite (.foldl (·.sendSymbols) h) h.startPattern

theorem Keeps.bringUp {n} (h : Keeps s t) : Keeps s (t.bringUp n) := .ite h.startTraining h
theorem Keeps.bringUpOff (h : Keeps s t) : Keeps s (t.bringUpOff) := .foldl (fun h => .ite h.bringUp h) h
theorem Keeps.lanesOff {n} (h : Keeps s t) : Keeps s (t.lanesOff n) := h.clearLanes.set.set.set.modLane
theorem Keeps.wastePending {n} (h : Keeps s t) : Keeps s (t.wastePending n) := h.decideSlots.decideSlots

theorem Keeps.losePackets {n} (h : Keeps s t) : Keeps s (t.losePackets n) :=
  .dropPoisoned <| .foldl (·.decidePacket) <| .modLink <| .foldl (·.decideSlots.decideSlots) <|
    .foldl (·.leave) h.upd

theorem Keeps.expireSession {n} (h : Keeps s t) : Keeps s (t.expireSession n) := h.set.raise.tearPort.modLink

theorem Keeps.dropLink {n reason} (h : Keeps s t) : Keeps s (t.dropLink n reason) :=
  have h := h.wastePending.losePackets.set.set.set.set.set.set.resetFlds.modLink.raise
  have h := Keeps.ite h.holdPort.set h.expireSession
  .report <| .rescalePort <| .ite (.set <| .when (·.abandonRejoin) h.upd) h.setBitOf

theorem Keeps.testState {n} (h : Keeps s t) : Keeps s (t.testState n) := h.lanesOff.set.set.setFlag.showTest
theorem Keeps.failHeld {n} (h : Keeps s t) : Keeps s (t.failHeld n) := .when (·.expireSession) h

theorem Keeps.linkDown {n reason} (h : Keeps s t) : Keeps s (t.linkDown n reason) :=
  have h := Keeps.ite h.dropLink h.set.failHeld.modLink
  .ite h.lanesOff (.ite h.testState (.ite (.ite h.startTraining h.lanesOff) (.ite h.bringUp h.lanesOff)))

theorem Keeps.gateDown (h : Keeps s t) : Keeps s (t.gateDown) := .ite h (.foldl (fun h => .ite h h.linkDown) h)

/-! ### Clock.lean -/

theorem Keeps.rootLock (h : Keeps s t) : Keeps s (t.rootLock) := h.upd.set.farEnds.startTime.bringUpOff

theorem execRefinPresent_keeps (h : Keeps s t) : Answers (execRefinPresent t) (Keeps s) :=
  .ite (.next h)
    (have h := h.upd.set.set
     .next <| .ite (.ite h.rootLock (.ite h.upd h)) (.ite h.upd.startTime.bringUpOff (.ite h.upd h.upd)))

theorem execRefinLoss_keeps (h : Keeps s t) : Answers (execRefinLoss t) (Keeps s) :=
  .ite (.next h) (have h := h.upd; .next <| .ite h.upd.set.set.set.raise.farEnds h)

theorem execSpokeRefinLoss_keeps (h : Keeps s t) : Answers (execSpokeRefinLoss t) (Keeps s) :=
  .ite (.next h) (have h := h.upd.set.set.raise; .next <| .ite h.upd.set (.ite h.upd h))

theorem execLineageSlewDone_keeps (h : Keeps s t) : Answers (execLineageSlewDone t) (Keeps s) :=
  .ite (.next h) (have h := h.upd; .next <| .ite h.set.set.farEnds h)

theorem Keeps.writeSsc {v} (h : Keeps s t) : Keeps s (t.writeSsc v) :=
  .ite (have h := h.setRwl; .ite h.set h) h

theorem execSscEnWrite_keeps {v} (h : Keeps s t) : Answers (execSscEnWrite v t) (Keeps s) := .next h.writeSsc
theorem execSscApply_keeps (h : Keeps s t) : Answers (execSscApply t) (Keeps s) := .next <| .ite h.set h

theorem Keeps.moveRclk (h : Keeps s t) : Keeps s t.moveRclk :=
  .ite h (by split; exact h.set; exact h)

theorem execHoldoverEntry_keeps {above} (h : Keeps s t) : Answers (execHoldoverEntry above t) (Keeps s) :=
  .next <| .ite h.dropStep (.ite h.enterHoldover.gateDown h)

theorem Keeps.writeForceHold {v} (h : Keeps s t) : Keeps s (t.writeForceHold v) :=
  have h := h.setFlag
  .ite h (.ite (.ite h.enterHoldover.gateDown h) (.ite h.beginRejoin.rescalePort h))

theorem execForceHoldWrite_keeps {v} (h : Keeps s t) : Answers (execForceHoldWrite v t) (Keeps s) :=
  .next h.writeForceHold

theorem execRatioValidSet_keeps {ppm} (h : Keeps s t) : Answers (execRatioValidSet ppm t) (Keeps s) :=
  .next <| .ite h.set.set h

theorem execLineagePllLock_keeps {spread} (h : Keeps s t) : Answers (execLineagePllLock spread t) (Keeps s) :=
  .ite (.next h) (have h := h.upd.set.setFlag.farEnds; .next <| .bringUpOff <| .ite h h.startTime)

theorem execLineageLocked_keeps {n} (h : Keeps s t) : Answers (execLineageLocked n t) (Keeps s) :=
  .ite (.ite (.next h) (.next h.upd.set.set.raise.rescalePort)) (.next h.setBitOf.rescalePort)

theorem execDelayReqTimer_keeps (h : Keeps s t) : Answers (execDelayReqTimer t) (Keeps s) :=
  .ite (.next h) (.next h.upd.timeOut)

theorem execDelayReqRx_keeps {n exch} (h : Keeps s t) : Answers (execDelayReqRx n exch t) (Keeps s) :=
  .ite (.next h) (have h := h.freeTime; .next <| .ite h.timeOut h)

theorem Keeps.sendNotice {n} (h : Keeps s t) : Keeps s (t.sendNotice n) := .foldl (·.timeOut) h
theorem Keeps.nameStep {d freeAfter} (h : Keeps s t) : Keeps s (t.nameStep d freeAfter) := h.upd.set.sendNotice
theorem Keeps.setTime {z} (h : Keeps s t) : Keeps s (t.setTime z) := h.upd
theorem Keeps.exchange {t3 t4 t1 t2} (h : Keeps s t) : Keeps s (t.exchange t3 t4 t1 t2) := h.upd

theorem execStepNoticeRx_keeps {n} (h : Keeps s t) : Answers (execStepNoticeRx n t) (Keeps s) :=
  .ite (.next h) (.next h.freeTime.upd.set.sendNotice)

theorem Keeps.ctmResult {tag status lo hi last} (h : Keeps s t) : Keeps s (t.ctmResult tag status lo hi last) :=
  h.resAccept.resDone.set.set.set

theorem Keeps.ctmCapture {tag} (h : Keeps s t) : Keeps s (t.ctmCapture tag) := h.ctmResult

theorem Keeps.ctmHop {tag port} (h : Keeps s t) : Keeps s (t.ctmHop tag port) :=
  have h := h.useFree.useFree.useFree
  .ite h.ctmResult h.ctmResult

theorem execCtmCapture_keeps {tag} (h : Keeps s t) : Answers (execCtmCapture tag t) (Keeps s) :=
  .next h.ctmCapture

theorem execCtmHopReport_keeps {tag port} (h : Keeps s t) : Answers (execCtmHopReport tag port t) (Keeps s) :=
  .next h.ctmHop

/-! ### LinkOps.lean -/

theorem Keeps.sendMsg {n msg segs d} (h : Keeps s t) : Keeps s (t.sendMsg n msg segs d) :=
  .ite (.foldl (·.sendFrame) h) h.modLink

theorem Keeps.startLink {n} (h : Keeps s t) : Keeps s (t.startLink n) := h.modLink.set.set.sendMsg

theorem Keeps.useRxMask {n m} (h : Keeps s t) : Keeps s (t.useRxMask n m) := by
  unfold State.useRxMask
  exact h.set.set.modLane

theorem Keeps.useRx {n} (h : Keeps s t) : Keeps s (t.useRx n) := h.useRxMask
theorem Keeps.useTx {n} (h : Keeps s t) : Keeps s (t.useTx n) := h.set.set
theorem Keeps.trainDone {n} (h : Keeps s t) : Keeps s (t.trainDone n) := h.set.set.set.set.set.raise
theorem Keeps.widthChanged {n w} (h : Keeps s t) : Keeps s (t.widthChanged n w) := h.raise.rescale

theorem Keeps.degradeRx {n k} (h : Keeps s t) : Keeps s (t.degradeRx n k) :=
  have h := h.modLane
  .ite h (.ite h.linkDown h.modLane.modLink)

theorem Keeps.reframe {n} (h : Keeps s t) : Keeps s (t.reframe n) := by
  unfold State.reframe
  split
  · exact h
  · exact have h := h.useRxMask; .ite h h.widthChanged

theorem Keeps.laneFail {n k} (h : Keeps s t) : Keeps s (t.laneFail n k) :=
  .degradeRx <| .when (·.setBitOf) h.modLane.raise

theorem Keeps.dropReady {n k} (h : Keeps s t) : Keeps s (t.dropReady n k) :=
  have h := h.modLane
  .ite (.ite (.sendAlign <| .when (·.set) h.modLane) h.sendAlign) h

theorem Keeps.loseLock {n k} (h : Keeps s t) : Keeps s (t.loseLock n k) :=
  have h := h.setLock.incSat.eyeAbort.modLane
  have h := Keeps.ite h.laneFail h.dropReady
  .ite h.moveRclk h

/-! ### Lanes.lean -/

theorem execTrainingStart_keeps {n} (h : Keeps s t) : Answers (execTrainingStart n t) (Keeps s) :=
  .next <| .ite h.bringUp h

theorem Keeps.holdClashes {n} (h : Keeps s t) : Keeps s (t.holdClashes n) :=
  .foldl (fun h => .ite h.modLane.dropReady h) h

theorem execAlignBlockRx_keeps {n k b skew} (h : Keeps s t) : Answers (execAlignBlockRx n k b skew t) (Keeps s) :=
  .ite (.next h)
    (have h := h.modLane.holdClashes
     .ite (.next h) (.ite (.next h.incSat.loseLock) (.next h.modLane.set.setFlag.set)))

theorem execTxOverrideApply_keeps {n k} (h : Keeps s t) : Answers (execTxOverrideApply n k t) (Keeps s) :=
  .ite (.next h) (.next <| .when (·.modLane.sendAlign) <| .when (·.set) <| .foldl (·.applyTaps) h)

theorem Keeps.adapted {n ctle k} (h : Keeps s t) : Keeps s (t.adapted n ctle k) := h.useFree.set.set.modLane

theorem Keeps.sendReady {n mask ctle} (h : Keeps s t) : Keeps s (t.sendReady n mask ctle) :=
  .sendAlign <| .set <| .set <| .modLane <| .foldl (·.adapted) h

theorem execSendRxReady_keeps {n ctle} (h : Keeps s t) : Answers (execSendRxReady n ctle t) (Keeps s) :=
  .next <| .ite h.sendReady h

theorem execPartialReadyTimer_keeps {n mask ctle} (h : Keeps s t) :
    Answers (execPartialReadyTimer n mask ctle t) (Keeps s) :=
  .next <| .ite h.sendReady h

theorem Keeps.go {n} (h : Keeps s t) : Keeps s (t.go n) := h.modLane.sendAlign.useRx.useTx.set

theorem Keeps.sleepGo {n} (h : Keeps s t) : Keeps s (t.sleepGo n) :=
  have h := h.go.modLane.set
  have h := Keeps.ite h.moveRclk.beginRejoin h
  .rescalePort <| .ite h h.raise

theorem execSendGo_keeps {n} (h : Keeps s t) : Answers (execSendGo n t) (Keeps s) :=
  .ite (.next h) <| .ite (have h := h.go; .next <| .startLink <| .trainDone <| .ite h.moveRclk h) <|
    .ite (.next h.sleepGo) <| .next h

theorem execTrainTimeout_keeps {n} (h : Keeps s t) : Answers (execTrainTimeout n t) (Keeps s) :=
  .next <| .ite h.raise.incSat.startTraining h

theorem execBlockLockAcquired_keeps {n k} (h : Keeps s t) : Answers (execBlockLockAcquired n k t) (Keeps s) :=
  .ite (have h := h.setLock; .next <| .ite h.moveRclk h) (.next h)

theorem execBlockLockLost_keeps {n k bad} (h : Keeps s t) : Answers (execBlockLockLost n k bad t) (Keeps s) :=
  .next <| .ite h.incSat.loseLock h

theorem execCompatEntry_keeps {n} (h : Keeps s t) : Answers (execCompatEntry n t) (Keeps s) :=
  .next <| .ite h.startTraining h

theorem execCompatLaneLock_keeps {n k} (h : Keeps s t) : Answers (execCompatLaneLock n k t) (Keeps s) :=
  .ite (.next h)
    (have h := h.setLock.modLane; .ite (.next h.modLane.useRx.useTx.set.set.trainDone.startLink) (.next h))

theorem execCompatLockLoss_keeps {n k} (h : Keeps s t) : Answers (execCompatLockLoss n k t) (Keeps s) :=
  .ite (have h := h.setLock.incSat.eyeAbort.modLane; .next <| .ite h.linkDown h) (.next h)

theorem execSkipSetSend_keeps {n} (h : Keeps s t) : Answers (execSkipSetSend n t) (Keeps s) :=
  .next <| .ite (.foldl (·.sendSymbols) h) h

theorem execHushEntry_keeps {n} (h : Keeps s t) : Answers (execHushEntry n t) (Keeps s) := by
  unfold execHushEntry
  split
  · exact have h := h.set.set; .next <| .ite h (.foldl (·.eyeAbort) h)
  · exact .next h

theorem Keeps.hushExit {n} (h : Keeps s t) : Keeps s (t.hushExit n) :=
  .ite (.modLink <| .foldl (·.sendAlignOn) h.useFree.set.set) h

theorem execHushExit_keeps {n} (h : Keeps s t) : Answers (execHushExit n t) (Keeps s) := .next h.hushExit

theorem execWakeBlocksRx_keeps {n good} (h : Keeps s t) : Answers (execWakeBlocksRx n good t) (Keeps s) :=
  .ite (.next <| .foldl (fun h => .ite h.loseLock h) h.set.set.modLink) (.next h)

theorem Keeps.loadStored {n k} (h : Keeps s t) : Keeps s (t.loadStored n k) := by
  unfold State.loadStored
  split
  · exact h.set.set.set
  · exact h

theorem Keeps.wakeLanes {n} (h : Keeps s t) : Keeps s (t.wakeLanes n) :=
  .startPattern <| .when (·.setBitOf) <| .modLane <| .set <| .foldl (·.loadStored) h

theorem execSleepEntry_keeps {n dfe} (h : Keeps s t) : Answers (execSleepEntry n dfe t) (Keeps s) := by
  unfold execSleepEntry
  split
  · exact
      have h := Keeps.modLink <| .modLane <| .set <| .set <| .foldl (·.eyeAbort.setLock) h
      have h := Keeps.ite h.enterHoldover.gateDown h
      .next <| .ite h.modLane.wakeLanes.raise h
  · exact .next h

theorem Keeps.sendTack {n} (h : Keeps s t) : Keeps s (t.sendTack n) := .ite h.modLane.emit.wakeLanes h
theorem execTackSend_keeps {n} (h : Keeps s t) : Answers (execTackSend n t) (Keeps s) := .next h.sendTack

theorem execSleepExitLanesReady_keeps {n mask} (h : Keeps s t) :
    Answers (execSleepExitLanesReady n mask t) (Keeps s) :=
  .ite (.next h) (have h := Keeps.sendAlign <| .modLane <| .foldl (·.set) h; .next <| .ite h.sleepGo h)

theorem execSleepExitFallback_keeps {n} (h : Keeps s t) : Answers (execSleepExitFallback n t) (Keeps s) :=
  .next <| .ite h.linkDown h

theorem Keeps.writeTest {n v} (h : Keeps s t) : Keeps s (t.writeTest n v) :=
  have h := h.setFlag
  .ite (.ite h.linkDown h.failHeld.testState) (.ite h.lanesOff.showTest.bringUp h)

theorem execTestWrite_keeps {n v} (h : Keeps s t) : Answers (execTestWrite n v t) (Keeps s) := .next h.writeTest
theorem Keeps.retrain {n} (h : Keeps s t) : Keeps s (t.retrain n) := .ite h.linkDown (.ite h h.failHeld.bringUp)
theorem execRetrain_keeps {n} (h : Keeps s t) : Answers (execRetrain n t) (Keeps s) := .next h.retrain

theorem execPrbsCheckerEnable_keeps {n k sync} (h : Keeps s t) :
    Answers (execPrbsCheckerEnable n k sync t) (Keeps s) :=
  .next <| .ite h h.setBitOf.checkerOn

theorem Keeps.eyeGo {n} (h : Keeps s t) : Keeps s (t.eyeGo n) :=
  have h := h.set.set.set.set
  .ite h h.eyeAbort

theorem execEyeScanGo_keeps {n} (h : Keeps s t) : Answers (execEyeScanGo n t) (Keeps s) := .next h.eyeGo

theorem execEyeScanDone_keeps {n mismatch} (h : Keeps s t) : Answers (execEyeScanDone n mismatch t) (Keeps s) :=
  .next <| .ite h.set.set.set.raise h

/-! ### Link.lean -/

theorem Keeps.showCred {n} (h : Keeps s t) : Keeps s (t.showCred n) := h.set.set.set.set
theorem Keeps.showReplay {n} (h : Keeps s t) : Keeps s (t.showReplay n) := h.set

theorem Keeps.startPacket {n p} (h : Keeps s t) : Keeps s (t.startPacket n p) :=
  have h := Keeps.count <| .ite h.slots h.pendSlots
  .ite h.modLink.sendFrame.leave.showCred h.modLink.upd.showCred

theorem Keeps.decideRx {n bad lpn} (h : Keeps s t) : Keeps s (t.decideRx n bad lpn) := h.decideSlots.modLink

theorem Keeps.emitFlight {n fseq payload fill empty enc announce back slot} (h : Keeps s t) :
    Keeps s (t.emitFlight n fseq payload fill empty enc announce back slot) :=
  have h :=
    Keeps.when (·.count) <| .when (·.count) <| .count <| .modLink <| .trainOutside <|
      .foldl (·.sendBlocks) h.emit
  .ite (have h := h.useTx; .ite h h.widthChanged) h

theorem Keeps.clearFor {n fseq enc} (h : Keeps s t) : Keeps s (t.clearFor n fseq enc) := h.modLink.incSat.count
theorem Keeps.modRec {n lpn f} (h : Keeps s t) : Keeps s (t.modRec n lpn f) := h.modLink

theorem Keeps.sentRec {n r} (h : Keeps s t) : Keeps s (t.sentRec n r) :=
  .ite (.modRec <| .decideSlots <| by split; exact .ite h.leave h.leaveAs.modRec; exact h)
    (.modRec <| by split; exact .ite h.leave h.leaveAs.modRec; exact h)

theorem Keeps.sentOff {n lpns} (h : Keeps s t) : Keeps s (t.sentOff n lpns) := .foldl (·.sentRec) h
theorem Keeps.trySleep {n} (h : Keeps s t) : Keeps s (t.trySleep n) := .ite h.modLink h

theorem Keeps.timeLeft {n x} (h : Keeps s t) : Keeps s (t.timeLeft n x) := by
  unfold State.timeLeft
  split
  · exact have h := h.emit; .ite h.upd h
  · exact h

theorem Keeps.newFlight {n} (h : Keeps s t) : Keeps s (t.newFlight n) :=
  have h :=
    Keeps.when (·.modLink) <| .emitFlight <| .modLink <| .clearFor <| .sentOff <| .modLink <|
      .foldl (·.timeLeft) h
  .showReplay <| .ite h.pendSlots.slots.slots h

theorem Keeps.emptyFlight {n next} (h : Keeps s t) : Keeps s (t.emptyFlight n next) := by
  unfold State.emptyFlight
  exact .when (·.slots.slots) h.clearFor.modLink.emitFlight

theorem Keeps.replayFlight {n f} (h : Keeps s t) : Keeps s (t.replayFlight n f) :=
  .when (·.pendSlots.slots) h.clearFor.modLink.emitFlight

theorem Keeps.sendFlight {n} (h : Keeps s t) : Keeps s (t.sendFlight n) := by
  unfold State.sendFlight
  dsimp only
  split
  · split
    · exact .ite h.trySleep.replayFlight h.trySleep.emptyFlight
    · exact h.trySleep.modLink.newFlight
  · exact .ite h.trySleep.emptyFlight h.trySleep.newFlight

theorem execHeaderSlotRx_keeps {n b lead} (h : Keeps s t) : Answers (execHeaderSlotRx n b lead t) (Keeps s) :=
  .ite (.next h) (.ite (.next h.modLink.incSat) (.ite (.next h) (.next h.modLink)))

theorem execLinkMessageRx_keeps {n b} (h : Keeps s t) : Answers (execLinkMessageRx n b t) (Keeps s) :=
  .ite (.next h) (.next h.modLink)

theorem Keeps.failFlight {n used left} (h : Keeps s t) : Keeps s (t.failFlight n used left) :=
  .when (·.slots) <| .count <| .modLink <| .dropPoisoned <| .foldl (·.decidePacket.decideRx) h.modLink

theorem Keeps.takeCred {n cred} (h : Keeps s t) : Keeps s (t.takeCred n cred) :=
  .ite h.incSat h.modLink.showCred

theorem Keeps.takeClear {n x} (h : Keeps s t) : Keeps s (t.takeClear n x) :=
  .incSat <| .modLink <| .dropPoisoned <| .foldl (·.decideRx) <| .foldl (·.decidePacket) h

theorem Keeps.takeSeal {n x} (h : Keeps s t) : Keeps s (t.takeSeal n x) :=
  have h := h.decideSlots.decideSlots.modLink.takeCred.takeClear.showReplay
  have h := Keeps.ite h h.modLane.modLink
  have h := Keeps.ite (have h := h.useRx; have h := Keeps.ite h.moveRclk h; .ite h h.widthChanged) h
  .ite h.modLink.modLane (.ite h.modLink h)

theorem Keeps.checkDeskew {n skews} (h : Keeps s t) : Keeps s (t.checkDeskew n skews) :=
  .foldl (·.incSat.loseLock) h

theorem Keeps.takeFill {n} (h : Keeps s t) : Keeps s (t.takeFill n) :=
  .ite h (have h := Keeps.when (·.slots) h; .ite (.when (·.incSat.count) h.useFree) h)

theorem Keeps.frameCheck {n len} (h : Keeps s t) : Keeps s (t.frameCheck n len) :=
  .ite h.modLane (have h := h.modLane.incSat; .ite (.foldl (·.loseLock) h) h)

theorem Keeps.tagFailed {n used left} (h : Keeps s t) : Keeps s (t.tagFailed n used left) :=
  have h := h.failFlight.incSat.raise.modLink
  .ite h.linkDown h

theorem Keeps.acceptFlight {n x c skip lead} (h : Keeps s t) : Keeps s (t.acceptFlight n x c skip lead) :=
  .takeSeal <| .when (·.pendSlots.slots.slots.slots) h.modLink.count

theorem execSealRx_keeps {n slots b skews} (h : Keeps s t) : Answers (execSealRx n slots b skews t) (Keeps s) :=
  .ite (.next h) <|
    .ite (.next h.frameCheck)
      (have h := Keeps.when (·.reframe) h.frameCheck.checkDeskew.takeFill
       .ite (.next h.incSat.failFlight.modLink) <| .ite (.next h.useFree.tagFailed.modLink) <|
         .ite (.next h.failFlight.modLink) <| .ite (.next h.acceptFlight.modLink) <| .next <| .modLink <|
         .when (·.slots) h.modLink)

theorem Keeps.takeMask {n mask} (h : Keeps s t) : Keeps s (t.takeMask n mask) :=
  .ite h (have h := h.modLane.useTx; .ite h h.widthChanged)

theorem execNakRx_keeps {n ack rpl mask} (h : Keeps s t) : Answers (execNakRx n ack rpl mask t) (Keeps s) :=
  .ite (.next h) <| .ite (.next h.takeMask) <| .ite (.next h.raise.linkDown) <|
    .next h.modLink.inc.incSat.count.decideSlots.takeMask

theorem execNakTimeout_keeps {n} (h : Keeps s t) : Answers (execNakTimeout n t) (Keeps s) :=
  .next <| .ite h.raise.linkDown h

theorem execPacketPoisoned_keeps {a lpn} (h : Keeps s t) : Answers (execPacketPoisoned a lpn t) (Keeps s) :=
  have h := h.decidePacket.dropPoisoned
  .next <| .dite (fun _ => h.modLink) (fun _ => h)

theorem execLaneReadmit_keeps {n k} (h : Keeps s t) : Answers (execLaneReadmit n k t) (Keeps s) :=
  .ite (.next h.modLane.sendAlign) <|
    .ite (have h := Keeps.modLane <| .when (·.useFree.adapted) h; .next <| .ite h.moveRclk h) <| .next h

theorem execHushRequest_keeps {n} (h : Keeps s t) : Answers (execHushRequest n t) (Keeps s) :=
  .next <| .ite h.modLink h

theorem execHushReqRx_keeps {n at_} (h : Keeps s t) : Answers (execHushReqRx n at_ t) (Keeps s) :=
  .ite (.next h) (.next <| .ite h.modLink h.modLink)

theorem execHushAckRx_keeps {n at_} (h : Keeps s t) : Answers (execHushAckRx n at_ t) (Keeps s) :=
  .ite (.next h) (.next h.modLink)

theorem execHushExitTimer_keeps {n} (h : Keeps s t) : Answers (execHushExitTimer n t) (Keeps s) :=
  .next <| .ite h.hushExit h

theorem execHushExitPacket_keeps {n} (h : Keeps s t) : Answers (execHushExitPacket n t) (Keeps s) :=
  .next <| .ite h.hushExit h

theorem Keeps.writeSleepReq {n} (h : Keeps s t) : Keeps s (t.writeSleepReq n) := .ite h.modLink.trySleep h

theorem execSleepRequestWrite_keeps {n} (h : Keeps s t) : Answers (execSleepRequestWrite n t) (Keeps s) :=
  .next h.writeSleepReq

theorem execSleepReqRx_keeps {n at_} (h : Keeps s t) : Answers (execSleepReqRx n at_ t) (Keeps s) :=
  .ite (.next h.modLink.modLane) (.next h.modLink)

/-! ### Admit.lean -/

theorem Keeps.sendCapDone {n v} (h : Keeps s t) : Keeps s (t.sendCapDone n v) := h.modLink.sendMsg
theorem Keeps.loseId (h : Keeps s t) : Keeps s (t.loseId) := .gateDown <| .foldl (·.set.set) h.set.set.set.set

theorem Keeps.takeRefin (h : Keeps s t) : Keeps s (t.takeRefin) :=
  .when (·.set) <| .set <| .upd <| .ite h h.startTime

theorem Keeps.checkParent {n ident} (h : Keeps s t) : Keeps s (t.checkParent n ident) :=
  .ite (.upd <| .ite h.loseId h) h

theorem Keeps.settleSession {n ident} (h : Keeps s t) : Keeps s (t.settleSession n ident) :=
  .ite (.ite h.set.resumePort.raise h.expireSession) h

theorem Keeps.startLineage {n} (h : Keeps s t) : Keeps s (t.startLineage n) :=
  have h := h.set
  .ite (.ite h.takeRefin.bringUpOff h) (.ite h.beginRejoin h.setBitOf)

theorem Keeps.admitLink {n} (h : Keeps s t) : Keeps s (t.admitLink n) :=
  have h := h.set.set.setFlag.set.set.set.set.set.set.set.checkParent.settleSession.modLink.showCred.startLineage
  .report <| .raise <| .ite h h.admitWheels

theorem Keeps.tryAdmit {n} (h : Keeps s t) : Keeps s (t.tryAdmit n) := .ite h.admitLink h
theorem Keeps.useRandom {n} (h : Keeps s t) : Keeps s (t.useRandom n) := h.upd
theorem Keeps.startKx {n} (h : Keeps s t) : Keeps s (t.startKx n) := h.useRandom.modLink.set.sendMsg

theorem Keeps.storeCap {n c far} (h : Keeps s t) : Keeps s (t.storeCap n c far) := by
  unfold State.storeCap
  exact h.setWords.setWords.modLink

theorem execCapRx_keeps {n c far} (h : Keeps s t) : Answers (execCapRx n c far t) (Keeps s) :=
  .ite (.next h)
    (have h := h.storeCap
     .ite (.next <| .when (·.expireSession) h.set.sendCapDone) <| by
       dsimp only
       split
       · exact .next <| .linkDown <| .when (·.expireSession) h.raise.sendCapDone
       · exact .ite (.next <| .linkDown <| .when (·.expireSession) h.raise.sendCapDone)
                 (have h := h.set.set.set.set
                  .ite (.next <| .linkDown <| .when (·.expireSession) h.sendCapDone)
                    (have h := h.modLink.sendCapDone; .next <| .ite h.startKx h.tryAdmit)))

theorem execCapDoneRx_keeps {n v} (h : Keeps s t) : Answers (execCapDoneRx n v t) (Keeps s) :=
  .ite (.next h)
    (have h := h.modLink; .next <| .ite h.tryAdmit (.ite (.when (·.expireSession) h.set) h.linkDown))

theorem execLinkDown_keeps {n reason} (h : Keeps s t) : Answers (execLinkDown n reason t) (Keeps s) :=
  .next <| .ite h.linkDown h

theorem execSessionExpiry_keeps {n} (h : Keeps s t) : Answers (execSessionExpiry n t) (Keeps s) :=
  .next <| .ite h.expireSession h

theorem execKxShareRx_keeps {n share} (h : Keeps s t) : Answers (execKxShareRx n share t) (Keeps s) :=
  .ite (.next h) (.next h.modLink.sendMsg)

theorem execKxAuthRx_keeps {n pub sig policyOk} (h : Keeps s t) :
    Answers (execKxAuthRx n pub sig policyOk t) (Keeps s) :=
  .ite (.next h) <| by
    split
    · exact .next h
    · dsimp only
      split
      · exact .next h.linkDown
      · exact .ite (.next h.linkDown) (.ite (.next h.linkDown) (.next h.modLink.set))

theorem Keeps.linkSlotLoad {n} (h : Keeps s t) : Keeps s (t.linkSlotLoad n) := h.set.set.set.set.set.set

theorem execKeysInstalled_keeps {n} (h : Keeps s t) : Answers (execKeysInstalled n t) (Keeps s) :=
  .next <| .ite h.linkSlotLoad.sendMsg.set h

theorem execFlightSend_keeps {n} (h : Keeps s t) : Answers (execFlightSend n t) (Keeps s) :=
  .ite (.next h) (have h := h.sendFlight; .next <| .ite h.tryAdmit h)

theorem execKxDoneRx_keeps {n} (h : Keeps s t) : Answers (execKxDoneRx n t) (Keeps s) :=
  .next <| .ite h.modLink.tryAdmit h

theorem execCompatFrameRx_keeps {n f} (h : Keeps s t) : Answers (execCompatFrameRx n f t) (Keeps s) :=
  .ite (.next h) <| by
    dsimp only
    split
    · exact .ite (.next h.modLink) (.next h.sendFrame)
    · exact .next h.modLink
    · exact .next <| .foldl (·.sendFrame) h.modLink.inc.incSat
    · exact .next h.modLink.showCred
    · exact .next h

theorem execCompatAckTimer_keeps {n} (h : Keeps s t) : Answers (execCompatAckTimer n t) (Keeps s) :=
  .next <| .ite h.sendFrame h

/-! ### Flows.lean -/

theorem Keeps.writeCtx {i o v} (h : Keeps s t) : Keeps s (t.writeCtx i o v).1 :=
  .ite_fst h (.ite_fst h.set (.ite_fst h.set h.writeRw))

theorem execContextWrite_keeps {i o v} (h : Keeps s t) : Answers (execContextWrite i o v t) (Keeps s) :=
  .next h.writeCtx

theorem Keeps.ctxDone {i status} (h : Keeps s t) : Keeps s (t.ctxDone i status) := h.set.set.set.count.raise

theorem Keeps.activate {i} (h : Keeps s t) : Keeps s (t.activate i) :=
  have h := h.set
  .ite h.useFree.ctxDone <| .ite h.ctxDone <| .ctxDone <| .refreshEnds <| .checkUnderfed <| .when (·.set) <|
    .set <| .set <| .set <| .set <| .set <| by split; exact h.homeOn; exact h

theorem execActivate_keeps {i} (h : Keeps s t) : Answers (execActivate i t) (Keeps s) := .next h.activate
theorem Keeps.drain {i} (h : Keeps s t) : Keeps s (t.drain i) := .ite h.set.ctxDone h.ctxDone
theorem execDrain_keeps {i} (h : Keeps s t) : Answers (execDrain i t) (Keeps s) := .next h.drain

theorem execDrainComplete_keeps {i} (h : Keeps s t) : Answers (execDrainComplete i t) (Keeps s) :=
  .next <| .ite h.ctxIdle.refreshEnds h

theorem execDrainTimeout_keeps {i} (h : Keeps s t) : Answers (execDrainTimeout i t) (Keeps s) :=
  .next <| .ite h.ctxIdle.refreshEnds h

theorem Keeps.tearDown {i} (h : Keeps s t) : Keeps s (t.tearDown i) :=
  .ite h.ctxIdle.refreshEnds.ctxDone h.ctxDone

theorem execTearDown_keeps {i} (h : Keeps s t) : Answers (execTearDown i t) (Keeps s) := .next h.tearDown

theorem Keeps.move {i e} (h : Keeps s t) : Keeps s (t.move i e) :=
  .ite h.ctxDone (.ite h.ctxDone (.ite h.ctxDone h.unhome.homeOn.ctxDone))

theorem execMove_keeps {i e} (h : Keeps s t) : Answers (execMove i e t) (Keeps s) := .next h.move

theorem Keeps.ctxCarry {v} (h : Keeps s t) : Keeps s (t.ctxCarry v) := by
  unfold State.ctxCarry
  dsimp only
  split
  · exact h
  · exact h.activate
  · exact h.drain
  · exact h.tearDown
  · exact h.move
  · exact h.useFree.ctxDone

theorem Keeps.commandRun (h : Keeps s t) : Keeps s (t.commandRun) := by
  unfold State.commandRun
  split
  · exact h.upd.set.ctxCarry
  · exact h

theorem Keeps.ctxCmd {v} (h : Keeps s t) : Keeps s (t.ctxCmd v) := .ite h (.ite h.incSat h.upd.set)

theorem Keeps.discardArrival {a cls lpn n} (h : Keeps s t) : Keeps s (t.discardArrival a cls lpn n) :=
  .dite (fun _ => .when (·.slots) h.freePacket.modLink) (fun _ => h.slots.count)

theorem Keeps.checkSeq {i seq} (h : Keeps s t) : Keeps s (t.checkSeq i seq) :=
  .ite h.incSat.set.count (.ite h.set h)

theorem Keeps.arrive {a i lpn decided p} (h : Keeps s t) : Keeps s (t.arrive a i lpn decided p) :=
  have h := h.count
  have h := Keeps.ite h h.upd
  .ite h.incSat.incSat.discardArrival <| .ite h.incSat.incSat.discardArrival <| .ite h.incSat.discardArrival <|
    .ite h.incSat.discardArrival h.checkSeq.upd

theorem Keeps.putRlbIn {i r} (h : Keeps s t) : Keeps s (t.putRlbIn i r) := h.upd
theorem Keeps.putRlbOut {i r} (h : Keeps s t) : Keeps s (t.putRlbOut i r) := h.upd

theorem Keeps.adapterSend {a i p} (h : Keeps s t) : Keeps s (t.adapterSend a i p) :=
  .ite h (.ite h.upd (have h := h.upd; .arrive <| .ite h.putRlbIn h))

theorem Keeps.drainBacklog {i} (h : Keeps s t) : Keeps s (t.drainBacklog i) := .foldl (·.adapterSend) h.upd

theorem execFlowPacketArrival_keeps {a i p lpn} (h : Keeps s t) :
    Answers (execFlowPacketArrival a i p lpn t) (Keeps s) :=
  .dite (fun _ => .ite (.next h) (.next h.arrive)) (fun _ => .next h.adapterSend)

theorem Keeps.tryAdmitPkt {p} (h : Keeps s t) : Keeps s (t.tryAdmitPkt p) :=
  .ite h.count (.ite h.admitPkt (.ite h.upd.incSat.wasteWaiting h.count))

theorem Keeps.admitByWheel {w p} (h : Keeps s t) : Keeps s (t.admitByWheel w p) := by
  unfold State.admitByWheel
  split
  · exact .ite h.admitPkt.charge h
  · exact .ite h h.tryAdmitPkt

theorem execPacketAdmission_keeps {i} (h : Keeps s t) : Answers (execPacketAdmission i t) (Keeps s) := by
  unfold execPacketAdmission
  split
  · exact .next <| .dite (fun _ => .ite h.tryAdmitPkt h.admitByWheel) (fun _ => h.tryAdmitPkt)
  · exact .next h

theorem Keeps.egressStart {n} (h : Keeps s t) : Keeps s (t.egressStart n) :=
  .ite (by split; exact h.startPacket; exact h) (by dsimp only; split; exact h.startPacket.charge; exact h)

theorem execEgressPacketStart_keeps {n} (h : Keeps s t) : Answers (execEgressPacketStart n t) (Keeps s) :=
  .next <| .ite h.egressStart h

theorem execMulticastBranchDrop_keeps {i a} (h : Keeps s t) : Answers (execMulticastBranchDrop i a t) (Keeps s) := by
  unfold execMulticastBranchDrop
  split
  · exact .next <| .ite h.wasteAdmitted h
  · exact .next h

theorem Keeps.modHead {x1 f} (h : Keeps s t) : Keeps s (t.modHead x1 f) := h.upd
theorem Keeps.countOp {x1 i} (h : Keeps s t) : Keeps s (t.countOp x1 i) := h.modHead

theorem Keeps.reservedOp {p} (h : Keeps s t) : Keeps s (t.reservedOp p) :=
  .ite h (.ite h.incSat (.ite h.modHead h.incSat.countOp))

theorem Keeps.handed {p} (h : Keeps s t) : Keeps s (t.handed p) := h.leave.slots.count

theorem Keeps.refuseTlp {port x2} (h : Keeps s t) : Keeps s (t.refuseTlp port x2) :=
  .ite h.incSat h.incSat.count.emit

theorem Keeps.hostLinks (h : Keeps s t) : Keeps s t.hostLinks := by
  unfold State.hostLinks
  refine .upd (t := Prod.fst _) (.foldl_fst (fun h => ?_) ?_)
  · exact .ite_fst h.emit h
  · exact h

theorem Keeps.linkTlp {port x2} (h : Keeps s t) : Keeps s (t.linkTlp port x2) := h.upd.hostLinks

theorem Keeps.hostOut {label d} (h : Keeps s t) : Keeps s (t.hostOut label d) :=
  .ite h.emit (.ite h.refuseTlp (.when (·.raise) h.linkTlp))

theorem Keeps.handOver {p} (h : Keeps s t) : Keeps s (t.handOver p) :=
  .ite h.handed
    (have h := Keeps.ite h.upd (.ite h.leave.count h.handed)
     have h := Keeps.ite h.hostOut h.emit; .ite h.reservedOp h)

theorem Keeps.recordLate {p} (h : Keeps s t) : Keeps s (t.recordLate p) := .ite h.upd h

theorem Keeps.deliver {p} (h : Keeps s t) : Keeps s (t.deliver p) :=
  have h := h.recordLate
  .ite h.upd h.handOver

theorem Keeps.rlbReply {i nak} (h : Keeps s t) : Keeps s (t.rlbReply i nak) :=
  have h := Keeps.ite h h.putRlbOut
  .ite h.arrive h

theorem Keeps.rlbAccept {p} (h : Keeps s t) : Keeps s (t.rlbAccept p) :=
  .ite h.leave.slots <| .ite (have h := h.putRlbOut.deliver; .ite h.rlbReply h) <|
    .ite (have h := h.wasteAdmitted; .ite h.putRlbOut.rlbReply h) h.wasteAdmitted.rlbReply

theorem Keeps.showHeld {x1} (h : Keeps s t) : Keeps s (t.showHeld x1) := h.set.setFlag
theorem Keeps.settleSpan {p bad} (h : Keeps s t) : Keeps s (t.settleSpan p bad) := h.upd.showHeld.showHeld

theorem Keeps.decideAtAdapter {p} (h : Keeps s t) : Keeps s (t.decideAtAdapter p) :=
  .ite h.wasteAdmitted <| by
    split
    · exact .decideSlots <| .leave <| .upd <| .settleSpan <| .when (·.incSat) h
    · exact .ite h.incSat.wasteAdmitted (.ite h.incSat.logErr.raise.wasteAdmitted (.ite h.rlbAccept h.deliver))

theorem execAdapterPacketDecided_keeps {a} (h : Keeps s t) : Answers (execAdapterPacketDecided a t) (Keeps s) := by
  unfold execAdapterPacketDecided
  split
  · exact .next h.decideAtAdapter
  · exact .next h

theorem execRlbPacketRx_keeps {i} (h : Keeps s t) : Answers (execRlbPacketRx i t) (Keeps s) := by
  unfold execRlbPacketRx
  split
  · exact .next h.decideAtAdapter
  · exact .next h

theorem execRlbAckTimer_keeps {i} (h : Keeps s t) : Answers (execRlbAckTimer i t) (Keeps s) :=
  .next <| .ite h.rlbReply h

theorem Keeps.resend {i} (h : Keeps s t) : Keeps s (t.resend i) := .foldl (·.arrive) h

theorem execRlbFlowControlRx_keeps {i ack nak} (h : Keeps s t) :
    Answers (execRlbFlowControlRx i ack nak t) (Keeps s) :=
  .ite (.next h) (have h := h.putRlbIn; .next <| .drainBacklog <| .ite h.resend h)

theorem execRlbRetransmitTimeout_keeps {i} (h : Keeps s t) : Answers (execRlbRetransmitTimeout i t) (Keeps s) :=
  .next <| .ite h h.putRlbIn.resend

theorem Keeps.applyParts (h : Keeps s t) : Keeps s (t.applyParts) := by
  unfold State.applyParts
  exact .ite h.set.raise h.upd.set.set

theorem execPartitionApply_keeps (h : Keeps s t) : Answers (execPartitionApply t) (Keeps s) :=
  .next h.applyParts

/-! ### Wheel.lean -/

theorem Keeps.predict {i} (h : Keeps s t) : Keeps s (t.predict i) := by
  unfold State.predict
  split
  · exact h
  · exact .dite (fun _ => h.set.set) (fun _ => h)

theorem Keeps.warm {i} (h : Keeps s t) : Keeps s (t.warm i) := .ite (.when (·.set) h.set) h
theorem Keeps.engineEpoch (h : Keeps s t) : Keeps s (t.engineEpoch) := .upd <| .foldl (·.set) h
theorem Keeps.reachFirst {w} (h : Keeps s t) : Keeps s (t.reachFirst w) := .ite h h.reachPositions

theorem Keeps.newEpochFrom {first} (h : Keeps s t) : Keeps s (t.newEpochFrom first) :=
  .set <| .foldl (·.checkUnderfed) <| .foldl (·.poolStart) <| .engineEpoch <|
    .foldl (fun h => .foldl (·.showCtx) h.reachFirst) <| .foldl (·.set.set.set.warm) <| .foldl (·.modWh.set) <|
    .foldl (·.predict) h

theorem Keeps.newEpoch (h : Keeps s t) : Keeps s (t.newEpoch) := h.newEpochFrom
theorem execEpochBoundary_keeps (h : Keeps s t) : Answers (execEpochBoundary t) (Keeps s) := .next h.newEpoch

theorem execWheelPacketBoundary_keeps {w adv} (h : Keeps s t) :
    Answers (execWheelPacketBoundary w adv t) (Keeps s) :=
  have h := h.passPositions
  .ite (.next h) <| by
      split
      · exact .next h
      · exact .dite (fun _ => .next h.startPacket.charge) (fun _ => .next h.admitPkt.charge)

theorem Keeps.whlResult {tag status epoch wheel entry need basis} (h : Keeps s t) :
    Keeps s (t.whlResult tag status epoch wheel entry need basis) :=
  h.upd.resDone.set.set.set.setFlag.set.set

theorem Keeps.showStaged (h : Keeps s t) : Keeps s (t.showStaged) := by
  unfold State.showStaged
  dsimp only
  split
  · exact h.set.setFlag.set
  · exact h.set.set

theorem Keeps.addCommit {c} (h : Keeps s t) : Keeps s (t.addCommit c) := h.upd.resAccept
theorem Keeps.commitNext {wheels tag} (h : Keeps s t) : Keeps s (t.commitNext wheels tag) := h.addCommit
theorem Keeps.commitAt {wheels tag} (h : Keeps s t) : Keeps s (t.commitAt wheels tag) := h.addCommit

theorem Keeps.commitAbort {tag} (h : Keeps s t) : Keeps s (t.commitAbort tag) :=
  have h := h.resAccept.upd
  .ite h.showStaged.whlResult.raise (.ite h.whlResult.raise h)

theorem Keeps.whlCommit {v} (h : Keeps s t) : Keeps s (t.whlCommit v) := by
  unfold State.whlCommit
  split
  · exact h.commitNext
  · exact h.commitAt
  · exact h.commitAbort
  · exact h

theorem execCommitNext_keeps {wheels tag} (h : Keeps s t) : Answers (execCommitNext wheels tag t) (Keeps s) :=
  .next h.commitNext

theorem execCommitAt_keeps {wheels tag} (h : Keeps s t) : Answers (execCommitAt wheels tag t) (Keeps s) :=
  .next h.commitAt

theorem execCommitAbort_keeps {tag} (h : Keeps s t) : Answers (execCommitAbort tag t) (Keeps s) :=
  .next h.commitAbort

theorem execCommitStaging_keeps (h : Keeps s t) : Answers (execCommitStaging t) (Keeps s) := by
  unfold execCommitStaging
  split
  · exact .next h
  · dsimp only
    split
    · exact .next h.upd.whlResult.raise
    · exact .next <| .showStaged <| .foldl (·.set) h.upd

theorem Keeps.takeMap {w} (h : Keeps s t) : Keeps s (t.takeMap w) :=
  .foldl (fun h => .ite h.set.set.set.set h) h

theorem Keeps.dropOld {ws w old} (h : Keeps s t) : Keeps s (t.dropOld ws w old) := .foldl (·.set.set) h
theorem Keeps.showInMap {l} (h : Keeps s t) : Keeps s (t.showInMap l) := .foldl (·.setFlag) h
theorem Keeps.quotaDrained {i} (h : Keeps s t) : Keeps s (t.quotaDrained i) := h.set.set.raise

theorem Keeps.quotaChanged {i old} (h : Keeps s t) : Keeps s (t.quotaChanged i old) :=
  .ite h.set.set.raise (.ite h.quotaDrained h)

theorem Keeps.startMaps {old ws} (h : Keeps s t) : Keeps s (t.startMaps old ws) :=
  .foldl (fun h => .ite h (have h := h.poolStart; .ite h h.modWh)) h

theorem Keeps.applyCommit {c} (h : Keeps s t) : Keeps s (t.applyCommit c) :=
  .raise <| .whlResult <| .showStaged <| .startMaps <| .foldl (·.checkUnderfed) <|
    .foldl (fun h => .ite h h.quotaChanged) <| .foldl (·.applyEff) <| .showInMap <| .foldl (·.dropOld) <|
    .foldl (·.takeMap) <| .foldl (·.swapMaps) h.upd

theorem execCommitApply_keeps (h : Keeps s t) : Answers (execCommitApply t) (Keeps s) :=
  .ite (.next h) (by split; exact .next h.applyCommit; exact .next h)

theorem Keeps.missCommits {all} (h : Keeps s t) : Keeps s (t.missCommits all) :=
  .foldl (·.upd.showStaged.whlResult.raise) h

theorem execQuotaDrained_keeps {i} (h : Keeps s t) : Answers (execQuotaDrained i t) (Keeps s) :=
  .next <| .ite h.quotaDrained h

theorem Keeps.copyMaps {wheels} (h : Keeps s t) : Keeps s (t.copyMaps wheels) :=
  .foldl (fun h => .ite h h.copyMap) h

theorem execMapCopy_keeps {wheels} (h : Keeps s t) : Answers (execMapCopy wheels t) (Keeps s) :=
  .next h.copyMaps

theorem Keeps.writeMap {w o v} (h : Keeps s t) : Keeps s (t.writeMap w o v) := .ite h (.ite h.incSat h.writeRw)

theorem execShadowMapWrite_keeps {w o v} (h : Keeps s t) : Answers (execShadowMapWrite w o v t) (Keeps s) :=
  .next h.writeMap

theorem execReexpansionDone_keeps {w} (h : Keeps s t) : Answers (execReexpansionDone w t) (Keeps s) :=
  .next <| .ite h.set.set h

/-! ### Integrity.lean -/

theorem Keeps.poisonPacket {hit} (h : Keeps s t) : Keeps s (t.poisonPacket hit) :=
  .dropPoisoned <| .foldl (fun h => .dite (fun _ => h.modLink) (fun _ => h)) <|
    .foldl (·.incSat.wasteAdmitted) <| .foldl (·.poisonBegun) h.upd

theorem Keeps.poisonOp {i seq} (h : Keeps s t) : Keeps s (t.poisonOp i seq) := .ite h h.upd.incSat.slots

theorem Keeps.poisonKept {i seq} (h : Keeps s t) : Keeps s (t.poisonKept i seq) := by
  unfold State.poisonKept
  split
  · exact h.putRlbIn
  · exact h

theorem Keeps.poisonNamed {i seq} (h : Keeps s t) : Keeps s (t.poisonNamed i seq) :=
  h.poisonPacket.poisonOp.poisonKept

theorem execHeaderParityFail_keeps {a cls lpn n} (h : Keeps s t) :
    Answers (execHeaderParityFail a cls lpn n t) (Keeps s) :=
  .next h.incSat.logErr.count.discardArrival

theorem execDataParityFail_keeps {a i seq egress} (h : Keeps s t) :
    Answers (execDataParityFail a i seq egress t) (Keeps s) :=
  .next <| .poisonNamed <| .count <| .ite h.incSat.logErr h.incSat.logErr

theorem execCellBufferUncorr_keeps {i seq} (h : Keeps s t) : Answers (execCellBufferUncorr i seq t) (Keeps s) := by
  unfold execCellBufferUncorr
  split
  · exact .next h
  · exact .next h.incSat.logErr.raise.poisonNamed

theorem execContextUncorr_keeps {i} (h : Keeps s t) : Answers (execContextUncorr i t) (Keeps s) :=
  have h := h.incSat.logErr.raise
  .next <| .ite h.ctxIdle.refreshEnds h

theorem execTableUncorr_keeps {table addr} (h : Keeps s t) : Answers (execTableUncorr table addr t) (Keeps s) :=
  .next <| .foldl (fun h => .foldl (·.set) h) h.incSat.logErr.raise

theorem execReplayUncorr_keeps {n} (h : Keeps s t) : Answers (execReplayUncorr n t) (Keeps s) :=
  .ite (.next h) (.next h.incSat.logErr.raise.raise.linkDown)

theorem execScrubPass_keeps {cb tbl} (h : Keeps s t) : Answers (execScrubPass cb tbl t) (Keeps s) :=
  .next h.incSat.incSat.count

theorem Keeps.fenceLoss {e x} (h : Keeps s t) : Keeps s (t.fenceLoss e x) :=
  .foldl (·.wasteAdmitted) h.poisonPacket

theorem Keeps.fence {e cause lost n} (h : Keeps s t) : Keeps s (t.fence e cause lost n) :=
  .ite h <| .raise <| .raise <| .logErr <| .set <| .set <| .set <| .set <| .set <| .setBitOf <| .set <| .set <|
    .upd <| .foldl (·.fenceLoss) h

theorem execFence_keeps {e lost n} (h : Keeps s t) : Answers (execFence e lost n t) (Keeps s) := .next h.fence

theorem execEngineFailureDetect_keeps {e ram lost n} (h : Keeps s t) :
    Answers (execEngineFailureDetect e ram lost n t) (Keeps s) :=
  .next h.fence

theorem execEngineWatchdog_keeps {e lost n} (h : Keeps s t) : Answers (execEngineWatchdog e lost n t) (Keeps s) :=
  .next h.fence

theorem Keeps.rehomeOne {e i} (h : Keeps s t) : Keeps s (t.rehomeOne e i) := by
  unfold State.rehomeOne
  split
  · exact h.upd.unhome.homeOn.set.set.set.raise
  · exact h.set.set.logErr.raise

theorem execRehomeComplete_keeps {e} (h : Keeps s t) : Answers (execRehomeComplete e t) (Keeps s) :=
  .ite (.next h) (.next <| .upd <| .foldl (·.rehomeOne) h)

theorem Keeps.unfence {e} (h : Keeps s t) : Keeps s (t.unfence e) := h.upd.set.set.setBitOf.set.set.set

/-! ### Chain.lean -/

theorem Keeps.setRoute {x route depth} (h : Keeps s t) : Keeps s (t.setRoute x route depth) := h.set.set

theorem Keeps.routeInto {hub x route depth} (h : Keeps s t) : Keeps s (t.routeInto hub x route depth) :=
  .ite h.setRoute h.request

theorem Keeps.writeEntries {y x d} (h : Keeps s t) : Keeps s (t.writeEntries y x d) := .foldl (·.routeInto) h
theorem Keeps.writeRoutes {x} (h : Keeps s t) : Keeps s (t.writeRoutes x) := h.writeEntries
theorem Keeps.setHubs {x1} (h : Keeps s t) : Keeps s (t.setHubs x1) := h.upd

theorem Keeps.hubLeft {x} (h : Keeps s t) : Keeps s (t.hubLeft x) :=
  .raise <| .setHubs <| .foldl (fun h => .foldl (·.routeInto) h) h

theorem Keeps.bind {x ident} (h : Keeps s t) : Keeps s (t.bind x ident) := .ite h h.upd

theorem Keeps.enumRefused {parent port count} (h : Keeps s t) : Keeps s (t.enumRefused parent port count) :=
  h.upd.raise

theorem Keeps.leaveOld {ident parent port} (h : Keeps s t) : Keeps s (t.leaveOld ident parent port) := by
  unfold State.leaveOld
  split
  · exact h.hubLeft
  · exact h

theorem Keeps.enumerate {parent port depth ident old} (h : Keeps s t) :
    Keeps s (t.enumerate parent port depth ident old) :=
  .ite h.enumRefused (by split; exact h.enumRefused; exact h.setHubs.bind.writeRoutes.request)

theorem Keeps.replace {l} (h : Keeps s t) : Keeps s (t.replace l).1 := by
  induction l generalizing t with
  | nil => exact h
  | cons y l ih =>
    unfold State.replace
    split
    · exact ih h
    · exact .ite_fst (ih h.setHubs.enumRefused) <| ih <|
              .ite h.setHubs.writeEntries h.setHubs.writeEntries.setHubs.writeEntries

theorem Keeps.rename {y z} (h : Keeps s t) : Keeps s (t.rename y z) := .ite h h.setHubs

theorem Keeps.reassign {ys} (h : Keeps s t) : Keeps s (t.reassign ys) :=
  .foldl (fun h => by split; exact (have h := h.request; .ite h (.foldl (·.routeInto) h)); exact h) <|
    .foldl (·.rename) h.replace

theorem Keeps.reassignAnswered {q status} (h : Keeps s t) : Keeps s (t.reassignAnswered q status) := by
  unfold State.reassignAnswered
  dsimp only
  split
  · exact h
  · exact .ite h.setHubs (.ite h.request h)

theorem Keeps.reenumerate {x} (h : Keeps s t) : Keeps s (t.reenumerate x) := h.setHubs.reassign

theorem Keeps.assignAnswered {q status} (h : Keeps s t) : Keeps s (t.assignAnswered q status) := by
  unfold State.assignAnswered
  dsimp only
  split
  · exact .ite h h.setHubs
  · exact h

theorem Keeps.takeUp {r ident old} (h : Keeps s t) : Keeps s (t.takeUp r ident old) := by
  unfold State.takeUp
  split
  · exact h
  · exact
      have h := h.leaveOld
      .ite h.enumRefused (by split; exact .ite h.hubLeft.enumerate h.reenumerate; exact h.enumerate)

theorem Keeps.nextUp {ident old} (h : Keeps s t) : Keeps s (t.nextUp ident old) := by
  unfold State.nextUp
  split
  · exact h
  · exact h.upd.takeUp

theorem execRootLinkUpReport_keeps {ident old} (h : Keeps s t) :
    Answers (execRootLinkUpReport ident old t) (Keeps s) := by
  unfold execRootLinkUpReport
  split
  · exact .next h
  · exact .ite (.next h)
            (have h' := h.upd
             .ite (.next h'.takeUp) <| .ite (.next h') <|
               by split; exact .next h'; exact .ite (.next h'.takeUp) (.next h.upd.request))

theorem Keeps.identAnswered {a} (h : Keeps s t) : Keeps s (t.identAnswered a) := by
  unfold State.identAnswered
  split
  · exact h
  · exact .ite h.nextUp h.upd

theorem execRootLinkDownReport_keeps (h : Keeps s t) : Answers (execRootLinkDownReport t) (Keeps s) := by
  unfold execRootLinkDownReport
  split
  · exact .next h
  · exact .ite (.next h) (.next h.upd.setHubs)

theorem execRootHoldExpiry_keeps {id} (h : Keeps s t) : Answers (execRootHoldExpiry id t) (Keeps s) := by
  unfold execRootHoldExpiry
  split
  · exact .next <| .ite h.hubLeft h
  · exact .next h

theorem execHubJoined_keeps {id} (h : Keeps s t) : Answers (execHubJoined id t) (Keeps s) := by
  unfold execHubJoined
  split
  · exact .next <| .ite h.setHubs.raise.reassign h
  · exact .next h

theorem execSpokeHoldExpiry_keeps (h : Keeps s t) : Answers (execSpokeHoldExpiry t) (Keeps s) :=
  .next <| .ite h.upd.loseId h

theorem Keeps.releaseReports (h : Keeps s t) : Keeps s (t.releaseReports) :=
  .foldl (·.sendEvent) <| .foldl (·.sendEvent) h.upd

theorem Keeps.takeId {id depth parent port} (h : Keeps s t) : Keeps s (t.takeId id depth parent port) :=
  h.set.set.set.set.setRoute.raise

theorem Keeps.reply {n wasNone a} (h : Keeps s t) : Keeps s (t.reply n wasNone a) := .ite h.ctlOut h.sendCtl

theorem Keeps.assignId {p} (h : Keeps s t) : Keeps s (t.assignId p) :=
  .ite h <| .ite h.sendCtl <| .ite h.set.set.set.setRoute.sendCtl <| .bringUpOff <| .when (·.releaseReports) <|
    .reply <| .takeId <| .ite h h.tearAll.setRoute

theorem Keeps.writeRoute {src j v} (h : Keeps s t) : Keeps s (t.writeRoute src j v).1 :=
  .ite_fst h.setRoute h.accessErr

theorem execChainRouteWrite_keeps {src j v} (h : Keeps s t) : Answers (execChainRouteWrite src j v t) (Keeps s) :=
  .next h.writeRoute

/-! ### Host.lean -/

theorem Keeps.modHost {f} (h : Keeps s t) : Keeps s (t.modHost f) := h.upd
theorem Keeps.seeEp {x1} (h : Keeps s t) : Keeps s (t.seeEp x1) := .when (·.raise) h
theorem Keeps.noTaker {x1} (h : Keeps s t) : Keeps s (t.noTaker x1) := .ite h h.count.emit

theorem Keeps.intoEnd {e x2} (h : Keeps s t) : Keeps s (t.intoEnd e x2) :=
  .ite h.refuseTlp <|
    by dsimp only; split; exact .ite h.count.noTaker h.count.seeEp.adapterSend; exact h.count.seeEp.adapterSend

theorem Keeps.downTlp {x1} (h : Keeps s t) : Keeps s (t.downTlp x1) :=
  .ite h.incSat.raise <| .ite h.incSat <| .ite (.foldl (·.adapterSend) h) <|
    by split; exact h.intoEnd; exact h.noTaker

theorem Keeps.sendMsix {v} (h : Keeps s t) : Keeps s (t.sendMsix v) := .ite h (.ite h.modHost h.emit)
theorem Keeps.flushMsix (h : Keeps s t) : Keeps s (t.flushMsix) := .foldl (fun h => .ite h.modHost.emit h) h
theorem Keeps.clearMsix (h : Keeps s t) : Keeps s (t.clearMsix) := h.modHost

theorem execUpstreamTlp_keeps {x0 stale} (h : Keeps s t) : Answers (execUpstreamTlp x0 stale t) (Keeps s) :=
  .ite (.next h) (.ite (.next h.incSat) (.next h.seeEp.count.linkTlp))

theorem execRootPortTlpRx_keeps {n x1} (h : Keeps s t) : Answers (execRootPortTlpRx n x1 t) (Keeps s) :=
  .ite (.next h) <| .ite (.next h.incSat.raise) <| .ite (.next h.incSat) <| .ite (.next h.seeEp.adapterSend) <|
    .next h.refuseTlp

theorem Keeps.farReset {e rp old reset dis} (h : Keeps s t) : Keeps s (t.farReset e rp old reset dis) :=
  h.request

theorem execEndPortLinkControl_keeps {e rp old reset dis} (h : Keeps s t) :
    Answers (execEndPortLinkControl e rp old reset dis t) (Keeps s) :=
  .next <| .ite h.farReset h

theorem execRootPortLinkChange_keeps {v g up speed width present} (h : Keeps s t) :
    Answers (execRootPortLinkChange v g up speed width present t) (Keeps s) :=
  .ite (.next <| .ite h h.modHost.refreshEnd) (.next <| .ite h h.setFlag.set.set.setFlag)

theorem Keeps.hotReset {n} (h : Keeps s t) : Keeps s (t.hotReset n) := h.emit
theorem execHotReset_keeps {n} (h : Keeps s t) : Answers (execHotReset n t) (Keeps s) := .next h.hotReset

theorem Keeps.writeRpCtrl {n v} (h : Keeps s t) : Keeps s (t.writeRpCtrl n v) :=
  have h := h.set.set.set
  have h := Keeps.ite h h.emit
  .when (·.hotReset) <| .ite h h.emit

theorem execPcieUpstreamReset_keeps {kind far} (h : Keeps s t) :
    Answers (execPcieUpstreamReset kind far t) (Keeps s) :=
  .ite (.next h) <| .next <| .refreshEnds <| .foldl (·.farReset) <| .when (·.raise) <| .raise <|
    .when (fun h => .foldl (·.set) h.set) h.clearMsix.modHost.set.set.set

theorem execFlr_keeps (h : Keeps s t) : Answers (execFlr t) (Keeps s) :=
  .next <| .ite h.clearMsix.modHost.raise h

theorem execPcieLinkUp_keeps {width speed} (h : Keeps s t) : Answers (execPcieLinkUp width speed t) (Keeps s) :=
  .next <| .ite h.set.set.set.set.raise h

/-! ### Net.lean -/

theorem Keeps.ethDown {n} (h : Keeps s t) : Keeps s (t.ethDown n) := .when (·.raise) h.set.set.set
theorem Keeps.writeEthCtrl {n v} (h : Keeps s t) : Keeps s (t.writeEthCtrl n v) := .when (·.ethDown) h.writeRw

theorem execEthModeWrite_keeps {n v} (h : Keeps s t) : Answers (execEthModeWrite n v t) (Keeps s) :=
  .next h.writeEthCtrl

theorem execEthLinkChange_keeps {n up an speed} (h : Keeps s t) :
    Answers (execEthLinkChange n up an speed t) (Keeps s) :=
  .ite (.ite (.next h) (.next h.set.setFlag.set.raise)) (.next h.ethDown)

theorem execPauseExpiry_keeps {n} (h : Keeps s t) : Answers (execPauseExpiry n t) (Keeps s) := .next h.set

theorem execPauseSend_keeps {n} (h : Keeps s t) : Answers (execPauseSend n t) (Keeps s) :=
  .ite (.next h) (.ite (.next h.emit) (.ite (.next h.emit) (.next h)))

theorem Keeps.ptpEntry {tx port sub ing f p} (h : Keeps s t) : Keeps s (t.ptpEntry tx port sub ing f p) :=
  .ite h.incSat.raise h.setWords.set.count.raise

theorem Keeps.ptpGo (h : Keeps s t) : Keeps s (t.ptpGo) := h.modHost.set
theorem execPtpMapGo_keeps (h : Keeps s t) : Answers (execPtpMapGo t) (Keeps s) := .next h.ptpGo

theorem Keeps.ptpTake {l late} (h : Keeps s t) : Keeps s (t.ptpTake l late) :=
  h.modHost.set.set.set.set.set.set.set.setFlag

theorem Keeps.ptpDue {step all} (h : Keeps s t) : Keeps s (t.ptpDue step all) := by
  unfold State.ptpDue
  split
  · exact h
  · exact .ite h h.ptpTake

theorem execPtpMapApply_keeps (h : Keeps s t) : Answers (execPtpMapApply t) (Keeps s) := .next h.ptpDue
theorem Keeps.ptpWrite {k v} (h : Keeps s t) : Keeps s (t.ptpWrite k v) := h.modHost

theorem Keeps.carryFrame {n f bad} (h : Keeps s t) : Keeps s (t.carryFrame n f bad) := by
  unfold State.carryFrame
  split
  · exact h.incSat
  · exact .ite h.incSat h.adapterSend

theorem execEthFrameRx_keeps {n f} (h : Keeps s t) : Answers (execEthFrameRx n f t) (Keeps s) :=
  have h' := h.count
  .ite (.next h) <| .ite (.next <| .when (·.setFlag) <| .when (·.count) h') <|
    .ite (.next h'.incSat)
      (have h := Keeps.when (·.raise) h'
       .ite (.next h.incSat) (.next <| .carryFrame <| by split; exact .when (·.ptpEntry) h; exact h))

theorem execEthFrameTx_keeps {n} (h : Keeps s t) : Answers (execEthFrameTx n t) (Keeps s) :=
  .ite (.next h) <| by
    split
    · exact .next h
    · exact .ite (.next h.wasteAdmitted.incSat)
              (have h := h.handed; .next <| .emit <| .count <| by split; exact h.ptpEntry; exact h)

/-! ### Display.lean -/

theorem Keeps.fstWrite {a b} (h : Keeps s t) : Keeps s (t.fstWrite a b) := .ite h (.ite h.upd h.setByte)

theorem Keeps.bankUp {b retained} (h : Keeps s t) : Keeps s (t.bankUp b retained) := by
  refine .ite h.set (.set <| .set <| .set ?_)
  exact h.set.rebuild id (Memory.wf_filter _) rfl rfl

theorem Keeps.bankDown {b} (h : Keeps s t) : Keeps s (t.bankDown b) := h.upd.set.set

theorem execBankInitDone_keeps {b} (h : Keeps s t) : Answers (execBankInitDone b t) (Keeps s) :=
  .ite (.next h) (.next <| .foldl (·.fstWrite) h.upd.set)

theorem Keeps.setPixel {f b x y v} (h : Keeps s t) : Keeps s (t.setPixel f b x y v) := h.fstWrite
theorem Keeps.opToDark {a} (h : Keeps s t) : Keeps s (t.opToDark a) := h.useFree.set.set.raise

theorem Keeps.rectWrite {f b x y w x6 d} (h : Keeps s t) : Keeps s (t.rectWrite f b x y w x6 d) :=
  .foldl (·.setPixel) h

theorem Keeps.rectCopy {f g b x y w x7 sx sy} (h : Keeps s t) : Keeps s (t.rectCopy f g b x y w x7 sx sy) :=
  .foldl (·.setPixel) h

theorem Keeps.rectFill {f b x y w x6 v} (h : Keeps s t) : Keeps s (t.rectFill f b x y w x6 v) :=
  .foldl (·.setPixel) h

theorem Keeps.palLoad {x1 p first n d} (h : Keeps s t) : Keeps s (t.palLoad x1 p first n d) := .foldl (·.set) h

theorem Keeps.opWrite {x1 o} (h : Keeps s t) : Keeps s (t.opWrite x1 o) := by
  unfold State.opWrite
  dsimp only
  split
  · exact h.rectWrite
  · exact h.rectCopy
  · exact h.rectFill
  · exact h.palLoad
  · exact h

theorem Keeps.opRun {x1 o} (h : Keeps s t) : Keeps s (t.opRun x1 o) :=
  have h := h.countOp.slots.count
  .ite h.incSat (.ite h.opToDark h.opWrite.modHead)

theorem Keeps.opsGo {x k} (h : Keeps s t) : Keeps s (t.opsGo x k) := by
  induction k generalizing t with
  | zero => exact h
  | succ k ih =>
    unfold State.opsGo
    split
    · exact h
    · split
      · exact h
      · exact ih h.modHead.opRun

theorem Keeps.proceed {x1} (h : Keeps s t) : Keeps s (t.proceed x1) := h.opsGo

theorem Keeps.opArrive {x1 mx i p} (h : Keeps s t) : Keeps s (t.opArrive x1 mx i p) :=
  .ite h.slots (.ite h.incSat.slots h.modHead.proceed)

theorem Keeps.opFrom {x1 mx i p} (h : Keeps s t) : Keeps s (t.opFrom x1 mx i p) := .ite h.opArrive h

theorem execRectWrite_keeps {x0 i p} (h : Keeps s t) : Answers (execRectWrite x0 i p t) (Keeps s) :=
  .next h.opFrom

theorem execRectCopy_keeps {x0 i p} (h : Keeps s t) : Answers (execRectCopy x0 i p t) (Keeps s) :=
  .next h.opFrom

theorem execRectFill_keeps {x0 i p} (h : Keeps s t) : Answers (execRectFill x0 i p t) (Keeps s) :=
  .next h.opFrom

theorem execPaletteLoad_keeps {x0 i p} (h : Keeps s t) : Answers (execPaletteLoad x0 i p t) (Keeps s) :=
  .next h.opFrom

theorem execFlip_keeps {x0 i p} (h : Keeps s t) : Answers (execFlip x0 i p t) (Keeps s) := .next h.opFrom

theorem execDisplayOpDone_keeps {x0} (h : Keeps s t) : Answers (execDisplayOpDone x0 t) (Keeps s) :=
  .next h.modHead.proceed

theorem execFlipDue_keeps {x0} (h : Keeps s t) : Answers (execFlipDue x0 t) (Keeps s) :=
  .ite (.next h) <| by
    split
    · exact .next h
    · exact
        have h := h.modHead
        .ite (.next h.modHead.slots.incSat.set.set.raise.proceed) (.next h.modHead.set)

theorem Keeps.syncBack {x1} (h : Keeps s t) : Keeps s (t.syncBack x1) :=
  .ite h (.ite h.opToDark h.rectCopy.modHead)

theorem Keeps.flipAtBlank {x1} (h : Keeps s t) : Keeps s (t.flipAtBlank x1) := by
  unfold State.flipAtBlank
  split
  · exact h
  · exact .ite h (.proceed <| .when (·.syncBack) h.modHead.slots.set.set.set64.set.set.inc.set.raise.count)

theorem Keeps.loadSurfs {x1} (h : Keeps s t) : Keeps s (t.loadSurfs x1) := h.modHead.set

theorem Keeps.checkVideo {x1} (h : Keeps s t) : Keeps s (t.checkVideo x1) := by
  unfold State.checkVideo
  split
  · exact h
  · exact h.setFlag.setFlag

theorem Keeps.linkOff {x1} (h : Keeps s t) : Keeps s (t.linkOff x1) := h.modHead.set.set

theorem Keeps.startRaster {x1} (h : Keeps s t) : Keeps s (t.startRaster x1) :=
  .ite (.checkVideo <| .set <| .set <| .set <| .modHead <| .when (·.loadSurfs) h) h.set.set.set

theorem Keeps.genlockRestart {x1} (h : Keeps s t) : Keeps s (t.genlockRestart x1) := h.modHead.set

theorem Keeps.headEnable {x1 on} (h : Keeps s t) : Keeps s (t.headEnable x1 on) :=
  .ite (.when (·.genlockRestart) h.startRaster) h.modHead.set.set.set.linkOff

theorem Keeps.genlock {x1 v} (h : Keeps s t) : Keeps s (t.genlock x1 v) :=
  have h := h.setFlag
  .ite (.when (·.genlockRestart) h.startRaster) (.ite h h.modHead.set)

theorem execGenlockWrite_keeps {x0 v} (h : Keeps s t) : Answers (execGenlockWrite x0 v t) (Keeps s) :=
  .next h.genlock

theorem Keeps.measure {x1} (h : Keeps s t) : Keeps s (t.measure x1) := .ite h h.modHead.set.setFlag

theorem Keeps.lineParity {x1 y perr} (h : Keeps s t) : Keeps s (t.lineParity x1 y perr) :=
  .ite h (.when (·.incSat.raise) h.modHead.incSat.incSat.set)

theorem Keeps.blankLine {x1} (h : Keeps s t) : Keeps s (t.blankLine x1) := .when (·.emit) h.modHead

theorem execActiveLineStart_keeps {x0 perrA perrB pix} (h : Keeps s t) :
    Answers (execActiveLineStart x0 perrA perrB pix t) (Keeps s) :=
  .ite (.next h) (.ite (.next h.blankLine) (.next <| .when (·.emit) h.modHead.showHeld.lineParity))

theorem Keeps.beginFrame {x1} (h : Keeps s t) : Keeps s (t.beginFrame x1) := h.modHead.set.setFlag.showHeld
theorem Keeps.endFrame {x1} (h : Keeps s t) : Keeps s (t.endFrame x1) := .ite h h.incSat.set.set.raise
theorem Keeps.fenceBank {b n} (h : Keeps s t) : Keeps s (t.fenceBank b n) := .ite h h.set.logErr.raise

theorem Keeps.loadRaster {x1} (h : Keeps s t) : Keeps s (t.loadRaster x1) :=
  .ite h (.ite h.set (.when (·.genlockRestart) h.modHead.set.checkVideo))

theorem execVerticalBlank_keeps {x0} (h : Keeps s t) : Answers (execVerticalBlank x0 t) (Keeps s) :=
  .ite (.next h) <|
    .next h.endFrame.fenceBank.fenceBank.modHead.inc.measure.loadSurfs.loadRaster.flipAtBlank.beginFrame

theorem execLineFetchRequest_keeps {x0} (h : Keeps s t) : Answers (execLineFetchRequest x0 t) (Keeps s) :=
  have h := h.showHeld
  .ite (.next h) (have h := h.modHead.count; .next <| .ite h.emit h.adapterSend)

theorem execLineReq_keeps {i p host perr} (h : Keeps s t) : Answers (execLineReq i p host perr t) (Keeps s) := by
  unfold execLineReq
  dsimp only
  split
  · exact .next <| .emit <| .when (·.emit) <| .ite h h.incSat.incSat
  · exact .ite (.next h) <| .ite (.next h.incSat) <| .next <| .adapterSend <| .when (·.emit) <|
            .ite h h.incSat.incSat

theorem execLineData_keeps {x0 i p bad} (h : Keeps s t) : Answers (execLineData x0 i p bad t) (Keeps s) :=
  .ite (.next h) <| .ite (.next <| .when (·.slots) h.incSat) <|
    .ite (.next <| by split; exact h.upd.pendSlots; exact .ite h.slots h) <| .next <| .showHeld <| .modHead <|
    by split; exact h.upd.pendSlots; exact .ite h.slots h

theorem Keeps.dpTrain {x1} (h : Keeps s t) : Keeps s (t.dpTrain x1) :=
  have h := h.linkOff.set
  .ite h h.modHead.set.emit

theorem execDpTrain_keeps {x0} (h : Keeps s t) : Answers (execDpTrain x0 t) (Keeps s) := .next h.dpTrain

theorem execDpTrainDone_keeps {x0 ok} (h : Keeps s t) : Answers (execDpTrainDone x0 ok t) (Keeps s) :=
  .ite (.next h) (have h := h.set; .next <| .ite h.modHead.checkVideo h.set)

theorem execHpdChange_keeps {x0 level pulse} (h : Keeps s t) :
    Answers (execHpdChange x0 level pulse t) (Keeps s) :=
  .ite (.next h) (.ite (.next h.set.raise) (.ite (.next h) (.next h.setFlag.set.raise)))

theorem execHpdLoss_keeps {x0} (h : Keeps s t) : Answers (execHpdLoss x0 t) (Keeps s) :=
  .next <| .ite h h.linkOff

theorem Keeps.auxSend {x1} (h : Keeps s t) : Keeps s (t.auxSend x1) := h.emit
theorem Keeps.auxGo {x1} (h : Keeps s t) : Keeps s (t.auxGo x1) := .ite h h.set.set.modHead.auxSend
theorem execAuxGo_keeps {x0} (h : Keeps s t) : Answers (execAuxGo x0 t) (Keeps s) := .next h.auxGo

theorem execAuxDone_keeps {x0 reply d} (h : Keeps s t) : Answers (execAuxDone x0 reply d t) (Keeps s) :=
  .ite (.next h) (.ite (.next h.modHead.auxSend) (.next h.setWords.set.set.set.set.raise))

/-! ### Bridges.lean -/

theorem Keeps.brSend {i kind x3 payload body} (h : Keeps s t) : Keeps s (t.brSend i kind x3 payload body) :=
  h.adapterSend

theorem Keeps.takeToken {e} (h : Keeps s t) : Keeps s (t.takeToken e) := .when (·.modBridge) h.incSat

theorem execRateTokenRefill_keeps {e} (h : Keeps s t) : Answers (execRateTokenRefill e t) (Keeps s) :=
  .next h.modBridge

theorem Keeps.ingress {b id stamp b17 payload body miss}
    {fifo} (hfifo : ∀ {u}, Keeps s u → Keeps s (fifo u)) (h : Keeps s t) :
    Keeps s (t.ingress b id stamp b17 payload body miss fifo) := by
  unfold State.ingress
  dsimp only
  split
  · exact .when hfifo h.count.incSat.raise
  · exact have h := h.count.takeToken; .ite h.incSat.raise (.ite (hfifo h) h.brSend)

theorem Keeps.canDeliver {n id d rtr esi} (h : Keeps s t) : Keeps s (t.canDeliver n id d rtr esi) :=
  .ite h.incSat (.when (·.raise) h.modBridge)

theorem Keeps.uartPut {n c} (h : Keeps s t) : Keeps s (t.uartPut n c) :=
  .ite h.incSat.raise (.when (·.raise) h.modBridge)

theorem Keeps.uartDeliver {n l} (h : Keeps s t) : Keeps s (t.uartDeliver n l) := by
  induction l generalizing t with
  | nil => exact h
  | cons c l ih =>
    cases l with
    | nil => exact h.uartPut
    | cons => exact ih h.uartPut

theorem Keeps.popCan {n} (h : Keeps s t) : Keeps s (t.popCan n).1 := by
  unfold State.popCan
  split
  · exact h
  · dsimp only; exact h.modBridge

theorem Keeps.popUart {n} (h : Keeps s t) : Keeps s (t.popUart n).1 := by
  unfold State.popUart
  split
  · exact h
  · dsimp only; exact h.modBridge

theorem Keeps.flushCan {n} (h : Keeps s t) : Keeps s (t.flushCan n) := h.modBridge
theorem Keeps.flushUart {n} (h : Keeps s t) : Keeps s (t.flushUart n) := h.modBridge
theorem Keeps.canErr {n tec rec} (h : Keeps s t) : Keeps s (t.canErr n tec rec) := .when (·.raise) h.set.set.set

theorem execCanFrameRx_keeps {n id d rtr esi crc x6 rec} (h : Keeps s t) :
    Answers (execCanFrameRx n id d rtr esi crc x6 rec t) (Keeps s) :=
  .ite (.next h) (.next <| .ingress (·.canDeliver) h.canErr)

theorem execI2cTargetWrite_keeps {n id d x3} (h : Keeps s t) :
    Answers (execI2cTargetWrite n id d x3 t) (Keeps s) :=
  .ite (.next h) (.next <| .ingress (fun h => h) <| .ite h h.modBridge)

theorem Keeps.setMirror {n k b} (h : Keeps s t) : Keeps s (t.setMirror n k b) := h.set

theorem execI2cTargetRead_keeps {n k} (h : Keeps s t) : Answers (execI2cTargetRead n k t) (Keeps s) :=
  .ite (.next h) (.next h.emit)

theorem Keeps.uartMessage {n x2 cs} (h : Keeps s t) : Keeps s (t.uartMessage n x2 cs) := by
  unfold State.uartMessage
  exact .ingress (·.uartDeliver) <| .when (·.raise) h.incSat.incSat.incSat

theorem execUartMessageEnd_keeps {n cs x2} (h : Keeps s t) : Answers (execUartMessageEnd n cs x2 t) (Keeps s) :=
  .ite (.next h) (.next <| .foldl (·.uartMessage) h.modBridge)

theorem Keeps.gpioStamp {g lines levels x4} (h : Keeps s t) : Keeps s (t.gpioStamp g lines levels x4) :=
  .ite h h.set.set.set.set.set

theorem Keeps.gpioEdge {g lines levels x4} (h : Keeps s t) : Keeps s (t.gpioEdge g lines levels x4) :=
  .ite h (have h := Keeps.when (·.raise) h.set; .ite h (.ingress (fun h => h) h.raise.gpioStamp))

theorem Keeps.gpioShow {g} (h : Keeps s t) : Keeps s (t.gpioShow g) := h.emit

theorem Keeps.gpioSet {g mask levels} (h : Keeps s t) : Keeps s (t.gpioSet g mask levels) :=
  .ite h h.set.gpioShow

theorem Keeps.schedule {x} (h : Keeps s t) : Keeps s (t.schedule x) := .ite h.gpioSet.raise h.modBridge.set
theorem Keeps.schedPush {v} (h : Keeps s t) : Keeps s (t.schedPush v) := .ite h.incSat h.schedule

theorem execGpioSchedPush_keeps {v} (h : Keeps s t) : Answers (execGpioSchedPush v t) (Keeps s) :=
  .next h.schedPush

theorem Keeps.schedRun (h : Keeps s t) : Keeps s (t.schedRun) :=
  .foldl (fun h => .when (·.raise) h.gpioSet) h.modBridge.set

theorem execSchedOutputDue_keeps (h : Keeps s t) : Answers (execSchedOutputDue t) (Keeps s) :=
  .next <| .ite h h.schedRun

theorem Keeps.seqCheck {p} (h : Keeps s t) : Keeps s (t.seqCheck p) :=
  .ite h (by dsimp only; split; exact .ite h.modBridge.incSat.raise h.modBridge; exact h.modBridge)

theorem Keeps.brQueue {p} (h : Keeps s t) : Keeps s (t.brQueue p) :=
  .ite h.incSat.wasteAdmitted (.ite h.handOver.seqCheck.modBridge h)

theorem execBridgeEgressQueue_keeps (h : Keeps s t) : Answers (execBridgeEgressQueue t) (Keeps s) := by
  unfold execBridgeEgressQueue
  split
  · exact .next h.brQueue
  · exact .next h

theorem Keeps.heldApply (h : Keeps s t) : Keeps s (t.heldApply) := .proceed <| .proceed <| .foldl (·.brQueue) h
theorem execHeldApplyTime_keeps (h : Keeps s t) : Answers (execHeldApplyTime t) (Keeps s) := .next h.heldApply
theorem Keeps.dequeue {q} (h : Keeps s t) : Keeps s (t.dequeue q) := h.modBridge.count

theorem Keeps.respond {q status d ahead} (h : Keeps s t) : Keeps s (t.respond q status d ahead) :=
  .ite h h.brSend

theorem execSemAcq_keeps (h : Keeps s t) : Answers (execSemAcq t) (Keeps s) := by
  unfold execSemAcq
  split
  · exact .next h
  · exact
      have h := h.dequeue
      .ite (.next h.respond) (.ite (.next h.set.set.set.set.set.respond) (.next h.respond))

theorem execSemRel_keeps (h : Keeps s t) : Answers (execSemRel t) (Keeps s) := by
  unfold execSemRel
  split
  · exact .next h
  · exact have h := h.dequeue; .ite (.next h.respond) (.ite (.next h.semFree.respond) (.next h.respond))

theorem execSemTimeout_keeps {k} (h : Keeps s t) : Answers (execSemTimeout k t) (Keeps s) := .next h.semBreak
theorem execSemBreak_keeps {k} (h : Keeps s t) : Answers (execSemBreak k t) (Keeps s) := .next h.semBreak
theorem Keeps.holdAfter {q} (h : Keeps s t) : Keeps s (t.holdAfter q) := .ite h (.ite h.modBridge.set h.freeBus)
theorem Keeps.winEmit {b q d} (h : Keeps s t) : Keeps s (t.winEmit b q d) := h.emit

theorem Keeps.busDone {b r} (h : Keeps s t) : Keeps s (t.busDone b r) :=
  .ite (.raise <| .when (·.incSat) <| .when (·.incSat.raise) h) (.ite h.raise h)

theorem Keeps.canSend {n id rtr d} (h : Keeps s t) : Keeps s (t.canSend n id rtr d) := .ite h.incSat h.emit
theorem Keeps.uartSend {n cs} (h : Keeps s t) : Keeps s (t.uartSend n cs) := .emit <| .when (·.emit.modBridge) h

theorem Keeps.mirrorWrite {n start d} (h : Keeps s t) : Keeps s (t.mirrorWrite n start d) :=
  .foldl (·.setMirror) h

theorem Keeps.busWrite {q r tec} (h : Keeps s t) : Keeps s (t.busWrite q r tec) :=
  .ite h.dequeue.canDeliver <| .ite h.dequeue.uartDeliver <| .ite h.dequeue.mirrorWrite <| .ite h.dequeue <|
    .ite h <| .ite (.ite h (have h := h.canErr; .ite h.dequeue.canSend h)) <|
    .ite (.ite (.ite h.dequeue.winEmit.holdAfter.busDone h.dequeue) h.dequeue.emit.holdAfter.busDone) <|
    .ite h.dequeue.uartSend h.dequeue.emit.holdAfter.busDone

theorem execBridgeWrite_keeps {b r tec} (h : Keeps s t) : Answers (execBridgeWrite b r tec t) (Keeps s) := by
  unfold execBridgeWrite
  split
  · exact .next h
  · exact .ite (.next h.dequeue) (.ite (.next h.busWrite) (.next h.dequeue.incSat))

theorem Keeps.busRead {q r d} (h : Keeps s t) : Keeps s (t.busRead q r d) :=
  have h := h.dequeue
  .ite h.respond (.ite (.ite h.winEmit.holdAfter.busDone.respond h.respond) h.emit.holdAfter.busDone.respond)

theorem execBridgeRead_keeps {b r d} (h : Keeps s t) : Answers (execBridgeRead b r d t) (Keeps s) := by
  unfold execBridgeRead
  split
  · exact .next h
  · exact .ite (.next h.dequeue.respond) (.ite (.next h) (.next h.busRead))

theorem execI2cStretchTimeout_keeps {n} (h : Keeps s t) : Answers (execI2cStretchTimeout n t) (Keeps s) := by
  unfold execI2cStretchTimeout
  split
  · exact .next h
  · exact have h := h.dequeue.holdAfter.busDone; .next <| .ite h.respond h

theorem execBridgeEdge_keeps (h : Keeps s t) : Answers (execBridgeEdge t) (Keeps s) := by
  unfold execBridgeEdge
  split
  · exact .next h
  · exact .next <| .ite h.dequeue.emit h.dequeue

theorem execBridgeSet_keeps (h : Keeps s t) : Answers (execBridgeSet t) (Keeps s) := by
  unfold execBridgeSet
  split
  · exact .next h
  · exact .ite (.next h.dequeue) (.ite (.ite (.next h) (.next h.dequeue.schedule)) (.next h.dequeue.gpioSet))

theorem execWrappedEgress_keeps {b good} (h : Keeps s t) : Answers (execWrappedEgress b good t) (Keeps s) := by
  unfold execWrappedEgress
  split
  · exact .next h
  · exact
      have h' := h.dequeue
      .ite (.next h') <| by
        split
        · exact .ite (.next h'.incSat) (.ite (.next h'.canDeliver) (.ite (.next h) (.next h'.canSend)))
        · exact .next <| .foldl (fun h => .ite h.mirrorWrite h.emit.busDone) h'
        · exact .next <| .ite h'.uartDeliver h'.uartSend
        · exact .next h'.gpioSet
        · exact .next h'

theorem execCanTxTimeout_keeps {n} (h : Keeps s t) : Answers (execCanTxTimeout n t) (Keeps s) := by
  unfold execCanTxTimeout
  split
  · exact .next h.dequeue.incSat
  · exact .next h

theorem Keeps.canRecover {n} (h : Keeps s t) : Keeps s (t.canRecover n) := h.set.set.set

theorem execCanBusOffRecovery_keeps {n} (h : Keeps s t) : Answers (execCanBusOffRecovery n t) (Keeps s) :=
  .next <| .ite h.canRecover h

theorem Keeps.dropAhead {i cause} (h : Keeps s t) : Keeps s (t.dropAhead i cause) := by
  unfold State.dropAhead
  split
  · exact h
  · exact h.modBridge.set.set.set.set.set.set.set.incSat.slots.raise

theorem execReadAheadDiscard_keeps {i cause} (h : Keeps s t) :
    Answers (execReadAheadDiscard i cause t) (Keeps s) :=
  .next <| .ite h h.dropAhead

theorem execReadAheadAge_keeps {i} (h : Keeps s t) : Answers (execReadAheadAge i t) (Keeps s) :=
  .next h.dropAhead

theorem Keeps.aheadMeets {i bus id op} (h : Keeps s t) : Keeps s (t.aheadMeets i bus id op) := by
  unfold State.aheadMeets
  split
  · exact h
  · exact .ite h.dropAhead (.ite h.dropAhead (.ite h.dropAhead h))

theorem Keeps.xferStart {x} (h : Keeps s t) : Keeps s (t.xferStart x) := by
  unfold State.xferStart
  exact h.modBridge.adapterSend.modBridge

theorem Keeps.xferGo {tag} (h : Keeps s t) : Keeps s (t.xferGo tag) :=
  .ite h.incSat
    (have h := h.resAccept.count.set
     .ite h.xferEnd <| by
       split
       · exact h.incSat.raise.xferEnd
       · exact
           have h := h.takeToken
           .ite h.incSat.raise.xferEnd <|
             by dsimp only; split; exact h.modBridge.xferEnd; exact h.aheadMeets.xferStart)

theorem execXferGo_keeps {tag} (h : Keeps s t) : Answers (execXferGo tag t) (Keeps s) := .next h.xferGo

theorem execXferTimeout_keeps (h : Keeps s t) : Answers (execXferTimeout t) (Keeps s) := by
  unfold execXferTimeout
  split
  · exact .next <| .ite h.xferEnd h
  · exact .next h

theorem Keeps.keepAhead {x q d} (h : Keeps s t) : Keeps s (t.keepAhead x q d) := .ite h h.modBridge

theorem execBridgeResp_keeps (h : Keeps s t) : Answers (execBridgeResp t) (Keeps s) := by
  unfold execBridgeResp
  split
  · exact .next h
  · dsimp only
    split
    · exact .next h.dequeue
    · exact .ite (.next h.dequeue) (.ite (.next h.dequeue.modBridge.slots) (.next h.dequeue.keepAhead.xferEnd))

theorem Keeps.takeBack {i w} (h : Keeps s t) : Keeps s (t.takeBack i w) :=
  have h := Keeps.foldl (·.wasteWaiting.upd) h
  .ite h h.upd

theorem Keeps.retract {i b} (h : Keeps s t) : Keeps s (t.retract i b) := by
  unfold State.retract
  dsimp only
  split
  · exact .ite
            (.ite (by split; exact h.freeBus; exact h)
               (.setWords <| .resDone <| .modBridge <|
                  by split; exact h.takeBack.incSat.freeBus; exact h.takeBack.incSat))
            (.ite (by split; exact h.freeBus; exact h)
               (.modBridge <| by split; exact h.takeBack.incSat.freeBus; exact h.takeBack.incSat))
  · exact .ite (by split; exact h.freeBus; exact h)
            (.modBridge <| by split; exact h.takeBack.incSat.freeBus; exact h.takeBack.incSat)

theorem execYieldConflict_keeps {i hub depth b} (h : Keeps s t) :
    Answers (execYieldConflict i hub depth b t) (Keeps s) :=
  .next <| .ite h.retract h

theorem execRetractRestart_keeps {i} (h : Keeps s t) : Answers (execRetractRestart i t) (Keeps s) :=
  .next <| .foldl (fun h => .ite h.arrive h.adapterSend) h.modBridge

/-! ### Eyelet.lean -/

theorem Keeps.modCtp {n f} (h : Keeps s t) : Keeps s (t.modCtp n f) := h.upd
theorem Keeps.modChan {c f} (h : Keeps s t) : Keeps s (t.modChan c f) := h.upd
theorem Keeps.showChan {c} (h : Keeps s t) : Keeps s (t.showChan c) := .setFlag <| .setFlag <| .when (·.set) h
theorem Keeps.refreshFeeds (h : Keeps s t) : Keeps s (t.refreshFeeds) := .ite h h.setFlag.setFlag.incSat.raise
theorem Keeps.setSupply {n level} (h : Keeps s t) : Keeps s (t.setSupply n level) := h.modCtp.emit
theorem Keeps.discharge {c b} (h : Keeps s t) : Keeps s (t.discharge c b) := .ite h h.modChan.emit
theorem Keeps.tryOn {c} (h : Keeps s t) : Keeps s (t.tryOn c) := .ite h h.discharge.modChan.set.set.refreshFeeds

theorem Keeps.startBase {n} (h : Keeps s t) : Keeps s (t.startBase n) :=
  .ite (.ite h.modCtp.set h.setSupply.modCtp.set.showChan.tryOn) h.modCtp.set

theorem Keeps.resumeBase {n} (h : Keeps s t) : Keeps s (t.resumeBase n) := .when (·.startBase) h
theorem Keeps.chanOff {c} (h : Keeps s t) : Keeps s (t.chanOff c) := .ite h.modChan.set.refreshFeeds h

theorem execChannelCommandedOn_keeps {c} (h : Keeps s t) : Answers (execChannelCommandedOn c t) (Keeps s) :=
  .next h.tryOn

theorem Keeps.showRamp {c} (h : Keeps s t) : Keeps s (t.showRamp c) := h.set

theorem execRampComplete_keeps {c} (h : Keeps s t) : Answers (execRampComplete c t) (Keeps s) :=
  .next <| .ite h.showRamp.set h

theorem Keeps.dropContract {n} (h : Keeps s t) : Keeps s (t.dropContract n) := h.set.set.set.set

theorem Keeps.trip {c cause why} (h : Keeps s t) : Keeps s (t.trip c cause why) :=
  .ite h
    (have h :=
       Keeps.raise <| .when (·.set) <| .incSat <| .set <| .set <| .set <| .set <| .set <| .modChan <|
         .when (·.showRamp) h
     .refreshFeeds <|
       .dite (fun _ => .showChan <| .when (·.set) <| .when (·.setSupply) h.dropContract) (fun _ => h))

theorem Keeps.tripIn {c why cause} (h : Keeps s t) : Keeps s (t.tripIn c why cause) := .ite h.trip h.trip

theorem execRampNoRise_keeps {c} (h : Keeps s t) : Answers (execRampNoRise c t) (Keeps s) :=
  .next <| .ite h.trip h

theorem execRampTmo_keeps {c} (h : Keeps s t) : Answers (execRampTmo c t) (Keeps s) := .next <| .ite h.trip h

theorem execCurveTrip_keeps {c k} (h : Keeps s t) : Answers (execCurveTrip c k t) (Keeps s) :=
  .next <| .ite h.trip.set h

theorem execFastTrip_keeps {c} (h : Keeps s t) : Answers (execFastTrip c t) (Keeps s) := .next h.tripIn

theorem execOverVoltage_keeps {c} (h : Keeps s t) : Answers (execOverVoltage c t) (Keeps s) :=
  .next <| .when (·.set) h.trip

theorem execFeedUnderVoltage_keeps {f} (h : Keeps s t) : Answers (execFeedUnderVoltage f t) (Keeps s) :=
  .next h.set.chanOff

theorem execFeedWindowRecover_keeps {f} (h : Keeps s t) : Answers (execFeedWindowRecover f t) (Keeps s) :=
  have h := h.set
  .next <| .ite h h.tryOn

theorem Keeps.writeFeedMode {v} (h : Keeps s t) : Keeps s (t.writeFeedMode v) :=
  .foldl (fun h => .ite h.chanOff h) <| .foldl (·.tryOn) h.set

theorem Keeps.writeSense {c v} (h : Keeps s t) : Keeps s (t.writeSense c v) :=
  have h := h.set
  .ite h.chanOff h.tryOn

theorem execReverseCurrent_keeps {c} (h : Keeps s t) : Answers (execReverseCurrent c t) (Keeps s) :=
  .ite (.next h.trip) (.next <| .ite h.set.refreshFeeds h)

theorem execFeedForwardBias_keeps {f} (h : Keeps s t) : Answers (execFeedForwardBias f t) (Keeps s) :=
  .next <| .ite h.set.refreshFeeds h

theorem execThermalModelStep_keeps {c i vp vb tdie ntc} (h : Keeps s t) :
    Answers (execThermalModelStep c i vp vb tdie ntc t) (Keeps s) :=
  have h :=
    Keeps.when (·.set) <| .setFlag <| .set <| .set <| .set <| .when (·.discharge) <| .modChan <|
      .when (·.useFree) <| .when (·.set) h.set.set.set.set
  have h := Keeps.when (·.raise) <| .dite (fun _ => h.resumeBase) (fun _ => h)
  .next <| .showChan <| .ite h.trip (.ite h.tripIn h)

theorem Keeps.toggle {c} (h : Keeps s t) : Keeps s (t.toggle c) :=
  .ite h (have h := h.modChan.set; .ite h.set h.tryOn)

theorem execChannelToggle_keeps {c} (h : Keeps s t) : Answers (execChannelToggle c t) (Keeps s) :=
  .next h.toggle

theorem Keeps.writeOn {c v} (h : Keeps s t) : Keeps s (t.writeOn c v) :=
  have h := h.setFlag
  .ite (.ite h.toggle h.tryOn) (.ite h.modChan.set.set h.modChan.chanOff)

theorem Keeps.retry {c} (h : Keeps s t) : Keeps s (t.retry c) := .ite h (.ite h.toggle h.useFree.upd)

theorem execCoolDownEnd_keeps {c} (h : Keeps s t) : Answers (execCoolDownEnd c t) (Keeps s) :=
  .ite
    (.next <| .retry <|
       .dite (fun _ => h.set.set.raise.set.tryOn.resumeBase) (fun _ => h.set.set.raise.set.tryOn)) (.next h)

theorem execFetFailCheck_keeps {c} (h : Keeps s t) : Answers (execFetFailCheck c t) (Keeps s) :=
  .ite (.next <| .when (·.set) h.modChan.set.set.raise) (.next h)

theorem execFeedSwitchover_keeps {f} (h : Keeps s t) : Answers (execFeedSwitchover f t) (Keeps s) :=
  .next <| .ite h.modChan.set.refreshFeeds h

theorem execPrimaryTakeback_keeps (h : Keeps s t) : Answers (execPrimaryTakeback t) (Keeps s) :=
  .ite (.next h.modChan.set.modChan.set.refreshFeeds) (.next h)

theorem Keeps.warnFrames (h : Keeps s t) : Keeps s (t.warnFrames) := .foldl (·.sendFrame) h
theorem Keeps.powerWarn (h : Keeps s t) : Keeps s (t.powerWarn) := .warnFrames <| .foldl (·.sendTack) h.upd
theorem Keeps.warnTick (h : Keeps s t) : Keeps s (t.warnTick) := .ite h.warnFrames h

theorem Keeps.pfail {uv fall followed external} (h : Keeps s t) : Keeps s (t.pfail uv fall followed external) :=
  h.set.setFlag.setFlag.setFlag.setFlag.incSat.raise

theorem execPfailAssert_keeps {uv fall} (h : Keeps s t) : Answers (execPfailAssert uv fall t) (Keeps s) :=
  .ite (.next h) (.next h.pfail.emit.powerWarn)

theorem execPfailHoldEnd_keeps (h : Keeps s t) : Answers (execPfailHoldEnd t) (Keeps s) :=
  .ite (.next h) (have h := h.set; .next <| .ite h.upd.emit h)

theorem execPwarnRx_keeps {n} (h : Keeps s t) : Answers (execPwarnRx n t) (Keeps s) :=
  have h := h.raise
  .ite (.next h.pfail.emit.powerWarn) (.next h)

/-! ### Contracts.lean -/

theorem Keeps.sampleCfg {n v1 v2} (h : Keeps s t) : Keeps s (t.sampleCfg n v1 v2) := h.modCtp
theorem Keeps.ctpFrame {n typ id objs} (h : Keeps s t) : Keeps s (t.ctpFrame n typ id objs) := h.emit
theorem Keeps.ctpStart {n m} (h : Keeps s t) : Keeps s (t.ctpStart n m) := h.modCtp.ctpFrame
theorem Keeps.ctpTx {n m} (h : Keeps s t) : Keeps s (t.ctpTx n m) := .ite h.modCtp h.ctpStart
theorem Keeps.ctpSay {n typ objs} (h : Keeps s t) : Keeps s (t.ctpSay n typ objs) := h.ctpTx
theorem Keeps.txEnd {n outcome} (h : Keeps s t) : Keeps s (t.txEnd n outcome) := h.set.set

theorem Keeps.ctpNext {n} (h : Keeps s t) : Keeps s (t.ctpNext n) := by
  unfold State.ctpNext
  dsimp only
  split
  · exact .ctpStart <| .when (·.txEnd) h.modCtp
  · exact .when (·.txEnd) h.modCtp
  · exact h

theorem Keeps.seqStart {n m} (h : Keeps s t) : Keeps s (t.seqStart n m) :=
  .ite h.set.modCtp (.ite h.ctpTx h.modCtp)

theorem Keeps.ctpLaunch {n m} (h : Keeps s t) : Keeps s (t.ctpLaunch n m) :=
  .ite (.when (·.set) <| .when (·.txEnd) h) h.ctpTx

theorem Keeps.seqEnd {n} (h : Keeps s t) : Keeps s (t.seqEnd n) := by
  unfold State.seqEnd
  dsimp only
  split
  · exact .ite h.modCtp.ctpLaunch h.modCtp.modCtp
  · exact .when (·.set) h.modCtp

theorem Keeps.setShed {n b} (h : Keeps s t) : Keeps s (t.setShed n b) := h.modCtp.emit

theorem Keeps.writeContract {n volt cur base} (h : Keeps s t) : Keeps s (t.writeContract n volt cur base) :=
  h.set.set.setFlag.inc.raise.showChan

theorem Keeps.writeBase {n} (h : Keeps s t) : Keeps s (t.writeBase n) := h.set.writeContract.tryOn

theorem Keeps.powerOff {n} (h : Keeps s t) : Keeps s (t.powerOff n) :=
  .showChan <| .dropContract <| .modCtp <| .when (·.discharge) <| .when (·.setSupply) h.chanOff

theorem Keeps.cutLevels {n before} (h : Keeps s t) : Keeps s (t.cutLevels n before) :=
  .when (fun h => .when (·.set) h.powerOff.set) h

theorem Keeps.hardReset {n cause send} (h : Keeps s t) : Keeps s (t.hardReset n cause send) :=
  .ite h <| .showChan <| .raise <| .set <| .incSat <| .set <| .set <| .set <| .when (·.txEnd) <|
    .when (·.modCtp) <| .modCtp <| .powerOff <| .when (·.ctpFrame.ctpFrame) h

theorem Keeps.settleRev {n rev} (h : Keeps s t) : Keeps s (t.settleRev n rev) :=
  .ite h.set.modCtp.modLane (.ite h.set h)

theorem execCtpHardResetRx_keeps {m} (h : Keeps s t) : Answers (execCtpHardResetRx m t) (Keeps s) :=
  .next <| .hardReset <| .when (·.settleRev) h

theorem execCtpHardResetCmd_keeps {n} (h : Keeps s t) : Answers (execCtpHardResetCmd n t) (Keeps s) :=
  .next h.hardReset

theorem execHardResetHoldEnd_keeps {n} (h : Keeps s t) : Answers (execHardResetHoldEnd n t) (Keeps s) :=
  .ite (.next <| .when (·.startBase) h.set) (.next h)

theorem execHardResetStuck_keeps {n} (h : Keeps s t) : Answers (execHardResetStuck n t) (Keeps s) :=
  .next <| .ite h.set h

theorem Keeps.showClass {n} (h : Keeps s t) : Keeps s (t.showClass n) := .when (·.set.set.set) h

theorem Keeps.attachPort {n wire} (h : Keeps s t) : Keeps s (t.attachPort n wire) :=
  .when (·.startBase) <| .when (·.ctpSay) h.modCtp.set.set.set.set.setFlag.raise.showClass.modLane.bringUp

theorem Keeps.sourceAttach {n v1 v2} (h : Keeps s t) : Keeps s (t.sourceAttach n v1 v2) :=
  .ite h (have h := h.sampleCfg; .ite h.attachPort (.ite h.attachPort h))

theorem Keeps.sinkAttach {n v} (h : Keeps s t) : Keeps s (t.sinkAttach n v) :=
  .ite h (have h := h.sampleCfg; .ite h.attachPort.setFlag h)

theorem execDbAttach_keeps {v} (h : Keeps s t) : Answers (execDbAttach v t) (Keeps s) :=
  .next <| .ite h (.when (·.set) h.sinkAttach)

theorem execCfgReadingChange_keeps {n v1 v2} (h : Keeps s t) :
    Answers (execCfgReadingChange n v1 v2 t) (Keeps s) :=
  have h := h.sampleCfg
  .ite (.ite (.next h) (have h := h.setFlag; .next <| .ite h.seqEnd h))
    (.ite (.next h.setFlag.setFlag.set) (.next h.set))

theorem Keeps.detachPort {n} (h : Keeps s t) : Keeps s (t.detachPort n) :=
  .ite h <| .showChan <| .toggle <| .linkDown <| .modLane <| .showClass <| .resetFlds <| .set <| .set <|
    .modCtp <| .when (·.set) <| .when (·.setShed) <| .when (·.txEnd) h.powerOff.raise

theorem Keeps.writeWiredRole {n v} (h : Keeps s t) : Keeps s (t.writeWiredRole n v) :=
  .ite h.modCtp h.set.set.set.showChan

theorem execInfoRetry_keeps {n} (h : Keeps s t) : Answers (execInfoRetry n t) (Keeps s) :=
  .next <| .ite h.ctpSay h

theorem execBaseContractPg_keeps {n} (h : Keeps s t) : Answers (execBaseContractPg n t) (Keeps s) :=
  .next <| .ite h.set.writeBase h

theorem execSinkPowerGood_keeps {n} (h : Keeps s t) : Answers (execSinkPowerGood n t) (Keeps s) :=
  .ite (.next h) (.ite (.next h.set.writeBase) (.ite (.next h.writeBase) (.next h)))

theorem Keeps.ringPush {n w objs} (h : Keeps s t) : Keeps s (t.ringPush n w objs) :=
  .ite h.incSat h.setWords.inc

theorem Keeps.ctpRx {n w objs pass} {act} (hact : ∀ {u}, Keeps s u → Keeps s (act u)) (h : Keeps s t) :
    Keeps s (t.ctpRx n w objs pass act) :=
  .ite h
    (have h := h.settleRev.ctpFrame
     .ite h (have h := h.modCtp; .ite h.ringPush.modCtp (hact <| .when (·.ringPush) h)))

theorem execInfoRx_keeps {n w o} (h : Keeps s t) : Answers (execInfoRx n w o t) (Keeps s) :=
  .next <| .ctpRx (·.set.set.set.set.set.showClass) h

theorem execCapsRx_keeps {n w objs} (h : Keeps s t) : Answers (execCapsRx n w objs t) (Keeps s) :=
  .next <| .ctpRx (fun h => .ite h h.modCtp) h

theorem execRequestRx_keeps {n w o} (h : Keeps s t) : Answers (execRequestRx n w o t) (Keeps s) :=
  .next <| .ctpRx (fun h => .ite h (.ite h.modCtp h.modCtp.ctpSay)) h

theorem Keeps.transitionStart {n} (h : Keeps s t) : Keeps s (t.transitionStart n) :=
  .when (·.setShed.showChan) h.set.modCtp

theorem Keeps.swapStart {n} (h : Keeps s t) : Keeps s (t.swapStart n) := h.modCtp.set.powerOff

theorem execAcceptRx_keeps {n w} (h : Keeps s t) : Answers (execAcceptRx n w t) (Keeps s) :=
  .next <| .ctpRx (fun h => .ite h.transitionStart (.ite h.swapStart h)) h

theorem execRejectOrWaitRx_keeps {n w} (h : Keeps s t) : Answers (execRejectOrWaitRx n w t) (Keeps s) :=
  .next <| .ctpRx (fun h => .ite h.seqEnd h) h

theorem Keeps.payWait {n} (h : Keeps s t) : Keeps s (t.payWait n) := .foldl (·.ctpSay) h.modCtp

theorem execReadyRx_keeps {n w} (h : Keeps s t) : Answers (execReadyRx n w t) (Keeps s) :=
  .next <|
    .ctpRx
      (fun h =>
         .ite h.set.setShed.writeContract.seqEnd.payWait <| .ite h.set.modCtp.showChan.resumeBase <|
           .ite h.modCtp.set.set.raise.seqEnd h) h

theorem Keeps.useOffers (h : Keeps s t) : Keeps s (t.useOffers) := h.upd

theorem execGetCapsRx_keeps {n w} (h : Keeps s t) : Answers (execGetCapsRx n w t) (Keeps s) :=
  .next <| .ctpRx (fun h => .ite h.useOffers.ctpTx h) h

theorem execSwapReqRx_keeps {n w} (h : Keeps s t) : Answers (execSwapReqRx n w t) (Keeps s) :=
  .next <| .ctpRx (fun h => .ite h.ctpSay h.modCtp) h

theorem execReservedTypeRx_keeps {n w objs} (h : Keeps s t) : Answers (execReservedTypeRx n w objs t) (Keeps s) :=
  .next <| .ctpRx (·.ctpSay) h

theorem Keeps.ackedMsg {n m} (h : Keeps s t) : Keeps s (t.ackedMsg n m) :=
  .ite h.modCtp (.ite h.transitionStart (.ite h.swapStart (.ite h.modCtp.seqEnd (.ite h.seqEnd h))))

theorem execCtpAckRx_keeps {n w} (h : Keeps s t) : Answers (execCtpAckRx n w t) (Keeps s) := by
  unfold execCtpAckRx
  dsimp only
  split
  · exact .ite (.next <| .ctpNext <| .ackedMsg <| .when (·.txEnd) h.settleRev.modCtp) (.next h)
  · exact .next h

theorem execCtpAckTimeout_keeps {n} (h : Keeps s t) : Answers (execCtpAckTimeout n t) (Keeps s) := by
  unfold execCtpAckTimeout
  dsimp only
  split
  · exact .next h
  · exact .ite (.next <| .ctpNext <| .when (·.seqEnd) <| .when (·.txEnd) h.modCtp)
            (.ite (.next h.modCtp.ctpFrame)
               (have h := Keeps.when (·.txEnd) h.modCtp
                .ite (.next h.hardReset) (.ite (.next h.ctpNext) (.next h.seqEnd.ctpNext))))

theorem execSequenceLevelWait_keeps {n} (h : Keeps s t) : Answers (execSequenceLevelWait n t) (Keeps s) := by
  unfold execSequenceLevelWait
  split
  · exact .next <| .ite h.modCtp.ctpLaunch h
  · exact .next h

theorem execSequenceTimeout_keeps {n} (h : Keeps s t) : Answers (execSequenceTimeout n t) (Keeps s) :=
  .next <| .ite h.modCtp.seqEnd h

theorem Keeps.ctpSend {n} (h : Keeps s t) : Keeps s (t.ctpSend n) :=
  .ite h (.ite h.hardReset (.ite h.txEnd (have h := h.set.set; .ite h.seqStart h.ctpTx)))

theorem execCtpSend_keeps {n} (h : Keeps s t) : Answers (execCtpSend n t) (Keeps s) := .next h.ctpSend

theorem execTransitionSetLevel_keeps {n} (h : Keeps s t) : Answers (execTransitionSetLevel n t) (Keeps s) := by
  unfold execTransitionSetLevel
  dsimp only
  split
  · exact .next <| .ite (.modCtp <| .when (·.setSupply) h) h
  · exact .next h

theorem execTransitionReady_keeps {n} (h : Keeps s t) : Answers (execTransitionReady n t) (Keeps s) := by
  unfold execTransitionReady
  dsimp only
  split
  · exact .next <| .ite h.set.writeContract.ctpSay.payWait h
  · exact .next h

theorem execNoReadyTimeout_keeps {n} (h : Keeps s t) : Answers (execNoReadyTimeout n t) (Keeps s) :=
  .next <| .ite h.hardReset h

theorem execTransitionBandExit_keeps {n} (h : Keeps s t) : Answers (execTransitionBandExit n t) (Keeps s) :=
  .next <| .ite h.hardReset h

theorem execSinkWindowExit_keeps {n} (h : Keeps s t) : Answers (execSinkWindowExit n t) (Keeps s) :=
  .next <| .ite h.hardReset h

theorem execSwapOldSourceOff_keeps {n} (h : Keeps s t) : Answers (execSwapOldSourceOff n t) (Keeps s) :=
  .next <| .ite h.set.modCtp.showChan.ctpSay h

theorem execSwapNewSourcePg_keeps {n} (h : Keeps s t) : Answers (execSwapNewSourcePg n t) (Keeps s) :=
  .next <| .ite h.modCtp.set.set.writeBase.raise.set.ctpSay h

theorem execSwapTimeout_keeps {n} (h : Keeps s t) : Answers (execSwapTimeout n t) (Keeps s) :=
  .next <| .ite h.hardReset h

theorem execLocalPgHandover_keeps (h : Keeps s t) : Answers (execLocalPgHandover t) (Keeps s) := .next h.upd.set

theorem execLocalPgFall_keeps (h : Keeps s t) : Answers (execLocalPgFall t) (Keeps s) :=
  have h := h.upd
  .next <| .ite h.upd.set h

theorem Keeps.ctpRenegotiate {n} (h : Keeps s t) : Keeps s (t.ctpRenegotiate n) :=
  .ite h (.ite h.useOffers.seqStart h.seqStart)

theorem Keeps.ctpSwap {n} (h : Keeps s t) : Keeps s (t.ctpSwap n).1 := .ite_fst h (.ite_fst h.seqStart h)

/-! ### Secure.lean -/

theorem Keeps.modSec {f} (h : Keeps s t) : Keeps s (t.modSec f) := h.upd

theorem Keeps.showFuses (h : Keeps s t) : Keeps s (t.showFuses) :=
  .setWords <| .foldl (·.setFlag) h.set.set.setFlag.set.set.set.set.set.set.set

theorem Keeps.blowBytes {o d} (h : Keeps s t) : Keeps s (t.blowBytes o d) := .foldl (·.blow) h
theorem Keeps.blowField {o d} (h : Keeps s t) : Keeps s (t.blowField o d) := .foldl (·.blow) h.blowBytes
theorem Keeps.raiseRollback {o v} (h : Keeps s t) : Keeps s (t.raiseRollback o v) := .ite h.blowBytes h

theorem Keeps.putSlot {b k x} (h : Keeps s t) : Keeps s (t.putSlot b k x) :=
  .dite (fun _ => h.modFlash) (fun _ => h)

theorem Keeps.showBank {b} (h : Keeps s t) : Keeps s (t.showBank b) := h.set.set.set.set.setFlag.setFlag.set

theorem Keeps.writeRecord {bank} (h : Keeps s t) : Keeps s (t.writeRecord bank) := by
  unfold State.writeRecord
  exact h.modFlash

theorem Keeps.loadSlot {k typ origin masters lcs uses v} (h : Keeps s t) :
    Keeps s (t.loadSlot k typ origin masters lcs uses v) :=
  h.modSec.set.set.set.set.set.set.set

theorem Keeps.clearSlot {k} (h : Keeps s t) : Keeps s (t.clearSlot k) := h.modSec.resetFlds
theorem Keeps.dropIdentity (h : Keeps s t) : Keeps s (t.dropIdentity) := h.upd.setWords

theorem Keeps.clearKeys (h : Keeps s t) : Keeps s (t.clearKeys) :=
  .set <| .set <| .dropIdentity <| .modSec <| .foldl (·.clearSlot) h

theorem Keeps.clearForLevel {level} (h : Keeps s t) : Keeps s (t.clearForLevel level) :=
  .ite h.clearKeys.modSec (.ite (.set <| .modSec <| .foldl (·.clearSlot) h) h)

theorem Keeps.latchRoot {root} (h : Keeps s t) : Keeps s (t.latchRoot root) := h.modSec.set

theorem Keeps.regenerate {good} (h : Keeps s t) : Keeps s (t.regenerate good) :=
  .ite h (by dsimp only; split; exact h.latchRoot.set; exact h.set)

theorem Keeps.enrol {ok} (h : Keeps s t) : Keeps s (t.enrol ok) :=
  have h := h.useRandom
  .ite h h.modFlash.blowBytes.showFuses.latchRoot

theorem Keeps.extend {item} (h : Keeps s t) : Keeps s (t.extend item) := h.setWords

theorem Keeps.deriveSlots (h : Keeps s t) : Keeps s t.deriveSlots := by
  unfold State.deriveSlots
  refine .ite (.set h.setWords.extend.extend.extend) (.set ?_)
  dsimp only
  split
  · exact h.setWords.extend.extend.extend
  · refine .setWords <| .upd <| .ite ?_ (.loadSlot <| .loadSlot ?_) <;>
      exact h.setWords.extend.extend.extend.loadSlot.loadSlot.loadSlot

theorem Keeps.keyEnd {tag status} (h : Keeps s t) : Keeps s (t.keyEnd tag status) := h.modSec
theorem Keeps.keyDenied {tag} (h : Keeps s t) : Keeps s (t.keyDenied tag) := h.raise.keyEnd

theorem Keeps.keyGenerate {m tag k} (h : Keeps s t) : Keeps s (t.keyGenerate m tag k) :=
  have h := h.resAccept
  .ite h.keyEnd (.ite h.keyDenied h.useRandom.loadSlot.keyEnd)

theorem Keeps.countUse {k} (h : Keeps s t) : Keeps s (t.countUse k) := h.incSat.count

theorem Keeps.keyDerive {m tag src k} (h : Keeps s t) : Keeps s (t.keyDerive m tag src k) :=
  have h := h.resAccept
  .ite h.keyEnd (.ite h.keyDenied h.countUse.loadSlot.keyEnd)

theorem Keeps.keyEcdh {m tag src k} (h : Keeps s t) : Keeps s (t.keyEcdh m tag src k) :=
  have h := h.resAccept
  .ite h.keyEnd (.ite h.keyDenied (by split; exact h.keyEnd; exact h.countUse.loadSlot.keyEnd))

theorem Keeps.keyUnwrap {m tag src k} (h : Keeps s t) : Keeps s (t.keyUnwrap m tag src k) :=
  have h := h.resAccept
  .ite h.keyEnd (.ite h.keyDenied (by split; exact h.keyEnd; exact h.countUse.loadSlot.keyEnd))

theorem Keeps.keyClear {m tag k} (h : Keeps s t) : Keeps s (t.keyClear m tag k) :=
  have h := h.resAccept
  .ite h.keyEnd (.ite h.clearSlot.keyEnd h.keyDenied)

theorem Keeps.keyPublic {m tag src} (h : Keeps s t) : Keeps s (t.keyPublic m tag src) :=
  have h := h.resAccept
  .ite h.keyDenied (.ite h.keyEnd h.setWords.keyEnd)

theorem execKeyGenerate_keeps {m tag k} (h : Keeps s t) : Answers (execKeyGenerate m tag k t) (Keeps s) :=
  .next h.keyGenerate

theorem execKeyDerive_keeps {m tag src k} (h : Keeps s t) : Answers (execKeyDerive m tag src k t) (Keeps s) :=
  .next h.keyDerive

theorem execKeyEcdh_keeps {m tag src k} (h : Keeps s t) : Answers (execKeyEcdh m tag src k t) (Keeps s) :=
  .next h.keyEcdh

theorem execKeyUnwrap_keeps {m tag src k} (h : Keeps s t) : Answers (execKeyUnwrap m tag src k t) (Keeps s) :=
  .next h.keyUnwrap

theorem execKeyClear_keeps {m tag k} (h : Keeps s t) : Answers (execKeyClear m tag k t) (Keeps s) :=
  .next h.keyClear

theorem execKeyPublic_keeps {m tag src} (h : Keeps s t) : Answers (execKeyPublic m tag src t) (Keeps s) :=
  .next h.keyPublic

theorem Keeps.keyOp {m v} (h : Keeps s t) : Keeps s (t.keyOp m v) := by
  unfold State.keyOp
  dsimp only
  split
  · exact h
  · exact h.keyGenerate
  · exact h.keyDerive
  · exact h.keyEcdh
  · exact h.keyUnwrap
  · exact h.keyClear
  · exact h.keyPublic
  · exact h.resAccept.useFree.keyEnd

theorem Keeps.keyResult {tag status} (h : Keeps s t) : Keeps s (t.keyResult tag status) := h.resDone.set.raise

theorem execKeyOpComplete_keeps (h : Keeps s t) : Answers (execKeyOpComplete t) (Keeps s) := by
  unfold execKeyOpComplete
  split
  · exact .next h
  · exact .next h.modSec.keyResult

theorem Keeps.writeAttr {m k v} (h : Keeps s t) : Keeps s (t.writeAttr m k v) :=
  .ite h.raise (.ite h.raise h.set.set.set)

theorem execKeySlotAttrWrite_keeps {m k v} (h : Keeps s t) : Answers (execKeySlotAttrWrite m k v t) (Keeps s) :=
  .next h.writeAttr

theorem Keeps.cryEnd {tag status res out} (h : Keeps s t) : Keeps s (t.cryEnd tag status res out) := h.modSec

theorem Keeps.cryStart {act} (hact : ∀ {u}, Keeps s u → Keeps s (act u)) (h : Keeps s t) :
    Keeps s (t.cryStart act) :=
  .ite h.incSat (hact <| h.set.resAccept.count)

theorem Keeps.crySlot {tag k use} {act} (hact : ∀ {u}, Keeps s u → Keeps s (act u)) (h : Keeps s t) :
    Keeps s (t.crySlot tag k use act) :=
  .cryStart (fun h => .ite (hact <| h.countUse) h.raise.cryEnd) h

theorem Keeps.crySha {tag} (h : Keeps s t) : Keeps s (t.crySha tag) := .cryStart (·.cryEnd) h
theorem Keeps.cryHmac {tag k} (h : Keeps s t) : Keeps s (t.cryHmac tag k) := .crySlot (·.cryEnd) h
theorem Keeps.cryEnc {tag k} (h : Keeps s t) : Keeps s (t.cryEnc tag k) := .crySlot (·.cryEnd) h

theorem Keeps.cryDec {tag k} (h : Keeps s t) : Keeps s (t.cryDec tag k) :=
  .crySlot (fun h => by split <;> exact h.cryEnd) h

theorem Keeps.crySign {tag k} (h : Keeps s t) : Keeps s (t.crySign tag k) := .crySlot (·.cryEnd) h
theorem Keeps.cryEcdsa {tag} (h : Keeps s t) : Keeps s (t.cryEcdsa tag) := .cryStart (·.cryEnd) h
theorem Keeps.cryMldsa {tag} (h : Keeps s t) : Keeps s (t.cryMldsa tag) := .cryStart (·.cryEnd) h
theorem Keeps.cryRandom {tag} (h : Keeps s t) : Keeps s (t.cryRandom tag) := .cryStart (·.useRandom.cryEnd) h
theorem execCrySha384_keeps {tag} (h : Keeps s t) : Answers (execCrySha384 tag t) (Keeps s) := .next h.crySha
theorem execCryHmac_keeps {tag k} (h : Keeps s t) : Answers (execCryHmac tag k t) (Keeps s) := .next h.cryHmac

theorem execCryGcmEncrypt_keeps {tag k} (h : Keeps s t) : Answers (execCryGcmEncrypt tag k t) (Keeps s) :=
  .next h.cryEnc

theorem execCryGcmDecrypt_keeps {tag k} (h : Keeps s t) : Answers (execCryGcmDecrypt tag k t) (Keeps s) :=
  .next h.cryDec

theorem execCryEcdsaSign_keeps {tag k} (h : Keeps s t) : Answers (execCryEcdsaSign tag k t) (Keeps s) :=
  .next h.crySign

theorem execCryEcdsaVerify_keeps {tag} (h : Keeps s t) : Answers (execCryEcdsaVerify tag t) (Keeps s) :=
  .next h.cryEcdsa

theorem execCryMldsaVerify_keeps {tag} (h : Keeps s t) : Answers (execCryMldsaVerify tag t) (Keeps s) :=
  .next h.cryMldsa

theorem execCryRandom_keeps {tag} (h : Keeps s t) : Answers (execCryRandom tag t) (Keeps s) := .next h.cryRandom

theorem Keeps.cryOp {v} (h : Keeps s t) : Keeps s (t.cryOp v) := by
  unfold State.cryOp
  dsimp only
  split
  · exact h
  · exact h.crySha
  · exact h.cryHmac
  · exact h.cryEnc
  · exact h.cryDec
  · exact h.crySign
  · exact h.cryEcdsa
  · exact h.cryMldsa
  · exact h.cryRandom
  · exact .cryStart (·.useFree.cryEnd) h

theorem execCryComplete_keeps (h : Keeps s t) : Answers (execCryComplete t) (Keeps s) := by
  unfold execCryComplete
  split
  · exact .next h
  · exact have h := h.modSec.resDone.setWords.set.set; .next <| .raise <| .ite h h.setWords

theorem Keeps.openDebug {l} (h : Keeps s t) : Keeps s (t.openDebug l) := .ite h.set.raise.clearForLevel h
theorem Keeps.dropNonce (h : Keeps s t) : Keeps s (t.dropNonce) := h.modSec.setWords

theorem Keeps.dbgChallenge {tag} (h : Keeps s t) : Keeps s (t.dbgChallenge tag) :=
  h.resAccept.useRandom.modSec.setWords.keyResult

theorem Keeps.dbgAnswer {tag} (h : Keeps s t) : Keeps s (t.dbgAnswer tag) :=
  have h := h.resAccept.dropNonce
  .ite h.modSec.openDebug.keyResult (.ite h.modSec.keyResult h.keyResult)

theorem Keeps.dbgPassword {tag} (h : Keeps s t) : Keeps s (t.dbgPassword tag) :=
  have h := h.resAccept
  .ite h.keyResult (.ite h.openDebug.keyResult (have h := h.set; .keyResult <| .ite h.modSec h.set.raise))

theorem Keeps.dbgClose (h : Keeps s t) : Keeps s (t.dbgClose) := h.set.modSec

theorem execDebugChallenge_keeps {tag} (h : Keeps s t) : Answers (execDebugChallenge tag t) (Keeps s) :=
  .next h.dbgChallenge

theorem execDebugAnswer_keeps {tag} (h : Keeps s t) : Answers (execDebugAnswer tag t) (Keeps s) :=
  .next h.dbgAnswer

theorem execDebugPassword_keeps {tag} (h : Keeps s t) : Answers (execDebugPassword tag t) (Keeps s) :=
  .next h.dbgPassword

theorem execDebugClose_keeps {tag} (h : Keeps s t) : Answers (execDebugClose tag t) (Keeps s) :=
  .next h.resAccept.dbgClose.keyResult

theorem Keeps.dbgOp {v} (h : Keeps s t) : Keeps s (t.dbgOp v) := by
  unfold State.dbgOp
  dsimp only
  split
  · exact h.dbgChallenge
  · exact h.dbgAnswer
  · exact h.dbgPassword
  · exact h.resAccept.dbgClose.keyResult
  · exact h

theorem execNonceExpiry_keeps (h : Keeps s t) : Answers (execNonceExpiry t) (Keeps s) :=
  .next <| .ite h.dropNonce h

theorem execReturnAuthExpiry_keeps (h : Keeps s t) : Answers (execReturnAuthExpiry t) (Keeps s) :=
  .next h.modSec

theorem Keeps.lcAdvance {target fail} (h : Keeps s t) : Keeps s (t.lcAdvance target fail).1 :=
  .ite_fst h <| .ite_fst h <| .ite_fst h <|
    .ite_fst h
      (have h := Keeps.foldl (·.blowField) h
       .ite_fst h (have h := h.blowBytes.showFuses.modSec; .ite h.clearKeys h))

theorem Keeps.revoke {kind slot fail} (h : Keeps s t) : Keeps s (t.revoke kind slot fail).1 :=
  .ite_fst h (.ite_fst h h.blow.showFuses)

theorem Keeps.quote {req} (h : Keeps s t) : Keeps s (t.quote req).1 := .ite_fst h h.countUse.setWords

theorem Keeps.lcCommand {target fail} (h : Keeps s t) : Keeps s (t.lcCommand target fail).1 :=
  .ite_fst h h.lcAdvance

theorem Keeps.voidCommand {req fail} (h : Keeps s t) : Keeps s (t.voidCommand req fail).1 :=
  .ite_fst h (.ite_fst h.lcAdvance h)

theorem Keeps.revokeCommand {req fail} (h : Keeps s t) : Keeps s (t.revokeCommand req fail).1 :=
  .ite_fst h.revoke h

/-! ### Update.lean -/

theorem Keeps.modSess {f} (h : Keeps s t) : Keeps s (t.modSess f) := h.upd
theorem Keeps.imgRequest {hub op d} (h : Keeps s t) : Keeps s (t.imgRequest hub op d) := h.request
theorem Keeps.imgAnswer {n q status} (h : Keeps s t) : Keeps s (t.imgAnswer n q status) := h.ctlOut

theorem Keeps.recordRefusal {reason chunk} (h : Keeps s t) : Keeps s (t.recordRefusal reason chunk) :=
  h.set.set.raise

theorem Keeps.abortKids (h : Keeps s t) : Keeps s (t.abortKids) := by
  unfold State.abortKids
  split
  · exact h
  · exact .foldl (·.imgRequest) h

theorem Keeps.endSess {st} (h : Keeps s t) : Keeps s (t.endSess st) := h.abortKids.set.upd

theorem Keeps.refuseImage {reason chunk} (h : Keeps s t) : Keeps s (t.refuseImage reason chunk) :=
  h.recordRefusal.endSess

theorem Keeps.branchFail {k} (h : Keeps s t) : Keeps s (t.branchFail k) := h.modSess.setBitOf.set.raise
theorem Keeps.sendChunk {hub c d} (h : Keeps s t) : Keeps s (t.sendChunk hub c d) := .foldl (·.imgRequest) h

theorem Keeps.pumpKids {x} (h : Keeps s t) : Keeps s (t.pumpKids x) :=
  .foldl (fun h => by split; exact .ite h.sendChunk.modSess h; exact h) h

theorem Keeps.takeChunk {x d} (h : Keeps s t) : Keeps s (t.takeChunk x d) :=
  have h := Keeps.foldl (·.imgAnswer) h.count
  .ite h.refuseImage (.when (·.set) h.modSess.set)

theorem Keeps.settle {f} (h : Keeps s t) : Keeps s (t.settle f) := by
  induction f generalizing t with
  | zero => exact h
  | succ f ih =>
    unfold State.settle
    split
    · exact h
    · dsimp only
      split
      · exact h.pumpKids.modSess
      · refine .ite (.when (·.set) h.pumpKids.modSess.upd) (.ite h.pumpKids.modSess ?_)
        split
        · exact ih h.pumpKids.modSess.takeChunk
        · exact h.pumpKids.modSess

theorem Keeps.showSession {id x2 x3 ports} (h : Keeps s t) : Keeps s (t.showSession id x2 x3 ports) :=
  h.set.set.setFlag.setFlag.set.set.set.set.setWords

theorem Keeps.eraseSlot {b k} (h : Keeps s t) : Keeps s (t.eraseSlot b k) := h.putSlot.set.showBank

theorem Keeps.openSession {id x2 x3 k src} (h : Keeps s t) : Keeps s (t.openSession id x2 x3 k src).1 :=
  .ite_fst h.recordRefusal <| .ite_fst h.showSession.recordRefusal.set <| .settle <| .foldl (·.imgRequest) <|
    .upd <| .when (·.eraseSlot) h.showSession.set

theorem Keeps.imageHead {n p} (h : Keeps s t) : Keeps s (t.imageHead n p) :=
  .ite h.imgAnswer h.openSession.imgAnswer

theorem Keeps.keepHelper {n p} (h : Keeps s t) : Keeps s (t.keepHelper n p) :=
  .ite h.modFlash.imgAnswer h.recordRefusal.imgAnswer

theorem Keeps.imageData {n p} (h : Keeps s t) : Keeps s (t.imageData n p) :=
  .ite h.keepHelper <| by
    split
    · exact h.imgAnswer
    · exact .ite h.imgAnswer <| .ite h.imgAnswer <|
              .ite (.ite h.imgAnswer h.imgAnswer) (have h := h.modSess; .settle <| .ite h h.imgAnswer)

theorem Keeps.imageAbort {n p} (h : Keeps s t) : Keeps s (t.imageAbort n p) :=
  have h := h.imgAnswer
  .ite h.set.set.raise.endSess h

theorem Keeps.imageFetch {n p} (h : Keeps s t) : Keeps s (t.imageFetch n p) := h.ctlOut

theorem Keeps.imageOp {n p} (h : Keeps s t) : Keeps s (t.imageOp n p) := by
  unfold State.imageOp
  split
  · exact h.imageHead
  · exact h.imageData
  · exact h.imageAbort
  · exact h.imageFetch
  · exact h.imgAnswer

theorem Keeps.imageAnswered {q status} (h : Keeps s t) : Keeps s (t.imageAnswered q status) := by
  unfold State.imageAnswered
  split
  · exact h
  · split
    · exact h
    · exact .ite h (.ite h.branchFail.settle (.ite h.modSess.settle h))

theorem execSessionIdleTimeout_keeps (h : Keeps s t) : Answers (execSessionIdleTimeout t) (Keeps s) :=
  .next <| .ite h.upd.set.raise h

theorem execFlashChunkWritten_keeps {ok} (h : Keeps s t) : Answers (execFlashChunkWritten ok t) (Keeps s) := by
  unfold execFlashChunkWritten
  split
  · exact .next h
  · split
    · exact .next h
    · exact .ite (.next h) (.ite (.next h.refuseImage) (.next h.putSlot.modSess.settle))

theorem execImageStaged_keeps {ok} (h : Keeps s t) : Answers (execImageStaged ok t) (Keeps s) := by
  unfold execImageStaged
  split
  · exact .next h
  · exact .ite (.next h)
            (have h := Keeps.foldl (·.putSlot) h.putSlot
             .ite (.next h.eraseSlot.refuseImage) (.next h.setFlag.showBank.set.modSess.raise.settle))

theorem Keeps.fwLoad {req dma} (h : Keeps s t) : Keeps s (t.fwLoad req dma).1 := by
  unfold State.fwLoad
  dsimp only
  split
  · exact h.showSession.recordRefusal.set
  · exact h.openSession

theorem Keeps.activateHere {at_ epoch} (h : Keeps s t) : Keeps s (t.activateHere at_ epoch).1 :=
  .ite_fst h (.ite_fst h h.set.setFlag.set)

theorem Keeps.fwActivate {req veto} (h : Keeps s t) : Keeps s (t.fwActivate req veto).1 :=
  .ite_fst h h.activateHere

theorem Keeps.fwCommit {veto} (h : Keeps s t) : Keeps s (t.fwCommit veto).1 :=
  .ite h (.showFuses <| .when (·.raiseRollback) h.raiseRollback)

theorem Keeps.fwAbort (h : Keeps s t) : Keeps s (t.fwAbort).1 :=
  .ite_fst h.recordRefusal.endSess (.ite_fst h.set (.ite_fst h h))

/-! ### Counters.lean -/

theorem Keeps.modCnt {f} (h : Keeps s t) : Keeps s (t.modCnt f) := h.upd
theorem Keeps.restartCounter {i} (h : Keeps s t) : Keeps s (t.restartCounter i) := h.modCnt

theorem Keeps.occTick (h : Keeps s t) : Keeps s (t.occTick) :=
  .foldl (fun h => .ite (by split; exact .ite h.count h; exact h) h) h

theorem Keeps.cycles {a d} (h : Keeps s t) : Keeps s (t.cycles a d) := h.modCnt.count
theorem Keeps.cycleTick (h : Keeps s t) : Keeps s (t.cycleTick) := .foldl (·.cycles.cycles) h

theorem Keeps.writeDump {dmaErr} (h : Keeps s t) : Keeps s (t.writeDump dmaErr) := by
  unfold State.writeDump
  split
  · exact h
  · exact
      have h := Keeps.set <| .modCnt <| .ite h.set.set h
      .ite h.incSat.raise (.raise <| .set <| .ite h.emit h.setWords)

theorem execDumpRecordWritten_keeps {dmaErr} (h : Keeps s t) :
    Answers (execDumpRecordWritten dmaErr t) (Keeps s) :=
  .next h.writeDump

theorem Keeps.applySels (h : Keeps s t) : Keeps s (t.applySels) :=
  .modCnt <| .foldl (·.modCnt.restartCounter.inc) h

theorem Keeps.snapshot {cause tag} (h : Keeps s t) : Keeps s (t.snapshot cause tag) :=
  have h := Keeps.modCnt <| .applySels <| .set64 <| .inc <| .foldl (·.set) <| .foldl (·.set.set) h.writeDump
  .ite h.modCnt.set h

theorem Keeps.spendDue (h : Keeps s t) : Keeps s (t.spendDue) := .when (·.set) h.modCnt

theorem Keeps.takeOrDefer {cause tag} (h : Keeps s t) : Keeps s (t.takeOrDefer cause tag) :=
  .ite (.when (·.incSat) h.modCnt) h.snapshot

theorem Keeps.takeDue {cause tag} (h : Keeps s t) : Keeps s (t.takeDue cause tag) :=
  .ite h h.spendDue.takeOrDefer

theorem Keeps.takeNow (h : Keeps s t) : Keeps s (t.takeNow) := h.takeDue

theorem execSnapshotPeriodic_keeps (h : Keeps s t) : Answers (execSnapshotPeriodic t) (Keeps s) :=
  .next <| .ite h.takeNow h

theorem execSnapshotAtDue_keeps (h : Keeps s t) : Answers (execSnapshotAtDue t) (Keeps s) :=
  .next <| .ite h.takeNow h

theorem Keeps.snapAt {tag} (h : Keeps s t) : Keeps s (t.snapAt tag) := h.modCnt.set

theorem execSnapshotAtCommand_keeps {tag} (h : Keeps s t) : Answers (execSnapshotAtCommand tag t) (Keeps s) :=
  .next h.snapAt

theorem execSnapshotDeferred_keeps (h : Keeps s t) : Answers (execSnapshotDeferred t) (Keeps s) := by
  unfold execSnapshotDeferred
  split
  · exact .next <| .ite h.snapshot h
  · exact .next h

theorem Keeps.clearDue (h : Keeps s t) : Keeps s (t.clearDue) := .ite (.modCnt <| .foldl (·.restartCounter) h) h

theorem Keeps.lateSnap {per at_} (h : Keeps s t) : Keeps s (t.lateSnap per at_) :=
  .ite h (.takeOrDefer <| .when (·.set) h.modCnt)

theorem Keeps.skippedSnap {a b} (h : Keeps s t) : Keeps s (t.skippedSnap a b) := h.lateSnap
theorem Keeps.writeCntCtrl {v} (h : Keeps s t) : Keeps s (t.writeCntCtrl v) := h.writeRw.modCnt

theorem Keeps.writeCntSnap {v} (h : Keeps s t) : Keeps s (t.writeCntSnap v) :=
  .when (·.snapAt) <| .when (·.modCnt) h

theorem Keeps.writeRingSize {v} (h : Keeps s t) : Keeps s (t.writeRingSize v) := h.set.modCnt

theorem Keeps.writeSel {g k v} (h : Keeps s t) : Keeps s (t.writeSel g k v) := by
  unfold State.writeSel
  exact h.writeRw.modCnt

/-! ### Power.lean -/

theorem Keeps.modChip {f} (h : Keeps s t) : Keeps s (t.modChip f) := h.upd

theorem Keeps.clearFields {a b keep} (h : Keeps s t) : Keeps s (t.clearFields a b keep) :=
  h.rebuild (Tbl.sorted_filter _) id rfl rfl

theorem Keeps.clearDomain {d} (h : Keeps s t) : Keeps s (t.clearDomain d) := .foldl (·.clearFields) h

theorem Keeps.pwrUp {root keep} (h : Keeps s t) : Keeps s (t.pwrUp root keep) :=
  have h := Keeps.foldl (·.set) h.clearFields.upd
  .ite h (.foldl (·.modChan.set.set.setFlag.set.set) <| .foldl (·.set) <| .foldl (·.set) h)

theorem Keeps.mainUp {x} (h : Keeps s t) : Keeps s (t.mainUp x) := by
  unfold State.mainUp
  refine .foldl (fun h => .ite h.modLane.showClass h) <| .upd <| .when (·.resetFlds.setRoute) <|
    .set <| .setFlag <| .set <| .set <| .set ?_
  exact h.rebuild (Tbl.sorted_filter _) (fun _ => rfl) rfl rfl

theorem Keeps.railsUp (h : Keeps s t) : Keeps s (t.railsUp) := h.emits
theorem Keeps.railsDown (h : Keeps s t) : Keeps s (t.railsDown) := h.emits

theorem Keeps.raiseRails {x pg} (h : Keeps s t) : Keeps s (t.raiseRails x pg) :=
  have h := h.tryOn.tryOn.railsUp
  .ite h.mainUp h.modChip

theorem execVstbyPowerUp_keeps {x pg} (h : Keeps s t) : Answers (execVstbyPowerUp x pg t) (Keeps s) :=
  .next <| .ite h.pwrUp.modChip.raiseRails <|
    .ite (have h := h.pwrUp.modChip.raiseRails; .ite (.foldl (·.modLink) h) h) h

theorem Keeps.toShelf (h : Keeps s t) : Keeps s t.toShelf := by
  unfold State.toShelf
  extract_lets s1 s2
  have down : Keeps s s2.railsDown :=
    .railsDown <| .foldl (fun h => .modLane <| .set <| .when (·.set) h.powerOff) <| .foldl (·.chanOff) h
  clear_value s2
  refine .set <| .set <| .set <| .set <| .set <| .set <| .set <| .modChip ?_
  exact down.rebuild id (fun _ => rfl) rfl rfl

theorem execRailPgTimeout_keeps {x pg} (h : Keeps s t) : Answers (execRailPgTimeout x pg t) (Keeps s) :=
  .next <| .ite h (.ite h.toShelf.modChip h.railsDown.modChip.raiseRails)

theorem execVstbyLoss_keeps (h : Keeps s t) : Answers (execVstbyLoss t) (Keeps s) := by
  unfold execVstbyLoss
  extract_lets u
  have down : Keeps s u := .railsDown <| .foldl (·.chanOff) h
  clear_value u
  refine .next <| .set ?_
  exact down.rebuild (fun _ => rfl) (fun _ => rfl) rfl rfl

theorem execRailPgLoss_keeps (h : Keeps s t) : Answers (execRailPgLoss t) (Keeps s) :=
  .next <| .ite h.toShelf.modChip h

theorem execDeadBatteryStart_keeps {x} (h : Keeps s t) : Answers (execDeadBatteryStart x t) (Keeps s) :=
  .next <| .ite h h.pwrUp.set.upd.modChip.raiseRails

theorem Keeps.setPages {d f v} (h : Keeps s t) : Keeps s (t.setPages d f v) := .foldl (·.set) h
theorem Keeps.wasteTo {a} (h : Keeps s t) : Keeps s (t.wasteTo a) := .foldl (·.wasteAdmitted) h
theorem Keeps.wasteOps (h : Keeps s t) : Keeps s (t.wasteOps) := h.slots.upd
theorem Keeps.bridgesOff (h : Keeps s t) : Keeps s (t.bridgesOff) := h.upd
theorem Keeps.ptpOff (h : Keeps s t) : Keeps s (t.ptpOff) := h.modHost

theorem Keeps.domainOff {d} (h : Keeps s t) : Keeps s (t.domainOff d) :=
  .ite h.bankDown <|
    .dite (fun _ => .modLink <| .lanesOff <| .ite h.dropLink h)
      (fun _ =>
         .ite (.when (·.emits) h) <| .ite h.ethDown.ethDown.wasteTo.ptpOff <|
           .ite h.headEnable.headEnable.wasteTo.wasteOps <| .ite h.wasteTo.bridgesOff h)

theorem Keeps.powerDown {d} (h : Keeps s t) : Keeps s (t.powerDown d) := by
  unfold State.powerDown
  exact h.setPages.domainOff.setPages.setPages.setBitOf.modCnt

theorem Keeps.powerUp {d} (h : Keeps s t) : Keeps s (t.powerUp d) :=
  have h := h.clearDomain.setBitOf.setBitOf
  .ite h.bankUp <|
    .dite (fun _ => h.set.modLane)
      (fun _ => .ite h.upd (.ite h.ptpOff (.ite (.foldl (·.set) h.upd) (.ite h.bridgesOff h))))

theorem Keeps.domainReady {d} (h : Keeps s t) : Keeps s (t.domainReady d) :=
  have h := h.setPages
  .ite (.ite h h.bankUp) (.dite (fun _ => have h := h.showClass; .ite h.bringUp h) (fun _ => h))

theorem Keeps.isolate {d} (h : Keeps s t) : Keeps s (t.isolate d) := .when (·.powerDown) h.modChip

theorem Keeps.switchOff {d} (h : Keeps s t) : Keeps s (t.switchOff d) :=
  .ite h (have h := h.setBitOf; .ite h.setPages.modChip h)

theorem Keeps.switchOn {d} (h : Keeps s t) : Keeps s (t.switchOn d) := .ite h h.isolate.setBitOf.powerUp
theorem Keeps.offTick (h : Keeps s t) : Keeps s (t.offTick) := .foldl (·.isolate) h

theorem execDomainSwitchOff_keeps {d} (h : Keeps s t) : Answers (execDomainSwitchOff d t) (Keeps s) :=
  .next <| .when (·.isolate) h.switchOff

theorem execDomainSwitchOn_keeps {d} (h : Keeps s t) : Answers (execDomainSwitchOn d t) (Keeps s) :=
  .next h.switchOn

theorem execDomainReady_keeps {d} (h : Keeps s t) : Answers (execDomainReady d t) (Keeps s) :=
  .next <| .ite h.domainReady h

theorem Keeps.writeDomains {v} (h : Keeps s t) : Keeps s (t.writeDomains v) :=
  .foldl (fun h => .ite h.switchOn h.switchOff) h

theorem execDomainFault_keeps {d} (h : Keeps s t) : Answers (execDomainFault d t) (Keeps s) :=
  .next <| .ite h (.ite h.mainUp (.ite h.powerDown.setBitOf.raise h))

theorem Keeps.stateRefused {code} (h : Keeps s t) : Keeps s (t.stateRefused code) := h.set
theorem Keeps.leaveDoze (h : Keeps s t) : Keeps s (t.leaveDoze) := .ite h.set.set.modChip h

theorem Keeps.request14 {refusal} {act} (hact : ∀ {u}, Keeps s u → Keeps s (act u)) (h : Keeps s t) :
    Keeps s (t.request14 refusal act) :=
  have h := h.leaveDoze
  .ite h.stateRefused (.ite h (.ite h.stateRefused (hact <| h.set)))

theorem Keeps.reqRun (h : Keeps s t) : Keeps s (t.reqRun) := .request14 (fun h => h) h
theorem Keeps.reqDoze (h : Keeps s t) : Keeps s (t.reqDoze) := .request14 (·.set) h

theorem Keeps.enterRetain (h : Keeps s t) : Keeps s (t.enterRetain) := by
  unfold State.enterRetain
  exact .modChip <| .set <| .foldl (·.writeSleepReq) <| .when (·.emits) h.ethDown.ethDown.headEnable.headEnable

theorem Keeps.reqRetain (h : Keeps s t) : Keeps s (t.reqRetain) := .when (·.set) <| .request14 (·.enterRetain) h
theorem Keeps.latchWake {st src cfg} (h : Keeps s t) : Keeps s (t.latchWake st src cfg) := .ite h.modChip h
theorem Keeps.keepEntry (h : Keeps s t) : Keeps s (t.keepEntry) := h.modChip

theorem Keeps.wasteAdapters (h : Keeps s t) : Keeps s (t.wasteAdapters) :=
  .upd <| .wasteOps <| .foldl (·.wasteAdmitted) <| .foldl (·.wasteWaiting) h

theorem execRetainPortsSlept_keeps (h : Keeps s t) : Answers (execRetainPortsSlept t) (Keeps s) :=
  .ite (.next h) <| .next <| .emits <| .set <| .set <| .set <| .set <| .set <| .set <| .bridgesOff <|
    .foldl (·.setPages) <| .foldl (·.bankDown.setPages) h.wasteAdapters.keepEntry

theorem execRetainSleepTimeout_keeps (h : Keeps s t) : Answers (execRetainSleepTimeout t) (Keeps s) :=
  .ite (.next h) <| .next <| .foldl (fun h => .ite h.headEnable h) <|
    .foldl (fun h => .ite h.sendTack h.modLink.modLane) h.set.set.set.modChip

theorem Keeps.supplyBack (h : Keeps s t) : Keeps s (t.supplyBack) := h.set.set.set.set.modChip

theorem Keeps.enterHold (h : Keeps s t) : Keeps s t.enterHold := by
  unfold State.enterHold
  refine .railsDown <| .set <| .set <| .set <| .set <| .set ?_
  refine Keeps.rebuild (t := State.when _ _ _) (.when (·.enterHoldover) ?_)
    (Tbl.sorted_filter _) (fun _ => rfl) rfl rfl
  exact .foldl (·.powerDown) h.keepEntry

theorem Keeps.latchWakes {st l} (h : Keeps s t) : Keeps s (t.latchWakes st l) := .foldl (·.latchWake) h.modChip

theorem Keeps.reqHold {wakes} (h : Keeps s t) : Keeps s (t.reqHold wakes) :=
  .request14 (·.latchWakes.enterHold) h

theorem Keeps.reqShelf {vstby wakes} (h : Keeps s t) : Keeps s (t.reqShelf vstby wakes) :=
  .request14 (·.latchWakes.toShelf) h

theorem execStateReqRun_keeps (h : Keeps s t) : Answers (execStateReqRun t) (Keeps s) := .next h.reqRun
theorem execStateReqDoze_keeps (h : Keeps s t) : Answers (execStateReqDoze t) (Keeps s) := .next h.reqDoze
theorem execStateReqRetain_keeps (h : Keeps s t) : Answers (execStateReqRetain t) (Keeps s) := .next h.reqRetain

theorem execStateReqHold_keeps {wakes} (h : Keeps s t) : Answers (execStateReqHold wakes t) (Keeps s) :=
  .next h.reqHold

theorem execStateReqShelf_keeps {vstby wakes} (h : Keeps s t) :
    Answers (execStateReqShelf vstby wakes t) (Keeps s) :=
  .next h.reqShelf

theorem Keeps.writeStateReq {v} (h : Keeps s t) : Keeps s (t.writeStateReq v) := by
  unfold State.writeStateReq
  split
  · exact h.reqRun
  · exact h.reqDoze
  · exact h.reqRetain
  · exact h.reqHold
  · exact h.reqShelf
  · exact .request14 (fun h => h) h

theorem execDozeClockGate_keeps (h : Keeps s t) : Answers (execDozeClockGate t) (Keeps s) :=
  .next <| .ite h.modChip h

theorem execDozeClockUngate_keeps (h : Keeps s t) : Answers (execDozeClockUngate t) (Keeps s) := .next h.modChip

theorem Keeps.wakeDone {frm} (h : Keeps s t) : Keeps s (t.wakeDone frm) := by
  unfold State.wakeDone
  split
  · exact h
  · exact .modChip <| .when (·.raise) h.set.set.set.set.setFlag.set.set.set

theorem Keeps.keeperResume {w} (h : Keeps s t) : Keeps s (t.keeperResume w) := h.upd.modCnt.set.set

theorem Keeps.noteAlso {st also} (h : Keeps s t) : Keeps s (t.noteAlso st also) :=
  .foldl (fun h => .ite h.modChip h) h

theorem Keeps.exitRetain {w} (h : Keeps s t) : Keeps s (t.exitRetain w) :=
  .wakeDone <| .foldl (fun h => .ite h (.ite h.modLane.wakeLanes.raise h.sendTack)) <| .foldl (·.bankUp) <|
    .foldl (·.powerUp.domainReady) h.keeperResume.noteAlso.supplyBack.emits

theorem Keeps.exitHold {w} (h : Keeps s t) : Keeps s (t.exitHold w) :=
  .railsUp <| .when (·.setRoute) <| .foldl (fun h => .ite h.setPages h.setPages) <|
    .foldl (·.bankUp) h.keeperResume.noteAlso.supplyBack.set.set

theorem Keeps.exitLow {w} (h : Keeps s t) : Keeps s (t.exitLow w) :=
  .ite h.noteAlso (.ite h.exitRetain (.ite h.exitHold h))

theorem Keeps.chipWake {w} (h : Keeps s t) : Keeps s (t.chipWake w) :=
  .ite h.latchWake (.ite (.ite h.modChip h) (.ite h.modChip.exitLow h))

theorem Keeps.wakeBy {src cfg} (h : Keeps s t) : Keeps s (t.wakeBy src cfg) := h.upd.chipWake

theorem execWakeReplayed_keeps {w} (h : Keeps s t) : Answers (execWakeReplayed w t) (Keeps s) :=
  .next <| .ite h.modChip.exitLow h

theorem execWakeTimerExpiry_keeps {w} (h : Keeps s t) : Answers (execWakeTimerExpiry w t) (Keeps s) :=
  .next <| .ite h h.modChip.set.chipWake

theorem Keeps.writeTimer {v} (h : Keeps s t) : Keeps s (t.writeTimer v) := by
  unfold State.writeTimer
  exact h.set.modChip

theorem Keeps.setAvs {mv} (h : Keeps s t) : Keeps s (t.setAvs mv) := by
  unfold State.setAvs
  exact h.set.set.set.modChip

theorem Keeps.avsWrites {mv} (h : Keeps s t) : Keeps s (t.avsWrites mv) := h.emits

theorem execAvsAdjust_keeps {mv ack} (h : Keeps s t) : Answers (execAvsAdjust mv ack t) (Keeps s) :=
  .next <| .ite h (.ite h.avsWrites.setAvs h.avsWrites.setAvs.modChip)

/-! ### Access.lean -/

theorem Keeps.pop {p} (h : Keeps s t) : Keeps s (t.pop p).1 :=
  .ite_fst (by split; exact h; exact h.upd) (.ite_fst h.popCan (.ite_fst h.popUart h))

theorem Keeps.readWord {a} (h : Keeps s t) : Keeps s (t.readWord a).1 :=
  .ite_fst (by dsimp only; split; exact h; exact .ite_fst h (.ite_fst h (.ite_fst h.pop h)))
    (.ite_fst h (.ite_fst h (.ite_fst h h)))

theorem Keeps.pageLock {p v} (h : Keeps s t) : Keeps s (t.pageLock p v) := by
  unfold State.pageLock
  split
  · exact h
  · exact .ite h h.upd.set

theorem Keeps.evtEnable {p v} (h : Keeps s t) : Keeps s (t.evtEnable p v) := .foldl (·.noteNew.arm) h.set
theorem Keeps.evtClear {p v} (h : Keeps s t) : Keeps s (t.evtClear p v) := h.set
theorem Keeps.evtSet {p v} (h : Keeps s t) : Keeps s (t.evtSet p v) := .ite h (.foldl (·.raise) h)
theorem Keeps.evcSoft {src v} (h : Keeps s t) : Keeps s (t.evcSoft src v) := .ite (.foldl (·.raise) h) h
theorem Keeps.putQueue {q} (h : Keeps s t) : Keeps s (t.putQueue q) := h.upd.set

theorem Keeps.ring {cmd tag} (h : Keeps s t) : Keeps s (t.ring cmd tag) :=
  .ite h (.ite h.incSat h.resAccept.set.putQueue.count)

theorem Keeps.plain {p fs skip v} (h : Keeps s t) : Keeps s (t.plain p fs skip v) :=
  .foldl (fun h => by split; exact h.set; exact .ite h h.set; exact h) h

theorem Keeps.checkersOn {n old} (h : Keeps s t) : Keeps s (t.checkersOn n old) :=
  .foldl (·.checkerOn.useFree) h

theorem Keeps.freezeDfe {n k was} (h : Keeps s t) : Keeps s (t.freezeDfe n k was) := .when (·.modLane.useFree) h

theorem Keeps.writeWelt {p a v fs} (h : Keeps s t) : Keeps s (t.writeWelt p a v fs) :=
  .ite (have h := h.plain; .when (·.retrain) <| .ite h h.writeTest)
    (.ite h.plain.set.set <| .ite h.plain.checkersOn.showTest <|
       .ite (.foldl (·.showClamp.freezeDfe) h.plain) <| .ite (.when (·.eyeGo) h.plain) <|
       .ite (.when (·.writeSleepReq) h.plain) h.plain)

theorem Keeps.writeCore {p a v fs} (h : Keeps s t) : Keeps s (t.writeCore p a v fs) :=
  .ite h.ctxCmd <| .ite (.when (·.applyParts) h) <| .ite (.ite h h.plain) <| .ite (.when (·.fence) h) <|
    .ite h.whlCommit <| .ite h.plain.copyMaps h.plain

theorem Keeps.writeNet {p a v fs} (h : Keeps s t) : Keeps s (t.writeNet p a v fs) :=
  .ite (.refreshEnds <| .ite h.writeRpCtrl (.ite h.writeRpCtrl h.plain))
    (.ite h.writeEthCtrl <| .ite h.writeEthCtrl <| .ite (.when (·.ptpGo) h) <|
       by split; exact h.ptpWrite; exact h.plain)

theorem Keeps.writeHead {p a v fs} (h : Keeps s t) : Keeps s (t.writeHead p a v fs) :=
  .ite (have h := h.plain; .showHeld <| .checkVideo <| .ite h h.genlock)
    (.ite h.plain.showHeld (.ite (.when (·.dpTrain) h.plain) (.ite (.when (·.auxGo) h.plain) h.plain)))

theorem Keeps.writeBridge {p a v fs} (h : Keeps s t) : Keeps s (t.writeBridge p a v fs) :=
  .ite h.schedPush <| .ite (.when (·.xferGo) h) <| .ite (.when (·.semBreak) h) <|
    by split; exact h.gpioSet; exact by split; exact h.plain.gpioShow; exact h.plain

theorem Keeps.writePower {src p a v fs} (h : Keeps s t) : Keeps s (t.writePower src p a v fs) :=
  .ite (have h := h.plain.cutLevels; .ite h h.writeWiredRole) <|
    .ite (.ite (.when (·.hardReset) <| .when (·.ctpSend) h) h) <| .ite (.ite h.plain h) <| by
    split
    · exact
        have h := h.plain
        .showChan <| .ite h.writeOn (.ite h.writeSense h)
    · exact .ite h.writeFeedMode h.plain

theorem Keeps.writeKeys {src p a v fs} (h : Keeps s t) : Keeps s (t.writeKeys src p a v fs) :=
  .ite h.keyOp <| .ite h.dbgOp <| .ite (.ite h h.plain) <| .ite h.cryOp <| .ite h.writeCntCtrl <|
    .ite h.writeCntSnap <| .ite h.writeRingSize <| by split; exact h.writeSel; exact h.plain

theorem Keeps.writeChip {src p a v fs} (h : Keeps s t) : Keeps s (t.writeChip src p a v fs) :=
  .ite (have h := Keeps.ite h h.writeSsc; .ite h h.writeForceHold) <|
    .ite (.ite h (.ite h.ctmCapture h.ctmHop)) <| .ite h.writeStateReq <| .ite h.writeDomains <|
    .ite h.writeTimer <| .ite h.evcSoft <| .ite h.ring h.plain

theorem Keeps.writeBody {src p o v} (h : Keeps s t) : Keeps s (t.writeBody src p o v) :=
  .ite h.writeChip <| .ite h.writeWelt <| .ite h.writeCore <| .ite h.writeNet <| .ite h.writeHead <|
    .ite h.writeBridge <| .ite h.writePower h.writeKeys

theorem Keeps.resetWordAt {src p o keep} (h : Keeps s t) : Keeps s (t.resetWordAt src p o keep) :=
  .resetFlds <| .ite h.writeBody h

theorem Keeps.writeEnable {p v} (h : Keeps s t) : Keeps s (t.writeEnable p v) :=
  have h := h.setFlag
  .ite h (.ite h.headEnable (.ite h.canRecover h))

theorem Keeps.noFlipTime {x1} (h : Keeps s t) : Keeps s (t.noFlipTime x1) := h.set64.set

theorem Keeps.softReset {src p} (h : Keeps s t) : Keeps s (t.softReset src p) :=
  have h := Keeps.writeEnable <| .set <| .set <| .foldl (·.resetWordAt) h
  have h := Keeps.ite h.upd (.ite h.flushCan (.ite h.flushUart h))
  .ite h.unfence (.ite h.ptpOff (.ite h.noFlipTime h))

theorem Keeps.writeBlk {src p v} (h : Keeps s t) : Keeps s (t.writeBlk src p v) :=
  .when (·.softReset) h.writeEnable

theorem Keeps.writeHeader {src p o v} (h : Keeps s t) : Keeps s (t.writeHeader src p o v) :=
  .ite h.pageLock (.ite h.evtEnable (.ite h.evtClear (.ite h.evtSet (.ite h.writeBlk h))))

theorem Keeps.writeReg {src p o v} (h : Keeps s t) : Keeps s (t.writeReg src p o v).1 :=
  .ite_fst h.writeHeader (have h := h.writeBody; .ite_fst h.raise h)

theorem Keeps.writeDie {src a v} (h : Keeps s t) : Keeps s (t.writeDie src a v).1 :=
  .ite_fst h.writeReg h.writeToDark

theorem Keeps.writeWindow {src a v} (h : Keeps s t) : Keeps s (t.writeWindow src a v).1 :=
  .ite_fst h.writeCtx (.ite_fst h.writeRoute (.ite_fst h.writeAttr (.ite_fst h.writeMap h.writeRw)))

theorem Keeps.writeFst {a be v} (h : Keeps s t) : Keeps s (t.writeFst a be v) := .foldl (·.fstWrite) h

theorem Keeps.writeWord {src a be v} (h : Keeps s t) : Keeps s (t.writeWord src a be v).1 :=
  .ite_fst h.accessErr <|
    .ite_fst
      (.ite_fst h.accessErr <| .ite_fst (.ite_fst h.accessErr h.writeToDark) <| .ite_fst h.upd <|
         .ite_fst h.writeToDark h.writeReg) <| .ite_fst h.accessErr <| .ite_fst h.writeToDark <|
    .ite_fst h.writeFst h.writeWindow

theorem execRegWrite_keeps {src a be v} (h : Keeps s t) : Answers (execRegWrite src a be v t) (Keeps s) :=
  .next h.writeWord

theorem Keeps.headerWrite {src p o v} (h : Keeps s t) : Keeps s (t.headerWrite src p o v) := h.writeWord

theorem execPageLock_keeps {src p v} (h : Keeps s t) : Answers (execPageLock src p v t) (Keeps s) :=
  .next h.headerWrite

theorem execSoftReset_keeps {src p} (h : Keeps s t) : Answers (execSoftReset src p t) (Keeps s) :=
  .next h.headerWrite

theorem execEvtEnWrite_keeps {src p v} (h : Keeps s t) : Answers (execEvtEnWrite src p v t) (Keeps s) :=
  .next h.headerWrite

theorem execEvtClr_keeps {src p v} (h : Keeps s t) : Answers (execEvtClr src p v t) (Keeps s) :=
  .next h.headerWrite

theorem execEvtSet_keeps {src p v} (h : Keeps s t) : Answers (execEvtSet src p v t) (Keeps s) :=
  .next h.headerWrite

theorem execEvcSoft_keeps {src v} (h : Keeps s t) : Answers (execEvcSoft src v t) (Keeps s) :=
  .next h.headerWrite

/-! ### Control.lean -/

theorem Keeps.cachePut {c q} (h : Keeps s t) : Keeps s (t.cachePut c q) := h.upd
theorem Keeps.ctlReply {n a} (h : Keeps s t) : Keeps s (t.ctlReply n a) := h.reply
theorem Keeps.ctlDone {n q a} (h : Keeps s t) : Keeps s (t.ctlDone n q a) := h.upd.ctlReply

theorem Keeps.once {n q} {act} (hact : ∀ {u}, Keeps s u → Keeps s (act u)) (h : Keeps s t) :
    Keeps s (t.once n q act) := by
  unfold State.once
  split
  · exact h.ctlReply
  · split
    · exact hact <| h.cachePut
    · exact h

theorem execReplayCacheExpiry_keeps {src tag} (h : Keeps s t) :
    Answers (execReplayCacheExpiry src tag t) (Keeps s) :=
  .next h.upd

theorem Keeps.readWords {a k} (h : Keeps s t) : Keeps s (t.readWords a k).1 := by
  induction k generalizing t a with
  | zero => exact h
  | succ k ih => exact ih h.readWord

theorem Keeps.readNow {n q} (h : Keeps s t) : Keeps s (t.readNow n q) :=
  .ite (.once (·.readWords.ctlDone) h) h.readWords.ctlDone

theorem Keeps.writeBytes {src a d} (h : Keeps s t) : Keeps s (t.writeBytes src a d).state := by
  have word {r : WriteRun} {first x} (h : Keeps s r.state) : Keeps s (r.word src first x).state := by
    unfold WriteRun.word
    dsimp only
    split <;> exact h.writeWord
  unfold State.writeBytes
  generalize writeWordsOf a d = l
  suffices ∀ r : WriteRun, Keeps s r.state → Keeps s (l.foldl (fun r x => r.word src t.ctl.pdq.length x) r).state from
    this _ h
  induction l with
  | nil => exact fun _ h => h
  | cons x l ih => exact fun r h => ih _ (word h)

theorem Keeps.writeNow {n q} (h : Keeps s t) : Keeps s (t.writeNow n q) :=
  .once (fun h => .ite h.writeBytes.ctlDone h.writeBytes.upd) h

theorem Keeps.mailboxOp {n q} (h : Keeps s t) : Keeps s (t.mailboxOp n q) :=
  .ite h.ctlReply (.once (·.putQueue.count) h)

theorem Keeps.ctlNow {n q} (h : Keeps s t) : Keeps s (t.ctlNow n q) :=
  .ite h.assignId <| .ite h.imageOp <| .ite h.ctlReply <| .ite (.ite h.readNow h.ctlReply) <|
    .ite (.ite h.writeNow h.ctlReply) h.mailboxOp

theorem Keeps.ctlStart {ahead n q} (h : Keeps s t) : Keeps s (t.ctlStart ahead n q).1 :=
  .ite_fst h (.ite_fst h h.ctlNow)

theorem Keeps.ctlTurn {n q} (h : Keeps s t) : Keeps s (t.ctlTurn n q) :=
  .ite h.ctlReply (.ite h.ctlNow h.ctlStart.upd)

theorem Keeps.ctlRequest {n q} (h : Keeps s t) : Keeps s (t.ctlRequest n q) := h.count.ctlTurn

theorem Keeps.ctlResume {l left} (h : Keeps s t) : Keeps s (t.ctlResume l left) := by
  induction l generalizing t left with
  | nil => exact h.upd
  | cons r l ih => exact .ite (ih h) (.ite (ih h.ctlNow) (ih h.ctlStart))

theorem Keeps.dieDone (h : Keeps s t) : Keeps s (t.dieDone) := by
  unfold State.dieDone
  split
  · exact h
  · exact have h := h.upd.writeDie; .ctlResume <| by split; exact h; exact .ite h.upd h.ctlDone

theorem Keeps.dieDrain (h : Keeps s t) : Keeps s (t.dieDrain) := .foldl (·.dieDone) h

theorem Keeps.unpoisoned {q} {act} (hact : ∀ {u}, Keeps s u → Keeps s (act u)) (h : Keeps s t) :
    Keeps s (t.unpoisoned q act) :=
  .ite h.incSat.slots (hact h)

theorem execControlRead_keeps {n q} (h : Keeps s t) : Answers (execControlRead n q t) (Keeps s) :=
  .next <| .unpoisoned (·.ctlRequest) h

theorem execControlWrite_keeps {n q} (h : Keeps s t) : Answers (execControlWrite n q t) (Keeps s) :=
  .next <| .unpoisoned (·.ctlRequest) h

theorem execMailboxOpRx_keeps {n q} (h : Keeps s t) : Answers (execMailboxOpRx n q t) (Keeps s) :=
  .next <| .unpoisoned (·.ctlRequest) h

theorem execPowerDieWriteDone_keeps (h : Keeps s t) : Answers (execPowerDieWriteDone t) (Keeps s) :=
  .next h.dieDone

theorem execPopWindowRead_keeps {p} (h : Keeps s t) : Answers (execPopWindowRead p t) (Keeps s) :=
  .next h.dieDrain.readWord.emit

theorem Keeps.deliverVector {v} (h : Keeps s t) : Keeps s (t.deliverVector v) :=
  have h := h.upd.setBitOf
  .ite h.sendMsix (.ite h (.foldl (·.sendEvent) h))

theorem Keeps.setTimer {v} (h : Keeps s t) : Keeps s (t.setTimer v) := h.upd

theorem execVectorDelivery_keeps {v} (h : Keeps s t) : Answers (execVectorDelivery v t) (Keeps s) :=
  .next <| .ite h (.ite h.deliverVector.setTimer h.upd)

theorem Keeps.ringEntry {q} (h : Keeps s t) : Keeps s (t.ringEntry q) := .ite h.incSat.raise h.set.set.set.arm

theorem Keeps.eventRx {q ring} (h : Keeps s t) : Keeps s (t.eventRx q ring) :=
  have h' := Keeps.ite h.upd (.ite h.request h)
  .ite h (.ite h'.ringEntry h')

theorem execEventPacketRx_keeps {q ring} (h : Keeps s t) : Answers (execEventPacketRx q ring t) (Keeps s) :=
  .next <| .unpoisoned (·.eventRx) h

/-! ### Boot.lean -/

theorem Keeps.mbxEnd {c status d} (h : Keeps s t) : Keeps s (t.mbxEnd c status d) := by
  unfold State.mbxEnd
  dsimp only
  split
  · exact h.useFree.resDone.setWords.set.raise
  · exact h.useFree.ctlDone

theorem Keeps.awlRestarts (h : Keeps s t) : Keeps s (t.awlRestarts) :=
  .raise <| .putQueue <| .foldl (·.mbxEnd) h

theorem Keeps.pickBank {l} (h : Keeps s t) : Keeps s (t.pickBank l).1 := by
  induction l generalizing t with
  | nil => exact h
  | cons b l ih => exact .ite_fst h (.ite_fst h.setFlag.showBank (ih h.setFlag.showBank.raise))

theorem Keeps.readRecord (h : Keeps s t) : Keeps s (t.readRecord) := h.set.set

theorem Keeps.checkSettings (h : Keeps s t) : Keeps s (t.checkSettings) := by
  unfold State.checkSettings
  split
  · exact h
  · exact .ite h.modFlash.raise h

theorem Keeps.cfgEntry {e} (h : Keeps s t) : Keeps s (t.cfgEntry e) :=
  .ite h.incSat (.ite h.accessErr h.writeWord)

theorem Keeps.applyConfig {b} (h : Keeps s t) : Keeps s (t.applyConfig b) :=
  .ite h (.set <| .foldl (·.cfgEntry) h)

theorem Keeps.startImages {base policy} (h : Keeps s t) : Keeps s (t.startImages base policy) :=
  h.modSec.deriveSlots.upd.setFlag.set.checkSettings

theorem Keeps.bootBank {b} (h : Keeps s t) : Keeps s (t.bootBank b) := h.set.set.setFlag.startImages.applyConfig

theorem Keeps.noImage (h : Keeps s t) : Keeps s (t.noImage) :=
  have h := h.set.modSec
  .ite h.set.raise h.modSec

theorem Keeps.bootImages (h : Keeps s t) : Keeps s (t.bootImages) := by
  unfold State.bootImages
  dsimp only
  split
  · exact h.readRecord.pickBank.bootBank
  · exact h.readRecord.pickBank.noImage

theorem Keeps.rootStep {good ok} (h : Keeps s t) : Keeps s (t.rootStep good ok) :=
  .ite h (.ite (.ite h.enrol h) h.regenerate)

theorem execBootRomRun_keeps {corr uncorr good ok} (h : Keeps s t) :
    Answers (execBootRomRun corr uncorr good ok t) (Keeps s) :=
  .next <|
    .ite h
      (have h := h.set.showFuses
       .ite h.set.modSec (have h := h.set.set.rootStep.bootImages; .ite h h.wakeDone))

theorem execAwlUncorr_keeps (h : Keeps s t) : Answers (execAwlUncorr t) (Keeps s) := .next h.logErr.set.upd

theorem Keeps.restartPath {corr uncorr} (h : Keeps s t) : Keeps s (t.restartPath corr uncorr) :=
  have h := h.awlRestarts.set.showFuses
  have h := Keeps.ite h.set.modSec h.set.setFlag.bootImages
  .ite h.wakeDone.bringUpOff h

theorem execAwlRestartPath_keeps {corr uncorr} (h : Keeps s t) :
    Answers (execAwlRestartPath corr uncorr t) (Keeps s) :=
  .next <| .ite h.restartPath h

theorem Keeps.applyActivation {late} (h : Keeps s t) : Keeps s (t.applyActivation late) :=
  have h := h.set.setFlag.set.writeRecord.awlRestarts.showFuses
  .ite h.readRecord.set.showBank.bootBank.raise
    (have h := h.set.set.writeRecord.readRecord; .raise <| .raise <| .ite h.bootBank h.noImage)

theorem execActivationApply_keeps (h : Keeps s t) : Answers (execActivationApply t) (Keeps s) :=
  .next <| .ite h.applyActivation h

theorem Keeps.requestUp {p purpose} (h : Keeps s t) : Keeps s (t.requestUp p purpose) := h.ctlOut.keepRequest
theorem Keeps.ask {f} (h : Keeps s t) : Keeps s (t.ask f) := h.modSec.requestUp
theorem Keeps.flashlessStart (h : Keeps s t) : Keeps s (t.flashlessStart) := h.startImages
theorem Keeps.fetchHelper {good} (h : Keeps s t) : Keeps s (t.fetchHelper good) := .ite h.ask h.flashlessStart
theorem Keeps.putRam {k x} (h : Keeps s t) : Keeps s (t.putRam k x) := .dite (fun _ => h.modSec) (fun _ => h)

theorem Keeps.fetchPolicy {good} (h : Keeps s t) : Keeps s (t.fetchPolicy good) :=
  .ite h.fetchHelper (by split; exact h.putRam.fetchHelper; exact h.ask)

theorem Keeps.fetchFailed {f} (h : Keeps s t) : Keeps s (t.fetchFailed f) :=
  .ite h.modSec (.ite h.putRam.fetchHelper h.flashlessStart)

theorem Keeps.fetchedHeader {f d} (h : Keeps s t) : Keeps s (t.fetchedHeader f d) := by
  unfold State.fetchedHeader
  exact .ite h.fetchFailed h.putRam.ask

theorem Keeps.fetchedPart {f d last} (h : Keeps s t) : Keeps s (t.fetchedPart f d last) :=
  .ite h.ask (.ite h.fetchFailed (have h := h.putRam; .ite h.ask (.ite h.fetchPolicy h.fetchHelper)))

theorem Keeps.fetchedHelper {f d} (h : Keeps s t) : Keeps s (t.fetchedHelper f d) :=
  .flashlessStart <| by split; exact h.latchRoot.set; exact h.set

theorem Keeps.flashlessAnswered {a} (h : Keeps s t) : Keeps s (t.flashlessAnswered a) := by
  unfold State.flashlessAnswered
  split
  · exact h
  · exact .ite h.modSec (.ite h.fetchFailed (.ite h.fetchedHelper (.ite h.fetchedHeader h.fetchedPart)))

theorem Keeps.enrolUp {ok} (h : Keeps s t) : Keeps s (t.enrolUp ok) :=
  .ite h (have h := h.enrol; .ite h h.modFlash.requestUp)

theorem execFlashlessBoot_keeps {good ok} (h : Keeps s t) : Answers (execFlashlessBoot good ok t) (Keeps s) :=
  .next <| .ite h.enrolUp.ask h

theorem execPolicyCheckStart_keeps {refused} (h : Keeps s t) :
    Answers (execPolicyCheckStart refused t) (Keeps s) :=
  .next <| .ite (.foldl (·.linkDown) h) h

/-! ### Mailbox.lean -/

theorem Keeps.modFront {f} (h : Keeps s t) : Keeps s (t.modFront f) := by
  unfold State.modFront
  split
  · exact h
  · exact h.upd

theorem Keeps.answerHead {status d} (h : Keeps s t) : Keeps s (t.answerHead status d) := h.modFront
theorem Keeps.planHead {todo got} (h : Keeps s t) : Keeps s (t.planHead todo got) := h.modFront
theorem Keeps.nextOps {todo} (h : Keeps s t) : Keeps s (t.nextOps todo) := h.modFront
theorem Keeps.ownWord {x} (h : Keeps s t) : Keeps s (t.ownWord x).1 := .ite_fst h.writeDie h.writeWord

theorem Keeps.ownOp {o tag} (h : Keeps s t) : Keeps s (t.ownOp o tag).1 :=
  have h := h.dieDrain.commandRun
  .ite_fst (.ite_fst h h.readWords) (.ite_fst (.ite_fst h (.foldl_fst (·.ownWord) h)) (.ite_fst h h.putQueue))

theorem Keeps.pathOpen {c pick pid lead} (h : Keeps s t) : Keeps s (t.pathOpen c pick pid lead) :=
  .ite h.answerHead <| .ite h.answerHead <| .ite h.answerHead <| .ite h.answerHead <| .ite h.answerHead <|
    .ite h.answerHead h.upd.planHead

theorem Keeps.pathClose {c} (h : Keeps s t) : Keeps s (t.pathClose c) :=
  .ite h.answerHead (by dsimp only; split; exact h.answerHead; exact h.upd.planHead)

theorem Keeps.undo {c status} (h : Keeps s t) : Keeps s (t.undo c status) := h.modFront

theorem Keeps.commitRefused {c o rest status} (h : Keeps s t) : Keeps s (t.commitRefused c o rest status) :=
  h.modFront

theorem Keeps.stepFailed {c o rest status} (h : Keeps s t) : Keeps s (t.stepFailed c o rest status) :=
  .ite h.nextOps.modFront (.ite (.ite h.nextOps (.ite h.commitRefused h.undo)) (.ite h.nextOps h.answerHead))

theorem Keeps.noteMap {o v} (h : Keeps s t) : Keeps s (t.noteMap o v) := h.setHubs

theorem Keeps.stepAnswered {status d} (h : Keeps s t) : Keeps s (t.stepAnswered status d).1 := by
  unfold State.stepAnswered
  split
  · exact h
  · split
    · exact h
    · exact
        have h' := h.modFront
        .ite_fst h.answerHead <| .ite_fst h.stepFailed <| .ite_fst (.ite_fst h.stepFailed h.nextOps) <|
          .ite_fst (.ite_fst h' (.ite_fst h.stepFailed h.nextOps.modFront)) <|
          .ite_fst (.ite_fst h.nextOps h.nextOps) <|
          .ite_fst (.ite_fst h.nextOps (.ite_fst h.stepFailed h.nextOps)) <|
          .ite_fst (.ite_fst h' (.ite_fst h.stepFailed h.nextOps.modFront)) <| .ite_fst h.nextOps <|
          .ite_fst (.ite_fst h.nextOps h') <| .ite_fst h.noteMap.nextOps <| .ite_fst h.nextOps <|
          .ite_fst h.nextOps.modFront h.nextOps.modFront

theorem Keeps.finishHead {c} (h : Keeps s t) : Keeps s (t.finishHead c) :=
  .ite h.answerHead <| .ite h.answerHead <| .ite h.emit.answerHead <|
    .ite (.ite h.answerHead h.upd.answerHead) <| .ite h.answerHead <| .ite h.answerHead h.answerHead

theorem Keeps.advance {f} (h : Keeps s t) : Keeps s (t.advance f) := by
  induction f generalizing t with
  | zero => exact h
  | succ f ih =>
    unfold State.advance
    split
    · exact h
    · refine .ite h ?_
      split
      · exact .ite (ih h.undo) h.finishHead
      · exact .ite (.ite h.ownOp.modFront (.ite (ih h.ownOp.stepAnswered) h.ownOp.stepAnswered))
          (.ite (.ite (ih h.stepAnswered) h.stepAnswered) h.modFront.request)

theorem Keeps.goOn (h : Keeps s t) : Keeps s (t.goOn) := by
  unfold State.goOn
  split
  · exact h
  · exact .advance <| by split; exact h.modFront.stepAnswered; exact h

theorem Keeps.mbxAnswered {tag status d} (h : Keeps s t) : Keeps s (t.mbxAnswered tag status d) := by
  unfold State.mbxAnswered
  split
  · exact .ite h (.ite h.modFront h.stepAnswered.goOn)
  · exact h

theorem Keeps.mbxRun {cmd} {start} (hstart : ∀ {x0 u}, Keeps s u → Keeps s (start x0 u)) (h : Keeps s t) :
    Keeps s (t.mbxRun cmd start) := by
  unfold State.mbxRun
  split
  · exact .ite h <| .ite h.goOn <| by
            dsimp only
            split
            · exact .ite (hstart <| h.modFront) (.goOn <| hstart <| h.modFront)
            · exact hstart <| h.modFront
  · exact h

theorem Keeps.mbx {way cmd} {start} (hstart : ∀ {x0 u}, Keeps s u → Keeps s (start x0 u)) (h : Keeps s t) :
    Keeps s (t.mbx way cmd start) := by
  unfold State.mbx
  split
  · exact .mbxRun (hstart) h
  · exact have h := h.ring; .ite (.mbxRun (hstart) h) h

theorem Keeps.rootOnly {c} {start} (hstart : ∀ {x0 u}, Keeps s u → Keeps s (start x0 u)) (h : Keeps s t) :
    Keeps s (rootOnly start c t) :=
  .ite (hstart h) h.answerHead

theorem Keeps.atOnce {c} {f} (hf : ∀ {x0 u}, Keeps s u → Keeps s (f x0 u).1) (h : Keeps s t) :
    Keeps s (atOnce f c t) :=
  .answerHead <| hf h

theorem execEcho_keeps {way} (h : Keeps s t) : Answers (execEcho way t) (Keeps s) :=
  .next <| .mbx (fun h => .atOnce (fun h => h) h) h

theorem execChipInfo_keeps {way} (h : Keeps s t) : Answers (execChipInfo way t) (Keeps s) :=
  .next <| .mbx (fun h => .atOnce (fun h => h) h) h

theorem Keeps.chainMap {c} (h : Keeps s t) : Keeps s (t.chainMap c) := h.planHead

theorem execChainMap_keeps {way} (h : Keeps s t) : Answers (execChainMap way t) (Keeps s) :=
  .next <| .mbx (fun h => .rootOnly (·.chainMap) h) h

theorem Keeps.remoteRead {c} (h : Keeps s t) : Keeps s (t.remoteRead c) := .ite h.answerHead h.planHead

theorem Keeps.remoteWrite {c} (h : Keeps s t) : Keeps s (t.remoteWrite c) :=
  .ite h.answerHead (.ite h.answerHead h.planHead)

theorem Keeps.remoteReadDma {c} (h : Keeps s t) : Keeps s (t.remoteReadDma c) := .ite h.answerHead h.planHead
theorem Keeps.remoteMbx {c} (h : Keeps s t) : Keeps s (t.remoteMbx c) := h.planHead

theorem execRemoteRead_keeps {way} (h : Keeps s t) : Answers (execRemoteRead way t) (Keeps s) :=
  .next <| .mbx (fun h => .rootOnly (·.remoteRead) h) h

theorem execRemoteWrite_keeps {way} (h : Keeps s t) : Answers (execRemoteWrite way t) (Keeps s) :=
  .next <| .mbx (fun h => .rootOnly (·.remoteWrite) h) h

theorem execRemoteReadDma_keeps {way} (h : Keeps s t) : Answers (execRemoteReadDma way t) (Keeps s) :=
  .next <| .mbx (fun h => .rootOnly (·.remoteReadDma) h) h

theorem execRemoteMbx_keeps {way} (h : Keeps s t) : Answers (execRemoteMbx way t) (Keeps s) :=
  .next <| .mbx (fun h => .rootOnly (·.remoteMbx) h) h

theorem execPathOpen_keeps {way pick pid lead} (h : Keeps s t) :
    Answers (execPathOpen way pick pid lead t) (Keeps s) :=
  .next <| .mbx (fun h => .rootOnly (·.pathOpen) h) h

theorem execPathClose_keeps {way} (h : Keeps s t) : Answers (execPathClose way t) (Keeps s) :=
  .next <| .mbx (fun h => .rootOnly (·.pathClose) h) h

theorem Keeps.onPort {c} {f} (hf : ∀ {x0 u}, Keeps s u → Keeps s (f x0 u).1) (h : Keeps s t) :
    Keeps s (onPort f c t).1 :=
  .dite_fst (fun _ => hf h) (fun _ => h)

theorem execCtpStatus_keeps {way} (h : Keeps s t) : Answers (execCtpStatus way t) (Keeps s) :=
  .next <| .mbx (fun h => .atOnce (fun h => .onPort (·.dieDrain) h) h) h

theorem execCtpRenegotiate_keeps {way} (h : Keeps s t) : Answers (execCtpRenegotiate way t) (Keeps s) :=
  .next <| .mbx (fun h => .atOnce (fun h => .onPort (·.ctpRenegotiate) h) h) h

theorem execCtpSwap_keeps {way} (h : Keeps s t) : Answers (execCtpSwap way t) (Keeps s) :=
  .next <| .mbx (fun h => .atOnce (fun h => .onPort (·.ctpSwap) h) h) h

theorem execCtpHardReset_keeps {way} (h : Keeps s t) : Answers (execCtpHardReset way t) (Keeps s) :=
  .next <| .mbx (fun h => .atOnce (fun h => .onPort (·.hardReset) h) h) h

theorem execKeyInfo_keeps {way} (h : Keeps s t) : Answers (execKeyInfo way t) (Keeps s) :=
  .next <| .mbx (fun h => .atOnce (fun h => h) h) h

theorem execQuote_keeps {way} (h : Keeps s t) : Answers (execQuote way t) (Keeps s) :=
  .next <| .mbx (fun h => .atOnce (·.quote) h) h

theorem execLcAdvance_keeps {way fail veto} (h : Keeps s t) : Answers (execLcAdvance way fail veto t) (Keeps s) :=
  .next <| .mbx (fun h => .atOnce (fun h => .ite_fst h h.lcCommand) h) h

theorem execLcVoid_keeps {way fail veto} (h : Keeps s t) : Answers (execLcVoid way fail veto t) (Keeps s) :=
  .next <| .mbx (fun h => .atOnce (fun h => .ite_fst h h.voidCommand) h) h

theorem execSignerRevoke_keeps {way fail veto} (h : Keeps s t) :
    Answers (execSignerRevoke way fail veto t) (Keeps s) :=
  .next <| .mbx (fun h => .atOnce (fun h => .ite_fst h h.revokeCommand) h) h

theorem execFwStatus_keeps {way} (h : Keeps s t) : Answers (execFwStatus way t) (Keeps s) :=
  .next <| .mbx (fun h => .atOnce (fun h => h) h) h

theorem execFwLoad_keeps {way dma} (h : Keeps s t) : Answers (execFwLoad way dma t) (Keeps s) :=
  .next <| .mbx (fun h => .rootOnly (fun h => .atOnce (·.fwLoad) h) h) h

theorem Keeps.fwMap {c veto} (h : Keeps s t) : Keeps s (t.fwMap c veto) :=
  .ite (.atOnce (·.fwActivate) h) (.planHead <| .ite_fst h.fwActivate h)

theorem execFwActivate_keeps {way veto} (h : Keeps s t) : Answers (execFwActivate way veto t) (Keeps s) :=
  .next <| .mbx (·.fwMap) h

theorem execFwRollback_keeps {way} (h : Keeps s t) : Answers (execFwRollback way t) (Keeps s) :=
  .next <| .mbx (·.fwMap) h

theorem execFwCommit_keeps {way veto} (h : Keeps s t) : Answers (execFwCommit way veto t) (Keeps s) :=
  .next <| .mbx (fun h => .atOnce (·.fwCommit) h) h

theorem execFwAbort_keeps {way} (h : Keeps s t) : Answers (execFwAbort way t) (Keeps s) :=
  .next <| .mbx (fun h => .atOnce (·.fwAbort) h) h

theorem Keeps.keyReason {c r} (h : Keeps s t) : Keeps s (t.keyReason c r) := .ite h.resAccept.resDone.set h

theorem execMbxDone_keeps (h : Keeps s t) : Answers (execMbxDone t) (Keeps s) := by
  unfold execMbxDone
  split
  · exact .next h
  · split
    · exact .next h
    · exact .next h.useFree.useFree.putQueue.keyReason.mbxEnd

theorem execMbxTimeout_keeps (h : Keeps s t) : Answers (execMbxTimeout t) (Keeps s) := by
  unfold execMbxTimeout
  split
  · exact .next h
  · exact .next h.putQueue.mbxEnd

/-! ### Endpoint.lean -/

theorem Keeps.reqComplete {tag r a} (h : Keeps s t) : Keeps s (t.reqComplete tag r a) := by
  unfold State.reqComplete
  split
  · exact h.mbxAnswered
  · exact h.imageAnswered
  · exact h.flashlessAnswered
  · exact h.assignAnswered
  · exact h.reassignAnswered
  · exact .ite h.tearRest.refreshEnds h
  · exact h.identAnswered
  · exact h

theorem Keeps.setReqs {l} (h : Keeps s t) : Keeps s (t.setReqs l) := h.upd

theorem Keeps.takeResponse {q} (h : Keeps s t) : Keeps s (t.takeResponse q) := by
  unfold State.takeResponse
  split
  · exact h
  · exact .ite h.setReqs h.setReqs.upd.reqComplete

theorem execControlResponseRx_keeps {q} (h : Keeps s t) : Answers (execControlResponseRx q t) (Keeps s) :=
  .next <| .unpoisoned (·.takeResponse) h

theorem execControlRetry_keeps {tag} (h : Keeps s t) : Answers (execControlRetry tag t) (Keeps s) := by
  unfold execControlRetry
  split
  · exact .next h
  · exact .next <| .ite h.setReqs.sendCtl.count h.setReqs.reqComplete

theorem Keeps.ctlAct {n q ring} (h : Keeps s t) : Keeps s (t.ctlAct n q ring) := by
  unfold State.ctlAct
  split
  · exact h.ctlRequest
  · exact h.ctlRequest
  · exact h.ctlRequest
  · exact h.takeResponse
  · exact h.eventRx
  · exact h.ctlTurn

theorem Keeps.ctlNoId {n q} (h : Keeps s t) : Keeps s (t.ctlNoId n q) :=
  .ite h.ctlTurn (.ite h.takeResponse (.ite h.ctlRequest (.ite h.ctlOut h)))

theorem Keeps.noRoute {q} (h : Keeps s t) : Keeps s (t.noRoute q) := .ite h.sendCtl h

theorem Keeps.ctlForward {q} (h : Keeps s t) : Keeps s (t.ctlForward q) :=
  .ite h.noRoute (by split; exact h.ctlOut; exact h.noRoute)

theorem execControlPacketRx_keeps {n q ring} (h : Keeps s t) :
    Answers (execControlPacketRx n q ring t) (Keeps s) :=
  have h := h.freeFixed
  .next <| .ite (.unpoisoned (fun h => h) h) <| .ite h.ctlTurn <| .ite h.ctlNoId <|
    .ite (.ite h.ctlTurn (.ite h.sendCtl h)) <| .ite h.ctlAct h.ctlForward

theorem execAssignIdRx_keeps {p} (h : Keeps s t) : Answers (execAssignIdRx p t) (Keeps s) :=
  .next <| .unpoisoned (·.ctlTurn) h

theorem execImageHeadRx_keeps {n p} (h : Keeps s t) : Answers (execImageHeadRx n p t) (Keeps s) :=
  .next <| .unpoisoned (·.ctlTurn) h

theorem execImageDataRx_keeps {n p} (h : Keeps s t) : Answers (execImageDataRx n p t) (Keeps s) :=
  .next <| .unpoisoned (·.ctlTurn) h

theorem execImageAbortRx_keeps {n p} (h : Keeps s t) : Answers (execImageAbortRx n p t) (Keeps s) :=
  .next <| .unpoisoned (·.ctlTurn) h

theorem execImageFetchRx_keeps {n p} (h : Keeps s t) : Answers (execImageFetchRx n p t) (Keeps s) :=
  .next <| .unpoisoned (·.ctlTurn) h

theorem Keeps.hostReads {x1 off} (h : Keeps s t) : Keeps s (t.hostReads x1 off).1 :=
  .foldl_fst (fun h => .ite_fst h h.readWord) h

theorem Keeps.dieRoom {a} (h : Keeps s t) : Keeps s (t.dieRoom a) := .ite (.foldl (·.dieDone) h) h

theorem Keeps.hostWindow {x1 off} (h : Keeps s t) : Keeps s (t.hostWindow x1 off) :=
  .ite (.foldl (fun h => .ite h h.dieRoom.writeWord) h) h.dieDrain.hostReads.emit

theorem Keeps.identify {b dev} (h : Keeps s t) : Keeps s (t.identify b dev) := by
  unfold State.identify
  split
  · exact h.emit
  · exact h.count.emit

theorem Keeps.writeTable {o v} (h : Keeps s t) : Keeps s (t.writeTable o v) :=
  .ite h (.ite h.modHost.flushMsix (.ite h.modHost.flushMsix (.ite h.modHost.flushMsix h.modHost.flushMsix)))

theorem Keeps.hostTable {x1 off} (h : Keeps s t) : Keeps s (t.hostTable x1 off) :=
  .ite (.foldl (fun h => .ite h h.writeTable) h) h.emit

theorem execDownstreamTlp_keeps {x0} (h : Keeps s t) : Answers (execDownstreamTlp x0 t) (Keeps s) :=
  .ite (.next h) <| by
    split
    · split
      · exact .next h.hostWindow
      · exact .next h.hostTable
      · exact .next h.downTlp
    · exact .next h.modHost
    · exact .next h.modHost
    · exact .next h.emit
    · exact .next h.modHost
    · exact .next h.identify
    · exact .next h.modHost
    · exact .next h.modHost.flushMsix
    · exact .next h.modHost.flushMsix

/-! ### Steps.lean -/

theorem Keeps.stepRecord {n rebase} (h : Keeps s t) : Keeps s (t.stepRecord n rebase) :=
  h.upd.set64.inc.set.setFlag.setFlag.raise

theorem Keeps.stepWheels (h : Keeps s t) : Keeps s (t.stepWheels) := h.newEpochFrom

theorem Keeps.stepActivation {late all} (h : Keeps s t) : Keeps s (t.stepActivation late all) :=
  .ite h.applyActivation h

theorem Keeps.stepSkips {a} (h : Keeps s t) : Keeps s (t.stepSkips a) :=
  h.missCommits.stepWheels.schedRun.heldApply.ptpDue.skippedSnap.stepActivation

theorem Keeps.stepForward {d} (h : Keeps s t) : Keeps s (t.stepForward d) :=
  have h := h.setTime
  .ite h h.stepSkips

theorem Keeps.stepFreeze {d} (h : Keeps s t) : Keeps s (t.stepFreeze d) := .foldl (·.set) h.upd.set
theorem Keeps.pullIn (h : Keeps s t) : Keeps s (t.pullIn) := .foldl (·.modHead) h.upd.modBridge
theorem Keeps.rebaseSnap (h : Keeps s t) : Keeps s (t.rebaseSnap) := h.lateSnap

theorem Keeps.stepRebase {d} (h : Keeps s t) : Keeps s (t.stepRebase d) :=
  h.missCommits.setTime.stepWheels.pullIn.schedRun.heldApply.ptpDue.rebaseSnap.stepActivation

theorem Keeps.firstAlign (h : Keeps s t) : Keeps s (t.firstAlign) :=
  have h := h.upd.setTime
  .set <| .ite h.stepSkips h.stepWheels

theorem Keeps.takeFree {parentFree} (h : Keeps s t) : Keeps s (t.takeFree parentFree) :=
  .ite h.setFlag (.when (·.set) h)

theorem Keeps.align {parentFree} (h : Keeps s t) : Keeps s (t.align parentFree) :=
  have h := h.upd
  have h' := h.upd
  .ite h.firstAlign.setFlag (.ite h'.nameStep (.ite h.upd h'.nameStep))

theorem execDelayRespRx_keeps {exch t4 t1 parentFree} (h : Keeps s t) :
    Answers (execDelayRespRx exch t4 t1 parentFree t) (Keeps s) :=
  .ite (.next h) <| by
    dsimp only
    split
    · exact .next h.freeTime
    · exact .ite (.next h.freeTime) (have h := h.freeTime.exchange.takeFree; .next <| .ite h h.align)

theorem execChainTimeStepApply_keeps (h : Keeps s t) : Answers (execChainTimeStepApply t) (Keeps s) := by
  unfold execChainTimeStepApply
  split
  · exact .next h
  · exact .ite (.next h) (have h := h.stepRecord; .next <| .ite h.stepRebase (.ite h.stepFreeze h.stepForward))

theorem Keeps.heldValue (h : Keeps s t) : Keeps s (t.heldValue) :=
  have h := Keeps.when (·.takeNow) h.schedRun.heldApply.ptpDue
  .stepActivation <| by split; exact h.applyCommit; exact h

theorem execFreezeEnd_keeps (h : Keeps s t) : Answers (execFreezeEnd t) (Keeps s) :=
  .ite (.next h) (.next <| .setTime <| .heldValue <| .foldl (·.set) h.upd.set)

/-! ### Tick.lean -/

theorem Keeps.countTick (h : Keeps s t) : Keeps s (t.countTick) := .ite h (.ite h.upd h.upd)
theorem Keeps.checkTick {n k} (h : Keeps s t) : Keeps s (t.checkTick n k) := .when (·.incSat) h

theorem Keeps.laneTick {n} (h : Keeps s t) : Keeps s (t.laneTick n) :=
  .foldl (·.checkTick) <| .ite h.trainStep (.ite (.foldl (·.sendSymbols) h) h)

theorem Keeps.tick (h : Keeps s t) : Keeps s (t.tick) :=
  have h :=
    Keeps.warnTick <| .commandRun <| .countTick <| .hostLinks <| .offTick <| .upd <| .foldl (·.laneTick) h
  .ite h (have h := h.occTick.cycleTick; .clearDue <| .ite h.spendDue.snapshot (.ite h.takeNow h))

theorem execSnapshotGo_keeps {tag} (h : Keeps s t) : Answers (execSnapshotGo tag t) (Keeps s) :=
  .next h.modCnt.tick

theorem execCounterClear_keeps (h : Keeps s t) : Answers (execCounterClear t) (Keeps s) := .next h.modCnt.tick

/-! ### Wakes.lean -/

theorem execChipWake_keeps {w} (h : Keeps s t) : Answers (execChipWake w t) (Keeps s) := .next h.chipWake

theorem execTackDetected_keeps {n} (h : Keeps s t) : Answers (execTackDetected n t) (Keeps s) :=
  .ite (.next h.modLane.wakeBy) (.ite (.next h.wakeLanes.raise) (.ite (.next h.modLane) (.next h)))

theorem execPfailExternal_keeps (h : Keeps s t) : Answers (execPfailExternal t) (Keeps s) :=
  .next h.pfail.wakeBy

theorem Keeps.cfgWake {n} (h : Keeps s t) : Keeps s (t.cfgWake n) := h.wakeBy

theorem execSourceAttach_keeps {n cc1 cc2} (h : Keeps s t) : Answers (execSourceAttach n cc1 cc2 t) (Keeps s) :=
  .next <| .cfgWake <| .when (·.sourceAttach) h

theorem execSinkAttach_keeps {n v} (h : Keeps s t) : Answers (execSinkAttach n v t) (Keeps s) :=
  .next <| .cfgWake <| .when (·.sinkAttach) h

theorem execDetach_keeps {n} (h : Keeps s t) : Answers (execDetach n t) (Keeps s) :=
  .next <| .cfgWake <| .when (·.detachPort) h

theorem execGpioEdge_keeps {g lines levels x3} (h : Keeps s t) :
    Answers (execGpioEdge g lines levels x3 t) (Keeps s) :=
  .next <| .when (·.wakeBy) h.gpioEdge

/-! ### Dispatch.lean -/

theorem exec_keeps (c : Instr) (h : Keeps s t) : Answers (exec c t) (Keeps s) :=
  match c with
  | .vstbyPowerUp .. => execVstbyPowerUp_keeps h
  | .railPgTimeout .. => execRailPgTimeout_keeps h
  | .vstbyLoss .. => execVstbyLoss_keeps h
  | .railPgLoss .. => execRailPgLoss_keeps h
  | .rootLinkUpReport .. => execRootLinkUpReport_keeps h
  | .assignIdRx .. => execAssignIdRx_keeps h
  | .hubJoined .. => execHubJoined_keeps h
  | .rootLinkDownReport .. => execRootLinkDownReport_keeps h
  | .rootHoldExpiry .. => execRootHoldExpiry_keeps h
  | .spokeHoldExpiry .. => execSpokeHoldExpiry_keeps h
  | .chainRouteWrite .. => execChainRouteWrite_keeps h
  | .controlPacketRx .. => execControlPacketRx_keeps h
  | .refinPresent .. => execRefinPresent_keeps h
  | .refinLoss .. => execRefinLoss_keeps h
  | .spokeRefinLoss .. => execSpokeRefinLoss_keeps h
  | .lineageSlewDone .. => execLineageSlewDone_keeps h
  | .sscEnWrite .. => execSscEnWrite_keeps h
  | .sscApply .. => execSscApply_keeps h
  | .holdoverEntry .. => execHoldoverEntry_keeps h
  | .forceHoldWrite .. => execForceHoldWrite_keeps h
  | .ratioValidSet .. => execRatioValidSet_keeps h
  | .lineagePllLock .. => execLineagePllLock_keeps h
  | .lineageLocked .. => execLineageLocked_keeps h
  | .delayReqTimer .. => execDelayReqTimer_keeps h
  | .delayReqRx .. => execDelayReqRx_keeps h
  | .delayRespRx .. => execDelayRespRx_keeps h
  | .stepNoticeRx .. => execStepNoticeRx_keeps h
  | .chainTimeStepApply .. => execChainTimeStepApply_keeps h
  | .freezeEnd .. => execFreezeEnd_keeps h
  | .ctmCapture .. => execCtmCapture_keeps h
  | .ctmHopReport .. => execCtmHopReport_keeps h
  | .trainingStart .. => execTrainingStart_keeps h
  | .alignBlockRx .. => execAlignBlockRx_keeps h
  | .txOverrideApply .. => execTxOverrideApply_keeps h
  | .sendRxReady .. => execSendRxReady_keeps h
  | .partialReadyTimer .. => execPartialReadyTimer_keeps h
  | .sendGo .. => execSendGo_keeps h
  | .trainTimeout .. => execTrainTimeout_keeps h
  | .blockLockAcquired .. => execBlockLockAcquired_keeps h
  | .blockLockLost .. => execBlockLockLost_keeps h
  | .compatEntry .. => execCompatEntry_keeps h
  | .compatLaneLock .. => execCompatLaneLock_keeps h
  | .compatLockLoss .. => execCompatLockLoss_keeps h
  | .skipSetSend .. => execSkipSetSend_keeps h
  | .hushEntry .. => execHushEntry_keeps h
  | .hushExit .. => execHushExit_keeps h
  | .wakeBlocksRx .. => execWakeBlocksRx_keeps h
  | .sleepEntry .. => execSleepEntry_keeps h
  | .tackSend .. => execTackSend_keeps h
  | .tackDetected .. => execTackDetected_keeps h
  | .sleepExitLanesReady .. => execSleepExitLanesReady_keeps h
  | .sleepExitFallback .. => execSleepExitFallback_keeps h
  | .testWrite .. => execTestWrite_keeps h
  | .retrain .. => execRetrain_keeps h
  | .prbsCheckerEnable .. => execPrbsCheckerEnable_keeps h
  | .eyeScanGo .. => execEyeScanGo_keeps h
  | .eyeScanDone .. => execEyeScanDone_keeps h
  | .flightSend .. => execFlightSend_keeps h
  | .headerSlotRx .. => execHeaderSlotRx_keeps h
  | .linkMessageRx .. => execLinkMessageRx_keeps h
  | .sealRx .. => execSealRx_keeps h
  | .nakRx .. => execNakRx_keeps h
  | .nakTimeout .. => execNakTimeout_keeps h
  | .packetPoisoned .. => execPacketPoisoned_keeps h
  | .capRx .. => execCapRx_keeps h
  | .capDoneRx .. => execCapDoneRx_keeps h
  | .linkDown .. => execLinkDown_keeps h
  | .sessionExpiry .. => execSessionExpiry_keeps h
  | .laneReadmit .. => execLaneReadmit_keeps h
  | .hushRequest .. => execHushRequest_keeps h
  | .hushReqRx .. => execHushReqRx_keeps h
  | .hushAckRx .. => execHushAckRx_keeps h
  | .hushExitTimer .. => execHushExitTimer_keeps h
  | .hushExitPacket .. => execHushExitPacket_keeps h
  | .sleepRequestWrite .. => execSleepRequestWrite_keeps h
  | .sleepReqRx .. => execSleepReqRx_keeps h
  | .kxShareRx .. => execKxShareRx_keeps h
  | .kxAuthRx .. => execKxAuthRx_keeps h
  | .keysInstalled .. => execKeysInstalled_keeps h
  | .kxDoneRx .. => execKxDoneRx_keeps h
  | .compatFrameRx .. => execCompatFrameRx_keeps h
  | .compatAckTimer .. => execCompatAckTimer_keeps h
  | .contextWrite .. => execContextWrite_keeps h
  | .activate .. => execActivate_keeps h
  | .drain .. => execDrain_keeps h
  | .drainComplete .. => execDrainComplete_keeps h
  | .drainTimeout .. => execDrainTimeout_keeps h
  | .tearDown .. => execTearDown_keeps h
  | .move .. => execMove_keeps h
  | .flowPacketArrival .. => execFlowPacketArrival_keeps h
  | .packetAdmission .. => execPacketAdmission_keeps h
  | .egressPacketStart .. => execEgressPacketStart_keeps h
  | .multicastBranchDrop .. => execMulticastBranchDrop_keeps h
  | .heldApplyTime .. => execHeldApplyTime_keeps h
  | .rlbPacketRx .. => execRlbPacketRx_keeps h
  | .rlbAckTimer .. => execRlbAckTimer_keeps h
  | .rlbFlowControlRx .. => execRlbFlowControlRx_keeps h
  | .rlbRetransmitTimeout .. => execRlbRetransmitTimeout_keeps h
  | .partitionApply .. => execPartitionApply_keeps h
  | .fence .. => execFence_keeps h
  | .engineFailureDetect .. => execEngineFailureDetect_keeps h
  | .engineWatchdog .. => execEngineWatchdog_keeps h
  | .rehomeComplete .. => execRehomeComplete_keeps h
  | .epochBoundary .. => execEpochBoundary_keeps h
  | .wheelPacketBoundary .. => execWheelPacketBoundary_keeps h
  | .commitNext .. => execCommitNext_keeps h
  | .commitAt .. => execCommitAt_keeps h
  | .commitAbort .. => execCommitAbort_keeps h
  | .commitStaging .. => execCommitStaging_keeps h
  | .commitApply .. => execCommitApply_keeps h
  | .quotaDrained .. => execQuotaDrained_keeps h
  | .mapCopy .. => execMapCopy_keeps h
  | .shadowMapWrite .. => execShadowMapWrite_keeps h
  | .reexpansionDone .. => execReexpansionDone_keeps h
  | .headerParityFail .. => execHeaderParityFail_keeps h
  | .dataParityFail .. => execDataParityFail_keeps h
  | .cellBufferUncorr .. => execCellBufferUncorr_keeps h
  | .contextUncorr .. => execContextUncorr_keeps h
  | .tableUncorr .. => execTableUncorr_keeps h
  | .replayUncorr .. => execReplayUncorr_keeps h
  | .awlUncorr .. => execAwlUncorr_keeps h
  | .scrubPass .. => execScrubPass_keeps h
  | .adapterPacketDecided .. => execAdapterPacketDecided_keeps h
  | .regWrite .. => execRegWrite_keeps h
  | .pageLock .. => execPageLock_keeps h
  | .softReset .. => execSoftReset_keeps h
  | .evtEnWrite .. => execEvtEnWrite_keeps h
  | .evtClr .. => execEvtClr_keeps h
  | .evtSet .. => execEvtSet_keeps h
  | .evcSoft .. => execEvcSoft_keeps h
  | .controlRead .. => execControlRead_keeps h
  | .controlWrite .. => execControlWrite_keeps h
  | .controlResponseRx .. => execControlResponseRx_keeps h
  | .controlRetry .. => execControlRetry_keeps h
  | .replayCacheExpiry .. => execReplayCacheExpiry_keeps h
  | .powerDieWriteDone .. => execPowerDieWriteDone_keeps h
  | .popWindowRead .. => execPopWindowRead_keeps h
  | .vectorDelivery .. => execVectorDelivery_keeps h
  | .eventPacketRx .. => execEventPacketRx_keeps h
  | .echo .. => execEcho_keeps h
  | .chipInfo .. => execChipInfo_keeps h
  | .chainMap .. => execChainMap_keeps h
  | .remoteRead .. => execRemoteRead_keeps h
  | .remoteWrite .. => execRemoteWrite_keeps h
  | .remoteReadDma .. => execRemoteReadDma_keeps h
  | .remoteMbx .. => execRemoteMbx_keeps h
  | .pathOpen .. => execPathOpen_keeps h
  | .pathClose .. => execPathClose_keeps h
  | .mailboxOpRx .. => execMailboxOpRx_keeps h
  | .mbxDone .. => execMbxDone_keeps h
  | .mbxTimeout .. => execMbxTimeout_keeps h
  | .pcieUpstreamReset .. => execPcieUpstreamReset_keeps h
  | .flr .. => execFlr_keeps h
  | .downstreamTlp .. => execDownstreamTlp_keeps h
  | .upstreamTlp .. => execUpstreamTlp_keeps h
  | .rootPortTlpRx .. => execRootPortTlpRx_keeps h
  | .endPortLinkControl .. => execEndPortLinkControl_keeps h
  | .rootPortLinkChange .. => execRootPortLinkChange_keeps h
  | .hotReset .. => execHotReset_keeps h
  | .ethModeWrite .. => execEthModeWrite_keeps h
  | .ethFrameRx .. => execEthFrameRx_keeps h
  | .pauseExpiry .. => execPauseExpiry_keeps h
  | .pauseSend .. => execPauseSend_keeps h
  | .ethFrameTx .. => execEthFrameTx_keeps h
  | .ptpMapGo .. => execPtpMapGo_keeps h
  | .ptpMapApply .. => execPtpMapApply_keeps h
  | .bankInitDone .. => execBankInitDone_keeps h
  | .rectWrite .. => execRectWrite_keeps h
  | .rectCopy .. => execRectCopy_keeps h
  | .rectFill .. => execRectFill_keeps h
  | .paletteLoad .. => execPaletteLoad_keeps h
  | .flip .. => execFlip_keeps h
  | .displayOpDone .. => execDisplayOpDone_keeps h
  | .flipDue .. => execFlipDue_keeps h
  | .verticalBlank .. => execVerticalBlank_keeps h
  | .genlockWrite .. => execGenlockWrite_keeps h
  | .dpTrain .. => execDpTrain_keeps h
  | .dpTrainDone .. => execDpTrainDone_keeps h
  | .hpdChange .. => execHpdChange_keeps h
  | .hpdLoss .. => execHpdLoss_keeps h
  | .auxGo .. => execAuxGo_keeps h
  | .auxDone .. => execAuxDone_keeps h
  | .lineReq .. => execLineReq_keeps h
  | .lineData .. => execLineData_keeps h
  | .lineFetchRequest .. => execLineFetchRequest_keeps h
  | .activeLineStart .. => execActiveLineStart_keeps h
  | .canFrameRx .. => execCanFrameRx_keeps h
  | .rateTokenRefill .. => execRateTokenRefill_keeps h
  | .i2cTargetWrite .. => execI2cTargetWrite_keeps h
  | .i2cTargetRead .. => execI2cTargetRead_keeps h
  | .uartMessageEnd .. => execUartMessageEnd_keeps h
  | .gpioEdge .. => execGpioEdge_keeps h
  | .xferGo .. => execXferGo_keeps h
  | .xferTimeout .. => execXferTimeout_keeps h
  | .bridgeEgressQueue .. => execBridgeEgressQueue_keeps h
  | .bridgeWrite .. => execBridgeWrite_keeps h
  | .bridgeRead .. => execBridgeRead_keeps h
  | .bridgeResp .. => execBridgeResp_keeps h
  | .bridgeEdge .. => execBridgeEdge_keeps h
  | .bridgeSet .. => execBridgeSet_keeps h
  | .semAcq .. => execSemAcq_keeps h
  | .semRel .. => execSemRel_keeps h
  | .wrappedEgress .. => execWrappedEgress_keeps h
  | .canTxTimeout .. => execCanTxTimeout_keeps h
  | .canBusOffRecovery .. => execCanBusOffRecovery_keeps h
  | .i2cStretchTimeout .. => execI2cStretchTimeout_keeps h
  | .readAheadDiscard .. => execReadAheadDiscard_keeps h
  | .readAheadAge .. => execReadAheadAge_keeps h
  | .gpioSchedPush .. => execGpioSchedPush_keeps h
  | .schedOutputDue .. => execSchedOutputDue_keeps h
  | .semTimeout .. => execSemTimeout_keeps h
  | .semBreak .. => execSemBreak_keeps h
  | .yieldConflict .. => execYieldConflict_keeps h
  | .retractRestart .. => execRetractRestart_keeps h
  | .sourceAttach .. => execSourceAttach_keeps h
  | .sinkAttach .. => execSinkAttach_keeps h
  | .dbAttach .. => execDbAttach_keeps h
  | .detach .. => execDetach_keeps h
  | .infoRetry .. => execInfoRetry_keeps h
  | .baseContractPg .. => execBaseContractPg_keeps h
  | .sinkPowerGood .. => execSinkPowerGood_keeps h
  | .ctpAckRx .. => execCtpAckRx_keeps h
  | .ctpAckTimeout .. => execCtpAckTimeout_keeps h
  | .infoRx .. => execInfoRx_keeps h
  | .capsRx .. => execCapsRx_keeps h
  | .requestRx .. => execRequestRx_keeps h
  | .acceptRx .. => execAcceptRx_keeps h
  | .rejectOrWaitRx .. => execRejectOrWaitRx_keeps h
  | .readyRx .. => execReadyRx_keeps h
  | .getCapsRx .. => execGetCapsRx_keeps h
  | .swapReqRx .. => execSwapReqRx_keeps h
  | .ctpHardResetRx .. => execCtpHardResetRx_keeps h
  | .reservedTypeRx .. => execReservedTypeRx_keeps h
  | .sequenceLevelWait .. => execSequenceLevelWait_keeps h
  | .sequenceTimeout .. => execSequenceTimeout_keeps h
  | .transitionSetLevel .. => execTransitionSetLevel_keeps h
  | .transitionReady .. => execTransitionReady_keeps h
  | .noReadyTimeout .. => execNoReadyTimeout_keeps h
  | .transitionBandExit .. => execTransitionBandExit_keeps h
  | .sinkWindowExit .. => execSinkWindowExit_keeps h
  | .swapOldSourceOff .. => execSwapOldSourceOff_keeps h
  | .swapNewSourcePg .. => execSwapNewSourcePg_keeps h
  | .swapTimeout .. => execSwapTimeout_keeps h
  | .hardResetHoldEnd .. => execHardResetHoldEnd_keeps h
  | .hardResetStuck .. => execHardResetStuck_keeps h
  | .deadBatteryStart .. => execDeadBatteryStart_keeps h
  | .localPgHandover .. => execLocalPgHandover_keeps h
  | .localPgFall .. => execLocalPgFall_keeps h
  | .ctpSend .. => execCtpSend_keeps h
  | .ctpHardResetCmd .. => execCtpHardResetCmd_keeps h
  | .ctpStatus .. => execCtpStatus_keeps h
  | .ctpRenegotiate .. => execCtpRenegotiate_keeps h
  | .ctpSwap .. => execCtpSwap_keeps h
  | .ctpHardReset .. => execCtpHardReset_keeps h
  | .channelCommandedOn .. => execChannelCommandedOn_keeps h
  | .rampComplete .. => execRampComplete_keeps h
  | .rampNoRise .. => execRampNoRise_keeps h
  | .rampTmo .. => execRampTmo_keeps h
  | .curveTrip .. => execCurveTrip_keeps h
  | .fastTrip .. => execFastTrip_keeps h
  | .overVoltage .. => execOverVoltage_keeps h
  | .feedUnderVoltage .. => execFeedUnderVoltage_keeps h
  | .feedWindowRecover .. => execFeedWindowRecover_keeps h
  | .reverseCurrent .. => execReverseCurrent_keeps h
  | .feedForwardBias .. => execFeedForwardBias_keeps h
  | .thermalModelStep .. => execThermalModelStep_keeps h
  | .channelToggle .. => execChannelToggle_keeps h
  | .coolDownEnd .. => execCoolDownEnd_keeps h
  | .fetFailCheck .. => execFetFailCheck_keeps h
  | .feedSwitchover .. => execFeedSwitchover_keeps h
  | .primaryTakeback .. => execPrimaryTakeback_keeps h
  | .pfailAssert .. => execPfailAssert_keeps h
  | .pfailHoldEnd .. => execPfailHoldEnd_keeps h
  | .pfailExternal .. => execPfailExternal_keeps h
  | .pwarnRx .. => execPwarnRx_keeps h
  | .domainSwitchOff .. => execDomainSwitchOff_keeps h
  | .domainSwitchOn .. => execDomainSwitchOn_keeps h
  | .domainReady .. => execDomainReady_keeps h
  | .domainFault .. => execDomainFault_keeps h
  | .stateReqRun .. => execStateReqRun_keeps h
  | .stateReqDoze .. => execStateReqDoze_keeps h
  | .stateReqRetain .. => execStateReqRetain_keeps h
  | .stateReqHold .. => execStateReqHold_keeps h
  | .stateReqShelf .. => execStateReqShelf_keeps h
  | .dozeClockGate .. => execDozeClockGate_keeps h
  | .dozeClockUngate .. => execDozeClockUngate_keeps h
  | .retainPortsSlept .. => execRetainPortsSlept_keeps h
  | .retainSleepTimeout .. => execRetainSleepTimeout_keeps h
  | .chipWake .. => execChipWake_keeps h
  | .wakeReplayed .. => execWakeReplayed_keeps h
  | .wakeTimerExpiry .. => execWakeTimerExpiry_keeps h
  | .avsAdjust .. => execAvsAdjust_keeps h
  | .bootRomRun .. => execBootRomRun_keeps h
  | .awlRestartPath .. => execAwlRestartPath_keeps h
  | .flashlessBoot .. => execFlashlessBoot_keeps h
  | .policyCheckStart .. => execPolicyCheckStart_keeps h
  | .keyGenerate .. => execKeyGenerate_keeps h
  | .keyDerive .. => execKeyDerive_keeps h
  | .keyEcdh .. => execKeyEcdh_keeps h
  | .keyUnwrap .. => execKeyUnwrap_keeps h
  | .keyClear .. => execKeyClear_keeps h
  | .keyPublic .. => execKeyPublic_keeps h
  | .keyOpComplete .. => execKeyOpComplete_keeps h
  | .keySlotAttrWrite .. => execKeySlotAttrWrite_keeps h
  | .crySha384 .. => execCrySha384_keeps h
  | .cryHmac .. => execCryHmac_keeps h
  | .cryGcmEncrypt .. => execCryGcmEncrypt_keeps h
  | .cryGcmDecrypt .. => execCryGcmDecrypt_keeps h
  | .cryEcdsaSign .. => execCryEcdsaSign_keeps h
  | .cryEcdsaVerify .. => execCryEcdsaVerify_keeps h
  | .cryMldsaVerify .. => execCryMldsaVerify_keeps h
  | .cryRandom .. => execCryRandom_keeps h
  | .cryComplete .. => execCryComplete_keeps h
  | .debugChallenge .. => execDebugChallenge_keeps h
  | .debugAnswer .. => execDebugAnswer_keeps h
  | .debugPassword .. => execDebugPassword_keeps h
  | .debugClose .. => execDebugClose_keeps h
  | .nonceExpiry .. => execNonceExpiry_keeps h
  | .keyInfo .. => execKeyInfo_keeps h
  | .quote .. => execQuote_keeps h
  | .lcAdvance .. => execLcAdvance_keeps h
  | .lcVoid .. => execLcVoid_keeps h
  | .signerRevoke .. => execSignerRevoke_keeps h
  | .fwLoad .. => execFwLoad_keeps h
  | .imageHeadRx .. => execImageHeadRx_keeps h
  | .imageDataRx .. => execImageDataRx_keeps h
  | .imageAbortRx .. => execImageAbortRx_keeps h
  | .imageFetchRx .. => execImageFetchRx_keeps h
  | .sessionIdleTimeout .. => execSessionIdleTimeout_keeps h
  | .imageStaged .. => execImageStaged_keeps h
  | .fwActivate .. => execFwActivate_keeps h
  | .activationApply .. => execActivationApply_keeps h
  | .fwRollback .. => execFwRollback_keeps h
  | .fwCommit .. => execFwCommit_keeps h
  | .fwAbort .. => execFwAbort_keeps h
  | .fwStatus .. => execFwStatus_keeps h
  | .snapshotPeriodic .. => execSnapshotPeriodic_keeps h
  | .snapshotGo .. => execSnapshotGo_keeps h
  | .snapshotAtCommand .. => execSnapshotAtCommand_keeps h
  | .snapshotAtDue .. => execSnapshotAtDue_keeps h
  | .snapshotDeferred .. => execSnapshotDeferred_keeps h
  | .counterClear .. => execCounterClear_keeps h
  | .dumpRecordWritten .. => execDumpRecordWritten_keeps h
  | .cfgReadingChange .. => execCfgReadingChange_keeps h
  | .pcieLinkUp .. => execPcieLinkUp_keeps h
  | .ethLinkChange .. => execEthLinkChange_keeps h
  | .flashChunkWritten .. => execFlashChunkWritten_keeps h
  | .returnAuthExpiry .. => execReturnAuthExpiry_keeps h

/-! ### Every step -/

/-- A step answers a state in canonical form when it starts from one. -/
theorem step_answers (s : State) : Answers (step s) fun t => Canonical s → Canonical t := by
  unfold step
  split
  · exact .next Keeps.refl.tick.canonical
  · next c rest _ => exact (exec_keeps c (s := { s with pending := rest }) .refl).mono fun _ h => h.canonical

theorem runsSafely (k : Nat) : ∀ s : State, RunsSafely s k := by
  induction k with
  | zero => exact fun s => ⟨s, rfl⟩
  | succ k ih =>
    intro s
    obtain ⟨t, ht, -⟩ := step_answers s
    obtain ⟨u, hu⟩ := ih t
    refine ⟨u, ?_⟩
    unfold Host.Core.run
    dsimp only
    rw [ht]
    exact hu

/-- Settles O4: a step answers the tick or the front command, and the rule of either keeps the canonical form. -/
theorem everyStepKeepsCanonical : Obligations.EveryStepKeepsCanonical :=
  fun s hs => (step_answers s).mono fun _ h => h hs

/-- Settles O2: the rule of exec answers for every command, and a run goes on from each answer by induction on its
steps. -/
theorem everyCommandCompletes : Obligations.EveryCommandCompletes := by
  unfold Obligations.EveryCommandCompletes
  exact ⟨fun c s => (exec_keeps c .refl).mono fun _ _ => trivial, fun s k => runsSafely k s⟩

/-! ### The state after reset -/

theorem State.get_reset (f : Fld) : State.reset.get f = f.rst := rfl

/-- Settles O5: no field and no byte is listed at reset, so each reads its default. -/
theorem theStateAfterReset : Obligations.TheStateAfterReset := by
  unfold Obligations.TheStateAfterReset
  exact ⟨⟨rfl, reset_canonical, rfl⟩, State.get_reset, fun _ => rfl, ⟨rfl, rfl, State.get_reset _, rfl⟩,
    fun _ _ => State.get_reset _⟩

/-! ### Power-up with a feed channel marked as discharging -/

/-- RAIL_PG is awaited, feed A is present, and the record of its channel E4 says that a DSC pin is driven, which no feed has. -/
def feedDischarging : State :=
  ((State.reset.modChip fun c => { c with power := 2, attempts := 1 }).set EYE_FEED_STAT.A_PRESENT 1).modChan 4
    fun h => { h with dis := true }

/-- The next attempt commands E4 on, which ends the discharge between the rails' fall and their rise: a pin without a name
goes low. -/
theorem feedDischarging_again : Answers (exec (.railPgTimeout ⟨false, 0, true, true⟩ true) feedDischarging) fun t =>
    t.out = [.pin "RAIL_EN3" 0, .pin "RAIL_EN2" 0, .pin "RAIL_EN1" 0, .pin "RAIL_EN0" 0] ++ [.pin "" 0] ++
      [.pin "RAIL_EN0" 1, .pin "RAIL_EN1" 1, .pin "RAIL_EN2" 1, .pin "RAIL_EN3" 1] :=
  ⟨_, rfl, by decide +kernel⟩

/-- Refutes O52: its clause of the repeated attempt (R494) takes every state that awaits RAIL_PG, and in one whose feed channel
E4 is marked as discharging (powerOff marks port channels only) a ninth pin event stands among the eight of the rails. -/
theorem not_powerUpAndLoss : ¬ Obligations.PowerUpAndLoss := by
  unfold Obligations.PowerUpAndLoss
  rintro ⟨-, -, again, -⟩
  obtain ⟨t, ht, -, -, -, -, -, -, -, rails, -⟩ := again feedDischarging ⟨false, 0, true, true⟩ rfl (by decide)
  obtain ⟨u, hu, nine⟩ := feedDischarging_again
  cases ht.symm.trans hu
  exact absurd (nine.symm.trans rails) (by decide)

end Sys2Proof.Machine
end

/-!
PROOFS. The chain and the roles of its hubs (chapter 01). First what sending leaves alone, then frames; with these the control
packets at a hub (O18) and the enumeration in the Root (O16) follow the branches of their commands. O7, O17 and O24 each have a
clause that a written-out state or packet contradicts.
-/
section
namespace Sys2Proof.Machine

variable {s t u : State}

/-! ### What leaves the hub, and freed credit -/

/-- From s to t packets may leave and credit may be given: no register, no frame-store byte and nothing of the control
endpoint or of the Root's map changes. -/
structure Sends (s t : State) : Prop where
  regs : t.regs = s.regs
  mem : t.mem = s.mem
  ctl : t.ctl = s.ctl
  chain : t.chain = s.chain

theorem Sends.refl : Sends s s := ⟨rfl, rfl, rfl, rfl⟩

theorem Sends.trans (h : Sends s t) (h' : Sends t u) : Sends s u :=
  ⟨h'.regs.trans h.regs, h'.mem.trans h.mem, h'.ctl.trans h.ctl, h'.chain.trans h.chain⟩

theorem Sends.foldl {β : Type} {f : State → β → State} {l : List β} (hf : ∀ {v b}, Sends s v → Sends s (f v b))
    (h : Sends s t) : Sends s (l.foldl f t) := by
  induction l generalizing t with
  | nil => exact h
  | cons b l ih => exact ih (hf h)

theorem Sends.when {b : Bool} {g : State → State} (hg : ∀ {v}, Sends s v → Sends s (g v)) (h : Sends s t) :
    Sends s (t.when b g) := by
  cases b
  · exact h
  · exact hg h

theorem Sends.emit {e} (h : Sends s t) : Sends s (t.emit e) := ⟨h.regs, h.mem, h.ctl, h.chain⟩
theorem Sends.modLane {n f} (h : Sends s t) : Sends s (t.modLane n f) := ⟨h.regs, h.mem, h.ctl, h.chain⟩
theorem Sends.modLink {n f} (h : Sends s t) : Sends s (t.modLink n f) := ⟨h.regs, h.mem, h.ctl, h.chain⟩
theorem Sends.queueFixed {n p} (h : Sends s t) : Sends s (t.queueFixed n p) := ⟨h.regs, h.mem, h.ctl, h.chain⟩
theorem Sends.sendSymbols {n k l} (h : Sends s t) : Sends s (t.sendSymbols n k l) := h.modLane.emit
theorem Sends.sendStriped {n l} (h : Sends s t) : Sends s (t.sendStriped n l) := .foldl (·.sendSymbols) h
theorem Sends.sendFrame {n f} (h : Sends s t) : Sends s (t.sendFrame n f) := h.emit.sendStriped
theorem Sends.freeCredit {n c k} (h : Sends s t) : Sends s (t.freeCredit n c k) := .when (·.sendFrame) h.modLink
theorem Sends.freeFixed {n k} (h : Sends s t) : Sends s (t.freeFixed n k) := .when (·.freeCredit) h

theorem Sends.ctlOut {n p} (h : Sends s t) : Sends s (t.ctlOut n p) := by
  unfold State.ctlOut
  split
  · exact h.emit.queueFixed
  · exact h

theorem Sends.get (h : Sends s t) (f : Fld) : t.get f = s.get f := State.get_of_regs h.regs f

theorem Sends.flag (h : Sends s t) (f : Fld) : t.flag f = s.flag f := by
  simp only [State.flag, h.get]

theorem Sends.hubId (h : Sends s t) : t.hubId = s.hubId := h.get _

theorem Sends.isRoot (h : Sends s t) : t.isRoot = s.isRoot := by
  simp only [State.isRoot, h.get]

theorem Sends.routeTo (h : Sends s t) (id : Nat) : t.routeTo id = s.routeTo id := by
  simp only [State.routeTo, h.isRoot, h.get]

theorem Sends.childFetch (h : Sends s t) (n : Port) (q : CtlPkt) : t.childFetch n q = s.childFetch n q := by
  simp only [State.childFetch, State.facesUp, h.isRoot]

theorem Sends.ownVia (h : Sends s t) (n : Port) (q : CtlPkt) : t.ownVia n q = s.ownVia n q := by
  simp only [State.ownVia, h.isRoot, h.get]

theorem Sends.frame (h : Sends s t) : Frame [] s t := ⟨.of_regs h.regs, .of_mem h.mem⟩

/-- A control packet leaves by the port of an admitted link (R115). -/
theorem State.ctlOut_out {n : Nat} (p : CtlPkt) (adm : s.flag (WLT_LINK_STAT.ADMITTED n) = true) :
    (s.ctlOut n p).out = s.out ++ [.ctl n p] := by
  simp only [State.ctlOut, adm, if_true]
  rfl

/-- A packet not sent by VIA leaves by the route table (R162). -/
theorem State.sendCtl_of_route {p : CtlPkt} {n : Nat} (via : p.via = false) (route : s.routeTo p.dst = some n) :
    s.sendCtl p = s.ctlOut n p := by
  simp [State.sendCtl, via, route]

/-- A packet whose VIA_ID is this hub leaves by VIA_PORT (R162). -/
theorem State.sendCtl_of_via {p : CtlPkt} (via : p.via = true) (here : p.viaId = s.hubId) :
    s.sendCtl p = s.ctlOut p.viaPort p := by
  simp [State.sendCtl, via, here]

/-- Only a 1.x port sends the credit of a freed slot as a frame of its own (R103, Table 04.10). -/
theorem State.freeFixed_out {n : Port} (k : Nat) (native : s.flag (WLT_PCS_STAT.COMPAT n) = false) :
    (s.freeFixed n k).out = s.out := by
  cases adm : s.flag (WLT_LINK_STAT.ADMITTED n) <;> simp [State.freeFixed, State.freeCredit, adm, native]

/-! ### Control packets at a hub (O18) -/

/-- The hub once the slots of a control packet that has come by port n are free again (R103, R162). -/
def State.credited (s : State) (n : Port) (q : CtlPkt) : State := s.freeFixed n (1 + ceilDiv q.data.length 32)

theorem State.sends_credited (s : State) (n : Port) (q : CtlPkt) : Sends s (s.credited n q) := Sends.refl.freeFixed

/-- What O18 says of each case: credit freed on port n aside, the one thing sent is x, by port p. -/
def SendsOnly (n : Port) (p : Nat) (x : CtlPkt) (s t : State) : Prop :=
  (s.flag (WLT_PCS_STAT.COMPAT n) = false → t.out = s.out ++ [.ctl p x]) ∧ t.out.getLast? = some (.ctl p x) ∧
    t.ctl = s.ctl ∧ Frame [] s t

theorem sendsOnly_credited_ctlOut {n : Port} {q x : CtlPkt} {p : Nat}
    (adm : s.flag (WLT_LINK_STAT.ADMITTED p) = true) : SendsOnly n p x s ((s.credited n q).ctlOut p x) := by
  have credit := s.sends_credited n q
  have sent := State.ctlOut_out x ((credit.flag _).trans adm)
  refine ⟨fun native => ?_, ?_, credit.ctlOut.ctl, credit.ctlOut.frame⟩
  · rw [sent, State.credited, State.freeFixed_out _ native]
  · rw [sent, List.getLast?_concat]

/-- A packet for another hub, in a hub with an id (R162). -/
theorem controlPacketRx_elsewhere {n : Port} {q : CtlPkt} (ring : Bool) (id : s.hubId ≠ 255)
    (child : s.childFetch n q = false) (own : s.ownVia n q = false) (dst : q.dst ≠ s.hubId) :
    execControlPacketRx n q ring s = .next ((s.credited n q).ctlForward q) := by
  have credit := s.sends_credited n q
  have hid := credit.hubId
  have hch := (credit.childFetch n q).trans child
  have how := (credit.ownVia n q).trans own
  unfold State.credited at *
  simp [execControlPacketRx, hid, hch, how, id, dst]

/-- A request beyond pages 0x00 to 0x0F, in a hub without an id (R23). -/
theorem controlPacketRx_noId {n : Port} {q : CtlPkt} (ring : Bool) (id : s.hubId = 255) (good : q.poison = false)
    (child : s.childFetch n q = false) (op : q.op ≤ 1) (far : 0x10000 < q.offset + q.bytes) :
    execControlPacketRx n q ring s = .next ((s.credited n q).ctlOut n (q.answer 255 2 [])) := by
  have credit := s.sends_credited n q
  have hid := credit.hubId.trans id
  have hch := (credit.childFetch n q).trans child
  have h4 : q.op ≠ 4 := by omega
  have h2 : q.op ≠ 2 := by omega
  have h3 : q.op ≠ 3 := by omega
  unfold State.credited at *
  simp [execControlPacketRx, State.ctlNoId, asks, hid, hch, good, h2, h3, h4, Nat.not_le.2 far]

theorem State.ctlForward_of_route {q : CtlPkt} {p : Nat} (via : q.via = false) (hops : 1 < q.hops)
    (route : s.routeTo q.dst = some p) : s.ctlForward q = s.ctlOut p { q with hops := q.hops - 1 } := by
  simp [State.ctlForward, via, route, Nat.not_le.2 hops]

theorem State.ctlForward_lastHop {q : CtlPkt} {p : Nat} (hops : q.hops ≤ 1) (op : q.op = 0)
    (route : s.routeTo q.src = some p) : s.ctlForward q = s.ctlOut p (q.answer s.hubId 1 []) := by
  have asked : asks q = true := by simp [asks, op]
  rw [State.ctlForward, if_pos hops, State.noRoute, if_pos asked]
  exact State.sendCtl_of_route rfl route

/-- Settles O18: the credit freed on arrival changes nothing that the branches of the command ask, and each of the three
cases ends in one packet to an admitted link. -/
theorem controlPacketsAtAHub : Obligations.ControlPacketsAtAHub := by
  unfold Obligations.ControlPacketsAtAHub
  refine ⟨fun s n q ring p id child own via dst hops route adm => ?forwarded,
    fun s n q ring p id child own _ dst hops op route adm => ?lastHop,
    fun s n q ring id good child op far adm => ?noId⟩
  case forwarded =>
    have credit := s.sends_credited n q
    refine ⟨_, controlPacketRx_elsewhere ring id child own dst, ?_⟩
    rw [State.ctlForward_of_route via hops ((credit.routeTo _).trans route)]
    exact sendsOnly_credited_ctlOut adm
  case lastHop =>
    have credit := s.sends_credited n q
    refine ⟨_, controlPacketRx_elsewhere ring id child own dst, ?_⟩
    rw [State.ctlForward_lastHop hops op ((credit.routeTo _).trans route), credit.hubId]
    exact sendsOnly_credited_ctlOut adm
  case noId => exact ⟨_, controlPacketRx_noId ring id good child op far, sendsOnly_credited_ctlOut adm⟩

/-! ### Frames -/

theorem Frame.of_eq (regs : t.regs = s.regs) (mem : t.mem = s.mem) : Frame [] s t := ⟨.of_regs regs, .of_mem mem⟩

theorem Frame.trans {fs gs : List Fld} (h : Frame fs s t) (h' : Frame gs t u) : Frame (fs ++ gs) s u :=
  ⟨h.1.trans h'.1, fun a => (h'.2 a).trans (h.2 a)⟩

/-- Raising an event writes its page's RAW word and the armed vectors (R240). -/
theorem State.raise_frame (s : State) (e : Ev) : Frame (evFlds e) s (s.raise e) :=
  ⟨fun _ hf => State.get_raise_ne s (hf _ (by simp [evFlds])) (hf _ (by simp [evFlds])), .of_mem (by simp)⟩

theorem State.setRoute_frame (s : State) (x route depth : Nat) :
    Frame [ROUTE.ROUTE x, ROUTE.DEPTH x] s (s.setRoute x route depth) :=
  ⟨(RegsBut.set s _ _).trans (RegsBut.set _ _ _), .of_mem rfl⟩

/-! ### The chain route table and requests (R238, R508) -/

theorem ROUTE_ROUTE_ne_DEPTH (x y : Nat) : (ROUTE.ROUTE x).key ≠ (ROUTE.DEPTH y).key := by
  simp only [Fld.key, ROUTE.ROUTE, ROUTE.DEPTH]; omega

theorem State.get_setRoute_route (s : State) (x route depth : Nat) :
    (s.setRoute x route depth).get (ROUTE.ROUTE x) = route % 2 ^ 3 := by
  rw [State.setRoute, State.get_set_ne _ _ (ROUTE_ROUTE_ne_DEPTH x x).symm, State.get_set_same]
  rfl

theorem State.get_setRoute_depth (s : State) (x route depth : Nat) :
    (s.setRoute x route depth).get (ROUTE.DEPTH x) = depth % 2 ^ 8 :=
  State.get_set_same ..

/-- The table lies above the pages of the window, so that no entry of it is a field of a page. -/
theorem ROUTE_ROUTE_ne_page {f : Fld} (x : Nat) (page : f.key < 0xD00000) : (ROUTE.ROUTE x).key ≠ f.key := by
  simp only [Fld.key, ROUTE.ROUTE] at page ⊢; omega

theorem ROUTE_DEPTH_ne_page {f : Fld} (x : Nat) (page : f.key < 0xD00000) : (ROUTE.DEPTH x).key ≠ f.key := by
  simp only [Fld.key, ROUTE.DEPTH] at page ⊢; omega

theorem State.get_setRoute_page {f : Fld} (s : State) (x route depth : Nat) (page : f.key < 0xD00000) :
    (s.setRoute x route depth).get f = s.get f := by
  rw [State.setRoute, State.get_set_ne _ _ (ROUTE_DEPTH_ne_page x page), State.get_set_ne _ _ (ROUTE_ROUTE_ne_page x page)]

theorem Sends.sendCtl {p} (h : Sends s t) : Sends s (t.sendCtl p) := by
  unfold State.sendCtl
  dsimp only
  split
  · exact h.ctlOut
  · exact h

/-- A request leaves as a packet and is kept under its TAG; registers and map stay (R238). -/
theorem State.request_regs (s : State) (p : CtlPkt) (purpose : Nat) : (s.request p purpose).regs = s.regs :=
  (Sends.refl.sendCtl : Sends s (s.sendCtl (s.asRequest p))).regs

theorem State.request_chain (s : State) (p : CtlPkt) (purpose : Nat) : (s.request p purpose).chain = s.chain :=
  (Sends.refl.sendCtl : Sends s (s.sendCtl (s.asRequest p))).chain

theorem State.request_frame (s : State) (p : CtlPkt) (purpose : Nat) : Frame [] s (s.request p purpose) :=
  .of_eq (s.request_regs p purpose) (Sends.refl.sendCtl : Sends s (s.sendCtl (s.asRequest p))).mem

theorem State.request_kept (s : State) (p : CtlPkt) (purpose : Nat) :
    (s.request p purpose).ctl.reqs.find? s.freshTag = some ⟨s.asRequest p, 0, purpose⟩ :=
  Tbl.find?_put_same ..

/-- A request goes out by the route table (R162). -/
theorem State.request_out_of_route {p : CtlPkt} {n : Nat} (purpose : Nat) (via : p.via = false)
    (route : s.routeTo p.dst = some n) (adm : s.flag (WLT_LINK_STAT.ADMITTED n) = true) :
    (s.request p purpose).out = s.out ++ [.ctl n (s.asRequest p)] := by
  have sent : s.sendCtl (s.asRequest p) = s.ctlOut n (s.asRequest p) := State.sendCtl_of_route via route
  rw [← State.ctlOut_out _ adm, ← sent]
  rfl

/-- A request whose VIA_ID is this hub goes out by VIA_PORT (R162). -/
theorem State.request_out_of_via {p : CtlPkt} (purpose : Nat) (via : p.via = true) (here : p.viaId = s.hubId)
    (adm : s.flag (WLT_LINK_STAT.ADMITTED p.viaPort) = true) :
    (s.request p purpose).out = s.out ++ [.ctl p.viaPort (s.asRequest p)] := by
  have sent : s.sendCtl (s.asRequest p) = s.ctlOut p.viaPort (s.asRequest p) := State.sendCtl_of_via via here
  rw [← State.ctlOut_out _ adm, ← sent]
  rfl

/-! ### The Root's map with one hub below the Root -/

theorem State.path_only {id : Nat} {r : HubRec} (hubs : s.chain.hubs = [(id, r)]) (parent : r.parent = 0) (ne : id ≠ 0) :
    s.path id = [(0, r.port)] := by
  simp [State.path, hubs, pathTo, Tbl.find?, parent, ne]

theorem State.below_only {id : Nat} {r : HubRec} (hubs : s.chain.hubs = [(id, r)]) (parent : r.parent = 0) (ne : id ≠ 0) :
    s.below id = [] := by
  simp [State.below, hubs, idsAbove, Tbl.find?, parent, ne]

/-- The only hub leaves (R20): its entry in the Root reads NONE, and HUB_LEFT is raised. -/
theorem State.hubLeft_only {id : Nat} {r : HubRec} (hubs : s.chain.hubs = [(id, r)]) (parent : r.parent = 0)
    (ne : id ≠ 0) : s.hubLeft id = ((s.setRoute id 0 0).setHubs []).raise EV.hubLeft := by
  simp [State.hubLeft, State.subtree, State.below_only hubs parent ne, State.path_only hubs parent ne, State.routeInto,
    hubs, Tbl.del]

/-! ### A partner without an identity (R18) -/

theorem find?_false {α : Type} (l : List α) : l.find? (fun _ => false) = none := List.find?_eq_none.2 (by simp)

theorem State.leaveOld_noIdent (s : State) (parent port : Nat) : s.leaveOld 0 parent port = s := by
  simp [State.leaveOld, find?_false]

/-- A partner without an identity is a new hub. -/
theorem State.takeUp_noIdent_root (s : State) (n : Nat) (old : Bool) :
    s.takeUp ⟨0, n, true⟩ 0 old = s.enumerate 0 n 1 0 old := by
  simp [State.takeUp, State.leaveOld_noIdent, find?_false]

/-- Below a hub of depth 16 it is refused (R16). -/
theorem State.takeUp_noIdent_deep {p n : Nat} {r : HubRec} (old : Bool) (ne : p ≠ 0)
    (known : s.chain.hubs.find? p = some r) (deep : r.depth = 16) :
    s.takeUp ⟨p, n, true⟩ 0 old = s.enumRefused p n false := by
  simp [State.takeUp, State.leaveOld_noIdent, ne, known, deep]

theorem State.chooseId_first (hubs : s.chain.hubs = []) (binds : s.chain.binds = []) : s.chooseId 0 = some 1 := by
  simp only [State.chooseId, hubs, binds]
  rfl

theorem State.strays_none (hubs : s.chain.hubs = []) (x ident : Nat) : s.strays x ident = [] := by
  simp [State.strays, State.below, hubs]

/-- The record of a hub without an identity on port n of the Root. -/
def firstHub (n : Nat) (old : Bool) : HubRec := ⟨0, n, 1, 0, false, false, old, false, false⟩

/-- The Root with that hub in its map, and id 1 in its chain route table. -/
def State.withFirst (s : State) (n : Nat) (old : Bool) : State := (s.setHubs [(1, firstHub n old)]).setRoute 1 (4 + n) 1

/-- ASSIGN_ID of that hub: id 1 at depth 1, through the Root's port n (Table 01.8). -/
def assignFirst (n : Nat) : CtlPkt := assignPkt 0xFF 0 n true 1 1 0 n false

/-- The first hub of a chain gets id 1, its entry in the Root, and ASSIGN_ID (R18, Table 01.2 step 4). -/
theorem State.enumerate_first {n : Nat} {old : Bool} (hubs : s.chain.hubs = []) (binds : s.chain.binds = []) :
    s.enumerate 0 n 1 0 old = (s.withFirst n old).request (assignFirst n) 4 := by
  have mapped : (s.setHubs [(1, firstHub n old)]).chain.hubs = [(1, firstHub n old)] := rfl
  have routes : (s.setHubs [(1, firstHub n old)]).writeRoutes 1 = s.withFirst n old := by
    rw [State.writeRoutes, State.writeEntries, State.path_only mapped rfl Nat.one_ne_zero, mapped]
    rfl
  rw [← routes]
  simp [State.enumerate, State.chooseId_first hubs binds, State.strays_none hubs, hubs, Tbl.put, State.bind, firstHub, assignFirst]

theorem ADMITTED_key_lt_tables {n : Nat} (port : n < 4) : (WLT_LINK_STAT.ADMITTED n).key < 0xD00000 := by
  simp only [Fld.key, WLT_LINK_STAT.ADMITTED]; omega

theorem State.withFirst_hubId (s : State) (n : Nat) (old : Bool) : (s.withFirst n old).hubId = s.hubId :=
  State.get_setRoute_page _ _ _ _ (by decide)

theorem State.withFirst_admitted (s : State) {n : Nat} (old : Bool) (port : n < 4) :
    (s.withFirst n old).flag (WLT_LINK_STAT.ADMITTED n) = s.flag (WLT_LINK_STAT.ADMITTED n) := by
  rw [State.flag, State.withFirst, State.get_setRoute_page _ _ _ _ (ADMITTED_key_lt_tables port)]
  rfl

theorem State.withFirst_frame (s : State) (n : Nat) (old : Bool) :
    Frame [ROUTE.ROUTE 1, ROUTE.DEPTH 1] s (s.withFirst n old) :=
  State.setRoute_frame (s.setHubs [(1, firstHub n old)]) 1 (4 + n) 1

theorem State.asRequest_assignFirst (s : State) {n : Nat} (port : n < 4) :
    s.asRequest (assignFirst n) = ⟨(assignPkt 0xFF 0 n true 1 1 0 n false).op, 255, s.hubId, s.freshTag, 0, 0, 0, 33, 0, n,
      true, [1, 1, 0, BitVec.ofNat 8 n, 0, 0], [], false, none⟩ := by
  simp [State.asRequest, assignFirst, assignPkt, Nat.mod_eq_of_lt port, b2n]

/-- ASSIGN_ID leaves by the port that the hub is on, where the Root's link is admitted. -/
theorem State.assignFirst_out {n : Nat} (old : Bool) (hub0 : s.hubId = 0) (port : n < 4)
    (adm : s.flag (WLT_LINK_STAT.ADMITTED n) = true) :
    ((s.withFirst n old).request (assignFirst n) 4).out = s.out ++ [.ctl n ((s.withFirst n old).asRequest (assignFirst n))] :=
  have here : (assignFirst n).viaId = (s.withFirst n old).hubId := ((s.withFirst_hubId n old).trans hub0).symm
  State.request_out_of_via (s := s.withFirst n old) (p := assignFirst n) 4 rfl here
    ((s.withFirst_admitted old port).trans adm)

/-! ### Reports at the Root (O16) -/

/-- The Root with other reports in its queue. -/
def State.withReports (s : State) (l : List Report) : State := { s with chain := { s.chain with reports := l } }

section
variable {ident : Nat} {old : Bool} {p n : Nat} {rest : List Report} {r : HubRec}

/-- LINK_UP of the Root's own port, whose partner shows no identity. -/
theorem rootLinkUpReport_own (root : s.isRoot = true) (asked : s.chain.asked = none)
    (reports : s.chain.reports = ⟨0, n, true⟩ :: rest)
    (noIdent : (List.range 4).all (fun i => s.get (WLT_PARTNER_IDENT.IDENT n i) == 0) = true) :
    execRootLinkUpReport ident old s = .next ((s.withReports rest).enumerate 0 n 1 0 old) := by
  have words : ∀ i < 4, s.get (WLT_PARTNER_IDENT.IDENT n i) = 0 := by simpa using noIdent
  have zero : (List.range 4).foldl (fun a i => a + s.get (WLT_PARTNER_IDENT.IDENT n i) * 2 ^ (32 * i)) 0 = 0 := by
    simp [List.range_succ, words]
  rw [← State.takeUp_noIdent_root]
  simp [execRootLinkUpReport, reports, root, asked, zero, State.withReports]

/-- LINK_UP below a UH3200, whose answer comes with the report. -/
theorem rootLinkUpReport_uh3200 (root : s.isRoot = true) (asked : s.chain.asked = none)
    (reports : s.chain.reports = ⟨p, n, true⟩ :: rest) (hub : p ≠ 0) (port : n ≠ 0)
    (known : s.chain.hubs.find? p = some r) (uh3200 : r.uh3200 = true) :
    execRootLinkUpReport ident old s = .next ((s.withReports rest).takeUp ⟨p, n, true⟩ ident old) := by
  simp [execRootLinkUpReport, reports, root, asked, hub, port, known, uh3200, State.withReports]

/-- The control READ of a partner's identity at the hub above it (R18). -/
def identRead (p n : Nat) : CtlPkt := reqPkt 0 p 0 (WLT_PARTNER_IDENT.IDENT n 0).addr 16 []

/-- The Root once it has asked for the identity of a report's partner. -/
def State.asking (s : State) (old : Bool) : State := { s with chain := { s.chain with asked := some old } }

/-- LINK_UP below a hub with the identity registers: the Root reads them first (R18). -/
theorem rootLinkUpReport_read (root : s.isRoot = true) (asked : s.chain.asked = none)
    (reports : s.chain.reports = ⟨p, n, true⟩ :: rest) (hub : p ≠ 0) (port : n ≠ 0)
    (known : s.chain.hubs.find? p = some r) (native : r.uh3200 = false) :
    execRootLinkUpReport ident old s = .next ((s.asking old).request (identRead p n) 7) := by
  simp [execRootLinkUpReport, reports, root, asked, hub, port, known, native, State.asking, identRead]

end

/-- Settles O16: each report of a hub takes one branch of its command, and a chain of at most one hub leaves one way and one id. -/
theorem enumerationInTheRoot : Obligations.EnumerationInTheRoot := by
  unfold Obligations.EnumerationInTheRoot
  refine ⟨fun s ident old n rest root hub0 asked hubs binds reports port adm noIdent => ?first,
    fun s ident old p n rest r root reports hub port asked known uh3200 deep ident0 => ?deep,
    fun s ident old p n k rest r root hub0 asked reports hub port known native route adm => ?read,
    fun s id r root known below => ?joined,
    fun s n id rest r root reports hubs parent port => ?held,
    fun s id r root hubs parent held ne => ?left⟩
  case first =>
    refine ⟨_, rootLinkUpReport_own root asked reports noIdent, ?_⟩
    rw [State.enumerate_first (s := s.withReports rest) hubs binds]
    have reads := State.get_of_regs (((s.withReports rest).withFirst n old).request_regs (assignFirst n) 4)
    have map := ((s.withReports rest).withFirst n old).request_chain (assignFirst n) 4
    have hid : ((s.withReports rest).withFirst n old).hubId = 0 := (State.withFirst_hubId ..).trans hub0
    refine ⟨congrArg ChainSt.reports map, congrArg ChainSt.hubs map, ?route, ?depth, ?sent, ?frame⟩
    case route => rw [reads, State.withFirst, State.get_setRoute_route]; omega
    case depth => exact (reads _).trans (State.get_setRoute_depth ..)
    case sent =>
      rw [State.assignFirst_out (s := s.withReports rest) old hub0 port adm, State.asRequest_assignFirst _ port, hid]
      rfl
    case frame => exact ((s.withReports rest).withFirst_frame n old).trans (State.request_frame _ (assignFirst n) 4)
  case deep =>
    subst ident0
    refine ⟨_, rootLinkUpReport_uh3200 root asked reports hub port known uh3200, ?_⟩
    rw [State.takeUp_noIdent_deep (s := s.withReports rest) old hub known deep]
    unfold State.enumRefused
    refine ⟨by simp [State.withReports], by simp [State.withReports], by simp, by simp [State.withReports], ?_, ?_⟩
    · exact State.raised_self EV.enumRefused rfl (by decide) (by decide)
    · exact State.raise_frame _ _
  case read =>
    refine ⟨_, rootLinkUpReport_read root asked reports hub port known native, ?_⟩
    have map : _ = (s.asking old).chain := (s.asking old).request_chain (identRead p n) 7
    refine ⟨by rw [map]; rfl, by rw [map]; rfl, by rw [map]; rfl, ?_, ?_, ?_⟩
    · exact State.request_out_of_route (s := s.asking old) (p := identRead p n) 7 rfl route adm
    · exact (s.asking old).request_kept (identRead p n) 7
    · exact (s.asking old).request_frame (identRead p n) 7
  case joined =>
    refine ⟨((s.setHubs (s.chain.hubs.put id { r with joined := true })).raise EV.hubJoined), ?_, ?_, ?_, ?_, ?_⟩
    · show execHubJoined id s = _
      simp [execHubJoined, known, root, below, State.reassign, State.replace]
    · simp [State.setHubs, Tbl.find?_put_same]
    · exact State.raised_self EV.hubJoined rfl (by decide) (by decide)
    · simp
    · exact State.raise_frame _ _
  case held =>
    refine ⟨(s.withReports rest).setHubs [(id, { r with held := true })], ?_, rfl, rfl, rfl, .of_eq rfl rfl⟩
    show execRootLinkDownReport s = _
    simp [execRootLinkDownReport, reports, root, hubs, parent, port, State.withReports]
  case left =>
    refine ⟨s.hubLeft id, ?_, ?_⟩
    · show execRootHoldExpiry id s = _
      simp [execRootHoldExpiry, hubs, Tbl.find?, held, root]
    rw [State.hubLeft_only hubs parent ne]
    refine ⟨by simp [State.setHubs], ?_, ?_, by simp [State.setRoute], ?_, ?_⟩
    · rw [State.get_raise_ne _ (ROUTE_ROUTE_ne_page id (by decide)).symm (ROUTE_ROUTE_ne_page id (by decide)).symm]
      exact State.get_setRoute_route s id 0 0
    · rw [State.get_raise_ne _ (ROUTE_DEPTH_ne_page id (by decide)).symm (ROUTE_DEPTH_ne_page id (by decide)).symm]
      exact State.get_setRoute_depth s id 0 0
    · exact State.raised_self EV.hubLeft (State.get_setRoute_page s id 0 0 (by decide)) (by decide) (by decide)
    · exact (State.setRoute_frame s id 0 0).trans (State.raise_frame _ EV.hubLeft)

/-! ### A control packet that is passed on keeps the class it came with (O7) -/

/-- A control READ that arrived in a header slot of class ISO. -/
def readOfClassIso : CtlPkt :=
  { reqPkt 0 9 0 0x40 4 [] with hdr := some ⟨0, 1, 0, true, true, false, false, false, 0, 0, 0, []⟩ }

theorem readOfClassIso_passedOn (now : Nat) : (readOfClassIso.toPkt now).hdr.cls = 1 := rfl

/-- Refutes O7: its last clause takes every control packet, and one that keeps the header slot it arrived with (R162) keeps that
slot's CLASS, here ISO. -/
theorem not_classesOfTunnelTypes : ¬ Obligations.ClassesOfTunnelTypes := by
  unfold Obligations.ClassesOfTunnelTypes
  rintro ⟨-, -, -, control⟩
  obtain ⟨ctl, -⟩ := control readOfClassIso 0 0 []
  exact absurd ((readOfClassIso_passedOn 0).symm.trans ctl) (by decide)

/-! ### A REASSIGN whose answer goes nowhere (O17) -/

/-- How much has been sent by the state that a command answers. -/
def sentBy : Host.Outcome State Fault Refusal → Option Nat
  | .next t => some t.out.length
  | _ => none

theorem Answers.out_length {o : Host.Outcome State Fault Refusal} {P : State → Prop} {k : Nat} (h : Answers o P)
    (sent : sentBy o = some k) : Answers o fun t => P t ∧ t.out.length = k := by
  obtain ⟨t, rfl, p⟩ := h
  exact ⟨t, rfl, p, Option.some.inj sent⟩

/-- A spoke with id 5 on an admitted upstream link, whose route entry for its own id still reads NONE: a packet for hub 5 goes
UP there. -/
def ownEntryNone : State := (State.reset.set CHIP_HUB_ID.HUB_ID 5).set (WLT_LINK_STAT.ADMITTED 0) 1

/-- A REASSIGN of id 5 that names hub 5 as its source. -/
def reassignFromItself : CtlPkt := { assignPkt 5 0 0 false 5 3 2 1 true with src := 5 }

/-- The entry becomes LOCAL before the answer is routed, and an answer for the hub itself has no port. -/
theorem reassignFromItself_unanswered : sentBy (exec (.assignIdRx reassignFromItself) ownEntryNone) = some 0 := by
  decide +kernel

/-- Refutes O17: the clause of a REASSIGN of the present id (R19) looks the answer's port up before the spoke's own entry reads
LOCAL, and does not ask that the requester is another hub. -/
theorem not_idsOfASpoke : ¬ Obligations.IdsOfASpoke := by
  unfold Obligations.IdsOfASpoke
  rintro ⟨-, reassign, -⟩
  obtain ⟨t, -, ⟨-, -, -, -, answered, -⟩, silent⟩ := (reassign ownEntryNone reassignFromItself 0 rfl rfl (by decide) (by decide)
    (by decide) (by decide) (by decide) (by decide) (by decide)).out_length reassignFromItself_unanswered
  exact absurd (silent.symm.trans (congrArg List.length answered)) (by decide +kernel)

/-! ### A seal that gives credit on a 1.x port (O24) -/

/-- A packet of one slot that port 2 brought under number 0 and that waits undecided. -/
def waitingPkt : FlowPkt := ⟨⟨⟨5, 3, 0, true, true, false, false, false, 0, 0, 0, []⟩, []⟩, 5, 2, 0, false, false, 0, 0, false⟩

/-- Port 2 is up with COMPAT set, and that packet waits in its ingress partition. -/
def compatWithPacket : State :=
  { (State.reset.set (WLT_PCS_STAT.TRAIN_STATE 2) 4).set (WLT_PCS_STAT.COMPAT 2) 1 with
    flows := { State.reset.flows with waiting := [waitingPkt] } }

/-- Bytes 0 to 27 of the seal of flight 0: it clears packet 0, and lists it as poisoned. -/
def poisonSeal28 : List Byte := Seal.bytes28 { Seal.ofBytes (List.replicate 32 0) with clearLpn := 1, poison := [0] } false

/-- That seal, good for a flight of one idle slot. -/
def poisonSeal : List Byte := poisonSeal28 ++ leBytes 4 (flightCrc [idleSlot] false poisonSeal28)

/-- The packet is dropped, and a CREDIT frame leaves port 2. -/
theorem poisonSeal_sends : sentBy (exec (.sealRx 2 [idleSlot] poisonSeal []) compatWithPacket) = some 1 := by
  decide +kernel

/-- Refutes O24: its clause of a flight next in order (R96) says that nothing is sent and does not ask COMPAT = 0; where it is
set, the credit of a packet that the seal lists as poisoned leaves as a frame (R103). -/
theorem not_admissionAndLoss : ¬ Obligations.AdmissionAndLoss := by
  unfold Obligations.AdmissionAndLoss
  rintro ⟨-, -, -, -, -, -, -, -, inOrder, -⟩
  obtain ⟨t, -, ⟨-, -, quiet, -⟩, one⟩ := (inOrder compatWithPacket 2 [idleSlot] poisonSeal [] (by decide) (by decide +kernel)
    (by decide +kernel) (by decide +kernel) rfl (by decide +kernel) rfl rfl rfl rfl (by decide +kernel) (by decide +kernel)
    (by decide +kernel)).out_length poisonSeal_sends
  exact absurd (one.symm.trans (congrArg List.length quiet)) (by decide)

end Sys2Proof.Machine
end

/-!
PROOFS. Contexts, reliable bulk and mailbox commands (chapters 05 and 08). O27, O29 and O38 each have a clause that a written-out
state contradicts.
-/
section
namespace Sys2Proof.Machine

/-! ### A context whose HOME names no engine (O27) -/

/-- An idle BE context 16 of a spoke, whose HOME holds 193: more than its four bits, and no engine's number. -/
def homeBeyondEngines : State :=
  let s := (State.reset.set (CTX0.TTYPE 16) 1).set (CTX0.CLASS 16) 3
  { s with regs := s.regs.put (CTX0.HOME 16).key 193 }

/-- Counted on from FE_STAT of engine 0, that of number 193 lies in the context table: its HOMED is where EFF_QUOTA of context 16 is. -/
theorem State.get_homed193 (t : State) : t.get (FE_STAT.HOMED 193) = t.get (CTXP1.EFF_QUOTA 16) := rfl

/-- Refutes O27: its clause of ACTIVATE with HOME given (R144, R152) takes every state and does not ask HOME < 16. With 193 in
HOME the flow count and the effective quota that it promises are one field, which cannot read 1 and QUOTA, here 0. -/
theorem not_contextCommands : ¬ Obligations.ContextCommands := by
  unfold Obligations.ContextCommands
  rintro ⟨-, -, activate, -⟩
  obtain ⟨t, -, -, -, -, -, quota, homed, -⟩ := activate homeBeyondEngines 16 (by decide +kernel) (by decide +kernel)
    (by decide +kernel) (by decide +kernel) (by decide +kernel) (by decide +kernel)
  have home : homeBeyondEngines.get (CTX0.HOME (16 : CtxNo)) = 193 := by decide +kernel
  rw [home] at homed
  have one : t.get (FE_STAT.HOMED 193) = 1 := homed.trans (by decide +kernel)
  have zero : t.get (CTXP1.EFF_QUOTA 16) = 0 := quota.trans (by decide +kernel)
  exact absurd (one.symm.trans ((State.get_homed193 t).trans zero)) (by decide)

/-! ### A packet under the number of line data taken early (O29) -/

/-- The next packet in order of reliable bulk for the host on context 7: number 5 of attachment 1, decided good. -/
def bulkForHost : FlowPkt := ⟨⟨⟨9, 2, 0, true, true, false, false, false, 0, 0, 0, []⟩, []⟩, 7, 1, 5, true, false, 4, 9, false⟩

/-- A Root in which that packet waits, while a line fetcher still lists number 5 of attachment 1 as taken before it was decided. -/
def numberTakenEarly : State :=
  { State.reset.set CHIP_ROLE.ROLE 0 with
    flows := { State.reset.flows with admitted := [bulkForHost] }
    disp := { State.reset.disp with early := [(1, 5, false)] } }

/-- The packet is settled as line data, and nothing leaves for the host. -/
theorem numberTakenEarly_silent : sentBy (exec (.rlbPacketRx 7) numberTakenEarly) = some 0 := by decide +kernel

/-- Refutes O29: its clause of a packet in order (R159) asks nothing of the line fetchers' records, which go by attachment and
number alone (R211); a packet that one of them names is settled as line data and not delivered. -/
theorem not_reliableBulkAndPartitions : ¬ Obligations.ReliableBulkAndPartitions := by
  unfold Obligations.ReliableBulkAndPartitions
  rintro ⟨inOrder, -⟩
  obtain ⟨t, -, ⟨-, -, -, delivered, -⟩, silent⟩ := (inOrder numberTakenEarly 7 bulkForHost rfl rfl (by decide) rfl
    (by decide +kernel) rfl rfl rfl rfl rfl rfl (by decide +kernel) rfl rfl (by decide +kernel) (by decide +kernel)).out_length
    numberTakenEarly_silent
  exact absurd (silent.symm.trans (congrArg List.length delivered)) (by decide +kernel)

/-! ### PATH_CLOSE while a display operation of the path waits (O38) -/

/-- PATH_CLOSE of path 0 with TEAR_DOWN, as the Awl finds it in its queue. -/
def closePath0 : MbxCmd := mbxNew 0x0021 3 [] none

/-- A Root whose Awl has that command, whose path 0 is one hop on context 7, and whose head 0 holds an operation of that context. -/
def pathWithOperation : State :=
  let s := ((State.reset.set CHIP_ROLE.ROLE 0).set CHIP_HUB_ID.HUB_ID 0).set MBX_STAT.AWL_UP 1 |>.set (CTX5.ACTIVE 7) 1
  { s.modHead 0 fun d => { d with waits := [⟨1, 7, ⟨⟨7, 1, 0, true, true, false, false, true, 1, 0, 0, []⟩, []⟩⟩] } with
    ctl := { s.ctl with mbxQueue := [closePath0] }
    chain := { s.chain with paths := [(0, [⟨0, 4, 5, 7⟩])] } }

/-- How many operations wait at head 0 in the state that a command answers. -/
def opsAtHead0 : Host.Outcome State Fault Refusal → Option Nat
  | .next t => some (t.head 0).waits.length
  | _ => none

/-- The teardown discards the operation (R147). -/
theorem pathWithOperation_closed : opsAtHead0 (exec (.pathClose .run) pathWithOperation) = some 0 := by decide +kernel

/-- Refutes O38: its clause of a path of one hop that is torn down leaves the display heads as they are, whatever waits there; TEAR_DOWN
discards the operations of its context (R147). -/
theorem not_mailboxCommands : ¬ Obligations.MailboxCommands := by
  unfold Obligations.MailboxCommands
  rintro ⟨-, -, -, -, -, -, -, -, -, -, -, -, close, -⟩
  obtain ⟨t, answered, -, -, -, -, heads⟩ := close pathWithOperation closePath0 rfl rfl (by decide +kernel) rfl rfl
    (by decide +kernel) (by decide +kernel) rfl (by decide +kernel) (by decide +kernel) (by decide +kernel) (by decide +kernel) rfl
    (by decide +kernel)
  have discarded : some (t.head 0).waits.length = some 0 := by rw [← pathWithOperation_closed, answered]; rfl
  have kept : some (t.head 0).waits.length = some 1 := by rw [State.head, heads]; rfl
  exact absurd (discarded.symm.trans kept) (by decide)

end Sys2Proof.Machine
end

/-!
PROOFS. Memory failures, fencing and the switching of domains (chapters 07 and 14). O33, O34 and O53 each have a clause that a
written-out state contradicts.
-/
section
namespace Sys2Proof.Machine

/-! ### Reading one value of what a command answers -/

/-- What f reads in the state that a command answers. -/
def valueIn {α : Type} (f : State → α) : Host.Outcome State Fault Refusal → Option α
  | .next t => some (f t)
  | _ => none

theorem Answers.valueIn {α : Type} {o : Host.Outcome State Fault Refusal} {P : State → Prop} {f : State → α} {v : α}
    (h : Answers o P) (value : valueIn f o = some v) : Answers o fun t => P t ∧ f t = v := by
  obtain ⟨t, rfl, p⟩ := h
  exact ⟨t, rfl, p, Option.some.inj value⟩

/-! ### A parity error at a packet on a fixed label (O33) -/

/-- A control READ on its way to LOCAL, number 5 of attachment 7: context 2048 stands for its fixed label, and its SEQ is 0. -/
def controlOnFixedLabel : FlowPkt :=
  ⟨(reqPkt 0 9 0 0x40 4 []).toPkt 0, 2048, 7, 5, true, false, 0, 0, false⟩

/-- The hub in which that packet waits. -/
def fixedLabelWaits : State := { State.reset with flows := { State.reset.flows with waiting := [controlOnFixedLabel] } }

/-- An error under number 0 names no packet there, and discards none. -/
theorem fixedLabelWaits_keeps :
    valueIn (fun t => t.flows.waiting.length) (exec (.dataParityFail 7 2048 0 false) fixedLabelWaits) = some 1 := by
  decide +kernel

/-- Refutes O33: its clause of data parity at an ingress (R195) takes the packet's context 2048 and its SEQ for the name that hits
it, but on a fixed label the number at the attachment names a packet; number 5 stays when the error names number 0. -/
theorem not_memoryAndParityFailures : ¬ Obligations.MemoryAndParityFailures := by
  unfold Obligations.MemoryAndParityFailures
  rintro ⟨-, ingress, -⟩
  obtain ⟨t, -, ⟨discarded, -⟩, one⟩ :=
    (ingress fixedLabelWaits 7 2048 0 controlOnFixedLabel rfl rfl rfl rfl).valueIn fixedLabelWaits_keeps
  exact absurd (one.symm.trans (congrArg List.length discarded)) (by decide)

/-! ### An error log whose NEXT names no entry (O34) -/

/-- NEXT of the error log holds 8186, more than its four bits. Every write of the model is cut to
them, but the statement takes every state. -/
def logNextBeyond : State := { State.reset with regs := State.reset.regs.put LST_ERR_HEAD.NEXT.key 8186 }

/-- Counted on from entry 0 of the error log, word 0 of entry 8186 is FENCE_LOSS of engine 0. -/
theorem State.get_fenceLossSlots (t : State) : t.get (FE_FENCE_LOSS.SLOTS 0) = t.get (LST_ERR_LOG0.CAUSE 8186) := rfl

/-- The log entry of the fence, cause 6, is written over the count of lost slots. -/
theorem logNextBeyond_fenced :
    valueIn (fun t => t.get (LST_ERR_LOG0.CAUSE 8186)) (exec (.fence 0 [] 0) logNextBeyond) = some 6 := by
  decide +kernel

/-- Refutes O34: its clause of FENCE (R213, R214) takes every state and does not ask NEXT < 16 of the error log. With 8186 there
the entry that the fence logs and the lost slots that it shows are one field, which cannot read 6 and 0. -/
theorem not_engineFencing : ¬ Obligations.EngineFencing := by
  unfold Obligations.EngineFencing
  rintro ⟨fenced, -⟩
  obtain ⟨t, -, ⟨-, -, -, -, -, slots, -⟩, six⟩ := (fenced logNextBeyond 0 0 (by decide +kernel)).valueIn logNextBeyond_fenced
  have cause : t.get (LST_ERR_LOG0.CAUSE 8186) = 0 := (State.get_fenceLossSlots t).symm.trans slots
  exact absurd (six.symm.trans cause) (by decide)

/-! ### A domain switched on while its switching-off still runs (O53) -/

/-- A spoke after power-on has just cleared bit 10 of PWRD_DOMAIN_CTRL: domain 10 is on until its 10 µs are over (R392). -/
def hostSwitchingOff : State := State.reset.switchOff 10

/-- The isolation of domain 10 is completed first and drives PERST_N of both root ports low. -/
theorem hostSwitchingOff_emits :
    valueIn State.out (exec (.domainSwitchOn 10) hostSwitchingOff) =
      some [.pin "PCIE_RP0_PERST_N" 0, .pin "PCIE_RP1_PERST_N" 0] := by
  decide +kernel

/-- Refutes O53: its clause of switching on (R391, R392) says that nothing is sent and asks only that the ON bit is clear, not that
the domain is off; one whose switching-off still runs is isolated first, and domain 10 of a spoke then drives its PERST_N pins. -/
theorem not_domainsAndBoot : ¬ Obligations.DomainsAndBoot := by
  unfold Obligations.DomainsAndBoot
  rintro ⟨-, switchOn, -⟩
  obtain ⟨t, -, ⟨-, -, -, -, quiet⟩, pins⟩ :=
    (switchOn hostSwitchingOff 10 (by decide +kernel) (by decide +kernel)).valueIn hostSwitchingOff_emits
  have silent : hostSwitchingOff.out = [] := by decide +kernel
  exact absurd (pins.symm.trans (quiet.trans silent)) (by decide)

end Sys2Proof.Machine
end

/-!
PROOFS. Words of the control window (chapter 08, Table 18.1). A word read and a word write of a page each take one branch, by whether the
page is open and its domain on; with one lemma per branch the headers of pages (O9) and the words of the window (O35) follow.
-/
section
namespace Sys2Proof.Machine

variable {s : State} {src : Src} {p o v : Nat} {i : PageInfo}

/-! ### Reading a word of a page (R226, R233, R481) -/

theorem readWord_of_closed (hp : p < 256) (ho : o < 0x1000) (closed : s.pageOpen p = false) :
    s.readWord (0x1000 * p + o) = (s, 0) := by
  have page : (0x1000 * p + o) / 0x1000 = p := by omega
  have window : 0x1000 * p + o < 0x100000 := by omega
  simp only [State.readWord, if_pos window, page, closed, Bool.not_false, if_true]
  split <;> rfl

theorem readWord_of_dark (hp : p < 256) (ho : o < 0x1000) (listed : pageInfo p = some i) (opened : s.pageOpen p = true)
    (dark : s.domainOn i.domain = false) :
    s.readWord (0x1000 * p + o) = (s, if o = 0 ∨ o = 8 then s.readHeader p o i else 0) := by
  have page : (0x1000 * p + o) / 0x1000 = p := by omega
  have offset : (0x1000 * p + o) % 0x1000 = o := by omega
  have window : 0x1000 * p + o < 0x100000 := by omega
  simp [State.readWord, window, page, offset, listed, opened, dark]

/-- A pop window lies above the header of its page (Table 08.4). -/
theorem isPop_header (ho : o < 0x40) : isPop (0x1000 * p + o) = false := by
  have log : 0x1000 * p + o ≠ 0x6048 := by omega
  have fifo : o % 0x1000 ≠ 0x4C := by omega
  simp [isPop, log, fifo]

theorem readWord_header (hp : p < 256) (ho : o < 0x40) (listed : pageInfo p = some i) (opened : s.pageOpen p = true)
    (on : s.domainOn i.domain = true) : s.readWord (0x1000 * p + o) = (s, s.readHeader p o i) := by
  have page : (0x1000 * p + o) / 0x1000 = p := by omega
  have offset : (0x1000 * p + o) % 0x1000 = o := by omega
  have window : 0x1000 * p + o < 0x100000 := by omega
  simp [State.readWord, State.readPage, window, page, offset, listed, opened, on, isPop_header ho, ho]

theorem readHeader_id : s.readHeader p 0 i = i.typ * 0x10000 + i.inst * 0x100 + i.page := rfl

theorem readHeader_ver : s.readHeader p 4 i = 0x01000000 := rfl

theorem readHeader_cap :
    s.readHeader p 8 i = i.domain * 0x100 + 4 * b2n (s.domainOn i.domain) + 2 * b2n i.lockable + b2n i.volatile := rfl

/-- A debug page above the level in force is closed (R481). -/
theorem pageOpen_of_level (debug : 0xF0 ≤ p) (level : s.dbgLevel < dbgPageLevel p) : s.pageOpen p = false := by
  simp [State.pageOpen, Nat.not_lt.2 debug, Nat.not_le.2 level]

/-- Settles O9: a header word of an open page reads its table entry, and in a dark domain PAGE_ID and PAGE_CAP alone do. -/
theorem headersOfPages : Obligations.HeadersOfPages := by
  unfold Obligations.HeadersOfPages
  refine ⟨fun s p i hp listed opened on => ?on, fun s p i hp listed opened dark => ?dark,
    fun s p o debug hp ho level => readWord_of_closed hp ho (pageOpen_of_level debug level)⟩
  case on =>
    refine ⟨readWord_header (o := 0) hp (by decide) listed opened on, readWord_header (o := 4) hp (by decide) listed opened on, ?_⟩
    rw [readWord_header (o := 8) hp (by decide) listed opened on, readHeader_cap, on]
    rfl
  case dark =>
    refine ⟨readWord_of_dark (o := 0) hp (by decide) listed opened dark, ?_⟩
    rw [readWord_of_dark (o := 8) hp (by decide) listed opened dark]
    simp only [or_true, if_true, readHeader_cap, dark]
    cases i.lockable <;> cases i.volatile <;> simp [b2n] <;> omega

/-! ### Writing a word of a page (R226, R227, R229, R233) -/

/-- A word write at an aligned offset of a page, whole (R226). -/
theorem execRegWrite_page (hp : p < 256) (ho : o < 0x1000) (aligned : o % 4 = 0) :
    execRegWrite src (0x1000 * p + o) 15 v s = .next (s.writeWord src (0x1000 * p + o) 15 (v % 2 ^ 32)).1 := by
  have word : (0x1000 * p + o) % 2 ^ 26 / 4 * 4 = 0x1000 * p + o := by omega
  rw [execRegWrite, word]

/-- Pages that Normal-world code may write as well as any other master (R436). -/
theorem barredNormal_page (ho : o < 0x1000) (ne : p ≠ 1) (low : p < 0xC0) : barredNormal (0x1000 * p + o) = false := by
  have page : (0x1000 * p + o) / 0x1000 = p := by omega
  have prov : ¬ 0xC1400 ≤ 0x1000 * p + o := by omega
  have high : ¬ 0xE0 ≤ p := by omega
  simp [barredNormal, page, ne, prov, high]

theorem pageOpen_eq_listed (low : p < 0xF0) : s.pageOpen p = (pageInfo p).isSome := by
  simp [State.pageOpen, low]

/-- The state with w last in the queue of the power die (R229). -/
def State.queueForDie (s : State) (w : PdWrite) : State := { s with ctl := { s.ctl with pdq := s.ctl.pdq ++ [w] } }

/-- A closed page takes no write, whoever writes (R478, R481). -/
theorem writeWord_of_closed (hp : p < 256) (ho : o < 0x1000) (closed : s.pageOpen p = false) :
    (s.writeWord src (0x1000 * p + o) 15 v).1 = s.accessErr src (0x1000 * p + o) := by
  have page : (0x1000 * p + o) / 0x1000 = p := by omega
  have window : 0x1000 * p + o < 0x100000 := by omega
  by_cases barred : src = .awlNormal ∧ barredNormal (0x1000 * p + o) = true
  · simp [State.writeWord, barred]
  · simp [State.writeWord, barred, window, page, closed]

section
variable (ho : o < 0x1000) (ne : p ≠ 1) (listed : (pageInfo p).isSome = true)
include ho ne listed

theorem writeWord_of_dark (low : p < 0xA0) (dark : s.pageOn p = false) :
    (s.writeWord src (0x1000 * p + o) 15 v).1 = s.writeToDark src (0x1000 * p + o) := by
  have page : (0x1000 * p + o) / 0x1000 = p := by omega
  have window : 0x1000 * p + o < 0x100000 := by omega
  have free : barredNormal (0x1000 * p + o) = false := barredNormal_page ho ne (by omega)
  have opened : s.pageOpen p = true := (pageOpen_eq_listed (by omega)).trans listed
  have main : powerDie p = false := by simp [powerDie, Nat.not_le.2 low]
  simp [State.writeWord, free, window, page, opened, main, dark]

theorem writeWord_reaches (low : p < 0xA0) (on : s.pageOn p = true) :
    (s.writeWord src (0x1000 * p + o) 15 v).1 = (s.writeReg src p o v).1 := by
  have page : (0x1000 * p + o) / 0x1000 = p := by omega
  have offset : (0x1000 * p + o) % 0x1000 = o := by omega
  have window : 0x1000 * p + o < 0x100000 := by omega
  have free : barredNormal (0x1000 * p + o) = false := barredNormal_page ho ne (by omega)
  have opened : s.pageOpen p = true := (pageOpen_eq_listed (by omega)).trans listed
  have main : powerDie p = false := by simp [powerDie, Nat.not_le.2 low]
  simp [State.writeWord, free, window, page, offset, opened, main, on]

omit ne in
theorem writeWord_queues (die : 0xA0 ≤ p) (below : p < 0xC0) :
    (s.writeWord src (0x1000 * p + o) 15 v).1 =
      s.queueForDie ⟨0x1000 * p + o, 15, v, src, none, 0⟩ := by
  have page : (0x1000 * p + o) / 0x1000 = p := by omega
  have window : 0x1000 * p + o < 0x100000 := by omega
  have free : barredNormal (0x1000 * p + o) = false := barredNormal_page ho (by omega) below
  have opened : s.pageOpen p = true := (pageOpen_eq_listed (by omega)).trans listed
  have main : powerDie p = true := by simp [powerDie, die, below]
  simp [State.writeWord, State.queueForDie, free, window, page, opened, main]

end

/-! ### What a dropped write records (R227, R233) -/

theorem State.accessErr_records (s : State) (src : Src) {a : Nat} (page : a < 0x100000) :
    (s.accessErr src a).get CHIP_ACCESS.ERR_SRC = s.srcCode src % 2 ^ 8 ∧
      (s.accessErr src a).get CHIP_ACCESS.ERR_PAGE = a / 1024 ∧ Raised EV.accessErr s (s.accessErr src a) ∧
      (s.accessErr src a).out = s.out ∧
      Frame ([CHIP_ACCESS.ERR_SRC, CHIP_ACCESS.ERR_PAGE] ++ evFlds EV.accessErr) s (s.accessErr src a) := by
  have range : a / 1024 % 2 ^ CHIP_ACCESS.ERR_PAGE.w = a / 1024 := by simp only [CHIP_ACCESS.ERR_PAGE]; omega
  unfold State.accessErr
  refine ⟨?_, ?_, State.raised_self _ ?_ (by decide) (by decide), by simp, ?_⟩
  · rw [State.get_raise_ne _ (by decide) (by decide), State.get_set_ne _ _ (by decide), State.get_set_same]
    rfl
  · rw [State.get_raise_ne _ (by decide) (by decide), State.get_set_same, range]
  · rw [State.get_set_ne _ _ (by decide), State.get_set_ne _ _ (by decide)]
  · exact Frame.trans ⟨(RegsBut.set s _ _).trans (RegsBut.set _ _ _), .of_mem rfl⟩ (State.raise_frame _ _)

theorem State.writeToDark_records (s : State) (src : Src) {a : Nat} (window : a < 2 ^ 26) :
    (s.writeToDark src a).get CHIP_ACCESS.DARK_SRC = s.srcCode src % 2 ^ 8 ∧
      (s.writeToDark src a).get CHIP_DARK_ADDR.OFFSET = a ∧ Raised EV.writeToDark s (s.writeToDark src a) ∧
      (s.writeToDark src a).out = s.out ∧
      Frame ([CHIP_ACCESS.DARK_SRC, CHIP_DARK_ADDR.OFFSET] ++ evFlds EV.writeToDark) s (s.writeToDark src a) := by
  unfold State.writeToDark
  refine ⟨?_, ?_, State.raised_self _ ?_ (by decide) (by decide), by simp, ?_⟩
  · rw [State.get_raise_ne _ (by decide) (by decide), State.get_set_ne _ _ (by decide), State.get_set_same]
    rfl
  · rw [State.get_raise_ne _ (by decide) (by decide), State.get_set_same]
    exact Nat.mod_eq_of_lt window
  · rw [State.get_set_ne _ _ (by decide), State.get_set_ne _ _ (by decide)]
  · exact Frame.trans ⟨(RegsBut.set s _ _).trans (RegsBut.set _ _ _), .of_mem rfl⟩ (State.raise_frame _ _)

/-! ### Registers that a write reaches -/

/-- CTM_ASYM stands alone in its word, and its page has no rule of its own for it (R43). -/
theorem writeReg_ctmAsym : (s.writeReg src 3 0x50 v).1 = s.set CTM_ASYM.ASYM (fieldOf CTM_ASYM.ASYM v) := by
  have word : pageWord 3 0x50 = [CTM_ASYM.ASYM] := by decide
  have plain : s.writeBody src 3 0x50 v = s.plain 3 [CTM_ASYM.ASYM] [] v := by
    rw [State.writeBody, word]
    rfl
  have unlocked : ([CTM_ASYM.ASYM].any fun f => f.acc == .rwl) = false := by decide
  have body : ¬ 0x50 < 0x40 := by decide
  simp only [State.writeReg, if_neg body, word, unlocked, plain, Bool.and_false, Bool.false_eq_true, if_false]
  rfl

/-- EVT_EN arms nothing while nothing is raised (R240). -/
theorem State.evtEnable_of_no_raw (raw : s.get (EVT_RAW p) = 0) : s.evtEnable p v = s.set (EVT_EN p) v := by
  have none : ((List.range (eventsOf p)).filter fun b =>
      bit v b && !bit (s.get (EVT_EN p)) b && bit (s.get (EVT_RAW p)) b) = [] :=
    List.filter_eq_nil_iff.2 fun b _ => by simp only [raw, bit, Nat.zero_testBit, Bool.and_false, Bool.false_eq_true, not_false_eq_true]
  rw [State.evtEnable, none, List.foldl_nil]

/-- The one write that waits for the power die takes effect, and no answer and no READ waits behind it (R229). -/
theorem State.dieDone_single {a be : Nat} (queue : s.ctl.pdq = [⟨a, be, v, src, none, 0⟩]) :
    s.dieDone = (({ s with ctl := { s.ctl with pdq := [] } } : State).writeDie src a v).1.ctlResume
      (({ s with ctl := { s.ctl with pdq := [] } } : State).writeDie src a v).1.ctl.pdReads [] := by
  unfold State.dieDone
  rw [queue]

/-- A write of EVT_EN that has left the queue of the power die. -/
theorem State.writeDie_evtEn (on : s.pageOn p = true) (raw : s.get (EVT_RAW p) = 0) :
    (s.writeDie src (0x1000 * p + 0x14) v).1 = s.set (EVT_EN p) v := by
  have page : (0x1000 * p + 0x14) / 0x1000 = p := by omega
  have offset : (0x1000 * p + 0x14) % 0x1000 = 0x14 := by omega
  simp [State.writeDie, page, offset, on, State.writeReg, State.writeHeader, State.evtEnable_of_no_raw raw]

/-- Nothing waits for the power die, and MBX_LOG_POP gives the oldest entry of the Awl's log (R235). -/
theorem popWindowRead_log {e : Nat} {l : List Nat} (on : s.pageOn 6 = true) (queue : s.ctl.pdq = []) (log : s.ctl.awlLog = e :: l) :
    execPopWindowRead 6 s =
      .next (({ s with ctl := { s.ctl with awlLog := l } } : State).emit (.hostRead 0x6048 (leBytes 4 (2 ^ 31 + e % 2 ^ 31)))) := by
  have drained : s.dieDrain = s := by simp [State.dieDrain, queue]
  have domain : s.domainOn 2 = true := on
  have opened : s.pageOpen 6 = true := rfl
  simp [execPopWindowRead, drained, State.readWord, pageInfo, opened, domain, isPop, State.pop, log]

/-- The hub once a function-level reset has taken its BARs, memory enable and MSI-X away (R260). -/
def State.hostCleared (s : State) : State := s.clearMsix.modHost fun h => { h with bar0 := 4, bar2 := 4, memOn := false }

theorem execFlr_root (root : s.isRoot = true) : execFlr s = .next (s.hostCleared.raise EV.flr) := by
  simp [execFlr, root, State.hostCleared]

/-- Settles O35: a whole-word write of a page takes the branch of its page, and each of the other commands is one update. -/
theorem wordsOfTheControlWindow : Obligations.WordsOfTheControlWindow := by
  unfold Obligations.WordsOfTheControlWindow
  refine ⟨fun s src v on => ?register, fun s src p o v low ho aligned ne listed dark => ?dark,
    fun s src p o v low ho aligned absent => ?absent, fun s src p o v die below ho aligned listed => ?queued,
    fun s p v src queue reads die below on raw => ?evtEn, fun s e l on queue log => ?log, fun s b root => ?bar0,
    fun s root => ?flr⟩
  case register =>
    refine ⟨s.set CTM_ASYM.ASYM (fieldOf CTM_ASYM.ASYM (v % 2 ^ 32)), ?_, ?_, rfl, RegsBut.set s _ _, .of_mem rfl⟩
    · show execRegWrite src (0x1000 * 3 + 0x50) 15 v s = _
      rw [execRegWrite_page (by decide) (by decide) (by decide), writeWord_reaches (by decide) (by decide) rfl (by decide) on,
        writeReg_ctmAsym]
    · simp only [State.get_set_same, fieldOf, bits, CTM_ASYM.ASYM]
      omega
  case dark =>
    refine ⟨s.writeToDark src (0x1000 * p + o), ?_, s.writeToDark_records src (by omega)⟩
    show execRegWrite src (0x1000 * p + o) 15 v s = _
    rw [execRegWrite_page (by omega) ho aligned, writeWord_of_dark ho ne listed low dark]
  case absent =>
    refine ⟨s.accessErr src (0x1000 * p + o), ?_, s.accessErr_records src (by omega)⟩
    have closed : s.pageOpen p = false := by rw [pageOpen_eq_listed low, absent]; rfl
    show execRegWrite src (0x1000 * p + o) 15 v s = _
    rw [execRegWrite_page (by omega) ho aligned, writeWord_of_closed (by omega) ho closed]
  case queued =>
    refine ⟨s.queueForDie ⟨0x1000 * p + o, 15, v % 2 ^ 32, src, none, 0⟩, ?_, rfl, rfl, rfl, .of_eq rfl rfl⟩
    show execRegWrite src (0x1000 * p + o) 15 v s = _
    rw [execRegWrite_page (by omega) ho aligned, writeWord_queues ho listed die below]
  case evtEn =>
    have written : (({ s with ctl := { s.ctl with pdq := [] } } : State).writeDie src (0x1000 * p + 0x14) v).1 =
        ({ s with ctl := { s.ctl with pdq := [] } } : State).set (EVT_EN p) v := State.writeDie_evtEn on raw
    refine ⟨s.dieDone, rfl, ?_⟩
    rw [State.dieDone_single queue, written, State.set_ctl, reads]
    exact ⟨rfl, State.get_set_same .., rfl, RegsBut.set _ _ _, .of_mem rfl⟩
  case log => exact ⟨_, popWindowRead_log on queue log, rfl, rfl, .of_eq rfl rfl⟩
  case bar0 =>
    refine ⟨s.modHost fun h => { h with bar0 := barWord 26 b }, ?_, rfl, rfl, rfl, .of_eq rfl rfl⟩
    show execDownstreamTlp (.bar0 b) s = _
    simp [execDownstreamTlp, root]
  case flr =>
    have host : (s.hostCleared.raise EV.flr).host = s.hostCleared.host := State.raise_host ..
    exact ⟨_, execFlr_root root, congrArg HostSt.bar0 host, congrArg HostSt.memOn host, congrArg HostSt.msix host,
      congrArg HostSt.msixOn host, State.raised_self EV.flr rfl (by decide) (by decide), State.raise_out ..,
      State.raise_frame s.hostCleared EV.flr⟩

end Sys2Proof.Machine
end

/-!
PROOFS. The control window and the host (chapters 08 and 09). O36, O37 and O39 each have a clause that a written-out state or packet
contradicts.
-/
section
namespace Sys2Proof.Machine

/-! ### A poisoned EVENT packet (O36) -/

/-- A Root with nothing in its ring of remote events. -/
def rootRingEmpty : State := State.reset.set CHIP_ROLE.ROLE 0

/-- An EVENT packet whose POISON bit is set (R210). -/
def poisonedEvent : CtlPkt := { reqPkt 3 0 1 0 0 [] with poison := true }

/-- It is discarded: the ring's HEAD stays. -/
theorem poisonedEvent_discarded :
    valueIn (fun t => t.get EVC_RING_HEAD.HEAD) (exec (.eventPacketRx poisonedEvent true) rootRingEmpty) = some 0 := by
  decide +kernel

/-- Refutes O36: its clause of the remote event ring (R243, R244) takes every EVENT packet and does not ask POISON = 0; a poisoned one is
discarded (R210) and takes no entry. -/
theorem not_pageHeadersAndEvents : ¬ Obligations.PageHeadersAndEvents := by
  unfold Obligations.PageHeadersAndEvents
  rintro ⟨-, -, -, -, -, -, -, -, -, -, -, ring⟩
  obtain ⟨t, -, ⟨-, -, taken, -⟩, stays⟩ := (ring rootRingEmpty poisonedEvent (by decide +kernel) (by decide) (by decide +kernel)
    (by decide +kernel) (by decide +kernel)).valueIn poisonedEvent_discarded
  have one : t.get EVC_RING_HEAD.HEAD = 1 := taken.trans (by decide +kernel)
  exact absurd (stays.symm.trans one) (by decide)

/-! ### A poisoned control READ (O37) -/

/-- A control READ of CHIP_ROLE from the Root whose POISON bit is set (R210). -/
def poisonedRead : CtlPkt := { reqPkt 0 5 0 CHIP_ROLE.ROLE.addr 4 [] with poison := true }

/-- It is discarded, and nothing is sent. -/
theorem poisonedRead_unanswered : sentBy (exec (.controlRead 0 poisonedRead) ownEntryNone) = some 0 := by
  decide +kernel

/-- Refutes O37: its clause of a READ of one word (R226, R504) takes every packet and does not ask POISON = 0; a poisoned READ is
discarded where it is to act (R210) and never answered. -/
theorem not_controlOperations : ¬ Obligations.ControlOperations := by
  unfold Obligations.ControlOperations
  rintro ⟨read, -⟩
  obtain ⟨t, -, ⟨answered, -⟩, silent⟩ := (read ownEntryNone 0 poisonedRead 0 (by decide +kernel) rfl rfl (by decide +kernel)
    (by decide +kernel) (by decide +kernel) rfl (by decide +kernel)).out_length poisonedRead_unanswered
  have one : t.out.length = 1 := congrArg List.length answered
  exact absurd (silent.symm.trans one) (by decide)

/-! ### A TLP behind one that waits for room (O39) -/

/-- A memory write that root port 0 receives. -/
def rootPortWrite : Tlp :=
  ⟨true, false, none, some 0x1000, none, false, false, false, List.replicate 12 0, none, false, [1, 2, 3, 4], false⟩

/-- A spoke whose root port 0 is bound to context 7, an active reliable-bulk context of the PCI Express adapter; an earlier TLP of that
context waits in the adapter's backlog. -/
def tlpInBacklog : State :=
  let s := ((((State.reset.set (PCIE_RP_CTX.BIND 0) 1).set (PCIE_RP_CTX.REV_CTX 0) 7).set (CTX5.ACTIVE 7) 1).set (CTX0.CLASS 7) 2).set
    (CTX0.IN_ATT 7) 4
  { s with flows := { s.flows with backlog := [(4, 7, Tlp.toPkt rootPortWrite)] } }

/-- The TLP joins the backlog (R139 keeps the order), and nothing enters the ingress partition. -/
theorem tlpInBacklog_waits :
    valueIn (fun t => t.flows.waiting.length) (exec (.rootPortTlpRx 0 rootPortWrite) tlpInBacklog) = some 0 := by
  decide +kernel

/-- Refutes O39: its clause of a TLP into the reverse context (R261) asks nothing of the adapter's backlog; behind an earlier TLP of its
context that waits there, a TLP waits as well, room or not (R139). -/
theorem not_storageAndPciExpress : ¬ Obligations.StorageAndPciExpress := by
  unfold Obligations.StorageAndPciExpress
  rintro ⟨-, -, -, -, -, -, -, -, -, -, -, -, -, reverse, -⟩
  obtain ⟨t, -, ⟨-, entered, -⟩, empty⟩ := (reverse tlpInBacklog 0 rootPortWrite (by decide +kernel) rfl rfl (by decide +kernel)
    (by decide +kernel) (by decide +kernel) (by decide +kernel) (by decide +kernel) (by decide +kernel) (by decide +kernel)
    (by decide +kernel) (by decide +kernel) (by decide +kernel) rfl).valueIn tlpInBacklog_waits
  rw [List.eq_nil_of_length_eq_zero empty] at entered
  exact absurd entered (by simp)

end Sys2Proof.Machine
end

/-!
PROOFS. Ethernet (chapter 09). O40 has a clause that a written-out state contradicts.
-/
section
namespace Sys2Proof.Machine

/-! ### A frame that leaves the Last by its port (O40) -/

/-- A decided frame of 64 bytes, three slots, that came by Welt port 1 on BE context 7 and goes out by Ethernet port 1. -/
def frameForPort1 : FlowPkt :=
  ⟨⟨⟨7, 3, 2, true, true, false, false, false, 0, 0, 0, leBytes 2 64⟩, List.replicate 64 0⟩, 7, 1, 5, true, false, 5, 1, false⟩

/-- Ethernet port 1 is up and the NET egress holds that frame; OCCUPANCY of context 7 counts its slots. -/
def frameInNetEgress : State :=
  let s := (State.reset.set (ETH_STAT.LINK_UP 1) 1).set (CTX6.OCCUPANCY 7) 3
  { s with flows := { s.flows with netq := [frameForPort1] } }

/-- With the frame its slots leave the cell buffer. -/
theorem frameInNetEgress_sent :
    valueIn (fun t => t.get (CTX6.OCCUPANCY 7)) (exec (.ethFrameTx 1) frameInNetEgress) = some 0 := by
  decide +kernel

/-- Refutes O40: its clause of a frame sent (R270) says that every register stays; OCCUPANCY, the slots of the flow in the cell buffer
(chapter 05, R157), falls as the frame leaves. -/
theorem not_ethernetAndTimeStamps : ¬ Obligations.EthernetAndTimeStamps := by
  unfold Obligations.EthernetAndTimeStamps
  rintro ⟨-, -, -, -, -, -, -, sent, -⟩
  obtain ⟨t, -, ⟨-, -, -, registers, -⟩, left⟩ := (sent frameInNetEgress 1 frameForPort1 (by decide +kernel) (by decide +kernel) rfl rfl
    (by decide) (by decide) (by decide +kernel)).valueIn frameInNetEgress_sent
  have stays : t.get (CTX6.OCCUPANCY 7) = 3 := (registers (CTX6.OCCUPANCY 7) (by simp)).trans (by decide +kernel)
  exact absurd (left.symm.trans stays) (by decide)

end Sys2Proof.Machine
end

/-!
PROOFS. Surfaces in the frame store (chapter 10, R278, R279). A pixel written is one byte written in which only the bits of that pixel
change (O10); a rectangle painted is a list of such points, no two of them at one place.
-/
section
namespace Sys2Proof.Machine

/-! ### Bits of a byte -/

/-- The number x with the w bits from bit lo on replaced by those of v. -/
def withBits (x lo w v : Nat) : Nat := x - bits x lo w * 2 ^ lo + v % 2 ^ w * 2 ^ lo

theorem testBit_bits (x lo w i : Nat) : (bits x lo w).testBit i = (decide (i < w) && x.testBit (lo + i)) := by
  rw [bits, Nat.testBit_mod_two_pow, Nat.testBit_div_two_pow, Nat.add_comm]

/-- What stands above the w bits from lo on, those bits, and what stands below them. -/
theorem eq_high_mid_low (x lo w : Nat) :
    x = 2 ^ lo * (2 ^ w * (x / 2 ^ lo / 2 ^ w) + bits x lo w) + x % 2 ^ lo := by
  rw [bits, Nat.div_add_mod, Nat.div_add_mod]

theorem withBits_eq (x lo w v : Nat) :
    withBits x lo w v = 2 ^ lo * (2 ^ w * (x / 2 ^ lo / 2 ^ w) + v % 2 ^ w) + x % 2 ^ lo := by
  have split := eq_high_mid_low x lo w
  rw [withBits]
  generalize x / 2 ^ lo / 2 ^ w = high, bits x lo w = mid, x % 2 ^ lo = low at *
  subst split
  rw [Nat.mul_comm mid, Nat.mul_comm (v % 2 ^ w), Nat.mul_add, Nat.mul_add]
  omega

theorem testBit_withBits (x lo w v i : Nat) :
    (withBits x lo w v).testBit i = if lo ≤ i ∧ i < lo + w then v.testBit (i - lo) else x.testBit i := by
  have low : x % 2 ^ lo < 2 ^ lo := Nat.mod_lt _ (Nat.two_pow_pos _)
  have mid : v % 2 ^ w < 2 ^ w := Nat.mod_lt _ (Nat.two_pow_pos _)
  rw [withBits_eq, Nat.testBit_two_pow_mul_add _ low]
  by_cases below : i < lo
  · have out : ¬ (lo ≤ i ∧ i < lo + w) := by omega
    rw [if_pos below, if_neg out, Nat.testBit_mod_two_pow, decide_eq_true below, Bool.true_and]
  · rw [if_neg below, Nat.testBit_two_pow_mul_add _ mid]
    by_cases inside : i - lo < w
    · have within : lo ≤ i ∧ i < lo + w := by omega
      rw [if_pos inside, if_pos within, Nat.testBit_mod_two_pow, decide_eq_true inside, Bool.true_and]
    · have out : ¬ (lo ≤ i ∧ i < lo + w) := by omega
      have place : i - lo - w + w + lo = i := by omega
      rw [if_neg inside, if_neg out, Nat.testBit_div_two_pow, Nat.testBit_div_two_pow, place]

/-- The bits written are those read, in a byte. -/
theorem bits_byte_withBits {x lo w v : Nat} (room : lo + w ≤ 8) :
    bits (BitVec.ofNat 8 (withBits x lo w v)).toNat lo w = v % 2 ^ w := by
  refine Nat.eq_of_testBit_eq fun i => ?_
  rw [testBit_bits, BitVec.toNat_ofNat, Nat.testBit_mod_two_pow, testBit_withBits, Nat.testBit_mod_two_pow]
  by_cases inside : i < w
  · have byte : lo + i < 8 := by omega
    simp [inside, byte]
  · simp [inside]

/-- Bits beside those written keep their value, in a byte. -/
theorem bits_byte_withBits_of_disjoint {x : Byte} {lo w v lo' w' : Nat} (room : lo' + w' ≤ 8)
    (apart : lo' + w' ≤ lo ∨ lo + w ≤ lo') :
    bits (BitVec.ofNat 8 (withBits x.toNat lo w v)).toNat lo' w' = bits x.toNat lo' w' := by
  refine Nat.eq_of_testBit_eq fun i => ?_
  rw [testBit_bits, testBit_bits, BitVec.toNat_ofNat, Nat.testBit_mod_two_pow, testBit_withBits]
  by_cases inside : i < w'
  · have byte : lo' + i < 8 := by omega
    have out : ¬ (lo ≤ lo' + i ∧ lo' + i < lo + w) := by omega
    rw [if_neg out, decide_eq_true byte, Bool.true_and]
  · simp [inside]

/-! ### Bytes of the frame store (R233, R278) -/

variable {s : State}

/-- Frame-store byte a can be read and written: it lies in the store, and its bank is on and not being zeroed (R233, R278). -/
structure State.Accessible (s : State) (a : Nat) : Prop where
  inside : a < fstBytes
  on : s.flag (bankOn (bankOf a)) = true
  live : s.flag (bankInit (bankOf a)) = false

/-- Access depends on the registers alone. -/
theorem State.Accessible.of_regs {t : State} {a : Nat} (h : s.Accessible a) (regs : t.regs = s.regs) : t.Accessible a := by
  obtain ⟨inside, on, live⟩ := h
  simp only [State.flag, ← State.get_of_regs regs] at on live
  exact ⟨inside, on, live⟩

theorem State.fstRead_of_on {a : Nat} (on : s.flag (bankOn (bankOf a)) = true) (live : s.flag (bankInit (bankOf a)) = false) :
    s.fstRead a = s.byte (fstBase + a) := by
  simp [State.fstRead, on, live]

theorem State.fstSeen_of_live {a : Nat} (live : s.flag (bankInit (bankOf a)) = false) : s.fstSeen a = s.fstRead a := by
  simp [State.fstSeen, live]

theorem State.fstWrite_accessible {a : Nat} (h : s.Accessible a) (v : Byte) : s.fstWrite a v = s.setByte (fstBase + a) v := by
  have inside : ¬ fstBytes ≤ a := Nat.not_le.2 h.inside
  simp [State.fstWrite, inside, h.on, h.live]

theorem State.fstRead_setByte_same {a : Nat} (h : s.Accessible a) (v : Byte) : (s.setByte (fstBase + a) v).fstRead a = v := by
  have kept : (s.setByte (fstBase + a) v).Accessible a := h.of_regs rfl
  rw [State.fstRead_of_on kept.on kept.live, State.byte_setByte_same]

theorem State.fstRead_setByte_ne (s : State) {a c : Nat} (v : Byte) (ne : a ≠ c) :
    (s.setByte (fstBase + a) v).fstRead c = s.fstRead c := by
  have other : (s.setByte (fstBase + a) v).byte (fstBase + c) = s.byte (fstBase + c) := State.byte_setByte_ne s v (by omega)
  rw [State.fstRead, other]
  rfl

/-! ### Where a pixel lies and what writing it changes (R279) -/

/-- A pixel read is some bits of a byte read. -/
theorem State.pixel_of_on {f : Surf} {b x y : Nat} (on : s.flag (bankOn (bankOf (f.at_ b x y).1)) = true)
    (live : s.flag (bankInit (bankOf (f.at_ b x y).1)) = false) :
    s.pixel f b x y = bits (s.byte (fstBase + (f.at_ b x y).1)).toNat (f.at_ b x y).2 b := by
  rw [State.pixel, State.fstRead_of_on on live]

/-- A pixel written is one byte written. -/
theorem State.setPixel_accessible {f : Surf} {b x y : Nat} (h : s.Accessible (f.at_ b x y).1) (v : Nat) :
    s.setPixel f b x y v = s.setByte (fstBase + (f.at_ b x y).1)
      (BitVec.ofNat 8 (withBits (s.fstRead (f.at_ b x y).1).toNat (f.at_ b x y).2 b v)) := by
  rw [← State.fstSeen_of_live h.live, ← State.fstWrite_accessible h]
  rfl

theorem State.setPixel_accessible_bytes {f : Surf} {b x y : Nat} (h : s.Accessible (f.at_ b x y).1) (v : Nat) :
    BytesBut [fstBase + (f.at_ b x y).1] s (s.setPixel f b x y v) := by
  intro a other
  rw [State.setPixel_accessible h]
  exact State.byte_setByte_ne s _ (List.ne_of_not_mem_cons other).symm

section
variable {f : Surf} {b x y : Nat} (depth : b = 1 ∨ b = 2 ∨ b = 4 ∨ b = 8)
include depth

/-- A pixel does not cross a byte. -/
theorem Surf.at_fits (f : Surf) (x y : Nat) : (f.at_ b x y).2 + b ≤ 8 := by
  simp only [Surf.at_]
  rcases depth with rfl | rfl | rfl | rfl <;> omega

/-- Two pixels of one byte are the same or share no bit. -/
theorem Surf.at_apart (f g : Surf) {x' y' : Nat} (ne : (g.at_ b x' y').2 ≠ (f.at_ b x y).2) :
    (g.at_ b x' y').2 + b ≤ (f.at_ b x y).2 ∨ (f.at_ b x y).2 + b ≤ (g.at_ b x' y').2 := by
  simp only [Surf.at_] at *
  rcases depth with rfl | rfl | rfl | rfl <;> omega

theorem State.pixel_setPixel_same (h : s.Accessible (f.at_ b x y).1) (v : Nat) :
    (s.setPixel f b x y v).pixel f b x y = v % 2 ^ b := by
  rw [State.setPixel_accessible h, State.pixel, State.fstRead_setByte_same h]
  exact bits_byte_withBits (Surf.at_fits depth f x y)

theorem State.pixel_setPixel_ne {g : Surf} {x' y' : Nat} (h : s.Accessible (f.at_ b x y).1) (v : Nat)
    (ne : g.at_ b x' y' ≠ f.at_ b x y) : (s.setPixel f b x y v).pixel g b x' y' = s.pixel g b x' y' := by
  rw [State.setPixel_accessible h, State.pixel, State.pixel]
  by_cases byte : (f.at_ b x y).1 = (g.at_ b x' y').1
  · have place : (g.at_ b x' y').2 ≠ (f.at_ b x y).2 := fun same => ne (Prod.ext byte.symm same)
    rw [← byte, State.fstRead_setByte_same h]
    exact bits_byte_withBits_of_disjoint (Surf.at_fits depth g x' y') (Surf.at_apart depth f g place)
  · rw [State.fstRead_setByte_ne s _ byte]

end

/-- The limits of a surface, written out (R279). -/
theorem Surf.valid_iff (f : Surf) (b : Nat) : f.valid b = true ↔
    f.stride % 16 = 0 ∧ ceilDiv (f.width * b) 8 ≤ f.stride ∧ f.width ≤ 7680 ∧ f.height ≤ 4320 ∧ f.page + f.pages ≤ 8192 ∧
      (f.span = true ∨ f.page / 4096 = f.lastPage / 4096) := by
  simp [Surf.valid, and_assoc]

/-- Settles O10: a pixel written is one byte written, in which only the bits of that pixel change. -/
theorem pixelsOfASurface : Obligations.PixelsOfASurface := by
  unfold Obligations.PixelsOfASurface
  refine ⟨fun s h k => ⟨rfl, rfl, rfl, rfl, rfl, rfl⟩, fun s f b x y on live => State.pixel_of_on on live, Surf.valid_iff,
    fun s f b x y v depth inside on live => ?same, fun s f g b x y v x' y' depth inside on live ne => ?other⟩
  case same =>
    have access : s.Accessible (f.at_ b x y).1 := ⟨inside, on, live⟩
    refine ⟨State.pixel_setPixel_same depth access v, ?_⟩
    rw [State.setPixel_accessible access]
    rfl
  case other =>
    have access : s.Accessible (f.at_ b x y).1 := ⟨inside, on, live⟩
    exact ⟨State.pixel_setPixel_ne depth access v ne, State.setPixel_accessible_bytes access v⟩

variable {t u : State}

/-! ### What a list of writes leaves alone -/

/-- From s to t only frame-store bytes and the writes that wait for a bank have changed, and of the bytes only those of a list. -/
structure Writes (as : List Nat) (s t : State) : Prop where
  rest : t = { s with mem := t.mem, disp := { s.disp with initWait := t.disp.initWait } }
  bytes : BytesBut as s t

namespace Writes

variable {as bs : List Nat}

theorem refl (as : List Nat) (s : State) : Writes as s s := ⟨rfl, fun _ _ => rfl⟩

theorem trans (h : Writes as s t) (h' : Writes bs t u) : Writes (as ++ bs) s u where
  rest := h'.rest.trans (by rw [h.rest])
  bytes a out := (h'.bytes a fun m => out (List.mem_append_right _ m)).trans (h.bytes a fun m => out (List.mem_append_left _ m))

theorem foldl {β : Type} {g : State → β → State} {place : β → Nat} (hg : ∀ t c, Writes [place c] t (g t c)) (l : List β)
    (s : State) : Writes (l.map place) s (l.foldl g s) := by
  induction l generalizing s with
  | nil => exact refl _ s
  | cons c l ih => exact (hg s c).trans (ih (g s c))

theorem regs (h : Writes as s t) : t.regs = s.regs := by rw [h.rest]
theorem out (h : Writes as s t) : t.out = s.out := by rw [h.rest]
theorem heads (h : Writes as s t) : t.disp.heads = s.disp.heads := by rw [h.rest]

end Writes

theorem State.fstWrite_writes (s : State) (a : Nat) (v : Byte) : Writes [fstBase + a] s (s.fstWrite a v) := by
  unfold State.fstWrite
  split
  · exact .refl _ s
  · split
    · exact ⟨rfl, fun _ _ => rfl⟩
    · exact ⟨rfl, fun c out => State.byte_setByte_ne s v (List.ne_of_not_mem_cons out).symm⟩

theorem State.setPixel_writes (s : State) (f : Surf) (b x y v : Nat) :
    Writes [fstBase + (f.at_ b x y).1] s (s.setPixel f b x y v) := s.fstWrite_writes _ _

/-! ### Painting a list of points -/

/-- Each point of a list, counted from (x, y), takes its value. -/
def State.paint (s : State) (f : Surf) (b x y : Nat) (val : Nat × Nat → Nat) (pts : List (Nat × Nat)) : State :=
  pts.foldl (fun t p => t.setPixel f b (x + p.1) (y + p.2) (val p)) s

theorem State.rectWrite_eq_paint (s : State) (f : Surf) (b x y w h : Nat) (d : List Byte) :
    s.rectWrite f b x y w h d =
      s.paint f b x y (fun p => bits (byteAt d (p.2 * rowBytes w b + p.1 * b / 8)) (p.1 * b % 8) b) (rectPoints w h) := rfl

theorem State.rectFill_eq_paint (s : State) (f : Surf) (b x y w h v : Nat) :
    s.rectFill f b x y w h v = s.paint f b x y (fun _ => v) (rectPoints w h) := rfl

theorem State.rectCopy_eq_paint (s : State) (f g : Surf) (b x y w h sx sy : Nat) :
    s.rectCopy f g b x y w h sx sy =
      s.paint f b x y (fun p => s.copyPixel f g b (sx + p.1) (sy + p.2)) (rectPoints w h) := by
  rw [State.rectCopy, List.foldl_map]
  rfl

theorem State.paint_writes (s : State) (f : Surf) (b x y : Nat) (val : Nat × Nat → Nat) (w h : Nat) :
    Writes (rectBytes f b x y w h) s (s.paint f b x y val (rectPoints w h)) :=
  Writes.foldl (fun t p => t.setPixel_writes f b (x + p.1) (y + p.2) (val p)) (rectPoints w h) s

theorem mem_rectPoints {w h : Nat} {p : Nat × Nat} : p ∈ rectPoints w h ↔ p.1 < w ∧ p.2 < h := by
  simp only [rectPoints, List.mem_flatMap, List.mem_map, List.mem_range]
  constructor
  · rintro ⟨y, hy, x, hx, rfl⟩
    exact ⟨hx, hy⟩
  · exact fun ⟨hx, hy⟩ => ⟨p.2, hy, p.1, hx, rfl⟩

/-! ### The bytes of a surface within the limits (R279) -/

theorem Surf.Ready.of_regs {f : Surf} (h : f.Ready s) (regs : t.regs = s.regs) : f.Ready t := by
  intro k bank
  simpa only [State.flag, State.get_of_regs regs] using h k bank

/-- The bank of the first page is one of the banks of a surface. -/
theorem Surf.mem_banks_first (f : Surf) : f.page / 4096 ∈ f.banks := by
  simp [Surf.banks, List.mem_eraseDups]

theorem Surf.mem_banks_last (f : Surf) : f.lastPage / 4096 ∈ f.banks := by
  simp [Surf.banks, List.mem_eraseDups]

section
variable {f : Surf} {b : Nat} (depth : b = 1 ∨ b = 2 ∨ b = 4 ∨ b = 8) (valid : f.valid b = true)
include depth valid

/-- A pixel of a row lies within the row's bytes. -/
theorem Surf.column_lt_stride {x : Nat} (hx : x < f.width) : x * b / 8 < f.stride := by
  have stride : (f.width * b + 7) / 8 ≤ f.stride := ((f.valid_iff b).1 valid).2.1
  have positive : 0 < b := by omega
  have column : x * b < f.width * b := Nat.mul_lt_mul_of_pos_right hx positive
  omega

/-- Two pixels of a surface at one place are one pixel. -/
theorem Surf.at_injective {x y x' y' : Nat} (hx : x < f.width) (hx' : x' < f.width) (same : f.at_ b x y = f.at_ b x' y') :
    x = x' ∧ y = y' := by
  have column := Surf.column_lt_stride depth valid hx
  have column' := Surf.column_lt_stride depth valid hx'
  obtain ⟨byte, shift⟩ := Prod.ext_iff.1 same
  simp only [Surf.at_] at byte shift
  have rowOf : ∀ {y c : Nat}, c < f.stride → (y * f.stride + c) / f.stride = y := fun {y c} lt => by
    rw [Nat.add_comm, Nat.add_mul_div_right _ _ (by omega), Nat.div_eq_of_lt lt, Nat.zero_add]
  have inSurface : y * f.stride + x * b / 8 = y' * f.stride + x' * b / 8 := by omega
  have row : y = y' := by rw [← rowOf (y := y) column, inSurface, rowOf column']
  subst row
  refine ⟨?_, rfl⟩
  rcases depth with rfl | rfl | rfl | rfl <;> omega

/-- Every pixel of a surface whose banks are on and not being zeroed can be read and written. -/
theorem Surf.Ready.accessible (ready : f.Ready s) {x y : Nat} (hx : x < f.width) (hy : y < f.height) :
    s.Accessible (f.at_ b x y).1 := by
  have column := Surf.column_lt_stride depth valid hx
  obtain ⟨-, -, -, -, inStore, -⟩ := (f.valid_iff b).1 valid
  have rows := Nat.mul_le_mul_right f.stride (Nat.succ_le_of_lt hy)
  rw [Nat.succ_mul, Nat.mul_comm f.height] at rows
  have last : f.lastPage = f.page + ((f.stride * f.height + 4095) / 4096 - 1) := rfl
  have pages : f.pages = (f.stride * f.height + 4095) / 4096 := rfl
  have place : (f.at_ b x y).1 = f.page * 4096 + y * f.stride + x * b / 8 := rfl
  have bank : bankOf (f.at_ b x y).1 ∈ f.banks := by
    have between : bankOf (f.at_ b x y).1 = f.page / 4096 ∨ bankOf (f.at_ b x y).1 = f.lastPage / 4096 := by
      rw [bankOf]
      omega
    rcases between with first | final
    · exact first ▸ f.mem_banks_first
    · exact final ▸ f.mem_banks_last
  refine ⟨?_, (ready _ bank).1, (ready _ bank).2⟩
  rw [fstBytes]
  omega

/-! ### The pixels of a painted rectangle -/

section
variable {x y : Nat} {val : Nat × Nat → Nat} {pts : List (Nat × Nat)}
  (inside : ∀ p ∈ pts, x + p.1 < f.width ∧ y + p.2 < f.height) (ready : f.Ready s)
include inside ready

theorem State.pixel_paint_of_forall_ne {x' y' : Nat} (hx : x' < f.width) (others : ∀ p ∈ pts, (x + p.1, y + p.2) ≠ (x', y')) :
    (s.paint f b x y val pts).pixel f b x' y' = s.pixel f b x' y' := by
  induction pts generalizing s with
  | nil => rfl
  | cons p pts ih =>
    obtain ⟨insideP, insideT⟩ := List.forall_mem_cons.1 inside
    obtain ⟨otherP, otherT⟩ := List.forall_mem_cons.1 others
    have access := ready.accessible depth valid insideP.1 insideP.2
    have apart : f.at_ b x' y' ≠ f.at_ b (x + p.1) (y + p.2) := fun same =>
      have ⟨ex, ey⟩ := Surf.at_injective depth valid hx insideP.1 same
      otherP (Prod.ext ex.symm ey.symm)
    exact (ih insideT (ready.of_regs (s.setPixel_writes ..).regs) otherT).trans (State.pixel_setPixel_ne depth access _ apart)

theorem State.pixel_paint_of_mem {q : Nat × Nat} (painted : q ∈ pts) :
    (s.paint f b x y val pts).pixel f b (x + q.1) (y + q.2) = val q % 2 ^ b := by
  induction pts generalizing s with
  | nil => cases painted
  | cons p pts ih =>
    obtain ⟨insideP, insideT⟩ := List.forall_mem_cons.1 inside
    have kept := ready.of_regs (s.setPixel_writes f b (x + p.1) (y + p.2) (val p)).regs
    by_cases later : q ∈ pts
    · exact ih insideT kept later
    · obtain rfl : q = p := (List.mem_cons.1 painted).resolve_right later
      have others : ∀ p ∈ pts, (x + p.1, y + p.2) ≠ (x + q.1, y + q.2) := fun p mem same => by
        obtain ⟨ex, ey⟩ := Prod.mk.inj same
        exact later ((Prod.ext (Nat.add_left_cancel ex) (Nat.add_left_cancel ey) : p = q) ▸ mem)
      exact (State.pixel_paint_of_forall_ne depth valid insideT kept insideP.1 others).trans
        (State.pixel_setPixel_same depth (ready.accessible depth valid insideP.1 insideP.2) _)

end

/-- In a painted rectangle each pixel takes its value; the other pixels of the surface stay. -/
theorem State.pixel_paint_rect (ready : f.Ready s) {x y w h x' y' : Nat} {val : Nat × Nat → Nat} (holds : f.holds x y w h = true)
    (hx : x' < f.width) :
    (s.paint f b x y val (rectPoints w h)).pixel f b x' y' =
      if x ≤ x' ∧ x' < x + w ∧ y ≤ y' ∧ y' < y + h then val (x' - x, y' - y) % 2 ^ b else s.pixel f b x' y' := by
  simp only [Surf.holds, Bool.and_eq_true, decide_eq_true_eq] at holds
  have inside : ∀ p ∈ rectPoints w h, x + p.1 < f.width ∧ y + p.2 < f.height := fun p mem => by
    have := mem_rectPoints.1 mem
    omega
  split
  case isTrue within =>
    have painted : (x' - x, y' - y) ∈ rectPoints w h := mem_rectPoints.2 (by constructor <;> simp only <;> omega)
    have result := State.pixel_paint_of_mem depth valid (val := val) inside ready painted
    rwa [Nat.add_sub_cancel' within.1, Nat.add_sub_cancel' within.2.2.1] at result
  case isFalse without =>
    refine State.pixel_paint_of_forall_ne depth valid inside ready hx fun p mem same => without ?_
    obtain ⟨ex, ey⟩ := Prod.mk.inj same
    have := mem_rectPoints.1 mem
    omega

end

theorem bits_mod (x lo w : Nat) : bits x lo w % 2 ^ w = bits x lo w := Nat.mod_mod _ _

/-- A copy into a surface that is not being zeroed reads the source as any reader does. -/
theorem State.copyPixel_of_ready {f : Surf} (ready : f.Ready s) (g : Surf) (b x y : Nat) : s.copyPixel f g b x y = s.pixel g b x y := by
  simp [State.copyPixel, (ready _ f.mem_banks_first).2]

theorem State.pixel_mod (s : State) (g : Surf) (b x y : Nat) : s.pixel g b x y % 2 ^ b = s.pixel g b x y := bits_mod _ _ _

end Sys2Proof.Machine
end

/-!
PROOFS. Display-update operations (chapter 10, R284 to R288). First what an operation sees of a state and what it writes, then where it
stands in its head's queue; with the writes that wait for a bank (R278) O41 follows.
-/
section
namespace Sys2Proof.Machine

variable {s t u : State} {h : Head}

/-! ### Two states that an operation sees alike -/

/-- What writes to the frame store see of a state: registers, bytes, and the writes that wait for a bank. -/
structure SameStore (s t : State) : Prop where
  regs : t.regs = s.regs
  mem : t.mem = s.mem
  waiting : t.disp.initWait = s.disp.initWait

namespace SameStore

theorem get (k : SameStore s t) (f : Fld) : t.get f = s.get f := State.get_of_regs k.regs f

theorem flag (k : SameStore s t) (f : Fld) : t.flag f = s.flag f := by
  rw [State.flag, State.flag, k.get]

theorem fstRead (k : SameStore s t) (a : Nat) : t.fstRead a = s.fstRead a := by
  simp only [State.fstRead, k.flag, State.byte_of_mem k.mem]

theorem fstSeen (k : SameStore s t) (a : Nat) : t.fstSeen a = s.fstSeen a := by
  simp only [State.fstSeen, k.flag, k.waiting, k.fstRead]

theorem set (k : SameStore s t) (f : Fld) (v : Nat) : SameStore (s.set f v) (t.set f v) :=
  ⟨by simp only [State.set, k.regs], k.mem, k.waiting⟩

theorem fstWrite (k : SameStore s t) (a : Nat) (v : Byte) : SameStore (s.fstWrite a v) (t.fstWrite a v) := by
  unfold State.fstWrite
  rw [k.flag, k.flag]
  split
  · exact k
  · split
    · exact ⟨k.regs, k.mem, congrArg (· ++ [(a, v)]) k.waiting⟩
    · exact ⟨k.regs, congrArg (Memory.set · (fstBase + a) v) k.mem, k.waiting⟩

theorem setPixel (k : SameStore s t) (f : Surf) (b x y v : Nat) : SameStore (s.setPixel f b x y v) (t.setPixel f b x y v) := by
  simp only [State.setPixel, k.fstSeen]
  exact k.fstWrite _ _

theorem foldl {β : Type} {g : State → β → State} (hg : ∀ {s t} c, SameStore s t → SameStore (g s c) (g t c)) (l : List β)
    (k : SameStore s t) : SameStore (l.foldl g s) (l.foldl g t) := by
  induction l generalizing s t with
  | nil => exact k
  | cons c l ih => exact ih (hg c k)

theorem paint (k : SameStore s t) (f : Surf) (b x y : Nat) (val : Nat × Nat → Nat) (pts : List (Nat × Nat)) :
    SameStore (s.paint f b x y val pts) (t.paint f b x y val pts) := by
  refine k.foldl (g := fun t p => t.setPixel f b (x + p.1) (y + p.2) (val p)) (fun p same => ?_) pts
  exact same.setPixel ..

theorem copyPixel (k : SameStore s t) (f g : Surf) (b x y : Nat) : t.copyPixel f g b x y = s.copyPixel f g b x y := by
  simp only [State.copyPixel, State.pixel, k.flag, k.fstSeen, k.fstRead]

theorem palLoad (k : SameStore s t) (h : Head) (p first n : Nat) (d : List Byte) :
    SameStore (s.palLoad h p first n d) (t.palLoad h p first n d) := by
  refine k.foldl (g := fun t i => t.set (PAL.COLOUR h p (first + i)) (leNat (byteSlice d (4 * i) 4))) (fun i same => ?_) _
  exact same.set ..

end SameStore

/-- What an operation of head h sees of a state: the store, and the surfaces in force. -/
structure SameView (h : Head) (s t : State) : Prop extends SameStore s t where
  surfs : (t.head h).surfs = (s.head h).surfs

namespace SameView

theorem surf (k : SameView h s t) (n : Nat) : t.surf h n = s.surf h n := by rw [State.surf, State.surf, k.surfs]

theorem bpp (k : SameView h s t) : t.bpp h = s.bpp h := by rw [State.bpp, State.bpp, k.get]

theorem surfNo (k : SameView h s t) (front : Bool) : t.surfNo h front = s.surfNo h front := by
  simp only [State.surfNo, k.get]

theorem palNo (k : SameView h s t) (front : Bool) : t.palNo h front = s.palNo h front := by
  simp only [State.palNo, k.get]

theorem opGood (k : SameView h s t) (o : DispOp) : t.opGood h o = s.opGood h o := by
  simp only [State.opGood, k.surf, k.surfNo, k.bpp]

theorem opDark (k : SameView h s t) (o : DispOp) : t.opDark h o = s.opDark h o := by
  simp only [State.opDark, State.opSpan, k.surf, k.surfNo, k.bpp, k.flag]

/-- An operation writes the same into what it sees alike. -/
theorem opWrite (k : SameView h s t) (o : DispOp) : SameStore (s.opWrite h o) (t.opWrite h o) := by
  unfold State.opWrite
  simp only [k.surf, k.surfNo, k.bpp, k.palNo]
  split
  · exact k.paint ..
  · simp only [State.rectCopy_eq_paint, k.copyPixel]
    exact k.paint ..
  · exact k.paint ..
  · exact k.palLoad ..
  · exact k.toSameStore

end SameView

/-! ### One head's state, and slots counted -/

@[simp] theorem State.head_modHead (s : State) (h : Head) (g : HeadSt → HeadSt) : (s.modHead h g).head h = g (s.head h) :=
  Vector.getElem_set_self h.isLt

@[simp] theorem State.modHead_initWait (s : State) (h : Head) (g : HeadSt → HeadSt) :
    (s.modHead h g).disp.initWait = s.disp.initWait := rfl

theorem State.modHead_modHead (s : State) (h : Head) (f g : HeadSt → HeadSt) :
    (s.modHead h f).modHead h g = s.modHead h (g ∘ f) := by
  have same : (s.modHead h f).disp.heads[h] = f s.disp.heads[h] := s.head_modHead h f
  rw [State.modHead, same]
  simp only [State.modHead, upd, Vector.set_set, Function.comp]

theorem State.modHead_congr {f g : HeadSt → HeadSt} (same : f (s.head h) = g (s.head h)) : s.modHead h f = s.modHead h g := by
  rw [State.modHead, show f s.disp.heads[h] = g s.disp.heads[h] from same]
  rfl

theorem State.modHead_eq_self {g : HeadSt → HeadSt} (fixed : g (s.head h) = s.head h) : s.modHead h g = s := by
  have same : upd s.disp.heads h (g s.disp.heads[h]) = s.disp.heads := by
    rw [show g s.disp.heads[h] = s.disp.heads[h] from fixed]
    exact Vector.set_getElem_self h.isLt
  rw [State.modHead, same]

theorem State.head_of_heads (heads : t.disp.heads = s.disp.heads) (h : Head) : t.head h = s.head h := by
  rw [State.head, State.head, heads]

@[simp] theorem State.pass_regs (s : State) (u n : Nat) : (s.pass u n).regs = s.regs := by unfold State.pass; split <;> rfl
@[simp] theorem State.pass_mem (s : State) (u n : Nat) : (s.pass u n).mem = s.mem := by unfold State.pass; split <;> rfl
@[simp] theorem State.pass_out (s : State) (u n : Nat) : (s.pass u n).out = s.out := by unfold State.pass; split <;> rfl
@[simp] theorem State.pass_disp (s : State) (u n : Nat) : (s.pass u n).disp = s.disp := by unfold State.pass; split <;> rfl

@[simp] theorem State.slots_regs (s : State) (u c n : Nat) : (s.slots u c n).regs = s.regs := by simp [State.slots]
@[simp] theorem State.slots_mem (s : State) (u c n : Nat) : (s.slots u c n).mem = s.mem := by simp [State.slots]
@[simp] theorem State.slots_out (s : State) (u c n : Nat) : (s.slots u c n).out = s.out := by simp [State.slots]
@[simp] theorem State.slots_disp (s : State) (u c n : Nat) : (s.slots u c n).disp = s.disp := by simp [State.slots]

/-! ### What an operation writes (R284 to R286) -/

/-- The palette after one colour more. -/
theorem State.palLoad_succ (s : State) (h : Head) (p first n : Nat) (d : List Byte) :
    s.palLoad h p first (n + 1) d =
      (s.palLoad h p first n d).set (PAL.COLOUR h p (first + n)) (leNat (byteSlice d (4 * n) 4)) := by
  simp [State.palLoad, List.range_succ]

theorem PAL_COLOUR_key_ne {h p a b : Nat} (ne : a ≠ b) : (PAL.COLOUR h p a).key ≠ (PAL.COLOUR h p b).key := by
  simp only [Fld.key, PAL.COLOUR]
  omega

/-- A palette load beside the registers: none of the state changes. -/
theorem State.palLoad_rest (s : State) (h : Head) (p first n : Nat) (d : List Byte) :
    s.palLoad h p first n d = { s with regs := (s.palLoad h p first n d).regs } := by
  induction n with
  | zero => rfl
  | succ n ih => rw [State.palLoad_succ, ih]; rfl

theorem State.get_palLoad (s : State) (h : Head) (p first : Nat) {n k : Nat} (d : List Byte) (hk : k < n) :
    (s.palLoad h p first n d).get (PAL.COLOUR h p (first + k)) = leNat (byteSlice d (4 * k) 4) % 2 ^ 30 := by
  induction n with
  | zero => omega
  | succ n ih =>
    rw [State.palLoad_succ]
    by_cases last : k = n
    · subst last
      exact State.get_set_same ..
    · rw [State.get_set_ne _ _ (PAL_COLOUR_key_ne (by omega))]
      exact ih (by omega)

theorem State.palLoad_regsBut (s : State) (h : Head) (p first n : Nat) (d : List Byte) :
    RegsBut ((List.range n).map fun k => PAL.COLOUR h p (first + k)) s (s.palLoad h p first n d) := by
  induction n with
  | zero => exact .of_regs rfl
  | succ n ih =>
    rw [State.palLoad_succ, List.range_succ, List.map_append]
    exact ih.trans (RegsBut.set _ _ _)

/-- The bytes that a rectangle operation touches: those of the rectangle in the surface that FRONT names (R284). -/
def State.opBytes (s : State) (h : Head) (o : DispOp) : List Nat :=
  rectBytes (s.surf h (s.surfNo h o.front)) (s.bpp h) (o.u 2) (o.u 4) (o.u 6) (o.u 8)

/-- RECT_WRITE, RECT_COPY and RECT_FILL write the rectangle and nothing else. -/
theorem State.opWrite_writes {o : DispOp} (rect : o.mx < 3) : Writes (s.opBytes h o) s (s.opWrite h o) := by
  obtain mx | mx | mx : o.mx = 0 ∨ o.mx = 1 ∨ o.mx = 2 := by omega
  all_goals simp only [State.opWrite, mx]
  · exact s.paint_writes ..
  · rw [State.rectCopy_eq_paint]
    exact s.paint_writes ..
  · exact s.paint_writes ..

/-! ### An operation carried out (R285 to R288) -/

/-- The operation counts as received, in its flow and in the counters. -/
def State.received (s : State) (h : Head) (o : DispOp) : State :=
  ((s.countOp h o.ctx).slots (unitOut 6) 0 o.pkt.n).count (srcSignal 20 h) 1

theorem State.received_head (s : State) (h : Head) (o : DispOp) : (s.received h o).head h =
    { s.head h with counts := (s.head h).counts.setD o.ctx 0 ((s.head h).counts.getD o.ctx 0 + 1) } :=
  (State.head_of_heads (s := s.countOp h o.ctx) (by simp [State.received]) h).trans (s.head_modHead h _)

theorem State.received_counts (s : State) (h : Head) (o : DispOp) :
    ((s.received h o).head h).counts.getD o.ctx 0 = (s.head h).counts.getD o.ctx 0 + 1 := by
  have counts : ((s.received h o).head h).counts = (s.head h).counts.setD o.ctx 0 ((s.head h).counts.getD o.ctx 0 + 1) := by
    rw [State.received_head]
  rw [counts, Tbl.getD_setD_same]

theorem State.received_regs (s : State) (h : Head) (o : DispOp) : (s.received h o).regs = s.regs := by
  simp [State.received, State.countOp]

theorem State.received_mem (s : State) (h : Head) (o : DispOp) : (s.received h o).mem = s.mem := by
  simp [State.received, State.countOp]

theorem State.received_out (s : State) (h : Head) (o : DispOp) : (s.received h o).out = s.out := by
  simp [State.received, State.countOp]

theorem State.received_view (s : State) (h : Head) (o : DispOp) : SameView h s (s.received h o) where
  regs := s.received_regs h o
  mem := s.received_mem h o
  waiting := by simp [State.received, State.countOp]
  surfs := by rw [State.received_head]

theorem State.opRun_of_bad {o : DispOp} (bad : s.opGood h o = false) :
    s.opRun h o = (s.received h o).incSat (DSP_OP_ERR.BAD_ARG h) := by
  simp [State.opRun, State.received, bad]

theorem State.opRun_of_good {o : DispOp} (good : s.opGood h o = true) (lit : s.opDark h o = false) :
    s.opRun h o = ((s.received h o).opWrite h o).modHead h fun d => { d with busy := some o.ctx } := by
  simp [State.opRun, State.received, good, lit]

/-- What an operation that is carried out leaves of its head: it is busy with it, and has received one more of the flow. -/
structure Runs (h : Head) (o : DispOp) (s t : State) : Prop where
  busy : (t.head h).busy = some o.ctx
  waits : (t.head h).waits = (s.head h).waits
  counts : (t.head h).counts.getD o.ctx 0 = (s.head h).counts.getD o.ctx 0 + 1
  out : t.out = s.out

theorem Runs.of_received {o : DispOp} (head : t.head h = (s.received h o).head h) (out : t.out = s.out) :
    Runs h o s (t.modHead h fun d => { d with busy := some o.ctx }) := by
  have waits : (t.head h).waits = (s.head h).waits := by rw [head, State.received_head]
  have counts : (t.head h).counts.getD o.ctx 0 = (s.head h).counts.getD o.ctx 0 + 1 := by rw [head, State.received_counts]
  refine ⟨?_, ?_, ?_, out⟩
  all_goals rw [State.head_modHead]
  · exact waits
  · exact counts

/-- A good rectangle operation writes into the store what it writes, and runs. -/
theorem State.opRun_rect {o : DispOp} (rect : o.mx < 3) (good : s.opGood h o = true) (lit : s.opDark h o = false) :
    Runs h o s (s.opRun h o) ∧ SameStore (s.opWrite h o) (s.opRun h o) := by
  have written : Writes _ (s.received h o) ((s.received h o).opWrite h o) := State.opWrite_writes rect
  have store := (s.received_view h o).opWrite o
  rw [State.opRun_of_good good lit]
  exact ⟨.of_received (State.head_of_heads written.heads h) (written.out.trans (s.received_out h o)),
    ⟨store.regs, store.mem, store.waiting⟩⟩

/-- A good palette load writes its colours into the palette that FRONT names, and runs. -/
theorem State.opRun_palette {o : DispOp} (mx : o.mx = 3) (good : s.opGood h o = true) :
    Runs h o s (s.opRun h o) ∧ SameStore (s.palLoad h (s.palNo h o.front) (o.b 2) (o.u 3) o.pkt.data) (s.opRun h o) := by
  have view := s.received_view h o
  have lit : s.opDark h o = false := by simp [State.opDark, mx]
  have write : (s.received h o).opWrite h o =
      (s.received h o).palLoad h (s.palNo h o.front) (o.b 2) (o.u 3) o.pkt.data := by
    simp only [State.opWrite, mx, view.palNo]
  have rest := (s.received h o).palLoad_rest h (s.palNo h o.front) (o.b 2) (o.u 3) o.pkt.data
  have store := view.palLoad h (s.palNo h o.front) (o.b 2) (o.u 3) o.pkt.data
  rw [State.opRun_of_good good lit, write]
  refine ⟨.of_received ?_ ?_, ⟨store.regs, store.mem, store.waiting⟩⟩
  · rw [rest]
    rfl
  · rw [rest]
    exact s.received_out h o

variable {o : DispOp} {mx : Nat} {i : CtxNo} {p : Pkt}

/-! ### Which waiting operation proceeds (R286) -/

/-- The operation o joins those that wait at head h. -/
def State.queued (s : State) (h : Head) (o : DispOp) : State := s.modHead h fun d => { d with waits := d.waits ++ [o] }

theorem nextOp_single (due : Nat → Bool) (pend : Option Nat) (op : o.mx ≠ 4) (free : o.pkt.hdr.held = false) :
    nextOp due pend [] [o] = some o := by
  simp [nextOp, op, free]

theorem nextOp_flip (due : Nat → Bool) (pend : Option Nat) (flip : o.mx = 4) : nextOp due pend [] [o] = none := by
  simp [nextOp, flip]

theorem nextOp_held {due : Nat → Bool} (pend : Option Nat) (op : o.mx ≠ 4) (held : o.pkt.hdr.held = true)
    (early : due o.pkt.hdr.ttag = false) : nextOp due pend [] [o] = none := by
  simp [nextOp, op, held, early]

/-- Nothing is carried out behind an operation that is not done, or when none may proceed. -/
theorem State.proceed_of_none
    (nothing : (s.head h).busy.isSome = true ∨ nextOp s.due ((s.head h).pend.map PendFlip.ctx) [] (s.head h).waits = none) :
    s.proceed h = s := by
  unfold State.proceed
  cases (s.head h).waits.length with
  | zero => rfl
  | succ k =>
    rw [State.opsGo]
    split
    · rfl
    · next idle => rw [nothing.resolve_left idle]

theorem State.proceed_of_empty (empty : (s.head h).waits = []) : s.proceed h = s :=
  State.proceed_of_none (.inr (by rw [empty]; rfl))

/-- The one operation that waits is carried out. -/
theorem State.proceed_single (alone : (s.head h).waits = [o]) (idle : (s.head h).busy = none)
    (go : nextOp s.due ((s.head h).pend.map PendFlip.ctx) [] [o] = some o) :
    s.proceed h = (s.modHead h fun d => { d with waits := d.waits.erase o }).opRun h o := by
  simp only [State.proceed, State.opsGo, alone, idle, go, List.length_singleton, Option.isSome_none, Bool.false_eq_true, if_false]

/-! ### An operation arrives (R283, R284) -/

/-- What an operation that waits leaves as it was. -/
structure Queues (h : Head) (l : List DispOp) (s t : State) : Prop where
  waits : (t.head h).waits = l
  busy : (t.head h).busy = (s.head h).busy
  counts : (t.head h).counts = (s.head h).counts
  pend : (t.head h).pend = (s.head h).pend
  out : t.out = s.out
  frame : Frame [] s t

theorem Queues.answers {l : List DispOp} (q : Queues h l s t) : Answers (.next t) fun t => (t.head h).waits = l ∧
    (t.head h).busy = (s.head h).busy ∧ (t.head h).counts = (s.head h).counts ∧ t.out = s.out ∧ Frame [] s t :=
  ⟨t, rfl, q.waits, q.busy, q.counts, q.out, q.frame⟩

theorem State.queued_queues (s : State) (h : Head) (o : DispOp) : Queues h ((s.head h).waits ++ [o]) s (s.queued h o) := by
  refine ⟨?_, ?_, ?_, ?_, rfl, .of_eq rfl rfl⟩
  all_goals rw [State.queued, State.head_modHead]

section
variable (on : s.domainOn 12 = true) (leads : s.toHead i h = true)
include on leads

theorem State.opFrom_here (here : byteAt p.hdr.info 0 = h.val) :
    s.opFrom h mx i p = (s.queued h ⟨mx, i, p⟩).proceed h := by
  simp [State.opFrom, State.opArrive, State.queued, on, leads, here]

/-- An operation that names the other head is counted in BAD_HEAD and has no other effect (R284). -/
theorem State.opFrom_elsewhere (other : byteAt p.hdr.info 0 ≠ h.val) : Answers (.next (s.opFrom h mx i p)) fun t =>
    t.get (DSP_OP_ERR.BAD_HEAD h) = satAdd 16 (s.get (DSP_OP_ERR.BAD_HEAD h)) 1 % 2 ^ 16 ∧ t.disp = s.disp ∧ t.out = s.out ∧
      Frame [DSP_OP_ERR.BAD_HEAD h] s t := by
  have counted : s.opFrom h mx i p = (s.incSat (DSP_OP_ERR.BAD_HEAD h)).slots (unitOut 6) 0 p.n := by
    simp [State.opFrom, State.opArrive, on, leads, other]
  have regs := (s.incSat (DSP_OP_ERR.BAD_HEAD h)).slots_regs (unitOut 6) 0 p.n
  rw [counted]
  refine ⟨_, rfl, (State.get_of_regs regs _).trans (State.get_set_same ..), State.slots_disp .., State.slots_out ..,
    fun f out => ?_, .of_mem (State.slots_mem ..)⟩
  exact (State.get_of_regs regs f).trans (RegsBut.set s _ _ f out)

variable (here : byteAt p.hdr.info 0 = h.val)
include here

/-- Behind an operation that is not done, an operation waits (R286). -/
theorem State.opFrom_behind (busy : (s.head h).busy.isSome = true) :
    Queues h ((s.head h).waits ++ [⟨mx, i, p⟩]) s (s.opFrom h mx i p) := by
  have queues := s.queued_queues h ⟨mx, i, p⟩
  rw [State.opFrom_here on leads here, State.proceed_of_none (.inl (queues.busy ▸ busy))]
  exact queues

variable (empty : (s.head h).waits = [])
include empty

/-- An operation that may not proceed waits alone. -/
theorem State.opFrom_waits (stays : nextOp s.due ((s.head h).pend.map PendFlip.ctx) [] [⟨mx, i, p⟩] = none) :
    s.opFrom h mx i p = s.queued h ⟨mx, i, p⟩ ∧ Queues h [⟨mx, i, p⟩] s (s.queued h ⟨mx, i, p⟩) := by
  have queues := s.queued_queues h ⟨mx, i, p⟩
  rw [empty, List.nil_append] at queues
  refine ⟨?_, queues⟩
  rw [State.opFrom_here on leads here]
  refine State.proceed_of_none (.inr ?_)
  rw [queues.waits, queues.pend]
  exact stays

/-- An operation that arrives at an idle head with nothing waiting is carried out at once. -/
theorem State.opFrom_runs (idle : (s.head h).busy = none) (op : mx ≠ 4) (free : p.hdr.held = false) :
    s.opFrom h mx i p = s.opRun h ⟨mx, i, p⟩ := by
  have queues := s.queued_queues h ⟨mx, i, p⟩
  rw [empty, List.nil_append] at queues
  rw [State.opFrom_here on leads here,
    State.proceed_single queues.waits (queues.busy.trans idle) (nextOp_single _ _ op free)]
  have gone : ((s.queued h ⟨mx, i, p⟩).modHead h fun d => { d with waits := d.waits.erase ⟨mx, i, p⟩ }) = s := by
    rw [State.queued, State.modHead_modHead]
    refine State.modHead_eq_self ?_
    simp only [Function.comp, empty, List.nil_append, List.erase_cons_head]
    rw [← empty]
  rw [gone]

end

/-- A bad operation is counted in BAD_ARG and as received, and writes nothing (R285). -/
theorem State.opRun_bad (bad : s.opGood h o = false) : Answers (.next (s.opRun h o)) fun t =>
    t.get (DSP_OP_ERR.BAD_ARG h) = satAdd 16 (s.get (DSP_OP_ERR.BAD_ARG h)) 1 % 2 ^ 16 ∧ (t.head h).busy = (s.head h).busy ∧
      (t.head h).waits = (s.head h).waits ∧ (t.head h).counts.getD o.ctx 0 = (s.head h).counts.getD o.ctx 0 + 1 ∧
      t.out = s.out ∧ Frame [DSP_OP_ERR.BAD_ARG h] s t := by
  have regs := s.received_regs h o
  have head : ((s.received h o).incSat (DSP_OP_ERR.BAD_ARG h)).head h = (s.received h o).head h := rfl
  rw [State.opRun_of_bad bad]
  refine ⟨_, rfl, ?_, ?_, ?_, ?_, s.received_out h o,
    Frame.trans (.of_eq regs (s.received_mem h o)) ⟨RegsBut.set _ _ _, .of_mem rfl⟩⟩
  · rw [State.incSat, State.get_set_same, State.get_of_regs regs]
    rfl
  · rw [head, State.received_head]
  · rw [head, State.received_head]
  · rw [head, State.received_counts]

/-! ### Flips (R288) -/

/-- A flip that waits alone, with nothing before it and with OPS its flow's count, is pending from now. -/
theorem execFlipDue_agrees (pend : (s.head h).pend = none) (idle : (s.head h).busy = none) (alone : (s.head h).waits = [o])
    (flip : o.mx = 4) (free : o.pkt.hdr.held = false) (ops : o.u 2 = (s.head h).counts.getD o.ctx 0) :
    Answers (execFlipDue h s) fun t => (t.head h).pend = some ⟨o.ctx, s.uptime, bit (o.b 1) 1, bit (o.b 1) 0⟩ ∧
      t.get (DSP_STAT.FLIP_PENDING h) = 1 ∧ (t.head h).counts.getD o.ctx 0 = 0 ∧ t.out = s.out ∧
      Frame [DSP_STAT.FLIP_PENDING h] s t := by
  have due : dueFlip s.due none [] [o] = some o := by simp [dueFlip, flip, free]
  have answer : execFlipDue h s = .next (((s.modHead h fun d => { d with counts := d.counts.del o.ctx }).modHead h fun d =>
      { d with pend := some ⟨o.ctx, s.uptime, bit (o.b 1) 1, bit (o.b 1) 0⟩ }).set (DSP_STAT.FLIP_PENDING h) 1) := by
    simp [execFlipDue, pend, idle, alone, due, ops]
  rw [State.modHead_modHead] at answer
  have head := s.head_modHead h ((fun d => { d with pend := some ⟨o.ctx, s.uptime, bit (o.b 1) 1, bit (o.b 1) 0⟩ }) ∘
    fun d => { d with counts := d.counts.del o.ctx })
  refine ⟨_, answer, congrArg HeadSt.pend head, State.get_set_same .., ?_, rfl, RegsBut.set _ _ _, .of_mem rfl⟩
  refine (congrArg (fun d : HeadSt => d.counts.getD o.ctx 0) head).trans ?_
  show (((s.head h).counts.del o.ctx).find? o.ctx).getD 0 = 0
  rw [Tbl.find?_del_same]
  rfl

/-! ### A bank's zeroing ends (R278) -/

/-- Writes to bytes that can be written land at once, and the last one to a byte stays. -/
theorem State.byte_foldl_fstWrite {l : List (Nat × Byte)} (live : ∀ w ∈ l, s.Accessible w.1) (a : Nat) :
    (l.foldl (fun t w => t.fstWrite w.1 w.2) s).byte (fstBase + a) =
      ((l.reverse.find? fun w => w.1 == a).map Prod.snd).getD (s.byte (fstBase + a)) := by
  induction l generalizing s with
  | nil => rfl
  | cons w l ih =>
    obtain ⟨first, later⟩ := List.forall_mem_cons.1 live
    have kept : ∀ x ∈ l, (s.fstWrite w.1 w.2).Accessible x.1 := fun x mem =>
      (later x mem).of_regs (s.fstWrite_writes w.1 w.2).regs
    rw [List.foldl_cons, ih kept, List.reverse_cons, List.find?_append, State.fstWrite_accessible first]
    cases l.reverse.find? fun w => w.1 == a with
    | some x => rfl
    | none =>
      by_cases same : w.1 = a
      · subst same
        simp
      · have other : fstBase + w.1 ≠ fstBase + a := by omega
        simp [same, State.byte_setByte_ne s w.2 other]

/-- Writes to bytes that can be written leave what waits for a bank as it is. -/
theorem State.initWait_foldl_fstWrite {l : List (Nat × Byte)} (live : ∀ w ∈ l, s.Accessible w.1) :
    (l.foldl (fun t w => t.fstWrite w.1 w.2) s).disp.initWait = s.disp.initWait := by
  induction l generalizing s with
  | nil => rfl
  | cons w l ih =>
    obtain ⟨first, later⟩ := List.forall_mem_cons.1 live
    rw [List.foldl_cons, ih fun x mem => (later x mem).of_regs (s.fstWrite_writes w.1 w.2).regs, State.fstWrite_accessible first]
    rfl

theorem bankOn_key_ne_bankInit (b : Fin 2) : (bankInit b).key ≠ (bankOn b).key := by
  match b with
  | 0 => decide
  | 1 => decide

/-- The hub as the zeroing of bank b ends, before the writes that waited are applied. -/
def State.zeroed (s : State) (b : Nat) : State :=
  ({ s with disp := { s.disp with initWait := s.disp.initWait.filter fun w => bankOf w.1 != b } } : State).set (bankInit b) 0

theorem State.zeroed_accessible {b : Fin 2} (on : s.flag (bankOn b) = true) {a : Nat} (bank : bankOf a = b) :
    (s.zeroed b).Accessible a := by
  have inside : a / 0x1000000 < 2 := (show a / 0x1000000 = b from bank) ▸ b.isLt
  refine ⟨?_, ?_, ?_⟩
  · rw [fstBytes]
    omega
  · rw [bank, State.flag, State.zeroed, State.get_set_ne _ _ (bankOn_key_ne_bankInit b)]
    exact on
  · rw [bank, State.flag, State.zeroed, State.get_set_same, Nat.zero_mod]
    rfl

/-- The writes that wait for bank b, oldest first. -/
def State.waitingFor (s : State) (b : Nat) : List (Nat × Byte) := s.disp.initWait.filter fun w => bankOf w.1 == b

/-- The last write that waited for a byte is found among those of its bank. -/
theorem State.find?_waitingFor (s : State) {a b : Nat} (bank : bankOf a = b) :
    (s.waitingFor b).reverse.find? (fun w => w.1 == a) = s.disp.initWait.reverse.find? fun w => w.1 == a := by
  rw [State.waitingFor, ← List.filter_reverse, List.find?_filter]
  congr 1
  funext w
  by_cases same : w.1 = a
  · simp [same, bank]
  · simp [same]

/-- The waiting writes of the bank land in order, and its bytes can be read (R278). -/
theorem execBankInitDone_lands {b : Fin 2} (zeroing : s.flag (bankInit b) = true) (on : s.flag (bankOn b) = true) :
    Answers (execBankInitDone b s) fun t => t.get (bankInit b) = 0 ∧ Landed s t b ∧
      t.disp.initWait = s.disp.initWait.filter (fun w => bankOf w.1 != b.val) ∧ t.out = s.out ∧ RegsBut [bankInit b] s t ∧
      BytesBut ((s.waitingFor b).map fun w => fstBase + w.1) s t := by
  have answer : execBankInitDone b s = .next ((s.waitingFor b).foldl (fun t w => t.fstWrite w.1 w.2) (s.zeroed b)) := by
    simp [execBankInitDone, zeroing, State.zeroed, State.waitingFor]
  have writes := Writes.foldl (fun t w => t.fstWrite_writes w.1 w.2) (s.waitingFor b) (s.zeroed b)
  have live : ∀ w ∈ s.waitingFor b, (s.zeroed b).Accessible w.1 := fun w mem =>
    State.zeroed_accessible on (by simpa using (List.mem_filter.1 mem).2)
  refine ⟨_, answer, ?_, fun a bank => ⟨?_, ?_⟩, State.initWait_foldl_fstWrite live, writes.out, fun f out => ?_, writes.bytes⟩
  · rw [State.get_of_regs writes.regs]
    exact (State.get_set_same ..).trans (Nat.zero_mod _)
  · rw [State.byte_foldl_fstWrite live, State.find?_waitingFor s bank]
    rfl
  · have access := (State.zeroed_accessible on bank).of_regs writes.regs
    exact State.fstRead_of_on access.on access.live
  · rw [State.get_of_regs writes.regs]
    exact State.get_set_ne _ _ (out _ (List.mem_singleton.2 rfl))

/-! ### The operations on surfaces (O41) -/

section
variable (on : s.domainOn 12 = true) (leads : s.toHead i h = true) (here : byteAt p.hdr.info 0 = h.val)
  (empty : (s.head h).waits = [])
include on leads here empty

/-- HELD until its TTAG, an operation waits (R284). -/
theorem State.opFrom_held (op : mx ≠ 4) (held : p.hdr.held = true) (early : s.due p.hdr.ttag = false) :
    Queues h [⟨mx, i, p⟩] s (s.opFrom h mx i p) := by
  obtain ⟨stays, queues⟩ := State.opFrom_waits on leads here empty (nextOp_held _ op held early)
  exact stays ▸ queues

theorem State.opFrom_flip : Queues h [⟨4, i, p⟩] s (s.opFrom h 4 i p) := by
  obtain ⟨stays, queues⟩ := State.opFrom_waits on leads here empty (nextOp_flip _ _ rfl)
  exact stays ▸ queues

variable (idle : (s.head h).busy = none) (free : p.hdr.held = false)
include idle free

/-- A rectangle operation at an idle head writes its rectangle and no other byte (R284, R286). -/
theorem State.opFrom_rect (rect : mx < 3) (good : s.opGood h ⟨mx, i, p⟩ = true) (lit : s.opDark h ⟨mx, i, p⟩ = false) :
    Answers (.next (s.opFrom h mx i p)) fun t => t.mem = (s.opWrite h ⟨mx, i, p⟩).mem ∧
      t.disp.initWait = (s.opWrite h ⟨mx, i, p⟩).disp.initWait ∧ (t.head h).busy = some i.val ∧ (t.head h).waits = [] ∧
      (t.head h).counts.getD i 0 = (s.head h).counts.getD i 0 + 1 ∧ t.out = s.out ∧ RegsBut [] s t ∧
      BytesBut (s.opBytes h ⟨mx, i, p⟩) s t := by
  obtain ⟨runs, store⟩ := State.opRun_rect rect good lit
  have writes : Writes _ s (s.opWrite h ⟨mx, i, p⟩) := State.opWrite_writes rect
  rw [State.opFrom_runs on leads here empty idle (by omega) free]
  exact ⟨_, rfl, store.mem, store.waiting, runs.busy, runs.waits.trans empty, runs.counts, runs.out,
    .of_regs (store.regs.trans writes.regs), fun a out => (State.byte_of_mem store.mem a).trans (writes.bytes a out)⟩

/-- A palette load at an idle head writes its colours (R284). -/
theorem State.opFrom_palette (good : s.opGood h ⟨3, i, p⟩ = true) :
    Runs h ⟨3, i, p⟩ s (s.opFrom h 3 i p) ∧
      SameStore (s.palLoad h (s.palNo h (bit (byteAt p.hdr.info 1) 0)) (byteAt p.hdr.info 2) (DispOp.u ⟨3, i, p⟩ 3) p.data)
        (s.opFrom h 3 i p) := by
  rw [State.opFrom_runs on leads here empty idle (by decide) free]
  exact State.opRun_palette rfl good

/-- A bad operation that arrives at an idle head is rejected (R285). -/
theorem State.opFrom_bad (op : mx ≠ 4) (bad : s.opGood h ⟨mx, i, p⟩ = false) : Answers (.next (s.opFrom h mx i p)) fun t =>
    t.get (DSP_OP_ERR.BAD_ARG h) = satAdd 16 (s.get (DSP_OP_ERR.BAD_ARG h)) 1 % 2 ^ 16 ∧ (t.head h).busy = none ∧
      (t.head h).waits = [] ∧ (t.head h).counts.getD i 0 = (s.head h).counts.getD i 0 + 1 ∧ t.out = s.out ∧
      Frame [DSP_OP_ERR.BAD_ARG h] s t := by
  rw [State.opFrom_runs on leads here empty idle op free]
  exact (State.opRun_bad bad).mono fun t ⟨count, busy, waits, rest⟩ => ⟨count, busy.trans idle, waits.trans empty, rest⟩

end

/-- The operation in progress is done, and nothing waits (R287). -/
theorem execDisplayOpDone_empty (empty : (s.head h).waits = []) :
    execDisplayOpDone h s = .next (s.modHead h fun d => { d with busy := none }) := by
  have still : ((s.modHead h fun d => { d with busy := none }).head h).waits = [] := by rw [State.head_modHead]; exact empty
  rw [execDisplayOpDone, State.proceed_of_empty still]

/-- Head h with nothing in progress and nothing waiting. -/
def State.idled (s : State) (h : Head) : State := s.modHead h fun d => { d with busy := none, waits := [] }

theorem State.idled_view (s : State) (h : Head) : SameView h s (s.idled h) :=
  ⟨⟨rfl, rfl, rfl⟩, by rw [State.idled, State.head_modHead]⟩

/-- The operation in progress is done, and the one that waits is carried out (R287). -/
theorem execDisplayOpDone_next (alone : (s.head h).waits = [o]) (op : o.mx ≠ 4) (free : o.pkt.hdr.held = false) :
    execDisplayOpDone h s = .next ((s.idled h).opRun h o) := by
  have waits : ((s.modHead h fun d => { d with busy := none }).head h).waits = [o] := by rw [State.head_modHead]; exact alone
  have idle : ((s.modHead h fun d => { d with busy := none }).head h).busy = none := by rw [State.head_modHead]
  have gone : ((s.modHead h fun d => { d with busy := none }).modHead h fun d => { d with waits := d.waits.erase o }) =
      s.idled h := by
    rw [State.modHead_modHead]
    refine State.modHead_congr ?_
    simp only [Function.comp, alone, List.erase_cons_head]
  rw [execDisplayOpDone, State.proceed_single waits idle (nextOp_single _ _ op free), gone]

/-- Settles O41: an operation that arrives waits or is carried out by its place in the queue; what is carried out is a list of points
painted, or of colours set, and the end of a zeroing applies a list of writes. -/
theorem operationsOnSurfaces : Obligations.OperationsOnSurfaces := by
  unfold Obligations.OperationsOnSurfaces
  refine ⟨
    -- good rectangle operations, and the pixels they leave
    fun s h i p on leads here empty idle _ free => State.opFrom_rect on leads here empty idle free (by decide),
    fun s h i p on leads here empty idle _ free => State.opFrom_rect on leads here empty idle free (by decide),
    fun s h i p on leads here empty idle _ free => State.opFrom_rect on leads here empty idle free (by decide),
    fun s f b x y w h x' y' d depth valid holds ready hx _ => ?written,
    fun s f b x y w h x' y' g sx sy depth valid holds ready hx _ => ?copied,
    fun s f b x y w h x' y' v depth valid holds ready hx _ => ?filled,
    -- palettes and flips
    fun s h i p on leads here empty idle _ free good => ?palette,
    fun s h i p on leads here empty => ?flip,
    fun s h i p on leads here empty idle pend free ops => ?pending,
    -- another head
    fun _ _ _ _ => State.opFrom_elsewhere, fun _ _ _ _ => State.opFrom_elsewhere, fun _ _ _ _ => State.opFrom_elsewhere,
    fun _ _ _ _ => State.opFrom_elsewhere, fun _ _ _ _ => State.opFrom_elsewhere,
    -- bad operations
    fun s h i p on leads here empty idle _ free => State.opFrom_bad on leads here empty idle free (by decide),
    fun s h i p on leads here empty idle _ free => State.opFrom_bad on leads here empty idle free (by decide),
    fun s h i p on leads here empty idle _ free => State.opFrom_bad on leads here empty idle free (by decide),
    fun s h i p on leads here empty idle _ free => State.opFrom_bad on leads here empty idle free (by decide),
    -- behind one that is not done
    fun _ _ _ _ on leads here busy => (State.opFrom_behind on leads here busy).answers,
    fun _ _ _ _ on leads here busy => (State.opFrom_behind on leads here busy).answers,
    fun _ _ _ _ on leads here busy => (State.opFrom_behind on leads here busy).answers,
    fun _ _ _ _ on leads here busy => (State.opFrom_behind on leads here busy).answers,
    fun _ _ _ _ on leads here busy => (State.opFrom_behind on leads here busy).answers,
    -- HELD
    fun _ _ _ _ on leads here empty held early => (State.opFrom_held on leads here empty (by decide) held early).answers,
    fun _ _ _ _ on leads here empty held early => (State.opFrom_held on leads here empty (by decide) held early).answers,
    fun _ _ _ _ on leads here empty held early => (State.opFrom_held on leads here empty (by decide) held early).answers,
    fun _ _ _ _ on leads here empty held early => (State.opFrom_held on leads here empty (by decide) held early).answers,
    -- the end of an operation, and of a zeroing
    fun s h empty => ?done,
    fun s h o alone rect free _ good lit => ?next,
    fun s b => execBankInitDone_lands⟩
  case written =>
    rw [State.rectWrite_eq_paint, State.pixel_paint_rect depth valid ready holds hx, bits_mod]
  case copied =>
    rw [State.rectCopy_eq_paint, State.pixel_paint_rect depth valid ready holds hx, State.copyPixel_of_ready ready, State.pixel_mod]
  case filled =>
    rw [State.rectFill_eq_paint, State.pixel_paint_rect depth valid ready holds hx]
  case palette =>
    obtain ⟨runs, store⟩ := State.opFrom_palette on leads here empty idle free good
    refine ⟨_, rfl, List.all_eq_true.2 fun k mem => ?_, runs.busy, runs.counts, runs.out, fun f out => ?_, .of_mem ?_⟩
    · rw [store.get, State.get_palLoad _ _ _ _ _ (List.mem_range.1 mem)]
      exact beq_self_eq_true _
    · exact (store.get f).trans (State.palLoad_regsBut _ _ _ _ _ _ f out)
    · rw [store.mem, State.palLoad_rest]
  case flip =>
    have queues := State.opFrom_flip on leads here empty
    exact ⟨_, rfl, queues.waits, queues.pend, queues.out, queues.frame⟩
  case pending =>
    obtain ⟨stays, queues⟩ := State.opFrom_waits on leads here empty (mx := 4) (nextOp_flip _ _ rfl)
    refine ⟨_, congrArg Host.Outcome.next stays, execFlipDue_agrees (queues.pend.trans pend) (queues.busy.trans idle) queues.waits rfl
      free ?_⟩
    rw [queues.counts]
    exact ops
  case done =>
    refine ⟨_, execDisplayOpDone_empty empty, ?_, ?_, ?_, rfl, .of_eq rfl rfl⟩
    all_goals rw [State.head_modHead]
    exact empty
  case next =>
    have view := s.idled_view h
    have written : Writes _ s (s.opWrite h o) := State.opWrite_writes rect
    obtain ⟨runs, store⟩ := State.opRun_rect rect ((view.opGood o).trans good) ((view.opDark o).trans lit)
    have whole := view.opWrite o
    refine ⟨_, execDisplayOpDone_next alone (by omega) free, store.mem.trans whole.mem, store.waiting.trans whole.waiting, runs.busy,
      runs.waits.trans ?_, runs.counts.trans ?_, runs.out, .of_regs (store.regs.trans (whole.regs.trans written.regs))⟩
    all_goals rw [State.idled, State.head_modHead]

end Sys2Proof.Machine
end

/-!
PROOFS. Blanks and the line server (chapter 10). O42 and O43 each have a clause that a written-out state contradicts.
-/
section
namespace Sys2Proof.Machine

/-! ### A blank whose log entry goes elsewhere (O42) -/

/-- Head 0 runs with a flip due for 400 ticks and 65 parity errors of FSA in the frame that ends, so that the bank is fenced and
logged at the blank (R222). NEXT of the error log holds 40957, more than its four bits: every write of the model is cut to them, but
the statement takes every state. Counted on from entry 0 of the log, word 0 of entry 40957 is FRAME_CNT of head 0. -/
def blankWithLogNextBeyond : State :=
  let s := State.reset.set (DSP_STAT.RUNNING 0) 1
  ({ s with regs := s.regs.put LST_ERR_HEAD.NEXT.key 40957, uptime := 400 } : State).modHead 0 fun d =>
    { d with pend := some ⟨7, 0, true, false⟩, perrA := 65 }

/-- The log entry, cause 11, is written over the count of frames before the blank counts. -/
theorem blankWithLogNextBeyond_counts :
    valueIn (fun t => t.get (DSP_FRAME_CNT.COUNT 0)) (exec (.verticalBlank 0) blankWithLogNextBeyond) = some 12 := by
  decide +kernel

/-- Refutes O42: its clause of a flip that takes effect (R222, R289, R290) takes every state and does not ask NEXT < 16 of the error log.
With 40957 there the entry of a bank fenced at that blank is FRAME_CNT, which then counts on from the cause logged and not from 0. -/
theorem not_flipsAndBlanks : ¬ Obligations.FlipsAndBlanks := by
  unfold Obligations.FlipsAndBlanks
  rintro ⟨-, -, blank, -⟩
  obtain ⟨t, -, ⟨-, -, -, -, -, frames, -⟩, twelve⟩ := (blank blankWithLogNextBeyond 0 ⟨7, 0, true, false⟩ (by decide +kernel)
    (by decide +kernel) (by decide +kernel) (by decide +kernel) rfl (by decide +kernel)).valueIn blankWithLogNextBeyond_counts
  have one : t.get (DSP_FRAME_CNT.COUNT 0) = 1 := frames.trans (by decide +kernel)
  exact absurd (twelve.symm.trans one) (by decide)

/-! ### Line data behind earlier line data (O43) -/

/-- A request for 8 bytes of line 2 of head 0 from the start of the frame store. -/
def lineRequest : Pkt :=
  ⟨⟨7, 0, 0, true, true, false, false, false, 8, 0, 0, [0, 0, 2, 0, 8, 0]⟩, []⟩

/-- Context 7 leads to the line server and is paired with context 8, an active flow of the frame-store adapter; an earlier line on
context 8 waits in the adapter's backlog. -/
def lineInBacklog : State :=
  let s := ((((((State.reset.set (CTX1.OUT_ATT 7) 6).set (CTX1.OUT_LABEL 7) 2).set (CTX0.PAIR_VALID 7) 1).set (CTX0.PAIR 7) 8).set
    (CTX5.ACTIVE 8) 1).set (CTX0.CLASS 8) 1).set (CTX0.IN_ATT 8) 6
  { s with flows := { s.flows with backlog := [(6, 8, message 9 [0, 0, 1, 0] (List.replicate 8 0))] } }

/-- The answer joins the backlog (R139 keeps the order), and nothing enters the ingress partition. -/
theorem lineInBacklog_waits :
    valueIn (fun t => t.flows.waiting.length) (exec (.lineReq (some 7) lineRequest none []) lineInBacklog) = some 0 := by
  decide +kernel

/-- Refutes O43: its clause of the line server (R301, R302) asks nothing of the adapter's backlog; behind an earlier packet of the PAIR
context that waits there, the line waits as well (R139). -/
theorem not_displayPortAndLines : ¬ Obligations.DisplayPortAndLines := by
  unfold Obligations.DisplayPortAndLines
  rintro ⟨-, -, -, -, -, -, -, -, -, -, server, -⟩
  obtain ⟨t, -, ⟨-, entered, -⟩, empty⟩ := (server lineInBacklog 7 lineRequest none (by decide +kernel) (by decide)
    (by decide +kernel) (by decide +kernel) (by decide +kernel) (by decide +kernel) (by decide +kernel) (by decide +kernel)
    (by decide +kernel) (by decide +kernel)).valueIn lineInBacklog_waits
  rw [List.eq_nil_of_length_eq_zero empty] at entered
  exact absurd entered (by simp)

end Sys2Proof.Machine
end
